-- ==== Sys2Proof/Word.lean ====
section
/-! DEFINITION. The word types of the OV32: a byte, and the 64-bit value of a PCS register (R9). -/
namespace Sys2Proof

/-- One byte. -/
abbrev Byte := BitVec 8

/-- One register of Package Control Space: 64 bits (R9). -/
abbrev Word := BitVec 64

end Sys2Proof
end

