-- ==== Sys2Proof/Machine/Bits.lean ====
section
/-! DEFINITION. Bit fields of numbers, little-endian bytes, and the keyed lists (sorted, one entry a key) that hold
every table of the state. Nothing here knows the machine. -/
namespace Sys2Proof

/-- Bits [hi:lo] of a number. -/
def fld (v hi lo : Nat) : Nat := v / 2 ^ lo % 2 ^ (hi - lo + 1)

/-- `v` with its bits [hi:lo] replaced by the low bits of `x`. -/
def setFld (v hi lo x : Nat) : Nat :=
  v / 2 ^ (hi + 1) * 2 ^ (hi + 1) + x % 2 ^ (hi - lo + 1) * 2 ^ lo + v % 2 ^ lo

/-- A 64-bit value with the bits of a mask replaced by those of `x`. -/
def maskIn (v x m : Nat) : Nat := (x &&& m) ||| (v &&& (2 ^ 64 - 1 - m))

/-- One bit of a number. -/
def bitOf (v i : Nat) : Bool := v / 2 ^ i % 2 == 1

/-- A truth value as one bit. -/
def bit (b : Bool) : Nat := if b then 1 else 0

/-- The number that bytes spell, the first byte the lowest. -/
def leNat : List Byte → Nat
  | [] => 0
  | b :: bs => b.toNat + 256 * leNat bs

/-- The low `n` bytes of a number, the lowest first. -/
def leBytes : Nat → Nat → List Byte
  | 0, _ => []
  | n + 1, v => BitVec.ofNat 8 v :: leBytes n (v / 256)

/-- `n` bytes of a list from an offset; bytes past the end read 0. -/
def bytesAt (bs : List Byte) (off : Nat) : Nat → List Byte
  | 0 => []
  | n + 1 => bs.getD off 0 :: bytesAt bs (off + 1) n

/-- The little-endian number in `n` bytes of a list from an offset. -/
def leAt (bs : List Byte) (off n : Nat) : Nat := leNat (bytesAt bs off n)

/-- Division rounding up. -/
def ceilDiv (a b : Nat) : Nat := (a + b - 1) / b

/-- A two's complement field of `w` bits as an integer. -/
def signed (w v : Nat) : Int :=
  if v % 2 ^ w < 2 ^ (w - 1) then (v % 2 ^ w : Nat) else (v % 2 ^ w : Nat) - (2 ^ w : Nat)

/-- An integer modulo 2^w. -/
def toMod (w : Nat) (i : Int) : Nat := (i % (2 ^ w : Int)).toNat

/-- The number of bits of a number: 0 for 0. -/
def bitLen (v : Nat) : Nat := if v = 0 then 0 else Nat.log2 v + 1

/-- The entry of a keyed list. -/
def aget {α : Type} : List (Nat × α) → Nat → Option α
  | [], _ => none
  | (k, v) :: l, x => if k = x then some v else aget l x

/-- The entry of a keyed list, or a default where the list has none. -/
def agetD {α : Type} (l : List (Nat × α)) (k : Nat) (d : α) : α := (aget l k).getD d

/-- Put an entry into a keyed list, at its place by key, over an older entry of the same key. -/
def aset {α : Type} : List (Nat × α) → Nat → α → List (Nat × α)
  | [], x, v => [(x, v)]
  | (k, w) :: l, x, v =>
    if x < k then (x, v) :: (k, w) :: l else if x = k then (x, v) :: l else (k, w) :: aset l x v

/-- Take the entry of a key out of a keyed list. -/
def adel {α : Type} (l : List (Nat × α)) (x : Nat) : List (Nat × α) := l.filter fun p => p.1 != x

/-- Apply a function to the entry of a key; nothing where there is none. -/
def aupd {α : Type} (l : List (Nat × α)) (x : Nat) (f : α → α) : List (Nat × α) :=
  l.map fun p => if p.1 = x then (p.1, f p.2) else p

/-- The smallest element of a list under a key function, the first of equals. -/
def minBy {α : Type} (key : α → Nat) : List α → Option α
  | [] => none
  | a :: l => match minBy key l with
    | none => some a
    | some b => if key b < key a then some b else some a

/-- Insert into a list ordered by a key function, after elements of an equal key. -/
def insBy {α : Type} (key : α → Nat) (a : α) : List α → List α
  | [] => [a]
  | b :: l => if key a < key b then a :: b :: l else b :: insBy key a l

/-- A list ordered by a key function, equals in their former order. -/
def sortBy {α : Type} (key : α → Nat) : List α → List α
  | [] => []
  | a :: l =>
    let r := sortBy key l
    insFront key a r
where
  /-- Insert before elements of an equal key. -/
  insFront {α : Type} (key : α → Nat) (a : α) : List α → List α
    | [] => [a]
    | b :: l => if key b < key a then b :: insFront key a l else a :: b :: l

/-- The sum of a function over a list. -/
def sumBy {α : Type} (f : α → Nat) (l : List α) : Nat := (l.map f).sum

/-- How many elements of a list satisfy a test. -/
def countBy {α : Type} (p : α → Bool) (l : List α) : Nat := (l.filter p).length

/-- The index of the first element that satisfies a test. -/
def indexOf? {α : Type} (p : α → Bool) : List α → Option Nat
  | [] => none
  | a :: l => if p a then some 0 else (indexOf? p l).map (· + 1)

end Sys2Proof
end

