-- ==== Sys2Proof/Operand.lean ====
section
/-! DEFINITION. The operands that commands carry: frames, packets, and the results that units outside the state
compute. -/
namespace Sys2Proof.Machine

/-- A dispatch frame: the function and queue it was fetched from, its place among the frames fetched from that queue
(R402), its header fields, bytes 32 to 63 and its payload (R400). -/
structure Frame where
  function : Nat
  queue : Nat
  seq : Nat
  len : Nat
  opcode : Nat
  /-- bytes 6–7: MORE, FENCE, NOTIFY, TIMED and reserved bits -/
  flags : Nat
  handle : Nat
  tag : Nat
  /-- bytes 24–31: NOT_BEFORE or the opcode's parameter -/
  param : Nat
  body : List Byte
  payload : List Byte
deriving DecidableEq, Repr

/-- The queue or ring of a host function that a control-register write names (R398). -/
inductive Ring where
  | dispatch (q : Nat)
  | result (q : Nat)
  | text
deriving DecidableEq, Repr

/-- A unit that drains and then aborts (R411). -/
inductive DrainUnit where
  | function (fn : Nat)
  | queue (fn q : Nat)
  | cluster (l : Nat)
  | nsa (unit : Nat)
  | galleryPort (port : Nat)
  | recall (sd : Nat)
deriving DecidableEq, Repr

/-- Who asks the quota keeper for tier use (R116). -/
inductive QuotaFor where
  | step (slot : Nat)
  | host (f : Frame)
  | cage (page : Nat)
deriving DecidableEq, Repr

/-- Where a cage request comes from (R109). -/
inductive CageSource where
  | policy
  | park (slot : Nat)
  | write (slot : Nat)
  | pressure (slot : Nat)
  | evacuate (device : Nat)
  | recovery
deriving DecidableEq, Repr

/-- Why a member leaves its step (R84). -/
inductive RemoveCause where
  | unreachable | poison | tierLost | dieLost
deriving DecidableEq, Repr

/-- The header of a received Gallery packet (R311) as the receiving IOD sees it: the port it came in by, the fields,
whether every reserved bit is 0 (R316), and the verdict of its tag under the key its job slot and phase name (R438). -/
structure Head where
  port : Nat
  srcPkg : Nat
  srcDie : Nat
  dstDie : Nat
  tc : Nat
  len : Nat
  payBytes : Nat
  reservedZero : Bool
  job : Nat
  phase : Nat
  epoch : Nat
  tagOk : Bool
deriving DecidableEq, Repr

/-- A packet handed to the fabric (R310, R311): its header, the bytes 24 to 47 of its header, its payload. `note` holds
values that the packet carries where the spec lays out no bytes for them. -/
structure Packet where
  dstPkg : Nat
  dstDie : Nat
  tc : Nat
  srcPkg : Nat
  srcDie : Nat
  flow : Nat
  opcode : Nat
  job : Nat
  phase : Nat
  seq : Nat
  epoch : Nat
  hops : Nat
  oph : List Byte
  payload : List Byte
  note : List Nat
deriving DecidableEq, Repr

/-- What the kernel of a split reduction holds on this package (R191, R198, R199): whether the model instance is EXACT,
the package's own images (or BF16 partials) by output, how many other packages take part, the weight-row bound, the
output's format code and epilogue scale (an FP32 code). -/
structure SplitInfo where
  exact : Bool
  own : List (Nat × List Byte)
  peers : Nat
  token : Nat
  weightBound : Int
  format : Nat
  scale : Nat
deriving DecidableEq, Repr

/-- What a PREPARE carries (R292): the session's handle and MOVE_SEQ, its tenant and model instance, its KV parameters
(R176), the home SD asked for, the function and queue that take its records, the tier of each KV page by layer-group in
position order, the tier of its metadata page, its text-pool pages, whether it prepares a push (R302). -/
structure PrepareMsg where
  handle : Nat
  moveSeq : Nat
  tenant : Nat
  model : Nat
  kvParams : List Nat
  homeSd : Nat
  function : Nat
  queue : Nat
  pages : List (Nat × Nat)
  metaTier : Nat
  textPages : Nat
  push : Bool
deriving DecidableEq, Repr

/-- A hoist descriptor (R278) as its issuing unit builds it. -/
structure Descriptor where
  usa : Nat
  next : Nat
  src : Nat
  dst : Nat
  len : Nat
  srcSpace : Nat
  dstSpace : Nat
  op : Nat
  urgent : Bool
  mark : Bool
  notify : Bool
  tenant : Nat
  remotePkg : Nat
  remoteDie : Nat
  tc : Nat
  prog : Nat
  handle : Nat
  tag : Nat
  /-- the host port's function that a host range belongs to -/
  function : Nat
  /-- every reserved bit is 0 -/
  reservedZero : Bool
deriving DecidableEq, Repr

/-- The signature block of an image as the root of trust finds it (R426, R427, R462): KEY_ID, SVN, whether an ML-DSA-87
signature is present, and the verdict of each signature over the image's digest. -/
structure ImageSig where
  keyId : Nat
  svn : Nat
  mldsa : Bool
  vendorOk : Bool
  mldsaOk : Bool
  ownerOk : Bool
deriving DecidableEq, Repr

/-- Where a Zynut-M program runs (R224). -/
inductive ZmPlace where
  | tierPolicy | hoist | wakeFilter | logitHook | powerLoop
deriving DecidableEq, Repr

/-- A Zynut-M image (R226): place, code words, entry, run limit, initial scratch words. -/
structure ZmImage where
  place : ZmPlace
  code : List Nat
  entry : Nat
  limit : Nat
  scratch : List (Nat × Nat)
deriving DecidableEq, Repr

/-- A run that starts (R224): the program's ID; the image of a power loop, which comes in firmware; the hoist channel it
serves; the views and input queues of its place. -/
structure ZmStart where
  prog : Nat
  loop : Option ZmImage
  chan : Nat
  views : List (Nat × List Nat)
  inputs : List (Nat × List Nat)
deriving DecidableEq, Repr

/-- The sequencer that executes an instruction: 16 × ZYM instance + number; `start` where the instruction is the first of
a run. -/
structure ZmIssue where
  seqr : Nat
  start : Option ZmStart
deriving DecidableEq, Repr

/-- A kernel's part of a layer that starts on a core (R213, R217): first bundle, model instance, layer. -/
structure ZwStart where
  pc : Nat
  model : Nat
  layer : Nat
deriving DecidableEq, Repr

/-- A valid slot of a bundle (R208, R209) as the issue logic sees it: the core; `start` where the bundle is the first of a
layer; `last` for the bundle's last valid slot; and, which count with its first one: the condition (predicate,
COND_NEG), the WAIT bits, whether the fetch failed, the slot with an undefined opcode or the header bit that makes the
bundle illegal. Core numbers are 8 × logical cluster + logical core, and 512 to 515 for the control cores. -/
structure ZwIssue where
  core : Nat
  start : Option ZwStart
  last : Bool
  cond : Option (Nat × Bool)
  wait : Nat
  fetchBad : Bool
  illegal : Option Nat
deriving DecidableEq, Repr

end Sys2Proof.Machine
end

