-- ==== Sys2Proof/Machine/StateSession.lean ====
section
/-! DEFINITION. The data of one session: its table entry (R37), its metadata page, KV map and text block, its shadow at
the last seal (R38), its input (R236) and the commands and timers that wait for it. -/
namespace Sys2Proof.Machine

/-- Lifecycle states (R39). -/
inductive SState where
  | free | opening | ready | running | waiting | held | moving | away | closing | fenced
deriving DecidableEq, Repr

/-- Wait reasons (R37). -/
inductive WaitReason where
  | none | tool | peer | timer | input | outboxFull | budget | quota
deriving DecidableEq, Repr

/-- Fence reasons (R37). -/
inductive FenceReason where
  | none | lockBroken | timeout | poison | dieLost | tierLost
deriving DecidableEq, Repr

/-- Residence codes (R40). -/
inductive Residence where
  | hot | warm | parked | dormant
deriving DecidableEq, Repr

/-- The holder of a session's lock (R59; HOLDER_KIND and HOLDER_ID of R37). -/
inductive Holder where
  | none
  | stepFormer (s1 : Bool)
  | hoist (die chan : Nat)
  | host (fn queue : Nat)
deriving DecidableEq, Repr

/-- A record of a session or a completion (R405): its type, and what R64 and the owning rule put into bytes 32 to 63. -/
structure Record where
  type : Nat
  status : Nat
  opcode : Nat
  handle : Nat
  tag : Nat
  body : List Byte
  text : List Byte
deriving DecidableEq, Repr

/-- An undelivered record and the outbox-pool entry it occupies (R62). -/
structure OutEntry where
  pool : Nat
  record : Record
deriving DecidableEq, Repr

/-- The session table entry (R37). OUTBOX_COUNT, OUTBOX_HEAD, OUTBOX_TAIL and PENDING_TOKENS are the length and ends of
the session's outbox and pending tokens. -/
structure Entry where
  /-- HANDLE: ORIGIN, SLOT and GEN (R32); in a FREE slot the generation is the next to issue -/
  handle : Nat
  state : SState
  residence : Residence
  classD : Bool
  degraded : Bool
  waitReason : WaitReason
  fenceReason : FenceReason
  tenant : Nat
  homeSd : Nat
  priority : Nat
  timeoutFence : Bool
  prior : SState
  function : Nat
  detached : Bool
  resultQueue : Nat
  timedOut : Bool
  lockReport : Bool
  lastS1 : Bool
  inputOpen : Bool
  model : Nat
  adapter : Nat
  adapterVersion : Nat
  adapterFollow : Bool
  committed : Nat
  seed : Nat
  metaUsa : Nat
  deadline : Nat
  peer : Nat
  holder : Holder
  leaseEnd : Nat
  lastSeal : Nat
  seqLists : List Nat
  parent : Nat
  firstWaiter : Option Nat
  nextWaiter : Option Nat
  height : Nat
  profile : Nat
  callId : Nat
deriving DecidableEq, Repr

/-- A run of KV pages with consecutive USAs (R165). -/
structure KvRun where
  firstToken : Nat
  pages : Nat
  sizeClass : Nat
  usa : Nat
deriving DecidableEq, Repr

/-- The directory entry of one layer-group and its run list (R164, R165). -/
structure LayerGroup where
  remote : Option Nat
  runs : List KvRun
deriving DecidableEq, Repr

/-- An open PARK call (R247): list slot, entry index, and the generation index of the opener's last token. -/
structure OpenCall where
  slot : Nat
  entry : Nat
  openedAt : Nat
deriving DecidableEq, Repr

/-- The text block (R239): the last 1,024 committed tokens (newest last), the current generation's last 64 tokens (the
matchers' states), its token count, the open call and its bytes, the forced-run queue and the held output bytes. -/
structure TextBlock where
  history : List Nat
  genTail : List Nat
  genCount : Nat
  /-- a generation is open: tokens have been drawn since the last input -/
  openCall : Option OpenCall
  call : List Byte
  forced : List Nat
  held : List Byte
deriving DecidableEq, Repr

/-- Counts of a session's pages in T0, T1 and T2 (R114), or any triple by tier. -/
structure Tri where
  t0 : Nat
  t1 : Nat
  t2 : Nat
deriving DecidableEq, Repr

/-- What a seal commits and a rollback restores (R38): entry, metadata page, KV map and text block. -/
structure SessionCore where
  entry : Entry
  /-- KV length pointer (R163) -/
  kvLen : Nat
  /-- the open token (R73) -/
  openToken : Option Nat
  /-- KV map by layer-group index (R164) -/
  kvMap : List (Nat × LayerGroup)
  text : TextBlock
  /-- chain key of the prefix walk (R143) -/
  chainKey : Nat
  /-- tokens of the committed positions past the last page boundary (R143) -/
  chainTail : List Nat
  /-- tool timeout and timeout text (R48) -/
  toolTimeout : Nat
  timeoutText : List Byte
  /-- wake text of the current peer wait (R48) -/
  wakeText : List Byte
deriving DecidableEq, Repr

/-- One settled token waiting for prefill; `first` marks the first token of an input (R240). -/
structure PendingToken where
  token : Nat
  first : Bool
deriving DecidableEq, Repr

/-- An input that the text unit holds (R230): bytes received and not yet processed; the processed bytes past the last
settle point or forced cut, whose offset in the input is `base`; whether the final frame has arrived (R234); the opcode
and dispatch queue it comes from (R401); whether no token of it has settled yet. -/
structure TextInput where
  unread : List Byte
  window : List Byte
  base : Nat
  closed : Bool
  opcode : Nat
  function : Nat
  queue : Nat
  fresh : Bool
  /-- the frame waits for an input page (R236) -/
  stalled : Bool
  /-- frames that wait for it, holding no lock (R58, R236) -/
  waits : List Frame
deriving DecidableEq, Repr

/-- A frame and the stamp at which it reached the island that holds it. -/
structure Waiting where
  frame : Frame
  stamp : Nat
  /-- of a SESSION_FORK, the table SD chosen for its child (R36) -/
  childSd : Option Nat
deriving DecidableEq, Repr

/-- What a session's timer entry is armed for (R51, R53). -/
inductive TimerKind where
  | deadline | notBefore
deriving DecidableEq, Repr

/-- One session: the values now, the values at the last seal, and what no rollback touches. -/
structure Session where
  cur : SessionCore
  shadow : SessionCore
  /-- settled tokens waiting for prefill (R236); never rolled back (R38) -/
  pending : List PendingToken
  inputs : List TextInput
  outbox : List OutEntry
  /-- outbox entries reserved for the step in flight (R63) -/
  reserved : Nat
  /-- records that wait for a free pool entry (R63) -/
  unpooled : List Record
  /-- commands that wait for the lock, oldest stamp first (R46, R59) -/
  waiting : List Waiting
  /-- TIMED APPENDs that wait for NOT_BEFORE (R50) -/
  timed : List Waiting
  timer : Option TimerKind
  /-- the staged timeout and its deadline (R51) -/
  staged : Option Nat
  /-- the stamp at which the timer fired; 0 while it has not -/
  fired : Nat
  /-- the stamp at which the present holder took the lock (R509) -/
  lockStamp : Nat
  parkRequest : Bool
  /-- stamp of the event that last made the session READY (R71) -/
  readyStamp : Nat
  /-- the session entered its present state at this PT (R119: oldest wait first) -/
  since : Nat
  /-- pages per tier (R114) -/
  tiers : Tri
  /-- map blocks and directory pages the KV map holds (R164 to R166) -/
  mapHeld : Nat
  dirHeld : Nat
  /-- text-pool pages held: input pages (R236), and 4 for the text block (R239) -/
  textHeld : Nat
  /-- pressure demotion: bytes of T0 still short (R122) -/
  shortfall : Nat
  /-- the frame of the command that holds the lock, or that CLOSING, OPENING, a restore or a migration will complete -/
  owner : Option Frame
  /-- MOVE_SEQ of the session or of its stub, and the package the stub forwards to (R297, R298) -/
  moveSeq : Nat
  fwdPkg : Nat
  /-- the source holds commands from FREEZE to the handover's decision (R47) -/
  frozen : Bool
  /-- the session has completed for its waiters: its seal wrote DONE, it entered CLOSING or it was fenced (R57) -/
  peerDone : Bool
  /-- the session's first S1 admission has sent its push PREPARE (R302) -/
  pushTried : Bool
deriving DecidableEq, Repr

/-- An empty text block. -/
def TextBlock.empty : TextBlock :=
  { history := [], genTail := [], genCount := 0, openCall := none, call := [], forced := [], held := [] }

/-- What a USA field holds while it names no page: a value past the 48 bits of every USA (R94), whose low 48 bits read 0. -/
def noPage : Nat := 2 ^ 48

/-- The entry of a slot that no session has used: FREE, with generation 1 to issue (R34, R37). -/
def Entry.free (slot : Nat) : Entry :=
  { handle := slot * 2 ^ 28 + 1, state := .free, residence := .hot, classD := false, degraded := false,
    waitReason := .none, fenceReason := .none, tenant := 0, homeSd := 0, priority := 0, timeoutFence := false,
    prior := .free, function := 0, detached := false, resultQueue := 0, timedOut := false, lockReport := false,
    lastS1 := false, inputOpen := false, model := 0, adapter := 0, adapterVersion := 0, adapterFollow := false,
    committed := 0, seed := 0, metaUsa := noPage, deadline := 0, peer := 0, holder := .none, leaseEnd := 0, lastSeal := 0,
    seqLists := [0, 0, 0, 0], parent := 0, firstWaiter := none, nextWaiter := none, height := 0, profile := 0,
    callId := 0 }

/-- The core of an unused slot. -/
def SessionCore.free (slot : Nat) : SessionCore :=
  { entry := Entry.free slot, kvLen := 0, openToken := none, kvMap := [], text := TextBlock.empty, chainKey := 0,
    chainTail := [], toolTimeout := 0, timeoutText := [], wakeText := [] }

/-- An unused slot. -/
def Session.free (slot : Nat) : Session :=
  { cur := SessionCore.free slot, shadow := SessionCore.free slot, pending := [], inputs := [], outbox := [],
    reserved := 0, unpooled := [], waiting := [], timed := [], timer := none, staged := none, fired := 0, lockStamp := 0, parkRequest := false,
    readyStamp := 0, since := 0, tiers := ⟨0, 0, 0⟩, mapHeld := 0, dirHeld := 0, textHeld := 0, shortfall := 0, owner := none, moveSeq := 0, fwdPkg := 0,
    frozen := false, peerDone := false, pushTried := false }

end Sys2Proof.Machine
end

