-- ==== Sys2Proof/Machine/StateMemory.lean ====
section
/-! DEFINITION. State memory: pools of frames and entries, page-table leaves, cages, reference entries, the prefix tree
and what each state die keeps (chapters 04 and 05, and the state-die parts of 02 and 09). -/
namespace Sys2Proof.Machine

/-- A pool of numbered items handed out in first-freed, first-reused order (R36, R62, R101): items returned to the head,
items never used (from `fresh` to `total`), then freed items, oldest first. `withdrawn` items are out of use (R108). -/
structure Pool where
  total : Nat
  front : List Nat
  fresh : Nat
  freed : List Nat
  withdrawn : List Nat
deriving DecidableEq, Repr

/-- A class pool (R101): a range of frames, from `base` in 4 KiB units, that serves one size class. -/
structure ClassPool where
  base : Nat
  pool : Pool
deriving DecidableEq, Repr

/-- The CAGE field of a leaf (R104). -/
inductive CageState where
  | resident | up | down
deriving DecidableEq, Repr

/-- A page-table leaf (R104), with the page's scale block. A page without a leaf is FREE. -/
structure Leaf where
  tier : Nat
  sizeClass : Nat
  pinned : Bool
  cage : CageState
  dirtyCkp : Bool
  dirtyDur : Bool
  poison : Bool
  frozen : Bool
  pool : Nat
  frame : Nat
  tenant : Nat
  refIndex : Nat
  access : Nat
  cageId : Nat
  /-- the page's scale block, in blocks of the scale pool of its SD (R101) -/
  scale : Option Nat
  /-- the size of the page's scale block: 1/32 of a KQ page, else 0 (R101, R161) -/
  scaleBytes : Nat
  /-- the page has been touched in the step in flight (R107) -/
  touched : Bool
  /-- hoist translations pinned on the page (R95) -/
  pins : Nat
  /-- the count has fallen to 0 while the page was frozen or pinned; it is freed when that ends (R148, R95) -/
  orphan : Bool
  /-- the session whose map alone holds the page, where REF_INDEX is 0 -/
  owner : Option Nat
deriving DecidableEq, Repr

/-- A cage in progress (R110): page, direction, destination, frames, source, the write marks of segments and the
phase. -/
structure Cage where
  usa : Nat
  up : Bool
  tier : Nat
  pool : Nat
  frame : Nat
  scale : Option Nat
  source : CageSource
  urgent : Bool
  /-- C1 stamp -/
  start : Nat
  /-- the C5 stamp, once the last segment is copied -/
  c5 : Option Nat
  /-- the C7 stamp, once the copy is authoritative; then the old copy's place waits for C9 -/
  c7 : Option Nat
  oldTier : Nat
  oldPool : Nat
  oldFrame : Nat
  oldScale : Option Nat
  /-- segments written since they were copied (C4, C6) -/
  marked : List Nat
  /-- reads pinned on the old copy (C8) -/
  pins : Nat
deriving DecidableEq, Repr

/-- A cage request that waits, holding nothing, for a freeze to clear (R109) or for the tenant's T0 use (R99). -/
structure CageRequest where
  usa : Nat
  tier : Nat
  pool : Option Nat
  source : CageSource
  stamp : Nat
deriving DecidableEq, Repr

/-- A reference entry (R127) and its referrer chain (R131): the slots of the referring sessions. -/
structure RefEntry where
  count : Nat
  tree : Bool
  domain : Nat
  usa : Nat
  members : List Nat
  referrers : List (Option Nat)
deriving DecidableEq, Repr

/-- A node of the prefix tree (R141): its page vector and token block are held with it. -/
structure PrefixNode where
  key : Nat
  parentKey : Nat
  pages : List Nat
  tokens : List Nat
  lastMatch : Nat
  depth : Nat
  domain : Nat
  hits : Nat
deriving DecidableEq, Repr

/-- One state die. -/
structure StateDie where
  /-- in service; false once it is fenced (R485) -/
  inService : Bool
  /-- free slots of this table SD (R36): item k is slot sd + 12k -/
  slots : Pool
  /-- slots of this table SD that have retired (R34) -/
  retired : List Nat
  /-- outbox pool (R62) -/
  outbox : Pool
  /-- entries of the outbox pool that admissions have reserved (R63) -/
  outboxReserved : Nat
  /-- 256-byte map blocks and 4 KiB directory pages (R166): free, total -/
  mapFree : Nat
  mapTotal : Nat
  dirFree : Nat
  dirTotal : Nat
  /-- text pool pages (R236): free, total -/
  textFree : Nat
  textTotal : Nat
  /-- guest-map entries that the PAGE section sizes (R294) -/
  guestTotal : Nat
  /-- reference table (R127): free indexes and entries -/
  refPool : Pool
  refs : List (Nat × RefEntry)
  /-- prefix tree (R141) and its number of buckets -/
  nodes : List PrefixNode
  buckets : Nat
  /-- domain keys drawn since reset (R139) -/
  domainKeys : List (Nat × Nat)
  /-- hot and cold lists (R118), oldest first -/
  hot : List Nat
  cold : List Nat
  /-- cage requests waiting (R99, R109) -/
  cageWaiting : List CageRequest
  /-- the tier-policy program: a run is in progress; a start is pending (R117); the default policy is in force after
  a fault (R117) -/
  policyRunning : Bool
  policyPending : Bool
  policyFaulted : Bool
  /-- MEM_PT_ROOT (R105) -/
  ptRoot : Nat
deriving DecidableEq, Repr

/-- A pool of `n` items, none used yet. -/
def Pool.new (n : Nat) : Pool := { total := n, front := [], fresh := 0, freed := [], withdrawn := [] }

/-- A state die right after reset, before a headframe sizes its pools (R36: 349,526 slots on SD0 to SD3, 349,525 on the
others). -/
def StateDie.reset (sd : Nat) : StateDie :=
  { inService := false, slots := Pool.new (if sd < 4 then 349526 else 349525), retired := [], outbox := Pool.new 0,
    outboxReserved := 0, mapFree := 0, mapTotal := 0, dirFree := 0, dirTotal := 0, textFree := 0, textTotal := 0, guestTotal := 0,
    refPool := Pool.new 0, refs := [], nodes := [], buckets := 0, domainKeys := [], hot := [], cold := [],
    cageWaiting := [], policyRunning := false, policyPending := false, policyFaulted := false, ptRoot := 0 }

end Sys2Proof.Machine
end

