-- ==== Sys2Proof/Machine/StateCheckpoint.lean ====
section
/-! DEFINITION. Checkpoints and restore (chapter 13). -/
namespace Sys2Proof.Machine

/-- What a page record holds (R349): the page's class, tier, tenant, its bytes and its scale block's. -/
structure PageRecord where
  usa : Nat
  sizeClass : Nat
  tier : Nat
  tenant : Nat
  scaleBytes : Nat
  /-- bytes that are not 0, by offset in the page and in the scale block -/
  bytes : List Host.Cell
  scale : List Host.Cell
deriving DecidableEq, Repr

/-- A recorded session (R341): its slot, its data, whether a migration record with HANDOVER sent goes with it (R346). -/
structure Recorded where
  slot : Nat
  session : Session
  undecided : Option Nat
deriving DecidableEq, Repr

/-- A checkpoint epoch whose manifest is durable at the store (R348), as the package's namespace holds it. -/
structure EpochImage where
  epoch : Nat
  nsid : Nat
  full : Bool
  xts : Bool
  parent : Nat
  base : Nat
  cutPt : Nat
  cutStep : Nat
  layout : Nat
  records : List PageRecord
  sessions : List Recorded
  ledger : List (Nat × List Nat)
deriving DecidableEq, Repr

/-- The epoch in progress (R340 to R344). -/
structure EpochRun where
  frame : Frame
  epoch : Nat
  cutPt : Nat
  full : Bool
  keepFrom : Nat
  /-- the cut seal has been applied: its stamp and S0 step -/
  cut : Option (Nat × Nat)
  /-- table SDs that have recorded their sessions (R341) -/
  recorded : List Nat
  /-- the frozen set has been frozen (R342) -/
  froze : Bool
  /-- frozen pages still to stage, in the order of R344 -/
  frozen : List Nat
  /-- records staged and not yet stored -/
  staged : List PageRecord
  /-- records stored -/
  stored : List PageRecord
  sessions : List Recorded
  ledger : List (Nat × List Nat)
  /-- raw bytes stored -/
  drained : Nat
deriving DecidableEq, Repr

/-- Where a DORMANT session's pages come from (R42): its drain image or an epoch. -/
inductive RestoreSource where
  | image
  | epoch (n nsid : Nat)
deriving DecidableEq, Repr

/-- A restore whose reads have not ended (R358): its frame, what the session becomes, its home SD, its metadata page
and its KV pages by layer-group, former and new USA. -/
structure RestoreRun where
  frame : Frame
  session : Session
  homeSd : Nat
  metaUsa : Nat
  pages : List (Nat × Nat × Nat)
deriving DecidableEq, Repr

/-- Checkpoints of the package. -/
structure Checkpoint where
  lastEpoch : Nat
  lastDurable : Nat
  run : Option EpochRun
  /-- DELTA epochs since the last FULL one, whether the next must be FULL -/
  chain : Nat
  needFull : Bool
  images : List EpochImage
  /-- staging free, in bytes -/
  stageFree : Nat
  stageTotal : Nat
  sources : List (Nat × RestoreSource)
  restores : List (Nat × RestoreRun)
  maxStall : Nat
deriving DecidableEq, Repr

/-- No epoch. -/
def Checkpoint.reset : Checkpoint :=
  { lastEpoch := 0, lastDurable := 0, run := none, chain := 0, needFull := true, images := [], stageFree := 0,
    stageTotal := 0, sources := [], restores := [], maxStall := 0 }

end Sys2Proof.Machine
end

