-- ==== Sys2Proof/Syntax.lean ====
section
/-! DEFINITION. The commands of the OV32: one constructor for each row of spec/opcode_table.json, in its order. `t` is
the ingress stamp of the event at the island that owns the state it acts on (R24). -/
namespace Sys2Proof
open Machine

/-- One command (a row of the opcode table). -/
inductive Instr where
  /-- DQ_TAIL_WRITE (R399). -/
  | dqTailWrite (fn q v t : Nat)
  /-- RQ_HEAD_WRITE (R406). -/
  | rqHeadWrite (fn q v t : Nat)
  /-- TEXT_HEAD_WRITE (R410). -/
  | textHeadWrite (fn v t : Nat)
  /-- DQ_CTL_ENABLE_WRITE (R400). -/
  | dqCtlEnableWrite (fn : Nat) (ring : Ring) (v t : Nat)
  /-- FRAME_FETCH (R399). -/
  | frameFetch (fn q : Nat) (bytes : List Byte) (t : Nat)
  /-- TIMED_FRAME_RELEASE (R403). -/
  | timedFrameRelease (fn q seq t : Nat)
  /-- STATUS_RECORD_WRITE (R407). -/
  | statusRecordWrite (fn q t : Nat)
  /-- RECORD_DELIVER (R62). -/
  | recordDeliver (slot t : Nat)
  /-- MOD_US_EXPIRE (R406). -/
  | modUsExpire (fn q t : Nat)
  /-- FUNCTION_LEVEL_RESET (R413). -/
  | functionLevelReset (fn t : Nat)
  /-- VF_DISABLE (R413). -/
  | vfDisable (fn t : Nat)
  /-- SURPRISE_DOWN (R414). -/
  | surpriseDown (port t : Nat)
  /-- HOST_ATTACH (R414). -/
  | hostAttach (port vfs t : Nat)
  /-- DRAIN_TIMEOUT (R411). -/
  | drainTimeout (unit : DrainUnit) (t : Nat)
  /-- IDE_STREAM_STOP (R445). -/
  | ideStreamStop (fn t : Nat)
  /-- SESSION_OPEN (R44). -/
  | sessionOpen (f : Frame) (t : Nat)
  /-- OPEN_PREPARED (R44). -/
  | openPrepared (slot t : Nat)
  /-- SESSION_APPEND (R50). -/
  | sessionAppend (f : Frame) (t : Nat)
  /-- TIMED_APPEND_RELEASE (R50). -/
  | timedAppendRelease (slot t : Nat)
  /-- SESSION_RESUME (R52). -/
  | sessionResume (f : Frame) (t : Nat)
  /-- SESSION_HOLD (R44). -/
  | sessionHold (f : Frame) (t : Nat)
  /-- SESSION_RELEASE (R44). -/
  | sessionRelease (f : Frame) (t : Nat)
  /-- SESSION_PARK (R44). -/
  | sessionPark (f : Frame) (t : Nat)
  /-- SESSION_CANCEL (R91). -/
  | sessionCancel (f : Frame) (t : Nat)
  /-- SESSION_CLOSE (R44). -/
  | sessionClose (f : Frame) (t : Nat)
  /-- CLOSE_RELEASE_DONE (R34). -/
  | closeReleaseDone (slot t : Nat)
  /-- SESSION_FORK (R49). -/
  | sessionFork (f : Frame) (t : Nat)
  /-- SESSION_MIGRATE (R291). -/
  | sessionMigrate (f : Frame) (t : Nat)
  /-- SESSION_WAIT_PEER (R56). -/
  | sessionWaitPeer (f : Frame) (t : Nat)
  /-- SESSION_RESTORE (R358). -/
  | sessionRestore (f : Frame) (found : Option Recorded) (t : Nat)
  /-- RESTORE_PAGES_PLACED (R358). -/
  | restorePagesPlaced (slot : Nat) (records : List PageRecord) (ok : Bool) (t : Nat)
  /-- ROW_LOOKUP (R257). -/
  | rowLookup (f : Frame) (sd t : Nat)
  /-- ROW_UPDATE (R262). -/
  | rowUpdate (f : Frame) (t : Nat)
  /-- TABLE_SWITCH (R259). -/
  | tableSwitch (f : Frame) (t : Nat)
  /-- RECALL_QUERY (R272). -/
  | recallQuery (f : Frame) (sd t : Nat)
  /-- RECALL_INSERT (R269). -/
  | recallInsert (f : Frame) (t : Nat)
  /-- RECALL_SHARD_SCAN_DONE (R272). -/
  | recallShardScanDone (query sd t : Nat)
  /-- ADAPTER_LOAD (R265). -/
  | adapterLoad (f : Frame) (t : Nat)
  /-- ADAPTER_IMAGE_READ_DONE (R265). -/
  | adapterImageReadDone (load sd : Nat) (bytes : List Byte) (ok : Bool) (t : Nat)
  /-- ADAPTER_SWITCH (R267). -/
  | adapterSwitch (f : Frame) (t : Nat)
  /-- CKP_CUT (R339). -/
  | ckpCut (f : Frame) (t : Nat)
  /-- CKP_RESTORE_GROUP (R357). -/
  | ckpRestoreGroup (f : Frame) (image : Option EpochImage) (t : Nat)
  /-- PROBE (R507). -/
  | probe (f : Frame) (t : Nat)
  /-- TEXT_INPUT (R232). -/
  | textInput (slot count t : Nat)
  /-- TEXT_FRAME_RESUME (R236). -/
  | textFrameResume (slot t : Nat)
  /-- TIMER_FIRE (R51). -/
  | timerFire (slot t : Nat)
  /-- TIMEOUT_COMMIT (R51). -/
  | timeoutCommit (slot t : Nat)
  /-- NOT_BEFORE_REACHED (R44). -/
  | notBeforeReached (slot t : Nat)
  /-- LEASE_LAPSE (R60). -/
  | leaseLapse (slot t : Nat)
  /-- PEER_COMPLETE (R57). -/
  | peerComplete (slot : Nat) (rejects : List Nat) (t : Nat)
  /-- OUTBOX_RECORD_WRITE (R63). -/
  | outboxRecordWrite (slot t : Nat)
  /-- STEP_FORM (R77). -/
  | stepForm (s1 : Bool) (t : Nat)
  /-- STEP_PACING_EXPIRE (R367). -/
  | stepPacingExpire (s1 : Bool) (t : Nat)
  /-- QUOTA_RESERVATION (R116). -/
  | quotaReservation (tenant tier bytes : Nat) (asker : QuotaFor) (t : Nat)
  /-- QUOTA_RELEASE (R116). -/
  | quotaRelease (tenant tier bytes t : Nat)
  /-- KV_APPEND (R167). -/
  | kvAppend (s1 : Bool) (slot layer : Nat) (kv : List (List (List Nat × List Nat))) (t : Nat)
  /-- SPAN_DISPATCH (R169). -/
  | spanDispatch (s1 : Bool) (slot lg : Nat) (queries : List (List (List Nat))) (kv : List (List (List Nat × List Nat))) (t : Nat)
  /-- SPAN_PARTIAL_DONE (R172). -/
  | spanPartialDone (s1 : Bool) (slot lg span : Nat) (bad : Option Nat) (unreachable : Bool) (t : Nat)
  /-- SAMPLER_DRAW (R250). -/
  | samplerDraw (slot i : Nat) (logits drafts : List Nat) (hook : List Int) (t : Nat)
  /-- S1_SUSPEND (R82). -/
  | s1Suspend (layer t : Nat)
  /-- S1_RESUME (R82). -/
  | s1Resume (t : Nat)
  /-- SEAL_ISSUE (R87). -/
  | sealIssue (s1 : Bool) (t : Nat)
  /-- SEAL_APPLY (R88). -/
  | sealApply (s1 : Bool) (sd t : Nat)
  /-- STEP_OUTCOME (R89). -/
  | stepOutcome (s1 : Bool) (t : Nat)
  /-- MEMBER_REMOVE (R84). -/
  | memberRemove (s1 : Bool) (slot : Nat) (why : RemoveCause) (t : Nat)
  /-- STEP_ABANDON (R86). -/
  | stepAbandon (s1 : Bool) (t : Nat)
  /-- REMOTE_TIMEOUT (R178). -/
  | remoteTimeout (s1 : Bool) (slot request issued : Nat) (expert : Bool) (t : Nat)
  /-- MGMT_FAILOVER (R17). -/
  | mgmtFailover (t : Nat)
  /-- CAGE_REQUEST (R109). -/
  | cageRequest (page tier : Nat) (pool : Option Nat) (src : CageSource) (t : Nat)
  /-- CAGE_COPY_DONE (R110). -/
  | cageCopyDone (id : Nat) (poisoned : Bool) (t : Nat)
  /-- CAGE_SWITCH_POINT (R110). -/
  | cageSwitchPoint (id t : Nat)
  /-- CAGE_RELEASE (R110). -/
  | cageRelease (id t : Nat)
  /-- ACCESS_DECAY (R107). -/
  | accessDecay (sd t : Nat)
  /-- TIER_POLICY_RUN (R117). -/
  | tierPolicyRun (sd : Nat) (asks : List (Nat × Nat × Option Nat)) (fault : Bool) (t : Nat)
  /-- PREFIX_RETENTION_SWEEP (R145). -/
  | prefixRetentionSweep (sd t : Nat)
  /-- HOIST_ISSUE (R279). -/
  | hoistIssue (die chan : Nat) (d : Descriptor) (t : Nat)
  /-- HOIST_SEGMENT_DONE (R281). -/
  | hoistSegmentDone (die chan : Nat) (bytes : List Byte) (ok : Bool) (t : Nat)
  /-- HOIST_PROGRAM_RUN (R224). -/
  | hoistProgramRun (die chan : Nat) (segs : List (Nat × Nat)) (fault : Bool) (t : Nat)
  /-- HOIST_CHANNEL_RESET (R282). -/
  | hoistChannelReset (die chan t : Nat)
  /-- SEGMENT_RESEND (R315). -/
  | segmentResend (die chan seg t : Nat)
  /-- MIG_COPY_DONE (R292). -/
  | migCopyDone (slot die chan sent : Nat) (poison : Bool) (t : Nat)
  /-- PREPARE (R293). -/
  | prepare (h : Head) (p : PrepareMsg) (t : Nat)
  /-- READY (R292). -/
  | ready (h : Head) (slot status t : Nat)
  /-- HANDOVER (R295). -/
  | handover (h : Head) (handle count : Nat) (x : Session) (t : Nat)
  /-- COMMITTED (R292). -/
  | committed (h : Head) (slot t : Nat)
  /-- ABORT_REQ (R295). -/
  | abortReq (h : Head) (handle seq t : Nat)
  /-- ABORTED (R296). -/
  | aborted (h : Head) (slot t : Nat)
  /-- HOME_UPDATE (R298). -/
  | homeUpdate (h : Head) (handle home seq t : Nat)
  /-- CLOSE_NOTE (R299). -/
  | closeNote (h : Head) (handle t : Nat)
  /-- SEAL_NOTE (R303). -/
  | sealNote (h : Head) (handle count t : Nat)
  /-- DROP_NOTE (R303). -/
  | dropNote (h : Head) (handle count t : Nat)
  /-- PHASE_TIMEOUT (R296). -/
  | phaseTimeout (slot t : Nat)
  /-- CODEWORD_UNCORRECTABLE (R308). -/
  | codewordUncorrectable (port seq t : Nat)
  /-- LINK_CONTROL_FLIT (R307). -/
  | linkControlFlit (port acked : Nat) (replay : Option Nat) (credits : List Nat) (t : Nat)
  /-- PORT_TRAINED (R309). -/
  | portTrained (port lanes t : Nat)
  /-- LANE_LOCK_LOSS (R309). -/
  | laneLockLoss (port t : Nat)
  /-- ROLL_CALL_SEND (R327). -/
  | rollCallSend (port t : Nat)
  /-- ROLL_CALL (R328). -/
  | rollCall (h : Head) (pkg peerPort pos serial hash epoch t : Nat)
  /-- ROLL_CALL_MISSED (R328). -/
  | rollCallMissed (port t : Nat)
  /-- SYNC_SEND (R332). -/
  | syncSend (t : Nat)
  /-- SYNC (R332). -/
  | sync (h : Head) (t1 t : Nat)
  /-- SYNC_REPLY (R332). -/
  | syncReply (h : Head) (t1 t2 t3 t : Nat)
  /-- SYNC_LOST (R333). -/
  | syncLost (t : Nat)
  /-- PACKET_ENQUEUE (R319). -/
  | packetEnqueue (index t : Nat)
  /-- EGRESS_SELECT (R318). -/
  | egressSelect (port t : Nat)
  /-- PACKET_TRANSIT (R325). -/
  | packetTransit (p : Packet) (t : Nat)
  /-- TRANSIT_CREDIT_TIMEOUT (R320). -/
  | transitCreditTimeout (port tc t : Nat)
  /-- SEG_DATA (R315). -/
  | segData (h : Head) (tag seg chan addr : Nat) (drain : Bool) (payload : List Byte) (t : Nat)
  /-- SEG_ACK (R315). -/
  | segAck (h : Head) (die chan tag seg status t : Nat)
  /-- GROUP_CTL (R314). -/
  | groupCtl (h : Head) (code epoch count t : Nat)
  /-- ATT_REQ (R177). -/
  | attReq (h : Head) (handle layer group positions part request parts first tenant model sd : Nat) (payload : List Byte) (t : Nat)
  /-- ATT_REPLY (R178). -/
  | attReply (h : Head) (part request parts : Nat) (payload : List Byte) (t : Nat)
  /-- EXPERT_TOKENS (R81). -/
  | expertTokens (h : Head) (step layer expert tokens request : Nat) (payload output : List Byte) (t : Nat)
  /-- EXPERT_REPLY (R81). -/
  | expertReply (h : Head) (s1 : Bool) (slot request issued : Nat) (payload : List Byte) (t : Nat)
  /-- ACC_IMAGES (R198). -/
  | accImages (h : Head) (step reduction first : Nat) (images : List (List Byte)) (info : SplitInfo) (t : Nat)
  /-- ANCHOR (R198). -/
  | anchor (h : Head) (step reduction first : Nat) (bounds own : List Int) (t : Nat)
  /-- ROW_REQ (R257). -/
  | rowReq (h : Head) (table request : Nat) (bag : List Nat) (t : Nat)
  /-- ROW_REPLY (R257). -/
  | rowReply (h : Head) (request : Nat) (bytes : List Byte) (t : Nat)
  /-- ROW_UPD (R264). -/
  | rowUpd (h : Head) (table step handle seq row : Nat) (overwrite : Bool) (bytes : List Byte) (t : Nat)
  /-- KERNEL_DATA (R216). -/
  | kernelData (h : Head) (addr : Nat) (payload : List Byte) (t : Nat)
  /-- KV_PUSH (R303). -/
  | kvPush (h : Head) (handle lg index : Nat) (bytes : List Byte) (t : Nat)
  /-- MGMT (R316). -/
  | mgmt (h : Head) (type_ : Nat) (payload : List Byte) (t : Nat)
  /-- HOT_CACHE_REFRESH (R260). -/
  | hotCacheRefresh (sd t : Nat)
  /-- TICK_1MS (R491). -/
  | tick1ms (t : Nat)
  /-- STAGING_COPY_DONE (R344). -/
  | stagingCopyDone (page t : Nat)
  /-- CKP_STORE_WRITE_DONE (R344). -/
  | ckpStoreWriteDone (records : Nat) (ok : Bool) (t : Nat)
  /-- CKP_MANIFEST_DURABLE (R351). -/
  | ckpManifestDurable (t : Nat)
  /-- STORE_TIMEOUT (R345). -/
  | storeTimeout (t : Nat)
  /-- UV_DETECT (R386). -/
  | uvDetect (eid fell t : Nat)
  /-- BUS_RECOVER (R386). -/
  | busRecover (eid t : Nat)
  /-- DRAIN_START (R387). -/
  | drainStart (t : Nat)
  /-- JOURNAL_ENTRY_START (R382). -/
  | journalEntryStart (slot t : Nat)
  /-- JOURNAL_CAPTURE (R385). -/
  | journalCapture (seq page t : Nat)
  /-- JOURNAL_PAYLOAD_DONE (R391). -/
  | journalPayloadDone (seq mbps : Nat) (ok : Bool) (t : Nat)
  /-- JOURNAL_COMMIT (R392). -/
  | journalCommit (seq : Nat) (ok : Bool) (t : Nat)
  /-- DRAIN_END (R389). -/
  | drainEnd (watts t : Nat)
  /-- THERMAL_DRAIN (R369). -/
  | thermalDrain (junction dram t : Nat)
  /-- THERMTRIP (R370). -/
  | thermtrip (die t : Nat)
  /-- PWRGD_ASSERT (R538). -/
  | pwrgdAssert (railsOk : Bool)
  /-- RESET_N_ASSERT (R539). -/
  | resetNAssert (t : Nat)
  /-- PWRGD_FALL (R539). -/
  | pwrgdFall (t : Nat)
  /-- VIN_PKG_LOSS (R542). -/
  | vinPkgLoss (t : Nat)
  /-- EID_SUPPLY_LOSS (R533). -/
  | eidSupplyLoss (eid t : Nat)
  /-- CURRENT_LOOP_RUN (R374). -/
  | currentLoopRun (eid busV storeV : Nat) (current : Int) (duty1 duty2 request : Nat) (fault : Bool) (t : Nat)
  /-- VOLTAGE_LOOP_RUN (R374). -/
  | voltageLoopRun (tapsA tapsB : List Nat) (ntcsA ntcsB : List Int) (setA setB : Int) (healthA healthB flags : Nat) (fault : Bool) (t : Nat)
  /-- THERMAL_LOOP_RUN (R368). -/
  | thermalLoopRun (junc dram die watts mj : Nat) (freqs : List Nat) (pacing : Nat) (fault : Bool) (t : Nat)
  /-- HEALTH_TEST (R374). -/
  | healthTest (eid rating esr t : Nat)
  /-- ENERGY_RECOMPUTE (R380). -/
  | energyRecompute (t : Nat)
  /-- PMBUS_POLL (R364). -/
  | pmbusPoll (converters : List (Nat × Bool × Bool)) (needMv t : Nat)
  /-- CAP_RELAX (R367). -/
  | capRelax (watts t : Nat)
  /-- LOOP_FAULT_HOLD_EXPIRE (R375). -/
  | loopFaultHoldExpire (t : Nat)
  /-- LOOP_SWAP_TIMEOUT (R376). -/
  | loopSwapTimeout (eid t : Nat)
  /-- PRECHARGE_DONE (R373). -/
  | prechargeDone (eid nodeV t : Nat)
  /-- CHARGE_DONE (R373). -/
  | chargeDone (eid t : Nat)
  /-- CONTACTOR_OPEN (R373). -/
  | contactorOpen (eid t : Nat)
  /-- PWR_CAP_WRITE (R366). -/
  | pwrCapWrite (v t : Nat)
  /-- EID_RETIRE (R378). -/
  | eidRetire (eid t : Nat)
  /-- EID_ADMIT (R378). -/
  | eidAdmit (eid t : Nat)
  /-- EXPANDER_ATTACH (R416). -/
  | expanderAttach (pool width gib : Nat) (interleaveOk : Bool) (t : Nat)
  /-- EXPANDER_REMOVAL (R418). -/
  | expanderRemoval (pool : Nat) (surprise : Bool) (t : Nat)
  /-- XPN_EVACUATE (R417). -/
  | xpnEvacuate (pool t : Nat)
  /-- XPN_CANCEL (R417). -/
  | xpnCancel (pool t : Nat)
  /-- EVACUATE_PASS_DONE (R417). -/
  | evacuatePassDone (pool t : Nat)
  /-- DRIVE_DOWN (R420). -/
  | driveDown (drive t : Nat)
  /-- DRIVE_ATTACH (R420). -/
  | driveAttach (drive nsid sizeMib : Nat) (lba4k atomic fua : Bool) (t : Nat)
  /-- ETH_FRAME_RECEIVE (R421). -/
  | ethFrameReceive (port : Nat) (bytes : List Byte) (fcsOk : Bool) (t : Nat)
  /-- P0_DONE (R448). -/
  | p0Done (pos t : Nat)
  /-- ROM_SELFTEST_DONE (R452). -/
  | romSelftestDone (iod rom t : Nat)
  /-- ELECTION_TIMEOUT (R452). -/
  | electionTimeout (t : Nat)
  /-- STAGE1_VERIFY (R453). -/
  | stage1Verify (a : ImageSig) (hashA : Nat) (b : ImageSig) (hashB : Nat) (standby : Bool) (t : Nat)
  /-- RECOVERY_IMAGE (R453). -/
  | recoveryImage (sig : ImageSig) (t : Nat)
  /-- ASSAY_DONE (R454). -/
  | assayDone (failed : List (Nat × Nat × Nat)) (dimms : List Nat) (t : Nat)
  /-- MAP_PROGRAM (R456). -/
  | mapProgram (map : List (Nat × Nat × Nat)) (t : Nat)
  /-- FIRMWARE_BROADCAST (R458). -/
  | firmwareBroadcast (a : ImageSig) (imagesA : List (Nat × Nat)) (b : ImageSig) (imagesB : List (Nat × Nat)) (loops t : Nat)
  /-- FIRMWARE_FETCH (R459). -/
  | firmwareFetch (die unit : Nat) (ok : Bool) (t : Nat)
  /-- JOURNAL_RECOVERY (R393). -/
  | journalRecovery (mbps t : Nat)
  /-- HEADFRAME_COMMIT (R470). -/
  | headframeCommit (image : List Byte) (sig : ImageSig) (t : Nat)
  /-- WEIGHT_SHARD_READ_DONE (R469). -/
  | weightShardReadDone (model shard : Nat) (ok : Bool) (t : Nat)
  /-- GET_VERSION (R432). -/
  | getVersion (t : Nat)
  /-- GET_CAPABILITIES (R432). -/
  | getCapabilities (t : Nat)
  /-- NEGOTIATE_ALGORITHMS (R432). -/
  | negotiateAlgorithms (offered : Bool) (t : Nat)
  /-- GET_DIGESTS (R432). -/
  | getDigests (t : Nat)
  /-- GET_CERTIFICATE (R432). -/
  | getCertificate (slot t : Nat)
  /-- CHALLENGE (R432). -/
  | challenge (slot t : Nat)
  /-- GET_MEASUREMENTS (R434). -/
  | getMeasurements (index : Nat) (signed : Bool) (t : Nat)
  /-- KEY_EXCHANGE (R432). -/
  | keyExchange (reqId t : Nat)
  /-- FINISH (R432). -/
  | finish (session : Nat) (ok ownerAuth : Bool) (t : Nat)
  /-- END_SESSION (R432). -/
  | endSession (session t : Nat)
  /-- HEARTBEAT (R432). -/
  | heartbeat (session t : Nat)
  /-- KEY_UPDATE (R432). -/
  | keyUpdate (session t : Nat)
  /-- SET_JOB_KEY (R436). -/
  | setJobKey (session job phase key t : Nat)
  /-- CLEAR_JOB_KEY (R436). -/
  | clearJobKey (session job phase t : Nat)
  /-- SET_CKP_KEY (R436). -/
  | setCkpKey (session key t : Nat)
  /-- OWNER_ENROL (R428). -/
  | ownerEnrol (session hash : Nat) (signed : Bool) (t : Nat)
  /-- KEY_MANIFEST (R429). -/
  | keyManifest (position : Nat) (signed : Bool) (t : Nat)
  /-- IDE_KM (R441). -/
  | ideKm (session port stream : Nat) (fns : List Nat) (active : Bool) (t : Nat)
  /-- TDISP_REQUEST (R441). -/
  | tdispRequest (fn op t : Nat)
  /-- FW_STAGE (R482). -/
  | fwStage (cls version hash : Nat) (sig : ImageSig) (t : Nat)
  /-- PLDM_PMC_REQUEST (R423). -/
  | pldmPmcRequest (sensor t : Nat)
  /-- CT_BEGIN (R474). -/
  | ctBegin (fn v t : Nat)
  /-- CT_COMMIT (R477). -/
  | ctCommit (fn v t : Nat)
  /-- CT_ABORT (R479). -/
  | ctAbort (fn v t : Nat)
  /-- CT_LOAD_PATCH (R481). -/
  | ctLoadPatch (fn v t : Nat)
  /-- CT_CMD_INVALID_OP (R474). -/
  | ctCmdInvalidOp (fn v t : Nat)
  /-- CT_STAGE_WRITE (R475). -/
  | ctStageWrite (fn addr v t : Nat)
  /-- CT_APPLY_AT_PT (R477). -/
  | ctApplyAtPt (t : Nat)
  /-- W1C_CLEAR (R514). -/
  | w1cClear (addr v t : Nat)
  /-- OBS_SNAP_GO (R510). -/
  | obsSnapGo (fn v : Nat) (list : List Byte) (t : Nat)
  /-- SNAPSHOT_WRITTEN (R511). -/
  | snapshotWritten (t : Nat)
  /-- OBS_CIC (R515). -/
  | obsCic (fn v t : Nat)
  /-- OBS_HWM_CLR (R516). -/
  | obsHwmClr (fn v t : Nat)
  /-- TFQ_HWM_READ (R321). -/
  | tfqHwmRead (port tc t : Nat)
  /-- ERR_SEL_WRITE (R517). -/
  | errSelWrite (port v t : Nat)
  /-- ERR_CLEAR (R521). -/
  | errClear (v t : Nat)
  /-- ERROR_DETECT (R518). -/
  | errorDetect (cls die blk inst code detail t : Nat)
  /-- LED_TSEL_WRITE (R501). -/
  | ledTselWrite (port v t : Nat)
  /-- LED_DUMP (R502). -/
  | ledDump (fn v t : Nat)
  /-- LED_DUMP_WRITTEN (R502). -/
  | ledDumpWritten (ok : Bool) (t : Nat)
  /-- BRU_FENCE (R484). -/
  | bruFence (v t : Nat)
  /-- BRU_FW_SWITCH (R483). -/
  | bruFwSwitch (v t : Nat)
  /-- SEC_SVN_COMMIT (R431). -/
  | secSvnCommit (t : Nat)
  /-- HIF_REBIND_GO (R412). -/
  | hifRebindGo (fn v t : Nat)
  /-- REGISTER_WRITE (R9). -/
  | registerWrite (fn : Nat) (bar2 : Bool) (addr bytes v t : Nat)
  /-- ZW_BARRIER_TIMEOUT (R217). -/
  | zwBarrierTimeout (core t : Nat)
  /-- ZW_WATCHDOG (R217). -/
  | zwWatchdog (core t : Nat)
  /-- ZW_MATRIX_DONE (R211). -/
  | zwMatrixDone (core engine t : Nat)
  /-- ZW_ADD (R212). -/
  | zwAdd (z : ZwIssue) (rd ra rb t : Nat)
  /-- ZW_SUB (R212). -/
  | zwSub (z : ZwIssue) (rd ra rb t : Nat)
  /-- ZW_AND (R212). -/
  | zwAnd (z : ZwIssue) (rd ra rb t : Nat)
  /-- ZW_OR (R212). -/
  | zwOr (z : ZwIssue) (rd ra rb t : Nat)
  /-- ZW_XOR (R212). -/
  | zwXor (z : ZwIssue) (rd ra rb t : Nat)
  /-- ZW_SHL (R212). -/
  | zwShl (z : ZwIssue) (rd ra rb t : Nat)
  /-- ZW_SHR (R212). -/
  | zwShr (z : ZwIssue) (rd ra rb t : Nat)
  /-- ZW_SAR (R212). -/
  | zwSar (z : ZwIssue) (rd ra rb t : Nat)
  /-- ZW_MUL (R212). -/
  | zwMul (z : ZwIssue) (rd ra rb t : Nat)
  /-- ZW_MIN (R212). -/
  | zwMin (z : ZwIssue) (rd ra rb t : Nat)
  /-- ZW_MAX (R212). -/
  | zwMax (z : ZwIssue) (rd ra rb t : Nat)
  /-- ZW_ADDI (R212). -/
  | zwAddi (z : ZwIssue) (rd ra imm t : Nat)
  /-- ZW_LI (R212). -/
  | zwLi (z : ZwIssue) (rd imm t : Nat)
  /-- ZW_LD (R212). -/
  | zwLd (z : ZwIssue) (rd ra imm t : Nat)
  /-- ZW_ST (R212). -/
  | zwSt (z : ZwIssue) (ra rb imm t : Nat)
  /-- ZW_CMPEQ (R212). -/
  | zwCmpeq (z : ZwIssue) (rd ra rb t : Nat)
  /-- ZW_CMPLT (R212). -/
  | zwCmplt (z : ZwIssue) (rd ra rb t : Nat)
  /-- ZW_CMPLTU (R212). -/
  | zwCmpltu (z : ZwIssue) (rd ra rb t : Nat)
  /-- ZW_BR (R213). -/
  | zwBr (z : ZwIssue) (off t : Nat)
  /-- ZW_BRP (R213). -/
  | zwBrp (z : ZwIssue) (p off t : Nat)
  /-- ZW_BRNP (R213). -/
  | zwBrnp (z : ZwIssue) (p off t : Nat)
  /-- ZW_LOOP (R213). -/
  | zwLoop (z : ZwIssue) (sr off t : Nat)
  /-- ZW_CALL (R213). -/
  | zwCall (z : ZwIssue) (off t : Nat)
  /-- ZW_RET (R213). -/
  | zwRet (z : ZwIssue) (t : Nat)
  /-- ZW_BAR (R213). -/
  | zwBar (z : ZwIssue) (off t : Nat)
  /-- ZW_HALT (R213). -/
  | zwHalt (z : ZwIssue) (t : Nat)
  /-- ZW_TZERO (R214). -/
  | zwTzero (z : ZwIssue) (e tile sA t : Nat)
  /-- ZW_MMA (R214). -/
  | zwMma (z : ZwIssue) (e tile fmtA fmtB sA sB sK t : Nat)
  /-- ZW_TOUT (R214). -/
  | zwTout (z : ZwIssue) (e tile fmtA sA sB t : Nat)
  /-- ZW_TIMG (R214). -/
  | zwTimg (z : ZwIssue) (e tile sA t : Nat)
  /-- ZW_TADD (R214). -/
  | zwTadd (z : ZwIssue) (e tile sA t : Nat)
  /-- ZW_TPRE (R214). -/
  | zwTpre (z : ZwIssue) (e fmtA sA sB sK t : Nat)
  /-- ZW_VADD (R215). -/
  | zwVadd (z : ZwIssue) (vd va vb p : Nat) (pair : Bool) (t : Nat)
  /-- ZW_VSUB (R215). -/
  | zwVsub (z : ZwIssue) (vd va vb p : Nat) (pair : Bool) (t : Nat)
  /-- ZW_VMUL (R215). -/
  | zwVmul (z : ZwIssue) (vd va vb p : Nat) (pair : Bool) (t : Nat)
  /-- ZW_VMAX (R215). -/
  | zwVmax (z : ZwIssue) (vd va vb p : Nat) (pair : Bool) (t : Nat)
  /-- ZW_VMIN (R215). -/
  | zwVmin (z : ZwIssue) (vd va vb p : Nat) (pair : Bool) (t : Nat)
  /-- ZW_VFMA (R215). -/
  | zwVfma (z : ZwIssue) (vd va vb p : Nat) (pair : Bool) (t : Nat)
  /-- ZW_VLD (R215). -/
  | zwVld (z : ZwIssue) (vd p : Nat) (pair : Bool) (sr t : Nat)
  /-- ZW_VST (R215). -/
  | zwVst (z : ZwIssue) (va p : Nat) (pair : Bool) (sr t : Nat)
  /-- ZW_VCVT (R215). -/
  | zwVcvt (z : ZwIssue) (vd va p : Nat) (pair : Bool) (fmt imm t : Nat)
  /-- ZW_VSFU (R215). -/
  | zwVsfu (z : ZwIssue) (vd va p : Nat) (pair : Bool) (imm t : Nat)
  /-- ZW_VQUANT (R215). -/
  | zwVquant (z : ZwIssue) (va : Nat) (pair : Bool) (fmt sr t : Nat)
  /-- ZW_XCOPY (R216). -/
  | zwXcopy (z : ZwIssue) (dst src len t : Nat)
  /-- ZW_XSEND (R216). -/
  | zwXsend (z : ZwIssue) (dst src len aux t : Nat)
  /-- ZW_XSTREAM (R216). -/
  | zwXstream (z : ZwIssue) (dst src len : Nat) (device : Option (Nat × List Byte)) (t : Nat)
  /-- ZW_XAPPEND (R216). -/
  | zwXappend (z : ZwIssue) (src len aux t : Nat)
  /-- ZW_XGALLERY (R216). -/
  | zwXgallery (z : ZwIssue) (dst src len pkg die t : Nat)
  /-- ZW_XFENCE (R216). -/
  | zwXfence (z : ZwIssue) (t : Nat)
  /-- ZM_ADD (R222). -/
  | zmAdd (z : ZmIssue) (rd ra rb t : Nat)
  /-- ZM_SUB (R222). -/
  | zmSub (z : ZmIssue) (rd ra rb t : Nat)
  /-- ZM_AND (R222). -/
  | zmAnd (z : ZmIssue) (rd ra rb t : Nat)
  /-- ZM_OR (R222). -/
  | zmOr (z : ZmIssue) (rd ra rb t : Nat)
  /-- ZM_XOR (R222). -/
  | zmXor (z : ZmIssue) (rd ra rb t : Nat)
  /-- ZM_SLL (R222). -/
  | zmSll (z : ZmIssue) (rd ra rb t : Nat)
  /-- ZM_SRL (R222). -/
  | zmSrl (z : ZmIssue) (rd ra rb t : Nat)
  /-- ZM_SRA (R222). -/
  | zmSra (z : ZmIssue) (rd ra rb t : Nat)
  /-- ZM_MUL (R222). -/
  | zmMul (z : ZmIssue) (rd ra rb t : Nat)
  /-- ZM_MULHU (R222). -/
  | zmMulhu (z : ZmIssue) (rd ra rb t : Nat)
  /-- ZM_SLTU (R222). -/
  | zmSltu (z : ZmIssue) (rd ra rb t : Nat)
  /-- ZM_SLT (R222). -/
  | zmSlt (z : ZmIssue) (rd ra rb t : Nat)
  /-- ZM_MINU (R222). -/
  | zmMinu (z : ZmIssue) (rd ra rb t : Nat)
  /-- ZM_MAXU (R222). -/
  | zmMaxu (z : ZmIssue) (rd ra rb t : Nat)
  /-- ZM_DIVU (R222). -/
  | zmDivu (z : ZmIssue) (rd ra rb t : Nat)
  /-- ZM_ADDI (R222). -/
  | zmAddi (z : ZmIssue) (rd ra imm t : Nat)
  /-- ZM_ANDI (R222). -/
  | zmAndi (z : ZmIssue) (rd ra imm t : Nat)
  /-- ZM_ORI (R222). -/
  | zmOri (z : ZmIssue) (rd ra imm t : Nat)
  /-- ZM_XORI (R222). -/
  | zmXori (z : ZmIssue) (rd ra imm t : Nat)
  /-- ZM_SLLI (R222). -/
  | zmSlli (z : ZmIssue) (rd ra imm t : Nat)
  /-- ZM_SRLI (R222). -/
  | zmSrli (z : ZmIssue) (rd ra imm t : Nat)
  /-- ZM_SRAI (R222). -/
  | zmSrai (z : ZmIssue) (rd ra imm t : Nat)
  /-- ZM_LUI (R222). -/
  | zmLui (z : ZmIssue) (rd imm t : Nat)
  /-- ZM_SLTIU (R222). -/
  | zmSltiu (z : ZmIssue) (rd ra imm t : Nat)
  /-- ZM_LD (R222). -/
  | zmLd (z : ZmIssue) (rd ra imm t : Nat)
  /-- ZM_ST (R222). -/
  | zmSt (z : ZmIssue) (rd ra imm t : Nat)
  /-- ZM_LDB (R222). -/
  | zmLdb (z : ZmIssue) (rd ra imm t : Nat)
  /-- ZM_STB (R222). -/
  | zmStb (z : ZmIssue) (rd ra imm t : Nat)
  /-- ZM_TLD (R222). -/
  | zmTld (z : ZmIssue) (rd ra imm t : Nat)
  /-- ZM_QPUT (R222). -/
  | zmQput (z : ZmIssue) (rd ra imm t : Nat)
  /-- ZM_QGET (R222). -/
  | zmQget (z : ZmIssue) (rd imm t : Nat)
  /-- ZM_QCNT (R222). -/
  | zmQcnt (z : ZmIssue) (rd imm t : Nat)
  /-- ZM_TNOW (R222). -/
  | zmTnow (z : ZmIssue) (rd imm t : Nat)
  /-- ZM_TSET (R222). -/
  | zmTset (z : ZmIssue) (ra imm t : Nat)
  /-- ZM_BEQ (R222). -/
  | zmBeq (z : ZmIssue) (ra rb off t : Nat)
  /-- ZM_BNE (R222). -/
  | zmBne (z : ZmIssue) (ra rb off t : Nat)
  /-- ZM_BLTU (R222). -/
  | zmBltu (z : ZmIssue) (ra rb off t : Nat)
  /-- ZM_BGEU (R222). -/
  | zmBgeu (z : ZmIssue) (ra rb off t : Nat)
  /-- ZM_BLT (R222). -/
  | zmBlt (z : ZmIssue) (ra rb off t : Nat)
  /-- ZM_BGE (R222). -/
  | zmBge (z : ZmIssue) (ra rb off t : Nat)
  /-- ZM_JAL (R222). -/
  | zmJal (z : ZmIssue) (off t : Nat)
  /-- ZM_JR (R222). -/
  | zmJr (z : ZmIssue) (ra t : Nat)
  /-- ZM_OUT (R222). -/
  | zmOut (z : ZmIssue) (ra imm t : Nat)
  /-- ZM_END (R223). -/
  | zmEnd (z : ZmIssue) (t : Nat)
  /-- ZM_TRAP (R223). -/
  | zmTrap (z : ZmIssue) (imm t : Nat)
  /-- EID_SUPPLY_RETURN (R533). -/
  | eidSupplyReturn (eid t : Nat)
  /-- VAUX_LOSS (R521). -/
  | vauxLoss (t : Nat)
  /-- DEST_PHASE_TIMEOUT (R301). -/
  | destPhaseTimeout (handle t : Nat)
  /-- HOME_UPDATE_ACK (R298). -/
  | homeUpdateAck (h : Head) (handle t : Nat)
  /-- CLOSE_NOTE_ACK (R299). -/
  | closeNoteAck (h : Head) (handle t : Nat)
  /-- CLOSE_NOTE_RETRY (R299). -/
  | closeNoteRetry (handle t : Nat)
  /-- CKP_CUT_AT_PT (R340). -/
  | ckpCutAtPt (t : Nat)
  /-- SNAPSHOT_AT_PT (R510). -/
  | snapshotAtPt (t : Nat)
  /-- PATCH_READ_DONE (R481). -/
  | patchReadDone (fn : Nat) (bytes : List Byte) (sig : ImageSig) (ok : Bool) (t : Nat)
  /-- HOT_LIST_READ_DONE (R260). -/
  | hotListReadDone (table sd : Nat) (rows : List Nat) (ok : Bool) (t : Nat)
  /-- DEBUG_UNLOCK (R446). -/
  | debugUnlock (slot : Nat) (authenticated : Bool) (t : Nat)
  /-- ETH_LINK_CHANGE (R422). -/
  | ethLinkChange (port : Nat) (up : Bool) (t : Nat)
  /-- ATT_REQ_PARTS_TIMEOUT (R179). -/
  | attReqPartsTimeout (src request t : Nat)
deriving DecidableEq, Repr

end Sys2Proof
end

