-- ==== Sys2Proof/Config.lean ====
section
/-! DEFINITION. The free values of the model: constants without a body. Nothing can evaluate one, so a statement holds
whatever it is. Each is applied to a plain counter of the state (State.draws), so every use is a value of its own.
Log entry 1. -/
namespace Sys2Proof

/-- R66: the cluster a member of a step runs on is open. -/
opaque Config.freeCluster : Nat → Nat

/-- R166: which free aligned USA starts a new run of pages is open. -/
opaque Config.freeUsa : Nat → Nat

/-- R139, R439: a random draw of the root of trust's generator (domain keys, nonces, SPDM session secrets). -/
opaque Config.random : Nat → Nat

/-- A value the spec leaves unstated where a unit goes on (each use names its rule and its log entry). -/
opaque Config.freeValue : Nat → Nat

/-- SHA-384 as a number of the bytes or numbers it covers (R32, R356, R433, R468): no rule computes with its digits. -/
opaque Config.sha384 : List Nat → Nat

/-- R342: the extents of 1 MiB in the namespace of a package's epochs, which the store fixes. -/
opaque Config.storeExtents : Nat

/-- R327: the serial number of the part. -/
opaque Config.serial : Nat

end Sys2Proof
end

