-- ==== Sys2Proof/Machine/Regs.lean ====
section
/-! DEFINITION. The registers of Package Control Space (R547 to R551): each register's block, offset, access masks and
reset value, from the field tables of its chapter; which instances a block has (R8, and the block headings of R547). -/
namespace Sys2Proof.Machine

/-- One register of Package Control Space. A bit of no mask is RO or RS, or reserved (R10, R12). -/
structure RegDesc where
  /-- block ID, address bits [27:22] -/
  blk : Nat
  /-- byte offset, address bits [15:0] -/
  off : Nat
  /-- the register exists at instance 0 only -/
  only0 : Bool
  /-- bits that software writes: RW and WORB -/
  rw : Nat
  /-- bits staged through a configuration transaction: CT -/
  ct : Nat
  /-- flags that a written 1 clears: W1C -/
  w1c : Nat
  /-- the value after reset; where R549 names a source instead (fuse, BU, HF, pool, held), 0 -/
  reset : Nat
deriving DecidableEq, Repr

/-- Registers of R547, part 0. -/
def regTable0 : List RegDesc := [
  -- PKG_PART
  ⟨0, 8, true, 0, 0, 0, 0x5dc4010b001⟩,
  -- PKG_PT
  ⟨0, 0x10, true, 0, 0, 0, 0⟩,
  -- PKG_MGMT
  ⟨0, 0x18, true, 0, 0, 0, 0⟩,
  -- ISL_SEL
  ⟨1, 0, true, 0x71f, 0, 0, 0⟩,
  -- ISL_STATUS
  ⟨1, 8, true, 0, 0, 0, 0x300000⟩,
  -- SES_CFG
  ⟨2, 0, true, 0, 0x3fff03ff1fff, 0, 0x3e800020100⟩,
  -- SES_COUNT
  ⟨2, 8, false, 0, 0, 0, 0⟩,
  -- SES_RETIRED
  ⟨2, 0x10, false, 0, 0, 0, 0⟩,
  -- SES_FLAGS
  ⟨2, 0x18, false, 0, 0, 0x1f, 0⟩,
  -- SES_FLAG_CNT
  ⟨2, 0x20, false, 0, 0, 0, 0⟩,
  -- SES_OUTBOX_POOL
  ⟨2, 0x28, false, 0xffffff000000, 0, 0, 0x1000000000⟩,
  -- SES_TIMER
  ⟨2, 0x30, false, 0, 0, 0, 0⟩,
  -- STP_CFG
  ⟨3, 0, true, 0, 0xfffffffffff7ffff, 0, 0x4000100004844000⟩,
  -- STP_ROLE0
  ⟨3, 0x10, true, 0, 0xffffffffffffffff, 0, 0⟩,
  -- STP_ROLE1
  ⟨3, 0x18, true, 0, 0xffffffffffffffff, 0, 0⟩,
  -- STP_ROLE2
  ⟨3, 0x20, true, 0, 0xffffffffffffffff, 0, 0⟩,
  -- STP_ROLE3
  ⟨3, 0x28, true, 0, 0xffffffffffffffff, 0, 0⟩,
  -- STP_S0_STEP
  ⟨3, 0x40, true, 0, 0, 0, 0⟩,
  -- STP_S1_STEP
  ⟨3, 0x48, true, 0, 0, 0, 0⟩,
  -- STP_STATE
  ⟨3, 0x50, true, 0, 0, 0, 0⟩,
  -- STP_REC_S0
  ⟨3, 0x60, true, 0, 0x1fffffffffffff, 0, 0x6000000000000⟩,
  -- STP_REC_S1
  ⟨3, 0x68, true, 0, 0x1fffffffffffff, 0, 0x6000000000000⟩,
  -- STP_REC_HEAD
  ⟨3, 0x70, true, 0, 0, 0, 0⟩,
  -- STP_FLAGS
  ⟨3, 0x78, true, 0, 0, 0xf, 0⟩]

/-- Registers of R547, part 1. -/
def regTable1 : List RegDesc := [
  -- STP_FLAG_CNT
  ⟨3, 0x80, true, 0, 0, 0, 0⟩,
  -- STP_SHIFT
  ⟨3, 0x88, true, 0, 0, 0, 0⟩,
  -- MEM_PT_ROOT
  ⟨4, 0, false, 0, 0, 0, 0⟩,
  -- MEM_POOL_SEL
  ⟨4, 8, false, 0x3ff, 0, 0, 0⟩,
  -- MEM_POOL_STAT
  ⟨4, 0x10, false, 0, 0, 0, 0⟩,
  -- MEM_POLICY
  ⟨4, 0x18, true, 0, 0x7fffffffffffff, 0, 0xa0032041003e8⟩,
  -- MEM_FLAGS
  ⟨4, 0x20, false, 0, 0, 0x1f, 0⟩,
  -- MEM_FLAG_CNT
  ⟨4, 0x28, false, 0, 0, 0, 0⟩,
  -- MEM_TSEL
  ⟨4, 0x40, true, 0xfff, 0, 0, 0⟩,
  -- MEM_TQUOTA0
  ⟨4, 0x48, true, 0, 0xffffffffff, 0, 0⟩,
  -- MEM_TQUOTA1
  ⟨4, 0x50, true, 0, 0xffffffffff, 0, 0⟩,
  -- MEM_TQUOTA2
  ⟨4, 0x58, true, 0, 0xffffffffff, 0, 0⟩,
  -- MEM_TUSE0
  ⟨4, 0x60, true, 0, 0, 0, 0⟩,
  -- MEM_TUSE1
  ⟨4, 0x68, true, 0, 0, 0, 0⟩,
  -- MEM_TUSE2
  ⟨4, 0x70, true, 0, 0, 0, 0⟩,
  -- CAGE_STAT
  ⟨5, 0, false, 0, 0, 0, 0⟩,
  -- CAGE_DONE
  ⟨5, 8, false, 0, 0, 0, 0⟩,
  -- CAGE_FLAGS
  ⟨5, 0x10, false, 0, 0, 0xf, 0⟩,
  -- CAGE_FLAG_CNT
  ⟨5, 0x18, false, 0, 0, 0, 0⟩,
  -- CAGE_CFG
  ⟨5, 0x20, true, 0, 0x1f3f, 0, 0x410⟩,
  -- PFX_CFG
  ⟨6, 0, true, 0, 0xffff0003, 0, 0x2580003⟩,
  -- PFX_TREE
  ⟨6, 8, false, 0, 0, 0, 0⟩,
  -- PFX_STAT
  ⟨6, 0x10, false, 0, 0, 0, 0⟩,
  -- PFX_MATCH
  ⟨6, 0x18, false, 0, 0, 0, 0⟩]

/-- Registers of R547, part 2. -/
def regTable2 : List RegDesc := [
  -- PFX_FLAGS
  ⟨6, 0x20, false, 0, 0, 0xf, 0⟩,
  -- PFX_FLAG_CNT
  ⟨6, 0x28, false, 0, 0, 0, 0⟩,
  -- PFX_DSEL
  ⟨6, 0x30, true, 0xff, 0, 0, 0⟩,
  -- PFX_DOMAIN
  ⟨6, 0x38, true, 0, 0, 0, 0⟩,
  -- PFX_DMEM0
  ⟨6, 0x40, true, 0, 0xffffffffffff, 0, 0⟩,
  -- PFX_DMEM1
  ⟨6, 0x48, true, 0, 0xffffffffffff, 0, 0⟩,
  -- KV_MSEL
  ⟨7, 0, true, 0xffff, 0, 0, 0⟩,
  -- KV_GEOM
  ⟨7, 8, true, 0, 0, 0, 0⟩,
  -- KV_APPEND
  ⟨7, 0x10, false, 0, 0, 0, 0⟩,
  -- KV_MAP_POOL
  ⟨7, 0x18, false, 0, 0, 0, 0⟩,
  -- KV_FLAGS
  ⟨7, 0x20, false, 0, 0, 7, 0⟩,
  -- KV_FLAG_CNT
  ⟨7, 0x28, false, 0, 0, 0, 0⟩,
  -- ATT_REMOTE_TIMEOUT
  ⟨8, 0, true, 0, 0xfffff, 0, 0x3e8⟩,
  -- ATT_STAT
  ⟨8, 8, false, 0, 0, 0, 0⟩,
  -- ATT_BYTES
  ⟨8, 0x10, false, 0, 0, 0, 0⟩,
  -- ATT_QUEUE
  ⟨8, 0x18, false, 0, 0, 0, 0⟩,
  -- ATT_FLAGS
  ⟨8, 0x20, false, 0, 0, 7, 0⟩,
  -- ATT_FLAG_CNT
  ⟨8, 0x28, false, 0, 0, 0, 0⟩,
  -- ENG_MSEL
  ⟨9, 0, true, 0xffff, 0, 0, 0⟩,
  -- ENG_MODEL
  ⟨9, 8, true, 0, 0, 0, 0⟩,
  -- ENG_FLAGS
  ⟨9, 0x10, false, 0, 0, 7, 0⟩,
  -- ENG_FLAG_CNT
  ⟨9, 0x18, false, 0, 0, 0, 0⟩,
  -- ENG_IMAGES
  ⟨9, 0x20, false, 0, 0, 0, 0⟩,
  -- CORE_SEL
  ⟨0xa, 0, false, 0x1f, 0, 0, 0⟩]

/-- Registers of R547, part 3. -/
def regTable3 : List RegDesc := [
  -- CORE_STATUS
  ⟨0xa, 8, false, 0, 0, 0, 0⟩,
  -- CORE_EXC
  ⟨0xa, 0x10, false, 0, 0, 0, 0⟩,
  -- CORE_EXC_PC
  ⟨0xa, 0x18, false, 0, 0, 0, 0⟩,
  -- CORE_CFG
  ⟨0xa, 0x20, true, 0, 0xffffffff, 0, 0x3002710⟩,
  -- CORE_FLAGS
  ⟨0xa, 0x28, false, 0, 0, 3, 0⟩,
  -- CORE_FLAG_CNT
  ⟨0xa, 0x30, false, 0, 0, 0, 0⟩,
  -- TXT_BYTES
  ⟨0xb, 0, false, 0, 0, 0, 0⟩,
  -- TXT_TOKENS
  ⟨0xb, 8, false, 0, 0, 0, 0⟩,
  -- TXT_CACHE
  ⟨0xb, 0x10, false, 0, 0, 0, 0⟩,
  -- TXT_POOL
  ⟨0xb, 0x18, false, 0, 0, 0, 0⟩,
  -- TXT_FLAGS
  ⟨0xb, 0x20, false, 0, 0, 0xf, 0⟩,
  -- TXT_FLAG_CNT
  ⟨0xb, 0x28, false, 0, 0, 0, 0⟩,
  -- SMP_SEL
  ⟨0xc, 0, false, 3, 0, 0, 0⟩,
  -- SMP_STAT
  ⟨0xc, 8, false, 0, 0, 0, 0⟩,
  -- SMP_SPEC
  ⟨0xc, 0x10, false, 0, 0, 0, 0⟩,
  -- SMP_FLAGS
  ⟨0xc, 0x18, false, 0, 0, 3, 0⟩,
  -- SMP_FLAG_CNT
  ⟨0xc, 0x20, false, 0, 0, 0, 0⟩,
  -- SMP_TABLES
  ⟨0xc, 0x28, true, 0, 0, 0, 0⟩,
  -- ROW_TSEL
  ⟨0xd, 0, true, 0xfff, 0, 0, 0⟩,
  -- ROW_TABLE
  ⟨0xd, 8, true, 0, 0, 0, 0⟩,
  -- ROW_TROWS
  ⟨0xd, 0x10, true, 0, 0, 0, 0⟩,
  -- ROW_CFG
  ⟨0xd, 0x18, true, 0, 0xffff, 0, 0x64⟩,
  -- ROW_HOT_ADDR
  ⟨0xd, 0x20, true, 0xffffffffffffffff, 0, 0, 0⟩,
  -- ROW_HOT_CNT
  ⟨0xd, 0x28, true, 0x1ffff, 0, 0, 0⟩]

/-- Registers of R547, part 4. -/
def regTable4 : List RegDesc := [
  -- ROW_SHARD
  ⟨0xd, 0x30, false, 0, 0, 0, 0⟩,
  -- ROW_HWM
  ⟨0xd, 0x38, false, 0, 0, 0, 0⟩,
  -- ROW_FLAGS
  ⟨0xd, 0x40, false, 0, 0, 3, 0⟩,
  -- ROW_FLAG_CNT
  ⟨0xd, 0x48, false, 0, 0, 0, 0⟩,
  -- ROW_ASEL
  ⟨0xd, 0x50, true, 0xffffffff, 0, 0, 0⟩,
  -- ROW_ADAPTER
  ⟨0xd, 0x58, true, 0, 0, 0, 0⟩,
  -- RCL_ISEL
  ⟨0xe, 0, true, 0xfff, 0, 0, 0⟩,
  -- RCL_INDEX
  ⟨0xe, 8, true, 0, 0, 0, 0⟩,
  -- RCL_STAT
  ⟨0xe, 0x10, false, 0, 0, 0, 0⟩,
  -- RCL_SCANNED
  ⟨0xe, 0x18, false, 0, 0, 0, 0⟩,
  -- RCL_FLAGS
  ⟨0xe, 0x20, false, 0, 0, 3, 0⟩,
  -- RCL_FLAG_CNT
  ⟨0xe, 0x28, false, 0, 0, 0, 0⟩,
  -- HOI_SEL
  ⟨0xf, 0, false, 0x1f, 0, 0, 0⟩,
  -- HOI_PROG
  ⟨0xf, 8, false, 0, 0, 0, 0⟩,
  -- HOI_DONE
  ⟨0xf, 0x10, false, 0, 0, 0, 0⟩,
  -- HOI_FAULT
  ⟨0xf, 0x18, false, 0, 0, 0, 0⟩,
  -- HOI_STAT
  ⟨0xf, 0x20, false, 0, 0, 0, 0⟩,
  -- HOI_DONE_BYTES
  ⟨0xf, 0x28, false, 0, 0, 0, 0⟩,
  -- HOI_FLAGS
  ⟨0xf, 0x30, false, 0, 0, 3, 0⟩,
  -- HOI_FLAG_CNT
  ⟨0xf, 0x38, false, 0, 0, 0, 0⟩,
  -- COD_IN
  ⟨0x10, 0, false, 0, 0, 0, 0⟩,
  -- COD_OUT
  ⟨0x10, 8, false, 0, 0, 0, 0⟩,
  -- COD_MODES
  ⟨0x10, 0x10, false, 0, 0, 0, 0⟩,
  -- COD_FLAGS
  ⟨0x10, 0x18, false, 0, 0, 1, 0⟩]

/-- Registers of R547, part 5. -/
def regTable5 : List RegDesc := [
  -- COD_FLAG_CNT
  ⟨0x10, 0x20, false, 0, 0, 0, 0⟩,
  -- MIG_CFG
  ⟨0x11, 0, true, 0, 0xffff000fffff, 0, 0x202000004e20⟩,
  -- MIG_PUSH
  ⟨0x11, 8, true, 0, 0x7fff, 0, 0⟩,
  -- MIG_STAT
  ⟨0x11, 0x10, true, 0, 0, 0, 0⟩,
  -- MIG_TIMES
  ⟨0x11, 0x18, true, 0, 0, 0, 0⟩,
  -- MIG_FLAGS
  ⟨0x11, 0x20, true, 0, 0, 0xf, 0⟩,
  -- MIG_FLAG_CNT
  ⟨0x11, 0x28, true, 0, 0, 0, 0⟩,
  -- GAL_CFG
  ⟨0x12, 0, true, 0, 0x7fffffffffffff, 0, 0xc8007d0064⟩,
  -- GAL_ID
  ⟨0x12, 8, true, 0, 0x3fff3fff00003fff, 0, 0⟩,
  -- GAL_EPOCH
  ⟨0x12, 0x10, true, 0, 0xffffffffffffffff, 0, 0⟩,
  -- GAL_PORT_SEL
  ⟨0x12, 0x18, false, 0xf, 0, 0, 0⟩,
  -- GAL_PORT_STAT
  ⟨0x12, 0x20, false, 0, 0, 0, 0⟩,
  -- GAL_PORT_ERR
  ⟨0x12, 0x28, false, 0, 0, 0, 0⟩,
  -- GAL_PEER
  ⟨0x12, 0x30, false, 0, 0, 0, 0⟩,
  -- GAL_PEER_SN
  ⟨0x12, 0x38, false, 0, 0, 0, 0⟩,
  -- GAL_RT_SEL
  ⟨0x12, 0x40, true, 0x3fff, 0, 0, 0⟩,
  -- GAL_RT
  ⟨0x12, 0x48, true, 0, 0xffff, 0, 0⟩,
  -- GAL_SYNC
  ⟨0x12, 0x50, true, 0, 0, 0, 0⟩,
  -- GAL_DROP
  ⟨0x12, 0x58, false, 0, 0, 0, 0⟩,
  -- GAL_FLAGS
  ⟨0x12, 0x60, false, 0, 0, 0x3f, 0⟩,
  -- GAL_FLAG_CNT
  ⟨0x12, 0x68, false, 0, 0, 0, 0⟩,
  -- GAL_PORT_CTL
  ⟨0x12, 0x70, false, 0, 0xffff, 0, 0xffff⟩,
  -- TFQ_WEIGHT
  ⟨0x13, 0, true, 0, 0xffffffffffffff, 0, 0x83080410204040⟩,
  -- TFQ_STRICT
  ⟨0x13, 8, true, 0, 0xffff007f, 0, 0x4000005⟩]

/-- Registers of R547, part 6. -/
def regTable6 : List RegDesc := [
  -- TFQ_SEL
  ⟨0x13, 0x10, false, 0x7f, 0, 0, 0⟩,
  -- TFQ_HWM
  ⟨0x13, 0x18, false, 0, 0, 0, 0⟩,
  -- TFQ_OCC
  ⟨0x13, 0x20, false, 0, 0, 0, 0⟩,
  -- TFQ_VTIME
  ⟨0x13, 0x28, false, 0, 0, 0, 0⟩,
  -- CKP_CFG
  ⟨0x14, 0, true, 0, 0xffffffff, 0, 0x13881410⟩,
  -- CKP_STAGE
  ⟨0x14, 8, true, 0, 0, 0, 0⟩,
  -- CKP_NS
  ⟨0x14, 0x10, true, 0, 0xffffffffffff, 0, 0⟩,
  -- CKP_EPOCH
  ⟨0x14, 0x18, true, 0, 0, 0, 0⟩,
  -- CKP_CUR
  ⟨0x14, 0x20, true, 0, 0, 0, 0⟩,
  -- CKP_STATE
  ⟨0x14, 0x28, true, 0, 0, 0, 0⟩,
  -- CKP_PROGRESS
  ⟨0x14, 0x30, true, 0, 0, 0, 0⟩,
  -- CKP_STALL
  ⟨0x14, 0x38, true, 0, 0, 0, 0⟩,
  -- CKP_FLAGS
  ⟨0x14, 0x40, true, 0, 0, 0xf, 0⟩,
  -- CKP_FLAG_CNT
  ⟨0x14, 0x48, true, 0, 0, 0, 0⟩,
  -- PWR_CAP
  ⟨0x15, 0, true, 0x7ff, 0, 0, 0x5dc⟩,
  -- PWR_STAT
  ⟨0x15, 8, true, 0, 0, 0, 0⟩,
  -- PWR_ENERGY
  ⟨0x15, 0x10, true, 0, 0, 0, 0⟩,
  -- PWR_HOLD
  ⟨0x15, 0x18, true, 0, 0xffffffffffff, 0, 0x97001f42a410⟩,
  -- PWR_PDS
  ⟨0x15, 0x20, true, 0, 0, 0, 0⟩,
  -- PWR_BUDGET
  ⟨0x15, 0x28, true, 0, 0, 0, 0⟩,
  -- PWR_JRNL
  ⟨0x15, 0x30, true, 0, 0, 0, 0⟩,
  -- PWR_DRAIN
  ⟨0x15, 0x38, true, 0, 0, 0, 0⟩,
  -- PWR_FLAGS
  ⟨0x15, 0x40, true, 0, 0, 0x3f, 0⟩,
  -- PWR_FLAG_CNT
  ⟨0x15, 0x48, true, 0, 0, 0, 0⟩]

/-- Registers of R547, part 7. -/
def regTable7 : List RegDesc := [
  -- EID_CFG
  ⟨0x16, 0, false, 0, 0xffffffffffff7f, 0, 0x5c000000000000⟩,
  -- EID_SENSE
  ⟨0x16, 8, false, 0, 0, 0, 0⟩,
  -- EID_TAP_SEL
  ⟨0x16, 0x10, false, 0x1f, 0, 0, 0⟩,
  -- EID_TAP
  ⟨0x16, 0x18, false, 0, 0, 0, 0⟩,
  -- EID_HEALTH
  ⟨0x16, 0x20, false, 0, 0, 0, 0⟩,
  -- EID_STATE
  ⟨0x16, 0x28, false, 0, 0, 0, 0⟩,
  -- EID_CTL
  ⟨0x16, 0x30, false, 3, 0, 0, 0⟩,
  -- EID_FLAGS
  ⟨0x16, 0x38, false, 0, 0, 0x1f, 0⟩,
  -- EID_FLAG_CNT
  ⟨0x16, 0x40, false, 0, 0, 0, 0⟩,
  -- HIF_CFG
  ⟨0x17, 0, true, 0, 0x7f03ff, 0, 0x64⟩,
  -- HIF_BIND_SEL
  ⟨0x17, 8, true, 0xfff007f, 0, 0, 0⟩,
  -- HIF_BIND
  ⟨0x17, 0x10, true, 0, 1, 0, 0⟩,
  -- HIF_REBIND
  ⟨0x17, 0x18, true, 0x8000003f7f7f0fff, 0, 0, 0⟩,
  -- HIF_FUNC_SEL
  ⟨0x17, 0x20, false, 0x3f, 0, 0, 0⟩,
  -- HIF_FUNC_STAT
  ⟨0x17, 0x28, false, 0, 0, 0, 4⟩,
  -- HIF_VEC
  ⟨0x17, 0x30, false, 0, 0xfff, 0, 0x20⟩,
  -- HIF_FLAGS
  ⟨0x17, 0x38, false, 0, 0, 7, 0⟩,
  -- HIF_FLAG_CNT
  ⟨0x17, 0x40, false, 0, 0, 0, 0⟩,
  -- HIF_DRV
  ⟨0x17, 0x48, false, 0, 0, 0, 0⟩,
  -- HIF_ETH
  ⟨0x17, 0x50, false, 0, 0, 0, 0⟩,
  -- XPN_DEV_SEL
  ⟨0x18, 0, false, 3, 0, 0, 0⟩,
  -- XPN_DEV
  ⟨0x18, 8, false, 0, 0, 0, 0⟩,
  -- XPN_CTL
  ⟨0x18, 0x10, false, 3, 0, 0, 0⟩,
  -- XPN_EVAC
  ⟨0x18, 0x18, false, 0, 0, 0, 0⟩]

/-- Registers of R547, part 8. -/
def regTable8 : List RegDesc := [
  -- XPN_FLAGS
  ⟨0x18, 0x20, false, 0, 0, 3, 0⟩,
  -- XPN_FLAG_CNT
  ⟨0x18, 0x28, false, 0, 0, 0, 0⟩,
  -- SEC_MODE
  ⟨0x19, 0, true, 2, 0, 0, 0⟩,
  -- SEC_SVN
  ⟨0x19, 8, true, 0x8000000000000000, 0, 0, 0⟩,
  -- SEC_KEYS
  ⟨0x19, 0x10, true, 0, 0, 0, 0⟩,
  -- SEC_JSEL
  ⟨0x19, 0x18, true, 0x3f, 0, 0, 0⟩,
  -- SEC_JOB
  ⟨0x19, 0x20, true, 0, 0x100000, 0, 0⟩,
  -- SEC_JSEQ
  ⟨0x19, 0x28, true, 0, 0, 0, 0⟩,
  -- SEC_FLAGS
  ⟨0x19, 0x30, true, 0, 0, 0xf, 0⟩,
  -- SEC_FLAG_CNT
  ⟨0x19, 0x38, true, 0, 0, 0, 0⟩,
  -- BRU_STATE
  ⟨0x1a, 0, true, 0, 0, 0, 0⟩,
  -- BRU_ASSAY
  ⟨0x1a, 8, true, 0, 0, 0, 0⟩,
  -- BRU_DMAP_SEL
  ⟨0x1a, 0x10, true, 0x1f, 0, 0, 0⟩,
  -- BRU_DMAP
  ⟨0x1a, 0x18, true, 0, 0, 0, 0⟩,
  -- BRU_FENCE
  ⟨0x1a, 0x20, true, 0x800000000000001f, 0, 0, 0⟩,
  -- BRU_DIES
  ⟨0x1a, 0x28, true, 0, 0, 0, 0⟩,
  -- BRU_FW_SEL
  ⟨0x1a, 0x30, true, 3, 0, 0, 0⟩,
  -- BRU_FW
  ⟨0x1a, 0x38, true, 0, 0, 0, 0⟩,
  -- BRU_FW_CMD
  ⟨0x1a, 0x40, true, 0x103, 0, 0, 0⟩,
  -- BRU_FLAGS
  ⟨0x1a, 0x48, true, 0, 0, 0xf, 0⟩,
  -- BRU_FLAG_CNT
  ⟨0x1a, 0x50, true, 0, 0, 0, 0⟩,
  -- CT_CMD
  ⟨0x1b, 0, true, 0x10fff0037, 0, 0, 0⟩,
  -- CT_PT
  ⟨0x1b, 8, true, 0xffffffffffffffff, 0, 0, 0⟩,
  -- CT_RESULT
  ⟨0x1b, 0x10, true, 0, 0, 0, 0⟩]

/-- Registers of R547, part 9. -/
def regTable9 : List RegDesc := [
  -- CT_SEL
  ⟨0x1b, 0x18, true, 0xfff0003, 0, 0, 0⟩,
  -- CT_STATUS
  ⟨0x1b, 0x20, true, 0, 0, 0, 0⟩,
  -- CT_FAIL_ADDR
  ⟨0x1b, 0x28, true, 0, 0, 0, 0⟩,
  -- CT_STEP_S0
  ⟨0x1b, 0x30, true, 0, 0, 0, 0⟩,
  -- CT_STEP_S1
  ⟨0x1b, 0x38, true, 0, 0, 0, 0⟩,
  -- CT_PATCH_ADDR
  ⟨0x1b, 0x40, true, 0xffffffffffffffff, 0, 0, 0⟩,
  -- CT_PATCH_LEN
  ⟨0x1b, 0x48, true, 0xffffffff, 0, 0, 0⟩,
  -- CT_VIEW
  ⟨0x1b, 0x50, true, 1, 0, 0, 0⟩,
  -- CT_FLAGS
  ⟨0x1b, 0x58, true, 0, 0, 7, 0⟩,
  -- CT_FLAG_CNT
  ⟨0x1b, 0x60, true, 0, 0, 0, 0⟩,
  -- LED_TSEL
  ⟨0x1c, 0, true, 0xfff, 0, 0, 0⟩,
  -- LED_ROW
  ⟨0x1c, 8, true, 0, 0, 0, 0⟩,
  -- LED_POSTED_S0
  ⟨0x1c, 0x10, true, 0, 0, 0, 0⟩,
  -- LED_POSTED_S1
  ⟨0x1c, 0x18, true, 0, 0, 0, 0⟩,
  -- LED_TLIM
  ⟨0x1c, 0x20, true, 0, 0xffff7fff7fffff, 0, 0⟩,
  -- LED_BUDGET
  ⟨0x1c, 0x28, true, 0, 0xffffffffffffffff, 0, 0⟩,
  -- LED_USED
  ⟨0x1c, 0x30, true, 0, 0, 0, 0⟩,
  -- LED_RATE
  ⟨0x1c, 0x38, true, 0, 0x7fffffffffffff, 0, 0⟩,
  -- LED_CFG
  ⟨0x1c, 0x40, true, 0, 0x7f, 0, 0x32⟩,
  -- LED_DUMP_ADDR
  ⟨0x1c, 0x48, true, 0xfffffffffffff000, 0, 0, 0⟩,
  -- LED_DUMP
  ⟨0x1c, 0x50, true, 1, 0, 0, 0⟩,
  -- LED_FLAGS
  ⟨0x1c, 0x58, true, 0, 0, 7, 0⟩,
  -- LED_FLAG_CNT
  ⟨0x1c, 0x60, true, 0, 0, 0, 0⟩,
  -- OBS_SNAP_BLOCKS
  ⟨0x1d, 0, true, 0xffffffff, 0, 0, 0⟩]

/-- Registers of R547, part 10. -/
def regTable10 : List RegDesc := [
  -- OBS_SNAP_ADDR
  ⟨0x1d, 8, true, 0xfffffffffffff000, 0, 0, 0⟩,
  -- OBS_SNAP_LEN
  ⟨0x1d, 0x10, true, 0xffffffff, 0, 0, 0⟩,
  -- OBS_SNAP_LIST
  ⟨0x1d, 0x18, true, 0xffffffffffffffc0, 0, 0, 0⟩,
  -- OBS_SNAP_CTL
  ⟨0x1d, 0x20, true, 0x1ff, 0, 0, 0⟩,
  -- OBS_SNAP_STEP
  ⟨0x1d, 0x28, true, 0, 0, 0, 0⟩,
  -- OBS_SNAP_PT
  ⟨0x1d, 0x30, true, 0xffffffffffffffff, 0, 0, 0⟩,
  -- OBS_CIC
  ⟨0x1d, 0x38, true, 0x8000ff3f0fffffff, 0, 0, 0⟩,
  -- OBS_CIC_RESULT
  ⟨0x1d, 0x40, true, 0, 0, 0, 0⟩,
  -- OBS_HWM_CLR
  ⟨0x1d, 0x48, true, 0xfffffff, 0, 0, 0⟩,
  -- OBS_FLAGS
  ⟨0x1d, 0x50, true, 0, 0, 3, 0⟩,
  -- OBS_FLAG_CNT
  ⟨0x1d, 0x58, true, 0, 0, 0, 0⟩,
  -- ERR_HEAD
  ⟨0x1e, 0, true, 0, 0, 0, 0⟩,
  -- ERR_SEL
  ⟨0x1e, 8, true, 0xfff, 0, 0, 0⟩,
  -- ERR_ENTRY0
  ⟨0x1e, 0x10, true, 0, 0, 0, 0⟩,
  -- ERR_ENTRY1
  ⟨0x1e, 0x18, true, 0, 0, 0, 0⟩,
  -- ERR_ENTRY2
  ⟨0x1e, 0x20, true, 0, 0, 0, 0⟩,
  -- ERR_ENTRY3
  ⟨0x1e, 0x28, true, 0, 0, 0, 0⟩,
  -- ERR_CFG
  ⟨0x1e, 0x30, true, 0, 0xffff, 0, 0x3e8⟩,
  -- ERR_COUNT
  ⟨0x1e, 0x38, true, 0, 0, 0, 0⟩,
  -- ERR_FLAGS
  ⟨0x1e, 0x40, true, 0, 0, 0xf, 0⟩,
  -- ERR_FLAG_CNT
  ⟨0x1e, 0x48, true, 0, 0, 0, 0⟩,
  -- ERR_CLEAR
  ⟨0x1e, 0x50, true, 1, 0, 0, 0⟩,
  -- ZYM_SEL
  ⟨0x1f, 0, false, 0xf, 0, 0, 0⟩,
  -- ZYM_STATUS
  ⟨0x1f, 8, false, 0, 0, 0, 0⟩]

/-- Registers of R547, part 11. -/
def regTable11 : List RegDesc := [
  -- ZYM_FAULT
  ⟨0x1f, 0x10, false, 0, 0, 0, 0⟩,
  -- ZYM_FLAGS
  ⟨0x1f, 0x18, false, 0, 0, 3, 0⟩,
  -- ZYM_FLAG_CNT
  ⟨0x1f, 0x20, false, 0, 0, 0, 0⟩]

/-- LED_CTR_LO i and LED_CTR_HI i, i = 0 to 15 (R490, R500): RS. -/
def regTableCtr : List RegDesc :=
  (List.range 32).map fun i => ⟨0x1c, 0x100 + 8 * i, true, 0, 0, 0, 0⟩

/-- Every register of Package Control Space (R547). -/
def regTable : List RegDesc := regTable0 ++ regTable1 ++ regTable2 ++ regTable3 ++ regTable4 ++ regTable5 ++ regTable6 ++ regTable7 ++ regTable8 ++ regTable9 ++ regTable10 ++ regTable11 ++ regTableCtr

/-- A PCS address: block ID in [27:22], instance in [21:16], byte offset in [15:0] (R8). -/
def pcs (blk inst off : Nat) : Nat := blk * 2 ^ 22 + inst * 2 ^ 16 + off

/-- Whether a block has an instance on the fitted part: compute-die blocks 0 to 15, state-die blocks 0 to 11, I/O-die
blocks and EID 0 and 1, package-wide blocks 0; ATT, HOI and ZYM by kind of die (R8, R547). `cds` is the number of
logical compute dies: CD15 and its ZYM instance 47 are absent where it is 15 (R4). -/
def instExists (cds blk inst : Nat) : Bool :=
  if blk ∈ [0x02, 0x04, 0x05, 0x06, 0x07, 0x0b, 0x0d, 0x0e, 0x10] then inst < 12
  else if blk ∈ [0x09, 0x0a, 0x0c] then inst < 16 && inst < cds
  else if blk ∈ [0x12, 0x13, 0x16, 0x17, 0x18] then inst < 2
  else if blk ∈ [0x08, 0x0f] then inst < 12 || inst == 16 || inst == 17
  else if blk == 0x1f then inst < 12 || inst == 16 || inst == 17 || (32 ≤ inst && inst < 32 + cds && inst < 48)
  else inst == 0

/-- The register at a PCS address, where one exists (R4, R11, R547). -/
def regAt (cds addr : Nat) : Option RegDesc :=
  let blk := addr / 2 ^ 22
  let inst := addr / 2 ^ 16 % 64
  let off := addr % 2 ^ 16
  if instExists cds blk inst then
    regTable.find? fun r => r.blk == blk && r.off == off && (!r.only0 || inst == 0)
  else none

/-- The value after reset of the register at an address (R549); 0 where no register is (R11). -/
def resetReg (addr : Nat) : Nat :=
  match regTable.find? fun r => r.blk == addr / 2 ^ 22 && r.off == addr % 2 ^ 16 with
  | some r => if r.only0 && addr / 2 ^ 16 % 64 != 0 then 0 else r.reset
  | none => 0

end Sys2Proof.Machine
end

