-- ==== Sys2Proof/Machine/StateBringup.lean ====
section
/-! DEFINITION. Bring-up, firmware, the headframe's raw content and configuration transactions (chapter 17). -/
namespace Sys2Proof.Machine

/-- The scope of a configuration transaction (R473). -/
inductive CtScope where
  | package | tenant (n : Nat) | role | fabric
deriving DecidableEq, Repr

/-- An item of a headframe image or patch (R461): its section type, the image byte offset of its header, its item type
and its body. -/
structure HfItem where
  section_ : Nat
  offset : Nat
  item : Nat
  body : List Byte
deriving DecidableEq, Repr

/-- A configuration transaction (R473 to R481). -/
structure CtTxn where
  scope : CtScope
  owner : Nat
  /-- CT_STATUS.STATE -/
  state : Nat
  /-- staged values: key PCS address + 2^28 × selector (R335, R447); the value, and the image offset of the item that
  staged it, where an item did (R467) -/
  shadows : List (Nat × Nat × Option Nat)
  /-- staged items of images other than REG -/
  items : List HfItem
  /-- a FULL image is staged (R471) -/
  full : Bool
  /-- images staged, in order: digest and BASE_HASH (R468) -/
  images : List (Nat × Nat)
  /-- the host read of a patch is in progress (R481) -/
  loading : Bool
  overflow : Bool
  overflowAddr : Nat
  status : Nat
  failAddr : Nat
  stepS0 : Nat
  stepS1 : Nat
  stamp : Nat
  applyPt : Option Nat
deriving DecidableEq, Repr

/-- A unit out of service (R457): die index, unit kind (0 core, 1 cluster, 2 pseudo-channel, 3 Gallery port, 4 DDR5
channel, 5 the die itself), physical index, cause (0 fuse, 1 assay, 2 MAP, 3 fence). -/
structure Defect where
  die : Nat
  kind : Nat
  index : Nat
  cause : Nat
deriving DecidableEq, Repr

/-- A firmware class (R458, R482): versions and security versions of the running, the previous and the staged image,
their digests; whether a switch is armed. -/
structure FwClass where
  runVersion : Nat
  runSvn : Nat
  runHash : Nat
  prevVersion : Nat
  prevSvn : Nat
  prevHash : Nat
  stagedVersion : Nat
  stagedSvn : Nat
  stagedKey : Nat
  stagedHash : Nat
  armed : Bool
deriving DecidableEq, Repr

/-- A weight shard (R469): model instance, shard, SD, storage target, NSID, offset, bytes; read errors so far; loaded. -/
structure Shard where
  model : Nat
  shard : Nat
  sd : Nat
  target : Nat
  nsid : Nat
  offset : Nat
  bytes : Nat
  errors : Nat
  loaded : Bool
deriving DecidableEq, Repr

/-- Bring-up. -/
structure Boot where
  /-- pins: PWRGD and RESET_N high; PKG_PGOOD and THERMTRIP_N driven; BOARD_POS contacts -/
  pwrgd : Bool
  resetN : Bool
  pkgPgood : Bool
  thermtripN : Bool
  pfAlertN : Bool
  /-- VIN_PKG has been removed since the last assertion of PWRGD (R543) -/
  vinOut : Bool
  /-- causes of the last stop, for FE entries at bring-up (R521): code, detail -/
  causes : List (Nat × Nat)
  /-- BRU_STATE.PHASE -/
  phase : Nat
  ready : Bool
  /-- the package has halted; the code on the UART -/
  halted : Bool
  uart : Nat
  /-- BRU_STATE.HF -/
  hf : Nat
  hfHash : Nat
  readyMs : Nat
  leader : Option Nat
  /-- IODs whose boot ROM has passed its self-test (R452) -/
  romPassed : List Nat
  standbyOk : Bool
  /-- boot flash directory (R451): current copies of stage-1 and firmware bundle (false A, true B), headframe bytes -/
  stage1Copy : Bool
  bundleCopy : Bool
  headframe : List Byte
  defects : List Defect
  /-- dies fenced or out of service (BRU_DIES) -/
  diesOut : List Nat
  /-- logical clusters out of service with their CD in service (R472, R484) -/
  clustersOut : List Nat
  /-- logical-to-physical maps (R456): cores by cluster, clusters by CD, CDs -/
  coreMap : List (Nat × List Nat)
  clusterMap : List (Nat × List Nat)
  cdMap : List Nat
  /-- MiB of the DIMMs of T1 channel 8 × IOD + channel as trained, 0 where training failed (R454, R455) -/
  dimms : List Nat
  /-- T1 channels unused: 8 × IOD + channel (R455) -/
  ddrUnused : List Nat
  /-- capacity of the T1 pools in MiB by IOD (R97) -/
  t1Mib : List (Nat × Nat)
  firmware : List (Nat × FwClass)
  /-- fetches a recipient has made, by die × 64 + unit (R459) -/
  fetches : List (Nat × Nat)
  shards : List Shard
  /-- values of committed PARAM items: key, value (R465, R466, R489) -/
  params : List (Nat × Nat)
  /-- committed BLOBs by KIND × 65,536 + ID: SD and content (R461) -/
  blobs : List (Nat × Nat × List Byte)
  /-- table slices by owner SD: the SD that serves it, and the SD that mirrors it (R486) -/
  slices : List (Nat × Nat × Nat)
deriving DecidableEq, Repr

/-- A firmware class with no image. -/
def FwClass.none : FwClass :=
  { runVersion := 0, runSvn := 0, runHash := 0, prevVersion := 0, prevSvn := 0, prevHash := 0, stagedVersion := 0,
    stagedSvn := 0, stagedKey := 0, stagedHash := 0, armed := false }

/-- Bring-up right after reset: before PWRGD is seen high. -/
def Boot.reset : Boot :=
  { pwrgd := false, resetN := false, pkgPgood := false, thermtripN := true, pfAlertN := true, vinOut := false, causes := [],
    phase := 0, ready := false, halted := false, uart := 0, hf := 0, hfHash := 0, readyMs := 0, leader := none, romPassed := [],
    standbyOk := false, stage1Copy := false, bundleCopy := false, headframe := [], defects := [], diesOut := [], clustersOut := [],
    coreMap := [], clusterMap := [], cdMap := [], dimms := [], ddrUnused := [], t1Mib := [], firmware := [], fetches := [], shards := [],
    params := [], blobs := [], slices := [] }

end Sys2Proof.Machine
end

