-- ==== Sys2Proof/Machine/StateGallery.lean ====
section
/-! DEFINITION. The Gallery (chapter 12), hoist channels and codec (chapter 11) and migrations. -/
namespace Sys2Proof.Machine

/-- A packet in an egress queue, with its ingress stamp at the egress island (R319). -/
structure Queued where
  packet : Packet
  stamp : Nat
deriving DecidableEq, Repr

/-- States of a Gallery port (R309, GAL_PORT_STAT.STATE). -/
inductive PortState where
  | down | training | rollCall | up | fenced
deriving DecidableEq, Repr

/-- A Gallery port. -/
structure GalPort where
  state : PortState
  lanes : Nat
  trainings : Nat
  upSince : Nat
  corrected : Nat
  replays : Nat
  /-- a disabled port drains until this PT (R309) -/
  draining : Option Nat
  /-- the last accepted roll call (R328, GAL_PEER) -/
  peerPkg : Nat
  peerPos : Nat
  peerPort : Nat
  peerSerial : Nat
  peerHash : Nat
  hashMatch : Bool
  epochMatch : Bool
  missed : Nat
  /-- next link sequence to send, first one not acknowledged, times the flit there has been replayed (R307, R308) -/
  txSeq : Nat
  acked : Nat
  tries : Nat
  /-- next link sequence expected from the peer -/
  rxSeq : Nat
  /-- credits in flits by traffic class (R320) -/
  credits : List Nat
  /-- tokens of the strict bucket in units of 1/409,600 flit, as of a stamp (R318) -/
  tokens : Nat
  tokensAt : Nat
  /-- virtual time and finish tags by 256 × TC + flow queue (R319) -/
  vtime : Nat
  finish : List (Nat × Nat)
  /-- queued packets by traffic class, oldest first -/
  queues : List (Nat × List Queued)
  /-- high-water marks by traffic class: packets, ns (R321) -/
  occHwm : List (Nat × Nat)
  resHwm : List (Nat × Nat)
deriving DecidableEq, Repr

/-- A port right after reset: DOWN. -/
def GalPort.reset : GalPort :=
  { state := .down, lanes := 0, trainings := 0, upSince := 0, corrected := 0, replays := 0, draining := none,
    peerPkg := 0, peerPos := 0, peerPort := 0, peerSerial := 0, peerHash := 0, hashMatch := false, epochMatch := false,
    missed := 0, txSeq := 0, acked := 0, tries := 0, rxSeq := 0, credits := [0, 0, 0, 0, 0, 0, 0, 0], tokens := 0,
    tokensAt := 0, vtime := 0, finish := [], queues := [], occHwm := [], resHwm := [] }

/-- The fabric of the package. -/
structure Gallery where
  ports : List (Nat × GalPort)
  /-- packets handed to the on-package network and not yet at an egress queue -/
  sending : List Packet
  /-- port masks by destination package (R322) -/
  routes : List (Nat × Nat)
  /-- members of the model group now, and under the epoch before the last switch (R330, R331) -/
  members : List Nat
  membersBefore : List Nat
  /-- PT of the last epoch switch -/
  epochSwitch : Nat
  /-- board peers' package IDs by mesh port (R326) -/
  boardPeers : List (Nat × Nat)
  /-- fixed asymmetry corrections by port in ns (R333) -/
  asymmetry : List (Nat × Int)
  /-- the model group may form no step until a placement without a lost package commits (R360) -/
  shrinking : Bool
  /-- packages that have left the group since (R296, R360) -/
  lost : List Nat
  /-- SYNC intervals without a reply; exchanges in a row within ±5 ns; the PT of the first step has been set (R333) -/
  syncMissed : Nat
  syncGood : Nat
  synced : Bool
  /-- messages received whose data count is not met, and counts of data packets accepted, by source package and
  identity (R314) -/
  dataCounts : List (Nat × Nat)
  held : List (Nat × Nat × Nat)
  /-- segments sent and not acknowledged: source die × 2^32 + channel × 2^16..., with the stamp of the last send (R315) -/
  unacked : List (Nat × Packet × Nat)
  /-- segments written for others' copies: source package, tag, segment index -/
  received : List (Nat × Nat × Nat)
  /-- homes of sessions whose shards this package holds (R300) -/
  homes : List (Nat × Nat)
  /-- CLOSE_NOTEs not yet acknowledged, by handle, with the stamp of the last one sent (R299) -/
  closeNotes : List (Nat × Nat)
  /-- next request ID of requests to other packages -/
  request : Nat
  /-- management messages received: type, bytes (R316) -/
  mgmt : List (Nat × List Byte)
  /-- KERNEL_DATA and other received data by destination die: address in its SRAM, bytes -/
  inbox : List (Nat × Nat × List Byte)
deriving DecidableEq, Repr

/-- The fabric right after reset. -/
def Gallery.reset : Gallery :=
  { ports := [], sending := [], routes := [], members := [], membersBefore := [], epochSwitch := 0, boardPeers := [],
    asymmetry := [], shrinking := false, lost := [], syncMissed := 0, syncGood := 0, synced := false, dataCounts := [],
    held := [], unacked := [], received := [], homes := [], closeNotes := [], request := 0, mgmt := [], inbox := [] }

/-- Phases of a migration at its source (R292). -/
inductive MigPhase where
  | prepare | copy | freeze | handover
  /-- a push in progress: PREPARE sent, then attached (R302) -/
  | pushPrepare | push
deriving DecidableEq, Repr

/-- The migration record at the source's table SD (R291). -/
structure Migration where
  frame : Option Frame
  dest : Nat
  homeSd : Nat
  tier : Nat
  function : Nat
  queue : Nat
  phase : MigPhase
  state : SState
  wait : WaitReason
  moveSeq : Nat
  /-- PT of the last message sent -/
  since : Nat
  freezeAt : Nat
  /-- HOME_UPDATE or CLOSE_NOTE still to be acknowledged -/
  repeated : Bool
  /-- data packets sent (R314) -/
  sent : Nat
  /-- pages whose staged copies the destination has attached (R304) -/
  attached : List (Nat × Nat)
deriving DecidableEq, Repr

/-- A reservation at a destination (R292): source, local slot, whether a guest-map entry was made; the pages by
layer-group and page index; staged pages of a push not attached: step, layer-group, index, bytes (R303). -/
structure Incoming where
  src : Nat
  slot : Nat
  homeSd : Nat
  tenant : Nat
  model : Nat
  moveSeq : Nat
  function : Nat
  queue : Nat
  metaUsa : Nat
  textPages : Nat
  pages : List (Nat × Nat × Nat)
  staged : List (Nat × Nat × List Byte)
  attached : List (Nat × Nat)
  accepted : Nat
  lastMsg : Nat
  push : Bool
  /-- a HANDOVER held until the package's cut seal or its data count (R314, R346) -/
  held : Option (Session × Nat)
deriving DecidableEq, Repr

/-- A guest-map entry (R294). -/
structure Guest where
  slot : Nat
  gen : Nat
  stub : Bool
deriving DecidableEq, Repr

/-- A hoist channel and its progress record (R282). -/
structure Channel where
  desc : Option Descriptor
  done : Nat
  nextSeg : Nat
  state : Nat
  status : Nat
  faultAddr : Nat
  /-- USA pages pinned, and windows pinned as function and index (R280) -/
  pins : List Nat
  windows : List (Nat × Nat)
  /-- segments that MARK records for a second copy -/
  marked : List Nat
  /-- segments that a micro-program has given and that are not yet moved: source and destination offsets in 4 KiB
  (R224) -/
  order : List (Nat × Nat)
deriving DecidableEq, Repr

/-- An idle channel. -/
def Channel.reset : Channel :=
  { desc := none, done := 0, nextSeg := 0, state := 0, status := 0, faultAddr := 0, pins := [], windows := [],
    marked := [], order := [] }

end Sys2Proof.Machine
end

