-- ==== Sys2Proof/Machine/StateHeadframe.lean ====
section
/-! DEFINITION. What a committed headframe gives the package to run sessions by (chapters 06, 07, 09; R465): model
instances, vocabularies, sequence lists and sampler profiles. -/
namespace Sys2Proof.Machine

/-- One piece of a vocabulary (R229). -/
structure Piece where
  score : Int
  bytes : List Byte
  special : Bool
deriving DecidableEq, Repr

/-- A vocabulary image (R228): pieces by token ID, the first byte-fallback ID and the score of those edges. -/
structure Vocab where
  pieces : List Piece
  maxPiece : Nat
  byteBase : Nat
  byteScore : Int
deriving DecidableEq, Repr

/-- One entry of a sequence list (R243). -/
structure SeqEntry where
  partA : List Nat
  partB : List Nat
deriving DecidableEq, Repr

/-- A sequence-list image (R242): KIND 0 BAN, 1 FORCE, 2 PARK, 3 STOP. -/
structure SeqList where
  kind : Nat
  vocabPieces : Nat
  entries : List SeqEntry
deriving DecidableEq, Repr

/-- A sampler profile (R249); FP32 fields as codes. -/
structure Profile where
  temperature : Nat
  topP : Nat
  minP : Nat
  repPenalty : Nat
  presence : Nat
  frequency : Nat
  topK : Nat
  penaltyWindow : Nat
  hookId : Nat
  drafts : Nat
  maxNew : Nat
  hookArgs : List Nat
deriving DecidableEq, Repr

/-- A committed model instance (R152, R465). -/
structure Model where
  layers : Nat
  dModel : Nat
  qHeads : Nat
  kvHeads : Nat
  headDim : Nat
  contextLimit : Nat
  kvFormat : Nat
  kvPageClass : Nat
  groupHeads : Nat
  spanPages : Nat
  rotaryDims : Nat
  ropePairing : Nat
  ropeTurns : List Nat
  smoothExp : List Nat
  softmaxScale : Nat
  window : List Nat
  /-- EXACT mode of the weights (R204) -/
  exact : Nat
  formats : List Nat
  draftHead : Bool
  experts : Nat
  topK : Nat
  sharedExperts : Nat
  vocab : Vocab
  defaultLists : List Nat
  /-- layer-groups held on other packages: index and package (R177) -/
  remoteGroups : List (Nat × Nat)
  /-- experts held on other packages (R81) -/
  remoteExperts : List (Nat × Nat)
  /-- fields of the MODEL section no rule of another chapter reads, by PARAM_ID (R465) -/
  params : List (Nat × Nat)
deriving DecidableEq, Repr

end Sys2Proof.Machine
end

