-- ==== Sys2Proof/Machine/StateHost.lean ====
section
/-! DEFINITION. The host side (chapter 15): queues and rings of a function, windows, completions, expanders, drain drives
and Ethernet ports; and what leaves the package. -/
namespace Sys2Proof.Machine

/-- A frame fetched and not yet completed (R399): the frame, its fetch stamp, whether it waits at the port for
NOT_BEFORE (R403). -/
structure InFlight where
  frame : Frame
  stamp : Nat
  timed : Bool
deriving DecidableEq, Repr

/-- A dispatch queue (R398, R399). -/
structure DispatchQueue where
  base : Nat
  log2 : Nat
  rq : Nat
  enabled : Bool
  fault : Bool
  headAddr : Nat
  head : Nat
  tail : Nat
  /-- frames fetched since the queue was enabled -/
  fetched : Nat
  inFlight : List InFlight
  /-- a disable drains until this PT (R411) -/
  draining : Option Nat
deriving DecidableEq, Repr

/-- A result queue (R398, R405, R406). -/
structure ResultQueue where
  base : Nat
  log2 : Nat
  vector : Nat
  modCount : Nat
  modUs : Nat
  enabled : Bool
  head : Nat
  tail : Nat
  phase : Bool
  /-- PT from which MOD_US runs: the oldest pending record, or the last write of RQ_HEAD -/
  since : Nat
  /-- completions that wait for room (R407), oldest first: record, NOTIFY -/
  waiting : List (Record × Bool)
deriving DecidableEq, Repr

/-- The text ring of a function (R410). -/
structure TextRing where
  base : Nat
  log2 : Nat
  enabled : Bool
  head : Nat
  tail : Nat
deriving DecidableEq, Repr

/-- A DMA window (R404); `pins` are the pinned descriptors that use it, and `held` a write of base and length that
waits for the unpin. -/
structure Window where
  base : Nat
  len : Nat
  pins : Nat
  held : Option (Nat × Nat)
deriving DecidableEq, Repr

/-- HIF_FUNC_STAT.STATE (R395, R411, R413). -/
inductive FnState where
  | reset | enabled | draining | resetting | absent
deriving DecidableEq, Repr

/-- A host function (R395, R398). -/
structure HostFn where
  state : FnState
  /-- instant at which a drain of the function ends (R411, R413) -/
  drainEnd : Nat
  /-- the reset in progress leaves the function absent: a VF disable, or a lost link (R413, R414) -/
  gone : Bool
  dqs : List (Nat × DispatchQueue)
  rqs : List (Nat × ResultQueue)
  text : TextRing
  windows : List (Nat × Window)
  /-- MSI-X table entries written by software: 16 bytes a vector, as two words -/
  msix : List (Nat × Nat)
  /-- MSI-X pending bits: vectors raised -/
  pendingVectors : List Nat
  /-- MSI-X table size (HIF_VEC) -/
  vectors : Nat
deriving DecidableEq, Repr

/-- A T2 expander (R416, XPN_DEV): state code, width code, capacity. -/
structure Expander where
  state : Nat
  width : Nat
  capacity : Nat
deriving DecidableEq, Repr

/-- A drain drive (HIF_DRV): state code and namespace; its size in 1 MiB units. -/
structure Drive where
  state : Nat
  nsid : Nat
  sizeMib : Nat
deriving DecidableEq, Repr

/-- An Ethernet port (HIF_ETH; R421, R422): counts of discarded frames; its addresses and VLAN from the headframe FABRIC
section; frames handed to the RoCEv2 transport and to the IEEE 1588 clock. -/
structure EthPort where
  link : Bool
  runts : Nat
  oversize : Nat
  badFcs : Nat
  mac : Nat
  ipv4 : Nat
  ipv6 : Nat
  vlan : Nat
  rdma : List (List Byte)
  ptp : List (List Byte)
deriving DecidableEq, Repr

/-- A dispatch queue in its reset state. -/
def DispatchQueue.reset : DispatchQueue :=
  { base := 0, log2 := 0, rq := 0, enabled := false, fault := false, headAddr := 0, head := 0, tail := 0, fetched := 0,
    inFlight := [], draining := none }

/-- A result queue in its reset state (MOD_COUNT resets to 1). -/
def ResultQueue.reset : ResultQueue :=
  { base := 0, log2 := 0, vector := 0, modCount := 1, modUs := 0, enabled := false, head := 0, tail := 0, phase := true,
    since := 0, waiting := [] }

/-- A text ring in its reset state. -/
def TextRing.reset : TextRing := { base := 0, log2 := 0, enabled := false, head := 0, tail := 0 }

/-- An Ethernet port right after reset. -/
def EthPort.reset : EthPort :=
  { link := false, runts := 0, oversize := 0, badFcs := 0, mac := 0, ipv4 := 0, ipv6 := 0, vlan := 0, rdma := [], ptp := [] }

/-- A function that is absent: HIF_FUNC_STAT resets to 4. -/
def HostFn.absent : HostFn :=
  { state := .absent, drainEnd := 0, gone := false, dqs := [], rqs := [], text := TextRing.reset, windows := [], msix := [],
    pendingVectors := [], vectors := 32 }

end Sys2Proof.Machine
end

