-- ==== Sys2Proof/Machine/StateObs.lean ====
section
/-! DEFINITION. Readback and error handling (chapter 19): the error log. -/
namespace Sys2Proof.Machine

/-- An entry of the error log (R517). -/
structure ErrEntry where
  pt : Nat
  seq : Nat
  cls : Nat
  die : Nat
  blk : Nat
  inst : Nat
  code : Nat
  repeats : Nat
  detail : Nat
deriving DecidableEq, Repr

/-- The error log (R517, R520, R521): entries written since it was cleared, the ring by index, the entry that ERR_SEL
latched for each host port (R550), and each source's CE entries in its present second: source, start of the second, entries. -/
structure ErrLog where
  count : Nat
  ring : List (Nat × ErrEntry)
  latches : List (Nat × ErrEntry)
  windows : List (Nat × Nat × Nat)
deriving DecidableEq, Repr

/-- An empty log. -/
def ErrLog.empty : ErrLog := { count := 0, ring := [], latches := [], windows := [] }

/-- A snapshot armed or being written (R510): the writing function, its blocks, address, length, listed probe frames as
bytes, the PT to wait for; once its mark is out, the step and instant of the seal, the SD that owns each probe's target,
and the parts copied so far: registers by address, probe results by place in the list, SDs that have copied theirs. -/
structure Snapshot where
  fn : Nat
  blocks : Nat
  addr : Nat
  len : Nat
  probes : List (List Byte)
  atPt : Option Nat
  mark : Option (Nat × Nat)
  owners : List (Option Nat)
  regs : List (Nat × Nat)
  results : List (Nat × List Byte)
  copied : List Nat
deriving DecidableEq, Repr

/-- OBS_SNAP_CTL's results and CLEAR_IF_COUNT results by function (R510, R515). -/
structure Obs where
  snap : Option Snapshot
  snapDone : Bool
  snapStatus : Nat
  snapStep : Nat
  /-- by function: cleared, count found, status -/
  cic : List (Nat × Bool × Nat × Nat)
  /-- a ledger dump being written: function, bytes, address; its results (R502) -/
  dump : Option (Nat × Nat × List Byte)
  dumpDone : Bool
  dumpStatus : Nat
  /-- the tenant row latched by LED_TSEL, by function: tenant, words (R501) -/
  latched : List (Nat × Nat × List Nat)
deriving DecidableEq, Repr

/-- Nothing armed. -/
def Obs.reset : Obs :=
  { snap := none, snapDone := false, snapStatus := 0, snapStep := 0, cic := [], dump := none, dumpDone := false,
    dumpStatus := 0, latched := [] }

end Sys2Proof.Machine
end

