-- ==== Sys2Proof/Machine/StatePower.lean ====
section
/-! DEFINITION. Power, hold-up energy and the drain journal (chapter 14), and supplies (chapter 20). -/
namespace Sys2Proof.Machine

/-- States of an energy port (R373), by code. -/
inductive PortPhase where
  | absent | precharge | charging | ready | discharging | retiring | removable | safe
deriving DecidableEq, Repr

/-- The code of a state. -/
def PortPhase.code : PortPhase → Nat
  | .absent => 0 | .precharge => 1 | .charging => 2 | .ready => 3 | .discharging => 4 | .retiring => 5 | .removable => 6
  | .safe => 7

/-- What the voltage loop computes and an energy port holds (R372 to R378). -/
structure EnergyPort where
  phase : PortPhase
  healthy : Bool
  contactor : Bool
  derated : Bool
  /-- sensors: bus and store in 10 mV, store current in mA, taps in mV, NTCs in 0.1 °C -/
  busV : Nat
  storeV : Nat
  current : Int
  taps : List Nat
  ntcs : List Int
  /-- measured rating, ESR in 10 µΩ, the ESR first measured, charge in percent, usable energy in J -/
  rating : Nat
  esr : Nat
  firstEsr : Nat
  soc : Nat
  energy : Nat
  testPassed : Bool
  /-- duties of the PWM pairs (Q16), current setpoint -/
  duty : Nat × Nat
  setpoint : Int
  /-- supply of the EID is up (R533) -/
  supply : Bool
  /-- a detection on its way to the active management island: its stamp; the last rise of the bus (R386) -/
  detected : Option Nat
  rose : Nat
  /-- contactor request of the current loop (R374) -/
  request : Nat
  /-- the loops are moving since: no new duty yet (R376) -/
  swapSince : Option Nat
deriving DecidableEq, Repr

/-- A port with no store. -/
def EnergyPort.reset : EnergyPort :=
  { phase := .absent, healthy := false, contactor := false, derated := false, busV := 0, storeV := 0, current := 0,
    taps := [], ntcs := [], rating := 0, esr := 0, firstEsr := 0, soc := 0, energy := 0, testPassed := false,
    duty := (0, 0), setpoint := 0, supply := true, detected := none, rose := 0, request := 0, swapSince := none }

/-- Kinds of journal entries (R391). -/
inductive JournalKind where
  | table | ledger | base | pages | final | drainEnd
deriving DecidableEq, Repr

/-- An entry of the drain journal (R391). -/
structure JournalEntry where
  kind : JournalKind
  seq : Nat
  boot : Nat
  handle : Nat
  lastSeal : Nat
  raw : Nat
  prev : Nat
  /-- TABLE: the sessions; a session entry: the session alone -/
  sessions : List Recorded
  ledger : List (Nat × List Nat)
  records : List PageRecord
  committed : Bool
deriving DecidableEq, Repr

/-- An entry being written (R382 to R385): pages still to capture, payload write done. -/
structure JournalWrite where
  entry : JournalEntry
  slot : Nat
  toCapture : List Nat
  payloadDone : Bool
deriving DecidableEq, Repr

/-- The drain in progress (R387 to R389): whether it is thermal; the stamp of the detection; the step of the write
order that is next. -/
structure Drain where
  thermal : Bool
  start : Nat
  todo : List (JournalKind × Nat)
deriving DecidableEq, Repr

/-- The power controller and the protected dirty set. -/
structure Power where
  storeOk : Bool
  pressure : Bool
  limitMib : Nat
  budgetMs : Nat
  energyJ : Nat
  /-- write rate of the bring-up test in MB/s, and of the last 16 journal bursts (R380) -/
  testBw : Nat
  bursts : List Nat
  /-- size of the journal's log in MiB -/
  journalTotal : Nat
  boot : Nat
  jseq : Nat
  journal : List JournalEntry
  writes : List JournalWrite
  drain : Option Drain
  /-- the drain is enabled: both drives meet R390 and are up -/
  drainEnabled : Bool
  lastDrainMs : Nat
  lastDrainW : Nat
  /-- VIN_PKG power in W, energy in mJ, frequency limit in MHz, limiting flags, temperatures -/
  powerW : Nat
  energyMj : Nat
  energyMark : Nat
  freqMhz : Nat
  freqCd : List (Nat × Nat)
  capLimit : Bool
  thermLimit : Bool
  pacing : Bool
  pacingUs : Nat
  hotJunc : Nat
  hotDram : Nat
  hotDie : Nat
  /-- PMBus reads missed by converter; AVSBus setpoint in mV -/
  missed : List (Nat × Nat)
  avsMv : Nat
  /-- the thermal loop has faulted and waits for a firmware update (R375) -/
  loopStopped : Bool
  /-- a voltage-loop fault holds the setpoints since (R375); result word 4 of the voltage loop (R374) -/
  holdSince : Option Nat
  portFlags : Nat
deriving DecidableEq, Repr

/-- Power state right after reset. -/
def Power.reset : Power :=
  { storeOk := false, pressure := false, limitMib := 0, budgetMs := 0, energyJ := 0, testBw := 0,
    bursts := [], journalTotal := 0, boot := 0, jseq := 0, journal := [], writes := [], drain := none,
    drainEnabled := false, lastDrainMs := 0, lastDrainW := 0, powerW := 0, energyMj := 0, energyMark := 0, freqMhz := 0,
    freqCd := [], capLimit := false, thermLimit := false, pacing := false, pacingUs := 0, hotJunc := 0, hotDram := 0,
    hotDie := 0, missed := [], avsMv := 6000, loopStopped := false, holdSince := none, portFlags := 0 }

end Sys2Proof.Machine
end

