-- ==== Sys2Proof/Machine/StateSecurity.lean ====
section
/-! DEFINITION. Security (chapter 16): fuses, keys, SPDM, TDISP and IDE. Key bytes, digests and certificates are numbers
that no rule computes with. -/
namespace Sys2Proof.Machine

/-- State of a key slot (R435). -/
inductive KeyState where
  | empty | loaded | exhausted
deriving DecidableEq, Repr

/-- A key slot. -/
structure KeySlot where
  state : KeyState
  key : Nat
deriving DecidableEq, Repr

/-- A job slot (R435); job 0 of a slot above 0 means that the slot is free. -/
structure JobSlot where
  job : Nat
  p0 : KeySlot
  p1 : KeySlot
  txPhase : Nat
deriving DecidableEq, Repr

/-- A vendor key position in the fuses (R426): hash of the public key, KEY_ID, revocation fuse. -/
structure KeyPosition where
  hash : Nat
  keyId : Nat
  revoked : Bool
deriving DecidableEq, Repr

/-- TDISP states of a TDI (R441). -/
inductive TdiState where
  | unlocked | locked | run | error
deriving DecidableEq, Repr

/-- An SPDM secure session (R432): session ID, whether FINISH has completed it, key-update count, whether the requester
was authenticated to the owner's key. -/
structure SpdmSession where
  id : Nat
  finished : Bool
  updates : Nat
  ownerAuth : Bool
deriving DecidableEq, Repr

/-- How far an SPDM connection has come (R432). -/
inductive SpdmPhase where
  | none | version | capabilities | algorithms
deriving DecidableEq, Repr

/-- Security state, owned by the active management island. -/
structure Security where
  /-- steps of the anti-rollback counter blown, 0 to 64 (R430) -/
  fuseSvn : Nat
  positions : List (Nat × KeyPosition)
  /-- vendor key slots ACTIVE and NEXT name positions (R426) -/
  active : Nat
  next : Nat
  hybridRequired : Bool
  /-- owner positions: hash of the enrolled key, and whether a later enrolment has revoked it (R428) -/
  owners : List (Nat × Nat × Bool)
  jobs : List (Nat × JobSlot)
  /-- SEQ values issued, by SEQ space (R312, R439): key seqKey -/
  seqs : List (Nat × Nat)
  /-- directions whose key slot is exhausted: the same keys -/
  spent : List Nat
  ckpKey : Option Nat
  /-- the drain and pool keys of confidential mode, drawn at bring-up (R443) -/
  poolKeys : List (Nat × Nat)
  conf : Bool
  /-- SEC_MODE.CONF_NEXT, held over a reset (R442) -/
  confNext : Bool
  debugUnlocked : Bool
  /-- measurements that a stage measured: 1 boot ROM, 2 stage-1, 6 power loops (R433) -/
  measurements : List (Nat × Nat)
  /-- Alias certificate of the active complex (R425): bring-up or swap that made it -/
  aliasCert : Nat
  spdm : SpdmPhase
  sessions : List SpdmSession
  /-- secure sessions opened since reset; the chain in certificate slot 1 (R432) -/
  nextSession : Nat
  ownerCert : Option Nat
  tdis : List (Nat × TdiState)
  /-- IDE streams: key 16 × port + stream, with the functions covered; whether active -/
  ideStreams : List (Nat × List Nat × Bool)
deriving DecidableEq, Repr

/-- An empty key slot. -/
def KeySlot.none : KeySlot := { state := .empty, key := 0 }

/-- A job slot without keys. -/
def JobSlot.free : JobSlot := { job := 0, p0 := KeySlot.none, p1 := KeySlot.none, txPhase := 0 }

/-- Security state right after reset: every key slot empty, the fuses of a part as made (log entry 12). -/
def Security.reset : Security :=
  { fuseSvn := 0, positions := [], active := 0, next := 1, hybridRequired := false, owners := [], jobs := [], seqs := [],
    spent := [], ckpKey := none, poolKeys := [], conf := false, confNext := false, debugUnlocked := false, measurements := [],
    aliasCert := 0, spdm := .none, sessions := [], nextSession := 0, ownerCert := none, tdis := [], ideStreams := [] }

end Sys2Proof.Machine
end

