-- ==== Sys2Proof/Machine/Numeric.lean ====
section
/-! DEFINITION. Number formats and exact accumulation (chapter 07), and the arithmetic of the KV append unit and of span
partials (R154 to R158, R172 to R175). A value is an exact dyadic number; bits come only from one rounding. -/
namespace Sys2Proof

/-! ### Values -/

/-- A number as an operand reads: NaN, an infinity, or m × 2^e. -/
inductive Val where
  | nan
  | inf (neg : Bool)
  | fin (m e : Int)
deriving DecidableEq, Repr

/-- An element format with a sign, an exponent and a fraction (R186); `fn` is E4M3's rule: no infinity, one NaN. -/
structure FpFmt where
  ebits : Nat
  mbits : Nat
  fn : Bool
deriving DecidableEq, Repr

def fmtE4M3 : FpFmt := ⟨4, 3, true⟩
def fmtE5M2 : FpFmt := ⟨5, 2, false⟩
def fmtBF16 : FpFmt := ⟨8, 7, false⟩
def fmtFP16 : FpFmt := ⟨5, 10, false⟩
def fmtFP32 : FpFmt := ⟨8, 23, false⟩

/-- The scalar format of a format code (R182). -/
def fpFmt (code : Nat) : Option FpFmt :=
  if code = 7 then some fmtE4M3 else if code = 8 then some fmtE5M2 else if code = 9 then some fmtBF16
  else if code = 10 then some fmtFP16 else if code = 11 then some fmtFP32 else none

/-- The exponent bias. -/
def FpFmt.bias (f : FpFmt) : Int := 2 ^ (f.ebits - 1) - 1

/-- The exponent of the last place of a subnormal. -/
def FpFmt.qmin (f : FpFmt) : Int := 1 - f.bias - f.mbits

/-- The code of +∞, or of the first NaN of E4M3: the first code that is no finite magnitude. -/
def FpFmt.limit (f : FpFmt) : Nat :=
  if f.fn then 2 ^ (f.ebits + f.mbits) - 1 else (2 ^ f.ebits - 1) * 2 ^ f.mbits

/-- The canonical NaN (R187). -/
def FpFmt.nan (f : FpFmt) : Nat :=
  if f.fn then 2 ^ (f.ebits + f.mbits) - 1
  else (2 ^ f.ebits - 1) * 2 ^ f.mbits + 2 ^ (f.mbits - 1)

/-- The sign bit of a format. -/
def FpFmt.sign (f : FpFmt) : Nat := 2 ^ (f.ebits + f.mbits)

/-- What a code reads as (R186, R187). -/
def FpFmt.decode (f : FpFmt) (code : Nat) : Val :=
  let mag := code % f.sign
  let neg := code / f.sign % 2 == 1
  if f.limit < mag ∨ (f.fn ∧ mag = f.limit) then .nan
  else if mag = f.limit then .inf neg
  else
    let e := mag / 2 ^ f.mbits
    let frac := mag % 2 ^ f.mbits
    let m : Int := if e = 0 then frac else frac + 2 ^ f.mbits
    .fin (if neg then -m else m) (f.qmin + (if e = 0 then 0 else (e : Int) - 1))

/-- The bound exponent of a code of a format (R190), where its value is finite and not 0. -/
def FpFmt.bound (f : FpFmt) (code : Nat) : Int :=
  let e := code % f.sign / 2 ^ f.mbits
  if e = 0 then 2 - f.bias else (e : Int) - f.bias + 1

/-- 2^i for an integer exponent, as numerator and denominator. -/
def pow2 (i : Int) : Nat × Nat := if 0 ≤ i then (2 ^ i.toNat, 1) else (1, 2 ^ (-i).toNat)

/-- A quotient rounded to the nearest integer, ties to even. -/
def divRne (a b : Nat) : Nat :=
  let q := a / b
  let r := a % b
  if b < 2 * r ∨ (2 * r = b ∧ q % 2 = 1) then q + 1 else q

/-- floor(log2) of a positive quotient times 2^e. -/
def log2Rat (num den : Nat) (e : Int) : Int :=
  let k := (bitLen num : Int) - bitLen den
  let p := pow2 (-k)
  (if num * p.1 < den * p.2 then k - 1 else k) + e

/-- Round the positive value num / den × 2^e once, to nearest even, into a format, without its sign: the code, and whether
it overflowed (R195). -/
def FpFmt.roundMag (f : FpFmt) (num den : Nat) (e : Int) : Nat × Bool :=
  if num = 0 then (0, false)
  else
    let q := max (log2Rat num den e - f.mbits) f.qmin
    let p := pow2 (e - q)
    let n := divRne (num * p.1) (den * p.2)
    let code := (q - f.qmin).toNat * 2 ^ f.mbits + n
    if f.limit ≤ code then ((if f.fn then f.limit - 1 else f.limit), true) else (code, false)

/-- Round num / den × 2^e, with a signed numerator. -/
def FpFmt.roundQ (f : FpFmt) (num : Int) (den : Nat) (e : Int) : Nat × Bool :=
  let r := f.roundMag num.natAbs den e
  (if num < 0 then r.1 + f.sign else r.1, r.2)

/-- Round m × 2^e. -/
def FpFmt.round (f : FpFmt) (m e : Int) : Nat × Bool := f.roundQ m 1 e

/-- rne32: a finite value rounded once to FP32 (R203). -/
def rne32 (m e : Int) : Nat := (fmtFP32.round m e).1

/-! ### Block formats -/

/-- A two's complement field as an integer. -/
def sgn (w v : Nat) : Int := if v % 2 ^ w < 2 ^ (w - 1) then (v % 2 ^ w : Nat) else (v % 2 ^ w : Nat) - (2 ^ w : Nat)

/-- Element `i` of packed codes of `w` bits: bits w × i of the little-endian number (R158, R184). -/
def packedAt (w : Nat) (bs : List Byte) (i : Nat) : Nat :=
  leAt bs (w * i / 8) 2 / 2 ^ (w * i % 8) % 2 ^ w

/-- Element bits of a format code (R182). -/
def fmtBits (code : Nat) : Nat :=
  if code = 0 ∨ code = 3 then 4 else if code = 1 ∨ code = 4 ∨ code = 5 then 6
  else if code ≤ 8 then 8 else if code = 11 then 32 else 16

/-- Whether a format code is a block format. -/
def isBlockFmt (code : Nat) : Bool := code ≤ 6

/-- Whether a format code is reserved. -/
def fmtReserved (code : Nat) : Bool := 12 ≤ code

/-- Whether a format code is an OCP MX format, read only. -/
def isMx (code : Nat) : Bool := 3 ≤ code && code ≤ 6

/-- An element of a reduction: its value and its bound exponent, which has no meaning where the value is 0. -/
structure Opd where
  val : Val
  u : Int
deriving DecidableEq, Repr

/-- The element with code `c` of a block whose exponent or scale byte is `x` (R183, R185, R190). -/
def blockElem (fmt x c : Nat) : Opd :=
  if x = 0xff then ⟨.nan, 0⟩
  else
    let xi : Int := x
    if fmt = 0 then ⟨.fin (sgn 4 c) (xi - 129), xi - 125⟩
    else if fmt = 1 then ⟨.fin (sgn 6 c) (xi - 131), xi - 125⟩
    else if fmt = 2 then ⟨.fin (sgn 8 c) (xi - 133), xi - 125⟩
    else if fmt = 6 then ⟨.fin (sgn 8 c) (xi - 133), xi - 125⟩
    else
      let f : FpFmt := if fmt = 3 then ⟨2, 1, false⟩ else if fmt = 4 then ⟨2, 3, false⟩ else ⟨3, 2, false⟩
      let mag := c % f.sign
      let e := mag / 2 ^ f.mbits
      let frac := mag % 2 ^ f.mbits
      let m : Int := if e = 0 then frac else frac + 2 ^ f.mbits
      let v := if c / f.sign % 2 = 1 then -m else m
      ⟨.fin v (f.qmin + (if e = 0 then 0 else (e : Int) - 1) + xi - 127), xi - (if fmt = 5 then 122 else 124)⟩

/-- A scalar code as an operand of a reduction (R188, R190). -/
def scalarOpd (f : FpFmt) (code : Nat) : Opd := ⟨f.decode code, f.bound code⟩

/-- Bytes of a tile of a format: 1,024 elements and, for a block format, 32 exponent bytes (R184). -/
def tileBytes (fmt : Nat) : Nat := 128 * fmtBits fmt + if isBlockFmt fmt then 32 else 0

/-- Element `k` of a row stored in tiles (R184), or in plain elements for a scalar format. -/
def rowElem (fmt : Nat) (bs : List Byte) (k : Nat) : Opd :=
  if isBlockFmt fmt then
    let t := bs.drop (k / 1024 * tileBytes fmt)
    let i := k % 1024
    blockElem fmt (leAt t (128 * fmtBits fmt + i / 32) 1) (packedAt (fmtBits fmt) (t.drop (4 * fmtBits fmt * (i / 32))) (i % 32))
  else match fpFmt fmt with
    | some f => scalarOpd f (leAt bs (k * (fmtBits fmt / 8)) (fmtBits fmt / 8))
    | none => ⟨.nan, 0⟩

/-! ### Exact accumulation -/

/-- An accumulator in units of 2^(A − 128): `none` is the NaN image (R192). -/
abbrev Acc := Option Int

/-- An infinite operand reads as NaN (R188). -/
def Val.finite (v : Val) : Val := match v with
  | .inf _ => .nan
  | v => v

/-- The largest bound exponent of one operand position, over the elements that are not 0 (R191). -/
def maxBound (l : List Opd) : Option Int :=
  l.foldl (fun acc o => match o.val with
    | .fin m _ => if m = 0 then acc else match acc with
      | none => some o.u
      | some x => some (max x o.u)
    | _ => acc) none

/-- The bound of the pre-pass (R190): block formats are bounded by their exponent bytes, whatever the codes. -/
def anchorOf (bounds : List (Option Int)) : Option Int :=
  bounds.foldl (fun acc b => match acc, b with
    | some a, some x => some (a + x)
    | _, _ => none) (some 1)

/-- The exact product of an addend's operands; `none` for NaN. -/
def product : List Opd → Option (Int × Int)
  | [] => some (1, 0)
  | o :: r => match o.val.finite, product r with
    | .fin m e, some (n, f) => some (m * n, e + f)
    | _, _ => none

/-- An addend's units, truncated toward zero (R192). -/
def addendUnits (anchor : Int) (p : Int × Int) : Int :=
  let s := p.2 - (anchor - 128)
  if 0 ≤ s then p.1 * 2 ^ s.toNat else p.1.tdiv (2 ^ (-s).toNat)

/-- Add one addend to an accumulator (R192). -/
def Acc.add (anchor : Int) (acc : Acc) (ops : List Opd) : Acc :=
  match acc, product ops with
  | some a, some p => some (a + addendUnits anchor p)
  | _, _ => none

/-- A reduction's accumulator at an anchor. -/
def accumulate (anchor : Int) (addends : List (List Opd)) : Acc := addends.foldl (Acc.add anchor) (some 0)

/-- The anchor of a whole reduction whose addends have `n` operands (R191); `none` where a position is 0 throughout. -/
def reductionAnchor (n : Nat) (addends : List (List Opd)) : Option Int :=
  anchorOf ((List.range n).map fun k => maxBound (addends.filterMap fun a => a[k]?))

/-- Round an accumulator times an epilogue scale into a format (R195): code and overflow. -/
def roundAcc (f : FpFmt) (anchor : Int) (acc : Acc) (scale : Val) : Nat × Bool :=
  match acc, scale with
  | some a, .fin m e => f.round (a * m) (anchor - 128 + e)
  | _, _ => (f.nan, false)

/-- The number 1. -/
def Val.one : Val := .fin 1 0

/-- Whether an addend holds a NaN. -/
def hasNan (addends : List (List Opd)) : Bool := addends.any fun a => (product a).isNone

/-- An exact reduction, rounded once (R192, R195). A position that is 0 throughout gives exactly 0 (R191); NaN is sticky
first (log entry 8). -/
def reduce (f : FpFmt) (n : Nat) (addends : List (List Opd)) : Nat × Bool :=
  if hasNan addends then (f.nan, false)
  else match reductionAnchor n addends with
    | none => (0, false)
    | some a => roundAcc f a (accumulate a addends) Val.one

/-- The accumulator image of a 152-bit accumulator (R197): 19 bytes. -/
def accImage (acc : Acc) : List Byte :=
  match acc with
  | none => leBytes 19 (2 ^ 151)
  | some a => leBytes 19 (toMod 152 a)

/-- What an accumulator image reads as. -/
def imageAcc (bs : List Byte) : Acc :=
  let v := leAt bs 0 19
  if v = 2 ^ 151 then none else some (sgn 152 v)

/-- Exact sum of accumulators at one anchor (R194, R198). -/
def sumAcc (l : List Acc) : Acc := l.foldl (fun a b => match a, b with
  | some x, some y => some (x + y)
  | _, _ => none) (some 0)

/-- One rounding of a sum of two products of FP32 codes, exact inside (R174). -/
def fp32Dot2 (a b c d : Nat) : Nat :=
  (reduce fmtFP32 2 [[scalarOpd fmtFP32 a, scalarOpd fmtFP32 b], [scalarOpd fmtFP32 c, scalarOpd fmtFP32 d]]).1

/-- The exact sum of two values as m × 2^e. -/
def addExact (m1 e1 m2 e2 : Int) : Int × Int :=
  let e := min e1 e2
  (m1 * 2 ^ (e1 - e).toNat + m2 * 2 ^ (e2 - e).toNat, e)

/-- IEEE addition of two FP32 codes, nearest even; infinities and NaN as IEEE 754 has them; an exact zero sum is +0 but
for two negative zeros. -/
def fp32Add (a b : Nat) : Nat :=
  match fmtFP32.decode a, fmtFP32.decode b with
  | .nan, _ => fmtFP32.nan
  | _, .nan => fmtFP32.nan
  | .inf x, .inf y => if x = y then fmtFP32.limit + (if x then fmtFP32.sign else 0) else fmtFP32.nan
  | .inf x, _ => fmtFP32.limit + (if x then fmtFP32.sign else 0)
  | _, .inf y => fmtFP32.limit + (if y then fmtFP32.sign else 0)
  | .fin m e, .fin n f =>
    let r := addExact m e n f
    if r.1 = 0 then (if a = fmtFP32.sign ∧ b = fmtFP32.sign then fmtFP32.sign else 0) else rne32 r.1 r.2

/-- Negation of a code. -/
def fp32Neg (a : Nat) : Nat := if a < fmtFP32.sign then a + fmtFP32.sign else a - fmtFP32.sign

/-- IEEE subtraction. -/
def fp32Sub (a b : Nat) : Nat := match fmtFP32.decode b with
  | .nan => fmtFP32.nan
  | _ => fp32Add a (fp32Neg b)

/-- The sign of a code: true for negative. -/
def fp32IsNeg (a : Nat) : Bool := a / fmtFP32.sign % 2 == 1

/-- IEEE multiplication of two FP32 codes. -/
def fp32Mul (a b : Nat) : Nat :=
  let neg := fp32IsNeg a != fp32IsNeg b
  let sg := if neg then fmtFP32.sign else 0
  match fmtFP32.decode a, fmtFP32.decode b with
  | .nan, _ => fmtFP32.nan
  | _, .nan => fmtFP32.nan
  | .inf _, .inf _ => fmtFP32.limit + sg
  | .inf _, .fin n _ => if n = 0 then fmtFP32.nan else fmtFP32.limit + sg
  | .fin m _, .inf _ => if m = 0 then fmtFP32.nan else fmtFP32.limit + sg
  | .fin m e, .fin n f => if m * n = 0 then sg else rne32 (m * n) (e + f)

/-- rne32(a × b + c), the product exact (R215 VFMA). -/
def fp32Fma (a b c : Nat) : Nat :=
  match fmtFP32.decode a, fmtFP32.decode b, fmtFP32.decode c with
  | .fin m e, .fin n f, .fin k g =>
    let r := addExact (m * n) (e + f) k g
    if r.1 = 0 then fp32Add (fp32Mul a b) c else rne32 r.1 r.2
  | _, _, _ => fp32Add (fp32Mul a b) c

/-- Order of two FP32 codes: whether a < b as numbers; false with NaN. -/
def fp32Lt (a b : Nat) : Bool :=
  match fmtFP32.decode a, fmtFP32.decode b with
  | .nan, _ => false
  | _, .nan => false
  | .inf x, .inf y => x && !y
  | .inf x, _ => x
  | _, .inf y => !y
  | .fin m e, .fin n f =>
    let k := min e f
    decide (m * 2 ^ (e - k).toNat < n * 2 ^ (f - k).toNat)

/-! ### Facet quantising (R196) -/

/-- The smallest X in 0 to 254 with a ≤ qmax × 2^(X − 127 − (b − 2)), for a = m × 2^e. -/
def facetExp (b : Nat) (m : Nat) (e : Int) : Option Nat :=
  let qmax := 2 ^ (b - 1) - 1
  (List.range 255).find? fun x =>
    let s := (x : Int) - 127 - (b - 2)
    let k := min e s
    decide (m * 2 ^ (e - k).toNat ≤ qmax * 2 ^ (s - k).toNat)

/-- A quotient of a signed integer by a positive one, nearest even. -/
def idivRne (a : Int) (b : Nat) : Int := if a < 0 then -(divRne a.natAbs b : Int) else divRne a.natAbs b

/-- Clamp into −q to q. -/
def clampTo (q : Nat) (v : Int) : Int := max (-(q : Int)) (min q v)

/-- m × 2^e / 2^s rounded to the nearest integer, ties to even. -/
def scaleRne (m e s : Int) : Int :=
  let p := pow2 (e - s)
  idivRne (m * p.1) p.2

/-- Quantise FP32 values into one facet block (R196): exponent byte, codes as integers, FACET_SAT. -/
def facetBlock (b : Nat) (xs : List Nat) : Nat × List Int × Bool :=
  let vs := xs.map fmtFP32.decode
  if vs.any fun v => v == .nan then (0xff, xs.map fun _ => 0, false)
  else if vs.any fun v => match v with
      | .inf _ => true
      | _ => false then
    -- an infinity has no X: the block is held at 254 and clamps
    (254, vs.map fun v => match v with
      | .inf true => -(2 ^ (b - 1) - 1 : Int)
      | .inf false => 2 ^ (b - 1) - 1
      | .fin m e => clampTo (2 ^ (b - 1) - 1) (scaleRne m e (127 - (b - 2)))
      | .nan => 0, true)
  else
    let es := vs.map fun v => match v with
      | .fin m e => (m, e)
      | _ => (0, 0)
    let lo := es.foldl (fun k p => min k p.2) 0
    let a := es.foldl (fun k p => max k (p.1.natAbs * 2 ^ (p.2 - lo).toNat)) 0
    if a = 0 then (0, xs.map fun _ => 0, false)
    else
      let (x, sat) := match facetExp b a lo with
        | some x => (x, false)
        | none => (254, true)
      (x, es.map fun p => clampTo (2 ^ (b - 1) - 1) (scaleRne p.1 p.2 ((x : Int) - 127 - (b - 2))), sat)

/-- Pack codes of `w` bits (R158, R184): element i at bits w × i. -/
def packCodes (w : Nat) (codes : List Int) : List Byte :=
  leBytes (ceilDiv (w * codes.length) 8) (codes.zipIdx.foldl (fun acc p => acc + toMod w p.1 * 2 ^ (w * p.2)) 0)

/-! ### The exponential unit (R200, R201) -/

/-- log2(e) rounded to nearest at 2^-62 (R200). -/
def expLg : Nat := 6653256548922161246

/-- 2^(j/128) rounded at 2^-62, j from 0 (R200). -/
def expT0 : List Nat :=
  [4611686018427387904, 4636727017470743990, 4661903986662671290, 4687217664307630838,
   4712668792719003884, 4738258118240859931, 4763986391269842979, 4789854366277176597,
   4815862801830788490, 4842012460617555202, 4868304109465667592, 4894738519367117769,
   4921316465500308116, 4948038727252783086, 4974906088244084429, 5001919336348730514]

/-- 2^(j/128) rounded at 2^-62, j from 16 (R200). -/
def expT1 : List Nat :=
  [5029079263719320435, 5056386666809763567, 5083842346398635251, 5111447107612659307,
   5139201759950318048, 5167107117305590498, 5195163997991819502, 5223373224765708437,
   5251735624851448219, 5280252029964975318, 5308923276338361494, 5337750204744335963,
   5366733660520940721, 5395874493596319735, 5425173558513642752, 5454631714456164423]

/-- 2^(j/128) rounded at 2^-62, j from 32 (R200). -/
def expT2 : List Nat :=
  [5484249825272419512, 5514028759501554901, 5543969390398799154, 5574072595961070373,
   5604339258952723100, 5634770266931435031, 5665366512274234280, 5696128892203667984,
   5727058308814112983, 5758155669098229379, 5789421884973557729, 5820857873309260658,
   5852464555953009676, 5884242859758017993, 5916193716610220111, 5948318063455599005]

/-- 2^(j/128) rounded at 2^-62, j from 48 (R200). -/
def expT3 : List Nat :=
  [5980616842327661685, 6013091000375063951, 6045741489889385141, 6078569268333053700,
   6111575298367424380, 6144760547881007893, 6178125990017853852, 6211672603206087829,
   6245401371186603363, 6279313283041909767, 6313409333225136570, 6347690521589195458,
   6382157853416100552, 6416812339446447902, 6451654995909055045, 6486686844550761504]

/-- 2^(j/128) rounded at 2^-62, j from 64 (R200). -/
def expT4 : List Nat :=
  [6521908912666391106, 6557322233128876982, 6592927844419550153, 6628726790658592574,
   6664720121635655541, 6700908892840644341, 6737294165494670078, 6773877006581169542,
   6810658488877194079, 6847639690984868337, 6884821697363019841, 6922205598358980312,
   6959792490240559659, 6997583475228193593, 7035579661527265796, 7073782163360605593]

/-- 2^(j/128) rounded at 2^-62, j from 80 (R200). -/
def expT5 : List Nat :=
  [7112192101001162095, 7150810600804855741, 7189638795243608238, 7228677822938551843,
   7267928828693418961, 7307392963528113063, 7347071384712461870, 7386965255800153833,
   7427075746662858866, 7467404033524534369, 7507951298995917514, 7548718732109204835,
   7589707528352920109, 7630918889706971581, 7672354024677899536, 7714014148334315267]

/-- 2^(j/128) rounded at 2^-62, j from 96 (R200). -/
def expT6 : List Nat :=
  [7755900482342532474, 7798014255002392130, 7840356701283281883, 7882929062860351033,
   7925732588150922155, 7968768532351100432, 8012038157472581778, 8055542732379660816,
   8099283532826439817, 8143261841494239668, 8187478948029213993, 8231936149080167495,
   8276634748336579668, 8321576056566834961, 8366761391656660532, 8412192078647772715]

/-- 2^(j/128) rounded at 2^-62, j from 112 (R200). -/
def expT7 : List Nat :=
  [8457869449776733335, 8503794844514017006, 8549969609603290562, 8596395099100905774,
   8643072674415606502, 8690003704348451461, 8737189565132953757, 8784631640475438381,
   8832331321595618838, 8880290007267394103, 8928509103859867100, 8976990025378585914,
   9025734193507008925, 9074743037648195108, 9124017994966720698, 9173560510430823462]

/-- The table t of R200. -/
def expT : List Nat := expT0 ++ expT1 ++ expT2 ++ expT3 ++ expT4 ++ expT5 ++ expT6 ++ expT7

/-- (ln 2)^k / k! rounded at 2^-62 (R200). -/
def expC : List Nat :=
  [4611686018427387904, 3196577161300663915, 1107849223398934356,
   255967521894832113, 44355791529079737, 6149018367977265]

/-- E(x) of an FP32 code (R200, R201). -/
def expE (code : Nat) : Nat :=
  match fmtFP32.decode code with
  | .nan => fmtFP32.nan
  | .inf neg => if neg then 0 else fmtFP32.limit
  | .fin m e =>
    let atMost := fun (k : Int) => -- x ≤ k
      decide (m * 2 ^ (e - min e 0).toNat ≤ k * 2 ^ (-(min e 0)).toNat)
    let atLeast := fun (k : Int) => decide (k * 2 ^ (-(min e 0)).toNat ≤ m * 2 ^ (e - min e 0).toNat)
    if atMost (-104) then 0
    else if atLeast 89 then fmtFP32.limit
    else if m = 0 ∨ log2Rat m.natAbs 1 e < -25 then 0x3f800000
    else
      -- y = x × lg in units of 2^(e − 62)
      let y := m * expLg
      let d : Nat := (62 - e).toNat
      let u : Nat := (e - 62).toNat
      let n : Int := y * 2 ^ u / 2 ^ d
      let f := ((y * 2 ^ u - n * 2 ^ d) * 2 ^ 62 / 2 ^ d).toNat
      let j := f * 128 / 2 ^ 62
      let r := f - j * 2 ^ 55
      let h := [4, 3, 2, 1, 0].foldl (fun h k => h * r / 2 ^ 62 + expC.getD k 0) (expC.getD 5 0)
      let z : Nat := expT.getD j 0 * h / 2 ^ 62
      rne32 (z : Nat) (n - 62)

/-- RECIP(x), correctly rounded (R202). -/
def recip32 (code : Nat) : Nat :=
  let sg := if fp32IsNeg code then fmtFP32.sign else 0
  match fmtFP32.decode code with
  | .nan => fmtFP32.nan
  | .inf _ => sg
  | .fin m e => if m = 0 then fmtFP32.limit + sg else (fmtFP32.roundMag 1 m.natAbs (-e)).1 + sg

/-- The integer square root, bit by bit from bit `n`. -/
def isqrtFrom (v : Nat) : Nat → Nat → Nat
  | 0, r => r
  | n + 1, r =>
    let c := r + 2 ^ n
    isqrtFrom v n (if c * c ≤ v then c else r)

/-- The integer square root of a number below 2^128. -/
def isqrt (v : Nat) : Nat := isqrtFrom v 64 0

/-- RSQRT(x), correctly rounded (R202): 1/√x from 2^s / √x cut to an integer of at least 26 bits, with a sticky half. -/
def rsqrt32 (code : Nat) : Nat :=
  match fmtFP32.decode code with
  | .nan => fmtFP32.nan
  | .inf neg => if neg then fmtFP32.nan else 0
  | .fin m e =>
    if m = 0 then fmtFP32.limit
    else if m < 0 then fmtFP32.nan
    else
      -- x = m' × 2^(2k), so 1/√x = 2^-k / √m'; √m' < 2^13 for m' < 2^25
      let odd := e % 2 = 1
      let m' := (if odd then 2 * m else m).toNat
      let k : Int := (if odd then e - 1 else e) / 2
      let q := 2 ^ 100 / m'
      let n := isqrt q
      let exact := n * n * m' = 2 ^ 100
      rne32 ((2 * n + (if exact then 0 else 1) : Nat) : Int) (-51 - k)

/-- SIGMOID and SILU (R202). -/
def sigmoid32 (z : Nat) : Nat :=
  match fmtFP32.decode z with
  | .nan => fmtFP32.nan
  | _ => if !fp32Lt 0xc2b20000 z then 0 else recip32 (fp32Add 0x3f800000 (expE (fp32Neg z)))
def silu32 (z : Nat) : Nat := fp32Mul z (sigmoid32 z)

/-! ### The KV append unit (R155 to R158) -/

/-- Channel smoothing of one element (R156): x × 2^e, held to the normal FP32 range; and whether it saturated or was
flushed. -/
def smooth32 (code : Nat) (k : Int) : Nat × Bool :=
  match fmtFP32.decode code with
  | .fin m e =>
    if m = 0 ∨ k = 0 then (code, false)
    else
      let sg := if m < 0 then fmtFP32.sign else 0
      let t := log2Rat m.natAbs 1 (e + k)
      if 127 < t then (fmtFP32.limit - 1 + sg, true)
      else if t < -126 then (sg, true)
      else (rne32 m (e + k), false)
  | _ => (code, false)

/-- Round a positive quotient up to BF16, toward +∞ (R157). -/
def bf16Up (num den : Nat) (e : Int) : Nat :=
  if num = 0 then 0
  else
    let q := max (log2Rat num den e - 7) fmtBF16.qmin
    let p := pow2 (e - q)
    let n := (num * p.1 + den * p.2 - 1) / (den * p.2)
    (q - fmtBF16.qmin).toNat * 2 ^ 7 + n

/-- Replace non-finite elements (R157): NaN by 0, an infinity by the largest finite magnitude of its sign, or 0. Answers
the elements as (m, e) and whether any was replaced. -/
def finiteVector (xs : List Nat) : List (Int × Int) × Bool :=
  let vs := xs.map fmtFP32.decode
  let lo : Int := -149
  let mags := vs.filterMap fun v => match v with
    | .fin m e => some (m.natAbs * 2 ^ (e - lo).toNat)
    | _ => none
  let top := mags.foldl max 0
  (vs.map fun v => match v with
    | .fin m e => (m, e)
    | .nan => (0, 0)
    | .inf neg => (if neg then -(top : Int) else top, lo),
   vs.any fun v => match v with
    | .fin _ _ => false
    | _ => true)

/-- Quantise one vector of FP32 codes with `bits` per element (R157): the BF16 scale, the codes, whether a non-finite
element was replaced. -/
def kqVector (bits : Nat) (xs : List Nat) : Nat × List Int × Bool :=
  let (vs, bad) := finiteVector xs
  let qmax := 2 ^ (bits - 1) - 1
  let lo : Int := -149
  let a := vs.foldl (fun k p => max k (p.1.natAbs * 2 ^ (p.2 - lo).toNat)) 0
  if a = 0 then (0, vs.map fun _ => 0, bad)
  else
    let s := bf16Up a qmax lo
    match fmtBF16.decode s with
    | .fin sm se =>
      (s, vs.map fun p =>
        let q := pow2 (p.2 - se)
        clampTo qmax (idivRne (p.1 * q.1) (q.2 * sm.natAbs)), bad)
    | _ => (s, vs.map fun _ => 0, bad)

/-- The stored bytes of one vector: packed codes, or BF16 elements for KBF16 (R157, R158); and its scale, 0 for KBF16. -/
def kvStore (fmt : Nat) (xs : List Nat) : List Byte × Nat × Bool :=
  if fmt = 3 then
    let (vs, bad) := finiteVector xs
    (vs.flatMap fun p => leBytes 2 (fmtBF16.round p.1 p.2).1, 0, bad)
  else
    let bits := if fmt = 0 then 4 else if fmt = 1 then 6 else 8
    let (s, q, bad) := kqVector bits xs
    (packCodes bits q, s, bad)

/-- Element `i` of a stored vector, as an operand of a reduction: the bare code with bound `bits`, or the BF16 value
(R172, R190). -/
def kvElem (fmt : Nat) (bs : List Byte) (i : Nat) : Opd :=
  if fmt = 3 then scalarOpd fmtBF16 (leAt bs (2 * i) 2)
  else
    let w := if fmt = 0 then 4 else if fmt = 1 then 6 else 8
    ⟨.fin (sgn w (packedAt w bs i)) 0, w⟩

/-! ### Span partials and their fold (R172 to R175) -/

/-- A partial, or the folded state, of one query row: m, l and the a_d as FP32 codes. -/
structure Partial where
  m : Nat
  l : Nat
  a : List Nat
deriving DecidableEq, Repr

/-- −∞. -/
def fp32NegInf : Nat := 0xff800000

/-- The empty partial of `hd` channels. -/
def Partial.empty (hd : Nat) : Partial := ⟨fp32NegInf, 0, List.replicate hd 0⟩

/-- One visible key position of a span: the K elements, the K scale, the V elements, the V scale (1.0 for KBF16). -/
structure KvSlot where
  k : List Opd
  ks : Val
  v : List Opd
  vs : Opd
deriving DecidableEq, Repr

/-- The score of a key for a query (R172): the exact sum, times c and the K scale exactly, rounded once to FP32. -/
def spanScore (c : Nat) (q : List Nat) (key : KvSlot) : Nat :=
  let addends := (q.zip key.k).map fun p => [scalarOpd fmtFP32 p.1, p.2]
  if hasNan addends then fmtFP32.nan
  else match reductionAnchor 2 addends, fmtFP32.decode c, key.ks with
    | some a, .fin cm ce, .fin sm se =>
      match accumulate a addends with
      | some acc => rne32 (acc * cm * sm) (a - 128 + ce + se)
      | none => fmtFP32.nan
    | none, _, _ => 0
    | _, _, _ => fmtFP32.nan

/-- The partial of one query row over the visible keys of a span (R172). -/
def spanPartial (c hd : Nat) (q : List Nat) (keys : List KvSlot) : Partial :=
  match keys.map (spanScore c q) with
  | [] => Partial.empty hd
  | s :: ss =>
    let m := ss.foldl (fun a b => if fp32Lt a b then b else a) s
    let es := (s :: ss).map fun x => expE (fp32Sub x m)
    let l := (reduce fmtFP32 1 (es.map fun e => [scalarOpd fmtFP32 e])).1
    let a := (List.range hd).map fun d =>
      (reduce fmtFP32 3 ((es.zip keys).map fun p =>
        [scalarOpd fmtFP32 p.1, p.2.v.getD d ⟨.fin 0 0, 0⟩, p.2.vs])).1
    ⟨m, l, a⟩

/-- Fold one partial into the running state (R174). -/
def Partial.fold (f p : Partial) : Partial :=
  if p.m = fp32NegInf then f
  else if f.m = fp32NegInf then p
  else
    let up := fp32Lt f.m p.m
    let alpha := if up then expE (fp32Sub f.m p.m) else 0x3f800000
    let beta := if up then 0x3f800000 else expE (fp32Sub p.m f.m)
    { m := if up then p.m else f.m
      l := fp32Dot2 f.l alpha p.l beta
      a := (f.a.zip p.a).map fun x => fp32Dot2 x.1 alpha x.2 beta }

/-- The quotient of two FP32 codes, rounded once (R175). -/
def fp32Div (a b : Nat) : Nat :=
  match fmtFP32.decode a, fmtFP32.decode b with
  | .fin m e, .fin n f =>
    if n = 0 then fmtFP32.nan
    else (fmtFP32.roundQ (if n < 0 then -m else m) n.natAbs (e - f)).1
  | _, _ => fmtFP32.nan

/-- The attention output of a row (R175). -/
def Partial.output (p : Partial) : List Nat := p.a.map fun x => fp32Div x p.l

/-- A row's partial as the bytes of a partial record (R173). -/
def Partial.bytes (p : Partial) : List Byte := (p.m :: p.l :: p.a).flatMap (leBytes 4)

/-- A row of `hd` channels read from a partial record, from byte `off`. -/
def partialAt (hd : Nat) (bs : List Byte) (off : Nat) : Partial :=
  ⟨leAt bs off 4, leAt bs (off + 4) 4, (List.range hd).map fun d => leAt bs (off + 8 + 4 * d) 4⟩

end Sys2Proof
end

