-- ==== Sys2Proof/Machine/StateStep.lean ====
section
/-! DEFINITION. Steps in flight, their members, the streams (chapter 03), the attention work of a step (chapter 06) and
tenants with their ledger rows (chapter 18). -/
namespace Sys2Proof.Machine

/-- How a generation ends at a seal (R248), or that it does not. -/
inductive GenEnd where
  | none
  | stop
  | park (listId index : Nat)
  | tokenLimit
  | contextLimit
deriving DecidableEq, Repr

/-- What a member's sampler has produced for the step (R253, R254): the committed tokens in position order, the drafts
accepted, how the generation ends, and the text state that the seal commits. -/
structure MemberOut where
  tokens : List Nat
  accepted : Nat
  ending : GenEnd
  text : TextBlock
  /-- the call text of a TOOL_CALL (R247) -/
  call : List Byte
deriving DecidableEq, Repr

/-- A copy-on-write reserved for a member (R76, R133): the shared page, its layer-group, the frame reserved, whether the
copy has been made. -/
structure CowPage where
  layerGroup : Nat
  original : Nat
  copy : Nat
  made : Bool
deriving DecidableEq, Repr

/-- The attention of one member in one layer-group (R168 to R175). -/
structure AttnWork where
  layerGroup : Nat
  /-- first query position, and the smoothed query vectors by position and query head, as FP32 codes -/
  start : Nat
  queries : List (List (List Nat))
  /-- spans in all, those dispatched with their units (ATT instance), and cages whose old copy a read pins (R111) -/
  spans : Nat
  units : List (Nat × Nat)
  pins : List (Nat × Nat)
  /-- next span index to fold (R174) -/
  next : Nat
  /-- partials received, by span index: one for each query row -/
  received : List (Nat × List Partial)
  /-- the folded state: one for each query row -/
  folded : List Partial
  /-- the attention output o_d of each row, once formed (R175) -/
  output : Option (List (List Nat))
deriving DecidableEq, Repr

/-- A request to another package that has no accepted reply yet (R178): request ID, issue stamp, layer-group, the parts
received (R179). -/
structure RemoteWait where
  request : Nat
  issued : Nat
  key : Nat
  parts : List (Nat × List Byte)
deriving DecidableEq, Repr

/-- A KV shard that this package holds for a session of another one (R177): the session's package and tenant, the model
instance, the SD, and the pages by layer-group. -/
structure KvShard where
  home : Nat
  tenant : Nat
  model : Nat
  sd : Nat
  pages : List (Nat × List Nat)
deriving DecidableEq, Repr

/-- A TC2 request whose parts are being collected (R179): stamp of its first part, parts by index. -/
structure PartSet where
  since : Nat
  parts : List (Nat × List Byte)
deriving DecidableEq, Repr

/-- A reduction split across packages whose images this package sums (R198, R199): its anchor bound, the packages whose
parts have been added, the sums by output, the outputs once rounded. -/
structure SplitSum where
  step : Nat
  bounds : List (Nat × Int)
  sources : List (Nat × Nat)
  sums : List (Nat × Option Int)
  /-- BF16 partials by output, where EXACT is 0 (R199) -/
  partials : List (Nat × List Nat)
  outputs : List (Nat × Nat)
deriving DecidableEq, Repr

/-- The counters of one sampler (SMP_STAT, SMP_SPEC). -/
structure SamplerCount where
  drawn : Nat
  forced : Nat
  proposed : Nat
  accepted : Nat
deriving DecidableEq, Repr

/-- One member of a step (R73, R77). -/
structure Member where
  slot : Nat
  tenant : Nat
  /-- decode member, or prefill chunk -/
  decode : Bool
  /-- drafts proposed (R76) -/
  drafts : Nat
  /-- pending tokens carried -/
  carried : Nat
  /-- positions counted against STEP_TOKEN_LIMIT (R74) -/
  counted : Nat
  /-- worst-case committed tokens W (R73), as reserved in the tenant's budget (R495) -/
  worst : Nat
  /-- tokens taken by a prefix match (R142) -/
  matched : Nat
  /-- the logical cluster that runs the member (R66) -/
  cluster : Nat
  /-- draft tokens proposed by the draft head -/
  draftTokens : List Nat
  /-- tokens computed for the positions drawn so far, and whether each was forced (R250, R253) -/
  draws : List (Nat × Bool)
  cows : List CowPage
  /-- pages allocated for the member's positions at admission -/
  newPages : List Nat
  /-- map blocks and directory pages reserved (R166) -/
  mapBlocks : Nat
  dirPages : Nat
  /-- input positions whose K and V are written, by layer-group (R167) -/
  appended : List (Nat × Nat)
  attention : List AttnWork
  /-- attention bytes counted under R180 -/
  attnBytes : Nat
  remote : List RemoteWait
  /-- expert requests whose reply has been accepted (R81) -/
  experts : List Nat
  out : Option MemberOut
  removed : Bool
  /-- the seal has been applied: committed, or cancelled (R91) -/
  applied : Bool
  cancelled : Bool
  /-- what fences the session once the seal is applied: its home SD or a tier was lost after its outputs (R85) -/
  lateFence : Option FenceReason
deriving DecidableEq, Repr

/-- A step in flight (R67, R87, R92). -/
structure StepRun where
  number : Nat
  members : List Member
  startPt : Nat
  /-- the seal stamp, once issued -/
  sealPt : Option Nat
  budgetUsed : Nat
  suspended : Bool
  suspensions : Nat
  /-- consecutive S0 steps that have pre-empted the step (R83) -/
  preempted : Nat
  /-- layer at which a suspended step resumes (R82) -/
  layer : Nat
  /-- a configuration or role commit took effect at the seal (R92) -/
  commitAtSeal : Bool
  energy : Nat
deriving DecidableEq, Repr

/-- A step record (R92). -/
structure StepRecord where
  step : Nat
  startPt : Nat
  sealPt : Nat
  members : Nat
  removed : Nat
  decodeTokens : Nat
  prefillTokens : Nat
  proposed : Nat
  accepted : Nat
  cancelled : Nat
  budgetUsed : Nat
  flags : Nat
  suspensions : Nat
  energy : Nat
deriving DecidableEq, Repr

/-- One step stream (R66, R67): its step number, virtual time (R77), step in flight, step-record ring, pacing delay. -/
structure Stream where
  step : Nat
  vtime : Nat
  run : Option StepRun
  /-- records in the ring, by slot of the ring (R92) -/
  records : List (Nat × StepRecord)
  /-- records written since the ring was set up (STP_REC_HEAD) -/
  head : Nat
  /-- PT of the last seal of the stream -/
  lastSeal : Nat
  /-- the next step may form only at this PT (R367) -/
  paceUntil : Nat
deriving DecidableEq, Repr

/-- A role shift in progress (R71): cluster, role left, role taken, the commit's PT. -/
structure RoleShift where
  cluster : Nat
  fromRole : Nat
  toRole : Nat
  start : Nat
deriving DecidableEq, Repr

/-- A tenant and its ledger row (R488 to R500). Counters 6 to 8 are kept in eighths of a KiB·ms (R150). -/
structure Tenant where
  declared : Bool
  /-- quotas in KiB, by tier -/
  quota : Tri
  /-- use in bytes, by tier (R115) -/
  used : Tri
  maxSessions : Nat
  maxRunning : Nat
  weight : Nat
  tokenLimit : Nat
  bucketRate : Nat
  bucketDepth : Nat
  /-- model instances that SESSION_OPEN may name (R489) -/
  models : List Nat
  /-- functions bound (R397) -/
  functions : List Nat
  /-- shared domain, 0 for none (R136) -/
  domain : Nat
  counters : List Nat
  tokensUsed : Nat
  reserved : Nat
  /-- bucket level in thousandths of a token (R496) -/
  bucket : Nat
  overQuota : Bool
  /-- posted step numbers (R500) -/
  posted0 : Nat
  posted1 : Nat
  /-- PT of the last posting -/
  snapPt : Nat
  /-- finish tags per stream (R77) -/
  finish0 : Nat
  finish1 : Nat
  /-- charges accrued and not posted (R491): counter, amount, stamp -/
  charges : List (Nat × Nat × Nat)
deriving DecidableEq, Repr

/-- A stream right after reset (R67). -/
def Stream.reset : Stream :=
  { step := 0, vtime := 0, run := none, records := [], head := 0, lastSeal := 0, paceUntil := 0 }

/-- A tenant that no commit has declared, with the defaults of R489. -/
def Tenant.undeclared : Tenant :=
  { declared := false, quota := ⟨0, 0, 0⟩, used := ⟨0, 0, 0⟩, maxSessions := 0, maxRunning := 0, weight := 1,
    tokenLimit := 0, bucketRate := 0, bucketDepth := 1, models := [], functions := [], domain := 0,
    counters := [0, 0, 0, 0, 0, 0, 0, 0, 0, 0, 0, 0, 0, 0, 0, 0], tokensUsed := 0, reserved := 0, bucket := 0,
    overQuota := false, posted0 := 0, posted1 := 0, snapPt := 0, finish0 := 0, finish1 := 0, charges := [] }

end Sys2Proof.Machine
end

