-- ==== Sys2Proof/Machine/StateTables.lean ====
section
/-! DEFINITION. Row tables, adapters and recall indexes (chapter 10). -/
namespace Sys2Proof.Machine

/-- A version of an adapter (R265, R268), by ADAPTER_ID × 65,536 + version. -/
structure AdapterVersion where
  current : Bool
  tenant : Nat
  model : Nat
  rank : Nat
  scale : Nat
  format : Nat
  /-- layer, projection code and offset of each target's matrices -/
  targets : List (Nat × Nat × Nat)
  pages : List Nat
deriving DecidableEq, Repr

/-- An ADAPTER_LOAD whose host read has not ended (R265). -/
structure AdapterLoad where
  frame : Frame
  key : Nat
deriving DecidableEq, Repr

/-- A row block of a block map (R255): owner package, owner SD, base USA. -/
structure RowBlock where
  pkg : Nat
  sd : Nat
  usa : Nat
deriving DecidableEq, Repr

/-- A TABLE_SWITCH that waits for its boundary (R259, R261): its frame, the new map, its flags. -/
structure PendingSwitch where
  frame : Frame
  map : Nat
  blocks : List RowBlock
  stamp : Nat
  retire : Bool
  copyMoved : Bool
deriving DecidableEq, Repr

/-- A row update queued at its owner SD (R262, R263): the sort key, whether it overwrites, its row and bytes, and the
ingress stamp; `frame` completes when it is applied. -/
structure RowUpdate where
  step : Nat
  pkg : Nat
  handle : Nat
  seq : Nat
  overwrite : Bool
  row : Nat
  bytes : List Byte
  stamp : Nat
  frame : Option Frame
deriving DecidableEq, Repr

/-- A row table (R255) with its block map; the rows stand in state memory at the blocks' USAs (R256). `hotAddr` and
`hotCount` are its hot-list registers, `reading` the SDs that read the list; `copies` the rows of T0 hot copies by SD. -/
structure RowTable where
  tenant : Nat
  numeric : Bool
  format : Nat
  rowBytes : Nat
  rowCount : Nat
  log2Block : Nat
  map : Nat
  version : Nat
  blocks : List RowBlock
  pending : Option PendingSwitch
  /-- old maps still read by lookups bound to them, to be freed: version and blocks (R259) -/
  retiring : List (Nat × List RowBlock)
  updates : List RowUpdate
  hotAddr : Nat
  hotCount : Nat
  reading : List Nat
  copies : List (Nat × Nat)
  /-- rows that an SD looked up since the last refresh: SD and row -/
  lookedUp : List (Nat × Nat)
  /-- row reads served by SD, and high-water marks (ROW_SHARD, ROW_HWM) -/
  lookups : List (Nat × Nat)
  queueHwm : List (Nat × Nat)
deriving DecidableEq, Repr

/-- A lookup that waits for remote rows (R257): its frame, requester SD, table and the version it is bound to (R258), the
bag, the rows of this package by place in the bag; requests without their whole answer: request ID, places in the bag,
bytes so far. -/
structure LookupWait where
  frame : Frame
  sd : Nat
  table : Nat
  version : Nat
  bag : List Nat
  rows : List (Nat × List Byte)
  requests : List (Nat × List Nat × List Byte)
deriving DecidableEq, Repr

/-- A record of a recall shard (R269). -/
structure RecallRecord where
  id : Nat
  attr : Nat
  codes : List Nat
  dead : Bool
deriving DecidableEq, Repr

/-- A recall index (R269 to R273); centroids by subspace × 256 + code as FP16 codes. -/
structure RecallIndex where
  tenant : Nat
  dim : Nat
  subspaces : Nat
  innerProduct : Bool
  sds : List Nat
  capacity : Nat
  codebook : List (List Nat)
  shards : List (Nat × List RecallRecord)
  /-- queries and vectors scanned by SD (RCL_STAT, RCL_SCANNED) -/
  queries : List (Nat × Nat)
  scanned : List (Nat × Nat)
deriving DecidableEq, Repr

/-- A query in progress (R272): frame, requester SD, ingress stamp, the SDs still to scan, the distance table by
subspace and code in units of 2^-24 (`none` for an entry that is no finite number), and the passing vectors so far:
distance and ID. -/
structure QueryWait where
  frame : Frame
  index : Nat
  sd : Nat
  stamp : Nat
  open_ : List Nat
  dist : List (List (Option Int))
  results : List (Int × Nat)
deriving DecidableEq, Repr

/-- Records of an insert for one shard, waiting for the scans of earlier queries (R273). -/
structure ShardInsert where
  index : Nat
  sd : Nat
  stamp : Nat
  key : Nat
  delete : Bool
  records : List RecallRecord
deriving DecidableEq, Repr

/-- A RECALL_INSERT whose shards have not all applied it: shards left, whether one refused a record. -/
structure InsertWait where
  frame : Frame
  left : Nat
  full : Bool
deriving DecidableEq, Repr

/-- What chapter 10 holds beside adapters. -/
structure Tables where
  tables : List (Nat × RowTable)
  loads : List (Nat × AdapterLoad)
  lookups : List (Nat × LookupWait)
  indexes : List (Nat × RecallIndex)
  queries : List (Nat × QueryWait)
  inserts : List (Nat × InsertWait)
  shardInserts : List ShardInsert
  /-- updates of rows that another package owns, waiting for the S0 seal that numbers them (R264): table, package, SD -/
  outgoing : List (Nat × Nat × Nat × RowUpdate)
  /-- the next key of a load, lookup, query or insert, and the next request ID -/
  nextKey : Nat
  /-- sessions that follow an adapter whose current version has been switched: adapter, stamp (R267) -/
  follow : List (Nat × Nat)
deriving DecidableEq, Repr

/-- No table, load, index or wait. -/
def Tables.empty : Tables :=
  { tables := [], loads := [], lookups := [], indexes := [], queries := [], inserts := [], shardInserts := [],
    outgoing := [], nextKey := 1, follow := [] }

end Sys2Proof.Machine
end

