-- ==== Sys2Proof/Machine/StateZynut.lean ====
section
/-! DEFINITION. Zynut-W cores and Zynut-M sequencers (chapter 08). -/
namespace Sys2Proof.Machine

/-- A tile accumulator (R206): its anchor, the elements that are not 0 (32 × row + column, 152-bit codes), and whether a
matrix fault has left it invalid (R217). -/
structure Tile where
  anchor : Int
  elems : List (Nat × Nat)
  invalid : Bool
deriving DecidableEq, Repr

/-- The registers of a Zynut-W core (R206): scalar, vector (2,048-bit numbers), tiles, predicates that differ from 0, by
number. -/
structure WRegs where
  scalar : List (Nat × Nat)
  vector : List (Nat × Nat)
  tile : List (Nat × Tile)
  pred : List (Nat × Nat)
deriving DecidableEq, Repr

/-- Core states (CORE_STATUS.STATE). -/
inductive CoreState where
  | idle | running | stopped
deriving DecidableEq, Repr

/-- A loop in progress (R213): first and last bundle, repetitions left. -/
structure LoopFrame where
  first : Nat
  last : Nat
  left : Nat
deriving DecidableEq, Repr

/-- Operations of a matrix slot (R214). -/
inductive MatOp where
  | tzero | mma | tout | timg | tadd | tpre
deriving DecidableEq, Repr

/-- A command issued to a matrix engine and not completed (R211, R214): its engine, operation, tile, formats, and what
its scalar registers held; whether its scale is 1.0. -/
structure MatCmd where
  engine : Nat
  op : MatOp
  tile : Nat
  fmtA : Nat
  fmtB : Nat
  a : Nat
  b : Nat
  k : Nat
  unscaled : Bool
deriving DecidableEq, Repr

/-- What a slot of a bundle does beyond its registers, held until the whole bundle has executed (R210, R217). -/
inductive ZwAct where
  /-- bytes stored into a memory of the core (R207) -/
  | store (addr : Nat) (bytes : List Byte)
  /-- bytes stored into the core SRAM of a core of the cluster -/
  | send (core addr : Nat) (bytes : List Byte)
  | matrix (m : MatCmd)
  /-- K and V handed to the append unit, with what s_aux held -/
  | append (aux : Nat) (bytes : List Byte)
  /-- a payload for another package: package, die, destination address, bytes -/
  | gallery (pkg die addr : Nat) (bytes : List Byte)
  /-- a KV page read by XSTREAM returned POISON -/
  | poison (page : Nat)
  | branch (pc : Nat)
  | loop (last count : Nat)
  | call (pc : Nat)
  | ret (pc : Nat)
  | bar (code : Nat)
  | halt
  /-- a flag of ENG_FLAGS, by its bit -/
  | flag (bit : Nat)
deriving DecidableEq, Repr

/-- The bundle being executed. Its slots read the registers as they stood when it issued (R210); what they write, scalar
registers (0 to 31), vector registers (32 to 63) and predicates (64 to 71), and what else they do takes effect with the
last of them. `skip`: its condition fails (R209). -/
structure Bundle where
  skip : Bool
  writes : List (Nat × Nat)
  acts : List ZwAct
deriving DecidableEq, Repr

/-- A Zynut-W core: registers, pc, loops (innermost first), return depth; the bundle being executed; the barrier it waits
at with its PT; matrix commands not completed, in issue order; matrix faults not yet reported, by engine (R217); core
SRAM bytes that are not 0; the exception record; the kernel: model instance, layer, PT at which the layer began. -/
structure Core where
  state : CoreState
  regs : WRegs
  pc : Nat
  loops : List LoopFrame
  depth : Nat
  bundle : Option Bundle
  barrier : Option (Nat × Nat)
  matrix : List MatCmd
  deferred : List (Nat × Nat)
  sram : List Host.Cell
  /-- CORE_EXC and CORE_EXC_PC: code, slots, pc, step -/
  exc : Nat
  excSlot : Nat
  excPc : Nat
  excStep : Nat
  model : Nat
  layer : Nat
  layerStart : Nat
deriving DecidableEq, Repr

/-- Registers of a core with nothing in them. -/
def WRegs.zero : WRegs := { scalar := [], vector := [], tile := [], pred := [] }

/-- A core right after reset. -/
def Core.reset : Core :=
  { state := .idle, regs := WRegs.zero, pc := 0, loops := [], depth := 0, bundle := none, barrier := none, matrix := [],
    deferred := [], sram := [], exc := 0, excSlot := 0, excPc := 0, excStep := 0, model := 0, layer := 0, layerStart := 0 }

/-- A Zynut-M sequencer (R220): the program of its last run; the run: the image it completes under (R226), the hoist
channel it serves, registers m1 to m15 that are not 0, pc, scratch words that are not 0, views, input queues, pending
pushes by queue and pending result words, instructions executed; what the last run that ended put out; the fault
record. -/
structure Sequencer where
  prog : Nat
  running : Bool
  image : Option ZmImage
  chan : Nat
  regs : List (Nat × Nat)
  pc : Nat
  scratch : List (Nat × Nat)
  views : List (Nat × List Nat)
  inputs : List (Nat × List Nat)
  pushes : List (Nat × Nat)
  results : List (Nat × Nat)
  count : Nat
  queue : List (Nat × Nat)
  words : List (Nat × Nat)
  /-- the next run starts no later than this PT (TSET) -/
  nextBy : Option Nat
  runs : Nat
  faultCode : Nat
  trapCode : Nat
  faultPc : Nat
  faultRun : Nat
deriving DecidableEq, Repr

/-- A sequencer right after reset. -/
def Sequencer.reset : Sequencer :=
  { prog := 0, running := false, image := none, chan := 0, regs := [], pc := 0, scratch := [], views := [], inputs := [],
    pushes := [], results := [], count := 0, queue := [], words := [], nextBy := none, runs := 0,
    faultCode := 0, trapCode := 0, faultPc := 0, faultRun := 0 }

end Sys2Proof.Machine
end

