-- ==== Sys2Proof/Machine/State.lean ====
section
/-! DEFINITION. The state of one OV32 package, plain data; the reasons a command can stop; the state after reset. -/
namespace Sys2Proof.Machine

/-- Why a command stops the machine. -/
inductive Fault where
  /-- Raised by the meaning of a command whose operand names a unit that R3, R8 or R395 does not give the package (a
  function above 127, a state die above 11, a core above 511, ...): no such event can arrive. Safe. -/
  | noSuchUnit
deriving DecidableEq, Repr

/-- Why a command is refused. -/
inductive Refusal where
  /-- Raised by the arm of a command that has no meaning yet. Safe. -/
  | notModelled (mnemonic : String)
deriving DecidableEq, Repr

/-- What leaves the package: the model's own record of it, newest last. -/
inductive Msg where
  /-- a record written to a result queue, with its ring index, phase and text offset (R405) -/
  | record (fn rq index : Nat) (phase : Bool) (offset : Nat) (r : Record)
  /-- bytes written to host memory for a function -/
  | hostWrite (fn addr : Nat) (bytes : List Byte)
  /-- an MSI-X interrupt -/
  | interrupt (fn vector : Nat)
  /-- a packet that leaves by a Gallery port -/
  | packet (port : Nat) (p : Packet)
  /-- a packet delivered on the package, to a die of its own (R322) -/
  | onPackage (p : Packet)
  /-- a write to the checkpoint store: namespace, epoch, kind, bytes (R344, R351) -/
  | store (nsid epoch kind bytes : Nat)
  /-- an NVMe-oF read of a weight shard: target, namespace, offset, bytes (R469) -/
  | storeRead (target nsid offset bytes : Nat)
  /-- a write to the drain journal: entry sequence, 0 header and payload or 1 commit block (R391) -/
  | journal (seq part : Nat)
  /-- bytes written to a drain namespace -/
  | drain (drive addr : Nat) (bytes : List Byte)
  /-- an Ethernet frame -/
  | ethernet (port : Nat) (bytes : List Byte)
  /-- an SPDM, PLDM or MCTP response: its code and values (R432, R436, R423) -/
  | response (code : Nat) (values : List Nat)
  /-- a code on the UART (R452, R538) -/
  | uart (code : Nat)
deriving DecidableEq, Repr

/-- The state of one package. -/
structure State where
  /-- commands that wait, first in first out -/
  pending : List Instr
  /-- Package Time in ns (R14): the latest ingress stamp -/
  pt : Nat
  /-- the ingress stamp of the event being applied (R24) -/
  now : Nat
  /-- the model's own count of free values drawn (Config) -/
  draws : Nat
  /-- registers of Package Control Space that differ from reset, by address (R8) -/
  regs : List (Nat × Nat)
  /-- SEL registers, held for each physical function (R550): key port × 2^28 + address -/
  sels : List (Nat × Nat)
  /-- stamps of the last hardware set and the last software clear of each W1C flag, by 64 × address + bit (R514) -/
  flagSets : List (Nat × Nat)
  flagClears : List (Nat × Nat)
  /-- what has left the package -/
  out : List Msg
  /-- the session table by slot; a slot not listed is FREE and unused (R37) -/
  sessions : List (Nat × Session)
  /-- the state dies by number -/
  sds : List (Nat × StateDie)
  /-- page-table leaves by page USA (R104) -/
  leaves : List (Nat × Leaf)
  /-- class pools by SD, tier, pool and class (R101) -/
  pools : List (Nat × ClassPool)
  /-- contents of pages by USA, and of scale blocks by 2^48 + USA / 32: sorted, no byte 0 listed (R162) -/
  mem : List Host.Cell
  /-- cages in progress by CAGE_ID (R110) -/
  cages : List (Nat × Cage)
  /-- writes to pages that wait for a switch point, in stamp order: page, address, bytes (R99, R112) -/
  heldWrites : List (Nat × Nat × List Byte)
  s0 : Stream
  s1 : Stream
  shifts : List RoleShift
  /-- sampler counters by logical cluster (R250) -/
  samplers : List (Nat × SamplerCount)
  tenants : List (Nat × Tenant)
  /-- KV shards held for sessions of other packages, by handle (R177) -/
  kvShards : List (Nat × KvShard)
  /-- TC2 requests being collected, by 2^32 × source package + request ID (R179) -/
  attRequests : List (Nat × PartSet)
  /-- split reductions in progress, by reduction ID (R198) -/
  splitSums : List (Nat × SplitSum)
  /-- members of the shared domains by domain ID and member index, 0 for none (R136, R151) -/
  domains : List (Nat × List Nat)
  /-- the guest map by handle (R294) -/
  guests : List (Nat × Guest)
  fns : List (Nat × HostFn)
  /-- T2 expanders by pool index 4 × port + device (R96) -/
  expanders : List (Nat × Expander)
  /-- drain drives D0 and D1, Ethernet ports E0 and E1 -/
  drives : List (Nat × Drive)
  eths : List (Nat × EthPort)
  models : List (Nat × Model)
  profiles : List (Nat × Profile)
  seqLists : List (Nat × SeqList)
  /-- adapter versions, by ADAPTER_ID × 65,536 + version -/
  adapters : List (Nat × AdapterVersion)
  /-- the next table SD in the rotation of SESSION_OPEN and SESSION_FORK (R36) -/
  rotation : Nat
  errLog : ErrLog
  power : Power
  gallery : Gallery
  /-- hoist channels by die index × 64 + channel (R277); HOI registers' counts by die -/
  channels : List (Nat × Channel)
  /-- the background channel served last, by die (R281) -/
  hoistTurn : List (Nat × Nat)
  /-- migrations at their source, by slot, and at their destination, by handle (R291, R292) -/
  migrations : List (Nat × Migration)
  incoming : List (Nat × Incoming)
  tables : Tables
  checkpoint : Checkpoint
  /-- energy ports: 0 on EIDA, 1 on EIDB -/
  energyPorts : List (Nat × EnergyPort)
  security : Security
  boot : Boot
  /-- configuration transactions: the last of each scope (R473); CT_RESULT by function: status, owner, count -/
  txns : List CtTxn
  ctResults : List (Nat × Nat × Nat × Nat)
  obs : Obs
  /-- Zynut-W cores by 8 × logical cluster + logical core; control cores follow at 512 + 2 × IOD + n -/
  cores : List (Nat × Core)
  /-- cluster SRAM by logical cluster, bytes that are not 0 (R207) -/
  clusterSram : List (Nat × List Host.Cell)
  /-- consecutive steps in which a kernel faulted (R218), by 2 × model instance, + 1 on S1: layer, last step, count -/
  kernelFaults : List (Nat × Nat × Nat × Nat)
  /-- K and V that kernels have sent to the KV append unit (R216): core, what s_aux held, bytes -/
  appends : List (Nat × Nat × List Byte)
  /-- Zynut-M sequencers by ZYM instance × 16 + number, and their images by program ID (R224) -/
  sequencers : List (Nat × Sequencer)
  programs : List (Nat × ZmImage)
deriving DecidableEq, Repr

/-- The machine right after reset. -/
def State.reset : State :=
  { pending := [], pt := 0, now := 0, draws := 0, regs := [], sels := [], flagSets := [], flagClears := [], out := [], sessions := [], sds := [], leaves := [],
    pools := [], mem := [], cages := [], heldWrites := [], s0 := Stream.reset, s1 := Stream.reset, shifts := [], samplers := [], tenants := [], kvShards := [], attRequests := [], splitSums := [], domains := [], guests := [], fns := [], expanders := [], drives := [], eths := [],
    models := [], profiles := [], seqLists := [], adapters := [], rotation := 0, errLog := ErrLog.empty, power := Power.reset, gallery := Gallery.reset,
    channels := [], hoistTurn := [], migrations := [], incoming := [], tables := Tables.empty, checkpoint := Checkpoint.reset,
    energyPorts := [], security := Security.reset, boot := Boot.reset, txns := [], ctResults := [], obs := Obs.reset,
    cores := [], clusterSram := [], kernelFaults := [], appends := [], sequencers := [], programs := [] }

end Sys2Proof.Machine
end

