-- ==== Sys2Proof/Machine/Flags.lean ====
section
/-! DEFINITION. W1C flags and their event counters (R513, R514), and the place of every flag. -/
namespace Sys2Proof.Machine

/-- The value of a PCS register: what was written, or its reset value (R549). -/
def State.reg (s : State) (addr : Nat) : Nat := agetD s.regs addr (resetReg addr)

/-- Set a PCS register. -/
def State.setReg (s : State) (addr v : Nat) : State := { s with regs := aset s.regs addr v }

/-- A field of a register. -/
def State.regFld (s : State) (blk inst off hi lo : Nat) : Nat := fld (s.reg (pcs blk inst off)) hi lo

/-- Set a field of a register. -/
def State.setRegFld (s : State) (blk inst off hi lo v : Nat) : State :=
  s.setReg (pcs blk inst off) (setFld (s.reg (pcs blk inst off)) hi lo v)

/-- Add to a field of a register, modulo its width. -/
def State.addRegFld (s : State) (blk inst off hi lo v : Nat) : State :=
  s.setRegFld blk inst off hi lo (s.regFld blk inst off hi lo + v)

/-- Raise a mark to a value, where it is larger (R516). -/
def State.markReg (s : State) (blk inst off hi lo v : Nat) : State :=
  if s.regFld blk inst off hi lo < v then s.setRegFld blk inst off hi lo (min v (2 ^ (hi - lo + 1) - 1)) else s

/-- A W1C flag: block, offset of its register, bit (R513). -/
structure FlagId where
  blk : Nat
  off : Nat
  bit : Nat
deriving DecidableEq, Repr

/-- The key of a flag in the lists of set and clear stamps. -/
def flagKey (addr bit : Nat) : Nat := 64 * addr + bit

/-- A hardware set of a flag at the present stamp: its counter, in the register 8 above, rises by 1 modulo 256 (R513);
the flag is set, but where a clear stamped later has already been applied (R514). -/
def State.setFlag (s : State) (f : FlagId) (inst : Nat) : State :=
  let a := pcs f.blk inst f.off
  let s := s.addRegFld f.blk inst (f.off + 8) (8 * f.bit + 7) (8 * f.bit) 1
  let key := flagKey a f.bit
  if s.now < agetD s.flagClears key 0 then s
  else { s with regs := aset s.regs a (setFld (s.reg a) f.bit f.bit 1)
                flagSets := aset s.flagSets key (max s.now (agetD s.flagSets key 0)) }

/-- Set a flag where a condition holds. -/
def State.flagIf (s : State) (c : Bool) (f : FlagId) (inst : Nat) : State := if c then s.setFlag f inst else s

/-- A software clear of one flag bit (R514): it clears the flag when no set carries its stamp or a later one. -/
def State.clearFlag (s : State) (addr bit : Nat) : State :=
  let key := flagKey addr bit
  let s := { s with flagClears := aset s.flagClears key (max s.now (agetD s.flagClears key 0)) }
  if (aget s.flagSets key).any (s.now ≤ ·) then s else s.setReg addr (setFld (s.reg addr) bit bit 0)

/-- The flags of R551, by register. -/
def fSlotRetired : FlagId := ⟨0x02, 0x18, 0⟩
def fLockBroken : FlagId := ⟨0x02, 0x18, 1⟩
def fOutboxPoolLow : FlagId := ⟨0x02, 0x18, 2⟩
def fTimerLate : FlagId := ⟨0x02, 0x18, 3⟩
def fWaitRefused : FlagId := ⟨0x02, 0x18, 4⟩
def fPoolLow : FlagId := ⟨0x04, 0x20, 0⟩
def fFloor : FlagId := ⟨0x04, 0x20, 1⟩
def fListOverflow : FlagId := ⟨0x04, 0x20, 2⟩
def fPoisoned : FlagId := ⟨0x04, 0x20, 3⟩
def fProgramFault : FlagId := ⟨0x04, 0x20, 4⟩
def fCageDropped : FlagId := ⟨0x05, 0x10, 0⟩
def fCageCancelled : FlagId := ⟨0x05, 0x10, 1⟩
def fCageAborted : FlagId := ⟨0x05, 0x10, 2⟩
def fHoldLong : FlagId := ⟨0x05, 0x10, 3⟩
def fSaturated : FlagId := ⟨0x06, 0x20, 0⟩
def fRefFull : FlagId := ⟨0x06, 0x20, 1⟩
def fCollision : FlagId := ⟨0x06, 0x20, 2⟩
def fBucketEvict : FlagId := ⟨0x06, 0x20, 3⟩
def fNonfinite : FlagId := ⟨0x07, 0x20, 0⟩
def fSmoothSat : FlagId := ⟨0x07, 0x20, 1⟩
def fMapPoolLow : FlagId := ⟨0x07, 0x20, 2⟩
def fRemoteTimeout : FlagId := ⟨0x08, 0x20, 0⟩
def fLateReply : FlagId := ⟨0x08, 0x20, 1⟩
def fReadFault : FlagId := ⟨0x08, 0x20, 2⟩
def fForcedCut : FlagId := ⟨0x0b, 0x20, 0⟩
def fContextCut : FlagId := ⟨0x0b, 0x20, 1⟩
def fCallTrunc : FlagId := ⟨0x0b, 0x20, 2⟩
def fTextPoolLow : FlagId := ⟨0x0b, 0x20, 3⟩
def fBanAll : FlagId := ⟨0x0c, 0x18, 0⟩
def fNoMass : FlagId := ⟨0x0c, 0x18, 1⟩
def fQueueFault : FlagId := ⟨0x17, 0x38, 0⟩
def fDrainAbort : FlagId := ⟨0x17, 0x38, 1⟩
def fSurpriseDown : FlagId := ⟨0x17, 0x38, 2⟩
def fDeviceRemoved : FlagId := ⟨0x18, 0x20, 0⟩
def fEvacStopped : FlagId := ⟨0x18, 0x20, 1⟩
def fOverQuota : FlagId := ⟨0x1c, 0x58, 0⟩
def fBudgetEmpty : FlagId := ⟨0x1c, 0x58, 1⟩
def fSeqAlert : FlagId := ⟨0x19, 0x30, 0⟩
def fKeyExhausted : FlagId := ⟨0x19, 0x30, 1⟩
def fImageReject : FlagId := ⟨0x19, 0x30, 2⟩
def fTdiError : FlagId := ⟨0x19, 0x30, 3⟩
def fWeightErr : FlagId := ⟨0x1a, 0x48, 0⟩
def fFwRefused : FlagId := ⟨0x1a, 0x48, 1⟩
def fFenceRefused : FlagId := ⟨0x1a, 0x48, 2⟩
def fFenced : FlagId := ⟨0x1a, 0x48, 3⟩
def fStray : FlagId := ⟨0x1b, 0x58, 0⟩
def fAutoAbort : FlagId := ⟨0x1b, 0x58, 1⟩
def fApplyFail : FlagId := ⟨0x1b, 0x58, 2⟩
def fDumpFault : FlagId := ⟨0x1c, 0x58, 2⟩
def fErrOverwrite : FlagId := ⟨0x1e, 0x40, 0⟩
def fCeStorm : FlagId := ⟨0x1e, 0x40, 1⟩
def fErrDe : FlagId := ⟨0x1e, 0x40, 2⟩
def fErrUe : FlagId := ⟨0x1e, 0x40, 3⟩
def fSnapFault : FlagId := ⟨0x1d, 0x50, 0⟩
def fHwmRefused : FlagId := ⟨0x1d, 0x50, 1⟩
def fStoreLost : FlagId := ⟨0x15, 0x40, 0⟩
def fThermDrain : FlagId := ⟨0x15, 0x40, 2⟩
def fConvFault : FlagId := ⟨0x15, 0x40, 3⟩
def fDrainOverW : FlagId := ⟨0x15, 0x40, 4⟩
def fJournalErr : FlagId := ⟨0x15, 0x40, 5⟩
def fUnhealthy : FlagId := ⟨0x16, 0x38, 0⟩
def fLoopFault : FlagId := ⟨0x16, 0x38, 1⟩
def fCellLimit : FlagId := ⟨0x16, 0x38, 2⟩
def fCmdRefused : FlagId := ⟨0x16, 0x38, 3⟩
def fUvDetect : FlagId := ⟨0x16, 0x38, 4⟩

end Sys2Proof.Machine
end

