-- ==== Sys2Proof/Machine/Operands.lean ====
section
/-! DEFINITION. The operand forms of host frames (R32, R48, R400, R407) and the status codes (R408). -/
namespace Sys2Proof.Machine

/-- Fields of a handle (R32): ORIGIN [63:50], SLOT [49:28], GEN [27:0]. -/
def hOrigin (h : Nat) : Nat := fld h 63 50
def hSlot (h : Nat) : Nat := fld h 49 28
def hGen (h : Nat) : Nat := fld h 27 0

/-- A handle (R32). -/
def mkHandle (origin slot gen : Nat) : Nat := origin % 2 ^ 14 * 2 ^ 50 + slot % 2 ^ 22 * 2 ^ 28 + gen % 2 ^ 28

/-- The table SD of a slot (R36). -/
def tableSd (slot : Nat) : Nat := slot % 12

/-- The status codes of R408. -/
def stOk : Nat := 0x0000
def stFrameShort : Nat := 0x0010
def stFrameLong : Nat := 0x0011
def stFrameOpcode : Nat := 0x0012
def stFrameField : Nat := 0x0013
def stQueueFault : Nat := 0x0014
def stNoSession : Nat := 0x0020
def stSessionState : Nat := 0x0021
def stNotRunning : Nat := 0x0022
def stCancelled : Nat := 0x0023
def stWaitCycle : Nat := 0x0024
def stWaitDepth : Nat := 0x0025
def stLateResult : Nat := 0x0026
def stLockBroken : Nat := 0x0027
def stMoved : Nat := 0x0028
def stQuota : Nat := 0x0030
def stBudget : Nat := 0x0031
def stResourceFloor : Nat := 0x0032
def stAccessFault : Nat := 0x0040
def stPoison : Nat := 0x0042
def stCtBusy : Nat := 0x0050
def stCtNotOpen : Nat := 0x0051
def stCtInvalid : Nat := 0x0052
def stDisabled : Nat := 0x0060
def stDetached : Nat := 0x0061
def stKeyExhausted : Nat := 0x0070
def stAuthFail : Nat := 0x0071
def stCkpIncomplete : Nat := 0x0080
def stCkpLayout : Nat := 0x0081
def stConfidential : Nat := 0x0090

/-- Flags of a frame header (R400). -/
def Frame.more (f : Frame) : Bool := bitOf f.flags 0
def Frame.fence (f : Frame) : Bool := bitOf f.flags 1
def Frame.notify (f : Frame) : Bool := bitOf f.flags 2
def Frame.timed (f : Frame) : Bool := bitOf f.flags 3

/-- The number in `n` bytes of a frame from byte `off`, 32 to 63 (R48). -/
def Frame.field (f : Frame) (off n : Nat) : Nat := leAt f.body (off - 32) n

/-- Whether bytes `lo` to `hi` of a frame, 32 to 63, are all 0 (reserved bytes, R48). -/
def Frame.zeros (f : Frame) (lo hi : Nat) : Bool := f.field lo (hi + 1 - lo) == 0

/-- The opcodes of R407 with their largest LEN and whether MORE is allowed. -/
def opcodeTable : List (Nat × Nat × Bool) :=
  [(0x0101, 65536, false), (0x0102, 65536, true), (0x0103, 65536, true), (0x0104, 64, false), (0x0105, 64, false),
   (0x0106, 64, false), (0x0107, 64, false), (0x0108, 64, false), (0x0109, 64, false), (0x010a, 64, false),
   (0x010b, 65536, false), (0x010c, 64, false), (0x0201, 4160, false), (0x0202, 65536, false), (0x0203, 64, false),
   (0x0301, 16544, false), (0x0302, 65536, false), (0x0401, 64, false), (0x0402, 64, false), (0x0501, 64, false),
   (0x0502, 64, false), (0x0601, 64, false)]

/-- A frame read from the slots of a ring: header fields, bytes 32 to 63, payload (R400). -/
def parseFrame (fn q seq : Nat) (bs : List Byte) : Frame :=
  let len := leAt bs 0 4 % 2 ^ 17
  { function := fn, queue := q, seq := seq, len := len, opcode := leAt bs 4 2, flags := leAt bs 6 2,
    handle := leAt bs 8 8, tag := leAt bs 16 8, param := leAt bs 24 8, body := bytesAt bs 32 32,
    payload := (bs.drop 64).take (len - 64) }

/-- What the header checks of R400 decide. -/
inductive HeaderCheck where
  /-- the queue stops: QUEUE_FAULT, no slot consumed -/
  | stop
  /-- the frame completes with a status, its slots consumed -/
  | refuse (status slots : Nat)
  /-- the frame goes on to its handle and its opcode's fields -/
  | pass (slots : Nat)
deriving DecidableEq, Repr

/-- The header checks of R400, in order; `lenWord` is bytes 0–3, whose bits [31:17] are reserved. -/
def headerCheck (ringSlots lenWord : Nat) (f : Frame) : HeaderCheck :=
  let slots := ceilDiv f.len 64
  if f.len > 65536 || slots > ringSlots then .stop
  else if f.len < 64 then .refuse stFrameShort 1
  else match opcodeTable.find? (·.1 == f.opcode) with
    | none => .refuse stFrameOpcode slots
    | some (_, maxLen, moreOk) =>
      if lenWord ≥ 2 ^ 17 || f.flags ≥ 16 || (f.more && !moreOk)
          || (f.timed && (f.opcode == 0x0101 || f.opcode == 0x010b)) then .refuse stFrameField slots
      else if f.len > maxLen then .refuse stFrameLong slots
      else .pass slots

/-- Bytes 24–31 of a frame without TIMED are reserved, but for SESSION_OPEN and SESSION_WAIT_PEER (R48). -/
def Frame.paramOk (f : Frame) : Bool := f.timed || f.param == 0

/-- The field checks of R48 for the opcodes whose bytes 32 to 63 are reserved. -/
def Frame.plainOk (f : Frame) : Bool := f.paramOk && f.zeros 32 63

/-- SESSION_PARK's fields (R48): TARGET in byte 32. -/
def Frame.parkOk (f : Frame) : Bool := f.paramOk && f.field 32 1 ≤ 2 && f.zeros 33 63

/-- SESSION_RESUME's fields (R48): CALL_ID in bytes 32–35. -/
def Frame.resumeOk (f : Frame) : Bool := f.paramOk && f.zeros 36 63

/-- SESSION_FORK's fields (R48). -/
def Frame.forkOk (f : Frame) : Bool :=
  f.paramOk && (f.field 32 1 ≤ 1 || f.field 32 1 == 0xff) && (f.field 33 1 ≤ 7 || f.field 33 1 == 0xff)
    && f.zeros 34 39 && f.zeros 48 63

/-- SESSION_WAIT_PEER's fields (R48): PEER in bytes 32–39. -/
def Frame.waitPeerOk (f : Frame) : Bool := f.zeros 40 63

/-- Codes of the enumerations of the session entry (R37, R39, R40). -/
def SState.code : SState → Nat
  | .free => 0 | .opening => 1 | .ready => 2 | .running => 3 | .waiting => 4 | .held => 5 | .moving => 6 | .away => 7
  | .closing => 8 | .fenced => 9
def WaitReason.code : WaitReason → Nat
  | .none => 0 | .tool => 1 | .peer => 2 | .timer => 3 | .input => 4 | .outboxFull => 5 | .budget => 6 | .quota => 7
def FenceReason.code : FenceReason → Nat
  | .none => 0 | .lockBroken => 1 | .timeout => 2 | .poison => 3 | .dieLost => 4 | .tierLost => 5
def Residence.code : Residence → Nat
  | .hot => 0 | .warm => 1 | .parked => 2 | .dormant => 3

/-- A tier's count in a triple. -/
def Tri.get (x : Tri) (tier : Nat) : Nat := if tier = 0 then x.t0 else if tier = 1 then x.t1 else x.t2

/-- A triple with one tier's count replaced. -/
def Tri.set (x : Tri) (tier v : Nat) : Tri :=
  if tier = 0 then { x with t0 := v } else if tier = 1 then { x with t1 := v } else { x with t2 := v }

end Sys2Proof.Machine
end

