-- ==== Sys2Proof/Machine/Ops.lean ====
section
/-! DEFINITION. The named operations over the state: stamps, pools, memory, sessions, outboxes, completions, quotas. -/
namespace Sys2Proof.Machine

/-- An event of ingress stamp `t` reaches the island that owns the state it acts on (R24): PT never steps back (R15). -/
def State.stamp (s : State) (t : Nat) : State := { s with pt := max s.pt t, now := t }

/-- A command that can arrive only for a unit that exists. -/
def unitExists (c : Bool) (s : State) : Host.Outcome State Fault Refusal := if c then .next s else .fault .noSuchUnit

/-- A free value: the next of the run (Config), and the state that has drawn it. -/
def State.draw (s : State) : Nat × State := (s.draws, { s with draws := s.draws + 1 })

/-- The package sends or writes something. -/
def State.emit (s : State) (m : Msg) : State := { s with out := s.out ++ [m] }

/-! ### Pools (R36, R62, R101, R127, R166) -/

/-- The items of a pool that are free. -/
def Pool.free (p : Pool) : Nat :=
  p.front.length + (p.total - p.fresh - countBy (fun i => p.fresh ≤ i && i < p.total) p.withdrawn) + p.freed.length

/-- The first item at or above `i` that no withdrawal takes out, looking at most `n` further. -/
def nextFresh (withdrawn : List Nat) : Nat → Nat → Nat
  | 0, i => i
  | n + 1, i => if withdrawn.contains i then nextFresh withdrawn n (i + 1) else i

/-- Take the head of a pool's free list. -/
def Pool.take (p : Pool) : Option (Nat × Pool) :=
  match p.front with
  | i :: r => some (i, { p with front := r })
  | [] =>
    let i := nextFresh p.withdrawn p.withdrawn.length p.fresh
    if i < p.total then some (i, { p with fresh := i + 1 })
    else match p.freed with
      | j :: r => some (j, { p with freed := r, fresh := i })
      | [] => none

/-- A freed item joins the tail, unless it is withdrawn (R108). -/
def Pool.give (p : Pool) (i : Nat) : Pool := if p.withdrawn.contains i then p else { p with freed := p.freed ++ [i] }

/-- An item returns to the head of its list (R36). -/
def Pool.giveFront (p : Pool) (i : Nat) : Pool := { p with front := i :: p.front }

/-- An item leaves its pool until the next assay (R108). -/
def Pool.withdraw (p : Pool) (i : Nat) : Pool :=
  { p with withdrawn := i :: p.withdrawn, front := p.front.filter (· != i), freed := p.freed.filter (· != i) }

/-! ### State dies, sessions -/

/-- A state die. -/
def State.sd (s : State) (n : Nat) : StateDie := agetD s.sds n (StateDie.reset n)

/-- Replace a state die. -/
def State.putSd (s : State) (n : Nat) (d : StateDie) : State := { s with sds := aset s.sds n d }

/-- The session of a slot. -/
def State.sess (s : State) (slot : Nat) : Session := agetD s.sessions slot (Session.free slot)

/-- Replace the session of a slot. -/
def State.putSess (s : State) (slot : Nat) (x : Session) : State := { s with sessions := aset s.sessions slot x }

/-- The entry of a slot. -/
def State.entry (s : State) (slot : Nat) : Entry := (s.sess slot).cur.entry

/-- Replace the entry of a session. -/
def Session.withEntry (x : Session) (e : Entry) : Session := { x with cur := { x.cur with entry := e } }

/-- Replace the entry of a slot. -/
def State.putEntry (s : State) (slot : Nat) (e : Entry) : State := s.putSess slot ((s.sess slot).withEntry e)

/-- Move a session to a state that is not WAITING (R44): WAIT_REASON becomes NONE (R37); a session that becomes READY
takes its ready stamp (R71). -/
def State.setState (s : State) (slot : Nat) (st : SState) : State :=
  let x := s.sess slot
  let e := { x.cur.entry with state := st, waitReason := .none }
  s.putSess slot { x.withEntry e with
    since := s.now, readyStamp := if st = .ready then s.now else x.readyStamp }

/-- Move a session to WAITING for a reason (R44). -/
def State.setWait (s : State) (slot : Nat) (r : WaitReason) : State :=
  let x := s.sess slot
  s.putSess slot { x.withEntry { x.cur.entry with state := .waiting, waitReason := r } with since := s.now }

/-- This package's ID: GAL_ID.PKG_ID (R32). -/
def State.pkg (s : State) : Nat := s.regFld 0x12 0 0x08 13 0

/-! ### Host functions and completions -/

/-- A host function. -/
def State.fn (s : State) (f : Nat) : HostFn := agetD s.fns f HostFn.absent

/-- Replace a host function. -/
def State.putFn (s : State) (f : Nat) (h : HostFn) : State := { s with fns := aset s.fns f h }

/-- A dispatch queue and a result queue of a function. -/
def HostFn.dq (h : HostFn) (q : Nat) : DispatchQueue := agetD h.dqs q DispatchQueue.reset
def HostFn.rq (h : HostFn) (q : Nat) : ResultQueue := agetD h.rqs q ResultQueue.reset

/-- Bytes 32 to 63 of a record, from fields (offset, width, value) of distinct places (R405). -/
def recordBody (fields : List (Nat × Nat × Nat)) : List Byte :=
  let v := fields.foldl (fun acc p => acc + p.2.2 % 256 ^ p.2.1 * 256 ^ (p.1 - 32)) 0
  leBytes 32 v

/-- The queue number of a frame that the package makes itself (R274): it was fetched from no dispatch queue, and its
completion writes no record. -/
def deviceQueue : Nat := 64

/-- A completion waits for room in the result queue of its frame's dispatch queue (R407); the frame is no longer in
flight (R399). -/
def State.completeWith (s : State) (f : Frame) (r : Record) : State :=
  if deviceQueue ≤ f.queue then s
  else
  let h := s.fn f.function
  let d := h.dq f.queue
  let rq := h.rq d.rq
  let d := { d with inFlight := d.inFlight.filter fun x => x.frame.seq != f.seq }
  s.putFn f.function { h with
    dqs := aset h.dqs f.queue d
    rqs := aset h.rqs (h.dq f.queue).rq { rq with waiting := rq.waiting ++ [(r, f.notify)] } }

/-- The STATUS record of a frame (R405, R407). -/
def statusRecord (f : Frame) (status handle : Nat) (body : List Byte) : Record :=
  { type := 0x04, status := status, opcode := f.opcode, handle := handle, tag := f.tag, body := body, text := [] }

/-- A frame completes with a status; the record carries the frame's handle. -/
def State.complete (s : State) (f : Frame) (status : Nat) : State :=
  s.completeWith f (statusRecord f status f.handle (recordBody []))

/-! ### Session records and the outbox (R62, R63) -/

/-- Outbox-pool entries of a table SD that are free and not reserved (SES_OUTBOX_POOL.FREE). -/
def StateDie.outboxFree (d : StateDie) : Nat := d.outbox.free - d.outboxReserved

/-- Set OUTBOX_POOL_LOW where the free entries of an SD fall below its LOW_MARK. -/
def State.checkOutboxLow (s : State) (sd before : Nat) : State :=
  let low := s.regFld 0x02 sd 0x28 47 24
  s.flagIf (low ≤ before && (s.sd sd).outboxFree < low) fOutboxPoolLow sd

/-- A record enters a session's outbox: it takes a reserved entry where the session has one left, else a free entry of
the pool; where neither is to be had, or an earlier record waits, it waits at the table SD (R63). -/
def State.putRecord (s : State) (slot : Nat) (r : Record) : State :=
  let x := s.sess slot
  let n := tableSd slot
  let d := s.sd n
  let before := d.outboxFree
  if !x.unpooled.isEmpty || (x.reserved == 0 && before == 0) then
    s.putSess slot { x with unpooled := x.unpooled ++ [r] }
  else match d.outbox.take with
    | none => s.putSess slot { x with unpooled := x.unpooled ++ [r] }
    | some (i, p) =>
      let use := if x.reserved = 0 then 0 else 1
      let s := s.putSd n { d with outbox := p, outboxReserved := d.outboxReserved - use }
      (s.putSess slot { x with outbox := x.outbox ++ [⟨i, r⟩], reserved := x.reserved - use }).checkOutboxLow n before

/-- A record of a session itself: OPCODE 0 and HOST_TAG 0 (R407). -/
def State.sessionRecord (s : State) (slot type status : Nat) (body text : List Byte) : State :=
  s.putRecord slot { type := type, status := status, opcode := 0, handle := (s.entry slot).handle, tag := 0,
                     body := body, text := text }

/-- An EVENT record of a session (R409). -/
def State.sessionEvent (s : State) (slot code : Nat) (fields : List (Nat × Nat × Nat)) : State :=
  s.sessionRecord slot 0x05 stOk (recordBody ((32, 1, code) :: fields)) []

/-- A device EVENT, to result queue 0 of a function (R409). -/
def State.eventTo (s : State) (fn code : Nat) (fields : List (Nat × Nat × Nat)) : State :=
  let h := s.fn fn
  let rq := h.rq 0
  let r : Record := { type := 0x05, status := stOk, opcode := 0, handle := 0, tag := 0,
                      body := recordBody ((32, 1, code) :: fields), text := [] }
  s.putFn fn { h with rqs := aset h.rqs 0 { rq with waiting := rq.waiting ++ [(r, false)] } }

/-- A device EVENT, to the function HIF_CFG.EVENT_FUNC names (R409). -/
def State.deviceEvent (s : State) (code : Nat) (fields : List (Nat × Nat × Nat)) : State :=
  s.eventTo (s.regFld 0x17 0 0x00 22 16) code fields

/-! ### The error log (R517 to R522) -/

/-- Whether an error merges into the newest entry (R520): the same source, code and detail within 1 ms. -/
def ErrEntry.merges (e : ErrEntry) (now cls die blk inst code detail : Nat) : Bool :=
  e.cls == cls && e.die == die && e.blk == blk && e.inst == inst && e.code == code && e.detail == detail
    && now ≤ e.pt + 1000000

/-- CE entries that a source has logged in its present second; a second starts with the first entry after the last one
has ended (R520). -/
def ErrLog.window (l : ErrLog) (src now : Nat) : Nat × Nat :=
  match aget l.windows src with
  | some (start, n) => if now < start + 1000000000 then (start, n) else (now, 0)
  | none => (now, 0)

/-- Count an occurrence in ERR_COUNT and set the flag of its class. -/
def State.countError (s : State) (cls : Nat) : State :=
  if cls = 0 then s.addRegFld 0x1e 0 0x38 31 0 1
  else if cls = 1 then (s.addRegFld 0x1e 0 0x38 47 32 1).setFlag fErrDe 0
  else if cls = 2 then (s.addRegFld 0x1e 0 0x38 63 48 1).setFlag fErrUe 0
  else s

/-- Log an error (R517, R520): it merges into the newest entry, or a source over CE_LIMIT is suppressed with CE_STORM, or
a new entry is written, over the oldest of a full ring; a new DE or UE entry goes out as device EVENT 0x60 (R518,
R522). -/
def State.logError (s : State) (cls die blk inst code detail : Nat) : State :=
  let s := s.countError cls
  let l := s.errLog
  let last := aget l.ring ((l.count - 1) % 4096)
  match last with
  | some e =>
    if l.count != 0 && e.merges s.now cls die blk inst code detail then
      { s with errLog := { l with ring := aset l.ring ((l.count - 1) % 4096)
                                    { e with repeats := min 0xffff (e.repeats + 1) } } }
    else write s l
  | none => write s l
where
  /-- Write a new entry, but for a CE of a source over its limit. -/
  write (s : State) (l : ErrLog) : State :=
    let src := (die * 64 + blk) * 64 + inst
    let (start, n) := l.window src s.now
    if cls = 0 ∧ s.regFld 0x1e 0 0x30 15 0 ≤ n then s.setFlag fCeStorm 0
    else
      let e : ErrEntry := { pt := s.now, seq := l.count % 2 ^ 32, cls := cls, die := die, blk := blk, inst := inst,
                            code := code, repeats := 0, detail := detail }
      let s := s.flagIf (l.count ≥ 4096) fErrOverwrite 0
      let s := { s with errLog := { l with
        count := l.count + 1
        ring := aset l.ring (l.count % 4096) e
        windows := if cls = 0 then aset l.windows src (start, n + 1) else l.windows } }
      if cls = 1 ∨ cls = 2 then
        s.deviceEvent 0x60 [(33, 1, cls), (34, 2, code), (36, 1, die), (40, 4, l.count), (48, 8, detail)]
      else s

/-! ### Memory -/

/-- The key of the scale block's byte `i` of the page at `usa` (R161): a place of its own beside every USA. -/
def scaleKey (usa i : Nat) : Nat := 2 ^ 48 + usa / 32 + i

/-- A byte of state memory; a byte that nothing has written reads 0 (R162; log entry 3). -/
def memByte (m : List Host.Cell) (a : Nat) : Byte := agetD m a 0

/-- Write a byte, keeping the list canonical: sorted, and no 0 listed. -/
def memPut (m : List Host.Cell) (a : Nat) (b : Byte) : List Host.Cell := if b = 0 then adel m a else aset m a b

/-- Write bytes at rising addresses. -/
def memWrite (m : List Host.Cell) (a : Nat) : List Byte → List Host.Cell
  | [] => m
  | b :: bs => memWrite (memPut m a b) (a + 1) bs

/-- Apply the writes held for one page, in order (R112). -/
def applyHeld (m : List Host.Cell) (page : Nat) : List (Nat × Nat × List Byte) → List Host.Cell
  | [] => m
  | (p, a, bs) :: r => applyHeld (if p = page then memWrite m a bs else m) page r

/-- Read bytes at rising addresses. -/
def memRead (m : List Host.Cell) (a : Nat) : Nat → List Byte
  | 0 => []
  | n + 1 => memByte m a :: memRead m (a + 1) n

/-- Zero a range: no address of it stays listed. -/
def memZero (m : List Host.Cell) (a n : Nat) : List Host.Cell := m.filter fun c => c.1 < a || a + n ≤ c.1

/-- Copy a range onto another, whole. -/
def memCopy (m : List Host.Cell) (src dst n : Nat) : List Host.Cell :=
  ((m.filter fun c => src ≤ c.1 && c.1 < src + n).foldl (fun acc c => aset acc (dst + (c.1 - src)) c.2)
    (memZero m dst n))

/-- The canonical form of memory: addresses strictly rising, no byte 0 listed. -/
def Memory.wf : List Host.Cell → Bool
  | [] => true
  | [c] => c.2 != 0
  | c :: d :: r => c.2 != 0 && decide (c.1 < d.1) && Memory.wf (d :: r)

/-! ### Pages and pools of frames -/

/-- Page size of a class (R100). -/
def pageSize (cls : Nat) : Nat := 4096 * 2 ^ cls

/-- The key of a class pool: SD, tier, pool index, class; class 10 of T0 is the scale pool (MEM_POOL_SEL). -/
def poolKey (sd tier pool cls : Nat) : Nat := ((sd * 4 + tier) * 16 + pool) * 16 + cls

/-- A class pool; one that no headframe made has no frames. -/
def State.pool (s : State) (k : Nat) : ClassPool := agetD s.pools k { base := 0, pool := Pool.new 0 }

/-- Take a frame of a class pool: its number in 4 KiB units. -/
def State.takeFrame (s : State) (sd tier pool cls : Nat) : Option (Nat × State) :=
  let k := poolKey sd tier pool cls
  let c := s.pool k
  match c.pool.take with
  | none => none
  | some (i, p) => some (c.base + i * 2 ^ cls, { s with pools := aset s.pools k { c with pool := p } })

/-- A frame returns to its class pool; a frame that a re-division has left outside it (R98) returns to none. -/
def State.giveFrame (s : State) (sd tier pool cls frame : Nat) : State :=
  let k := poolKey sd tier pool cls
  let c := s.pool k
  if frame < c.base ∨ c.pool.total ≤ (frame - c.base) / 2 ^ cls ∨ (frame - c.base) % 2 ^ cls ≠ 0 then s
  else { s with pools := aset s.pools k { c with pool := c.pool.give ((frame - c.base) / 2 ^ cls) } }

/-- A frame whose read failed is withdrawn from its pool until the next assay (R108). -/
def State.withdrawFrame (s : State) (sd tier pool cls frame : Nat) : State :=
  let k := poolKey sd tier pool cls
  let c := s.pool k
  { s with pools := aset s.pools k { c with pool := c.pool.withdraw ((frame - c.base) / 2 ^ cls) } }

/-- The scale pool of an SD (R101). -/
def scalePool (sd : Nat) : Nat := poolKey sd 0 sd 10

/-- Take a block of an SD's scale pool. -/
def State.takeScale (s : State) (sd : Nat) : Option (Nat × State) :=
  let c := s.pool (scalePool sd)
  match c.pool.take with
  | none => none
  | some (i, p) => some (i, { s with pools := aset s.pools (scalePool sd) { c with pool := p } })

/-- A block returns to its SD's scale pool. -/
def State.giveScale (s : State) (sd : Nat) (i : Option Nat) : State :=
  match i with
  | none => s
  | some i =>
    let c := s.pool (scalePool sd)
    { s with pools := aset s.pools (scalePool sd) { c with pool := c.pool.give i } }

/-- The OWNER_SD of a USA (R94). -/
def ownerSd (usa : Nat) : Nat := fld usa 47 44

/-- The page that a byte address lies in, where one is valid (R94). -/
def State.pageOf (s : State) (usa : Nat) : Option (Nat × Leaf) :=
  if ownerSd usa < 12 then s.leaves.find? fun p => p.1 ≤ usa && usa < p.1 + pageSize p.2.sizeClass else none

/-- The leaf of a page. -/
def State.leaf (s : State) (page : Nat) : Option Leaf := aget s.leaves page

/-- Replace the leaf of a page. -/
def State.putLeaf (s : State) (page : Nat) (l : Leaf) : State := { s with leaves := aset s.leaves page l }

/-- Change the leaf of a page, where it has one. -/
def State.updLeaf (s : State) (page : Nat) (f : Leaf → Leaf) : State := { s with leaves := aupd s.leaves page f }

/-- Whether a range overlaps a valid page. -/
def overlapsPage (leaves : List (Nat × Leaf)) (a n : Nat) : Bool :=
  leaves.any fun p => p.1 < a + n && a < p.1 + pageSize p.2.sizeClass

/-- The first free aligned range of `n` bytes of an SD's region at or after `a`, trying at most `k` places. -/
def freeRange (leaves : List (Nat × Leaf)) (n : Nat) : Nat → Nat → Nat
  | 0, a => a
  | k + 1, a => if overlapsPage leaves a n then freeRange leaves n k (a + n) else a

/-- A free aligned USA for a new page (R95, R166): which one is open, so the search starts at a free value. -/
def State.freshUsa (s : State) (sd cls : Nat) : Nat × State :=
  let (d, s) := s.draw
  let n := pageSize cls
  let start := sd * 2 ^ 44 + Config.freeUsa d % (2 ^ 43 / n) * n
  (freeRange s.leaves n (s.leaves.length + 1) start, s)

/-! ### Tenants and quotas (R115, R116) -/

/-- A tenant. -/
def State.tenant (s : State) (t : Nat) : Tenant := agetD s.tenants t Tenant.undeclared

/-- A tenant's remaining budget (R495); TOKEN_LIMIT of all ones is none. -/
def Tenant.remaining (t : Tenant) : Nat :=
  if t.tokenLimit = 2 ^ 64 - 1 then 2 ^ 64 else t.tokenLimit - t.tokensUsed - t.reserved

/-- Replace a tenant. -/
def State.putTenant (s : State) (t : Nat) (x : Tenant) : State := { s with tenants := aset s.tenants t x }

/-- Bytes that a page of a class counts for: the page and its scale block (R115). -/
def pageUse (cls scaleBytes : Nat) : Nat := pageSize cls + scaleBytes

/-- Whether the quota keeper accepts `n` bytes more in a tier: what does not raise use is no reservation to refuse (R116);
device pages count against no quota. -/
def State.quotaFits (s : State) (t tier n : Nat) : Bool :=
  t == 0 || n == 0 || (s.tenant t).used.get tier + n ≤ (s.tenant t).quota.get tier * 1024

/-- Count `n` bytes of tier use (R115). -/
def State.addUse (s : State) (t tier n : Nat) : State :=
  if t = 0 then s
  else
    let x := s.tenant t
    s.putTenant t { x with used := x.used.set tier (x.used.get tier + n) }

/-- OVER_QUOTA clears when use is at or below the quota in every tier (R498). -/
def Tenant.overNow (x : Tenant) : Bool :=
  x.used.t0 > x.quota.t0 * 1024 || x.used.t1 > x.quota.t1 * 1024 || x.used.t2 > x.quota.t2 * 1024

/-- Release `n` bytes of tier use (R116). -/
def State.dropUse (s : State) (t tier n : Nat) : State :=
  if t = 0 then s
  else
    let x := s.tenant t
    let x := { x with used := x.used.set tier (x.used.get tier - n) }
    s.putTenant t { x with overQuota := x.overQuota && x.overNow }

/-- A charge accrues at its owning island, to be posted (R491): counter, amount, stamp. -/
def State.charge (s : State) (t counter amount : Nat) : State :=
  if amount = 0 then s
  else
    let x := s.tenant t
    s.putTenant t { x with charges := x.charges ++ [(counter, amount, s.now)] }

/-! ### Lookups over the tables -/

/-- Slots whose session satisfies a test, in slot order. -/
def State.slotsWhere (s : State) (p : Session → Bool) : List Nat := (s.sessions.filter fun x => p x.2).map (·.1)

/-- A handle's session on this package (R35): the slot that the handle names, or a guest's local slot (R294), where a
session in a state other than FREE carries the handle. -/
def State.findHandle (s : State) (h : Nat) : Option Nat :=
  let slot := if hOrigin h = s.pkg then some (hSlot h) else (aget s.guests h).map Guest.slot
  match slot with
  | none => none
  | some i => if h != 0 && (s.entry i).state != .free && (s.entry i).handle == h then some i else none

/-- Whether a tenant is declared and bound to a function (R397, R488). -/
def State.bound (s : State) (tenant fn : Nat) : Bool :=
  (s.tenant tenant).declared && (s.tenant tenant).functions.contains fn

end Sys2Proof.Machine
end

