-- ==== Sys2Proof/Machine/Gallery.lean ====
section
/-! DEFINITION. The Gallery's shared operations (chapter 12): handing a packet to the fabric, and the checks that a
received packet meets (R316, R331, R438). -/
namespace Sys2Proof.Machine

def fPortDown : FlagId := ⟨0x12, 0x60, 0⟩
def fMemberChange : FlagId := ⟨0x12, 0x60, 1⟩
def fRouteDrop : FlagId := ⟨0x12, 0x60, 2⟩
def fEpochDrop : FlagId := ⟨0x12, 0x60, 3⟩
def fSyncLost : FlagId := ⟨0x12, 0x60, 4⟩
def fAuthDrop : FlagId := ⟨0x12, 0x60, 5⟩

/-- The group epoch of the package (R330). -/
def State.epoch (s : State) : Nat := s.reg (pcs 0x12 0 0x10)

/-- The job slot of a job (R435): slot 0 serves job 0. -/
def State.jobSlotOf (s : State) (job : Nat) : Option (Nat × JobSlot) :=
  if job = 0 then some (0, agetD s.security.jobs 0 JobSlot.free)
  else s.security.jobs.find? fun p => p.1 != 0 && p.2.job == job

/-- The key slot of a phase. -/
def JobSlot.key (j : JobSlot) (phase : Nat) : KeySlot := if phase = 0 then j.p0 else j.p1

/-- The job that protects what the package sends in a class (log entry 5): the management job for TC1 and TC7, else the
job of the lowest job slot in use above 0, else the management job. -/
def State.jobOf (s : State) (tc : Nat) : Nat :=
  if tc = 1 ∨ tc = 7 then 0 else ((s.security.jobs.find? fun p => p.1 != 0 && p.2.job != 0).map fun p => p.2.job).getD 0

/-- The traffic class of an opcode (R316); SEG_DATA has three, and its class is the sender's. -/
def opcodeClass (op : Nat) : Option Nat :=
  if op = 0x01 ∨ op = 0x02 then some 1
  else if op = 0x08 ∨ op = 0x09 then some 7
  else if op = 0x10 ∨ op = 0x11 ∨ op = 0x12 then some 0
  else if op = 0x20 ∨ op = 0x21 then some 2
  else if 0x30 ≤ op ∧ op ≤ 0x37 then some 3
  else if op = 0x40 then some 4
  else none

/-- Flits of a packet with a payload of `n` bytes (R310). -/
def flitsOf (n : Nat) : Nat := 1 + ceilDiv n 64

/-- The tenant that a packet of its own is charged to (R490, counter 10): the session's, where the packet carries one
session's data; the device, where it carries several members'; none for other packets. -/
def State.packetTenant (s : State) (opcode : Nat) (oph : List (Nat × Nat × Nat)) : Option Nat :=
  let at_ := fun off => ((oph.find? fun q => q.1 == off).map fun q => q.2.2).getD 0
  let h := if opcode = 0x20 ∨ opcode = 0x40 then at_ 24 else if opcode = 0x11 ∨ opcode = 0x36 then at_ 32 else 0
  if opcode = 0x20 ∨ opcode = 0x40 ∨ opcode = 0x11 ∨ (opcode = 0x36 ∧ h ≠ 0) then
    some (((s.findHandle h).map fun i => (s.entry i).tenant).getD 0)
  else if 0x30 ≤ opcode ∧ opcode ≤ 0x37 then some 0
  else none

/-- A unit of this package hands a packet to the fabric (R311): FLOW from its die and unit number, EPOCH from GAL_EPOCH
(R331). SEQ and key phase are set when the packet leaves (R312, R437). -/
def State.send (s : State) (pkg dstDie tc srcDie unit opcode : Nat) (oph : List (Nat × Nat × Nat))
    (payload : List Byte) (note : List Nat) : State :=
  let p : Packet :=
    { dstPkg := pkg, dstDie := dstDie, tc := tc, srcPkg := s.pkg, srcDie := srcDie, flow := srcDie * 256 + unit
      opcode := opcode, job := s.jobOf tc, phase := 0, seq := 0, epoch := s.epoch % 2 ^ 16, hops := 0
      oph := leBytes 24 (oph.foldl (fun acc q => acc + q.2.2 % 256 ^ q.2.1 * 256 ^ (q.1 - 24)) 0)
      payload := payload, note := note }
  let s := match s.packetTenant opcode oph with
    | some t => s.charge t 10 1
    | none => s
  { s with gallery := { s.gallery with sending := s.gallery.sending ++ [p] } }

/-- The die index of an SD (R16): CD0 to CD15 are 0 to 15, SD0 to SD11 follow, then the IODs and EIDs. -/
def sdDie (sd : Nat) : Nat := 16 + sd

/-- Sub-codes of MIG_CTL, numbered in the order of R316's list, with the two acknowledgements after them (log entry 6). -/
inductive MigCode where
  | prepare | ready | handover | committed | abortReq | aborted | homeUpdate | closeNote | sealNote | dropNote
  | homeUpdateAck | closeNoteAck
deriving DecidableEq, Repr

/-- The number of a sub-code. -/
def MigCode.num : MigCode → Nat
  | .prepare => 0 | .ready => 1 | .handover => 2 | .committed => 3 | .abortReq => 4 | .aborted => 5 | .homeUpdate => 6
  | .closeNote => 7 | .sealNote => 8 | .dropNote => 9 | .homeUpdateAck => 10 | .closeNoteAck => 11

/-- A table SD sends a MIG_CTL message (R316). -/
def State.sendMig (s : State) (pkg sd : Nat) (c : MigCode) (handle moveSeq count : Nat) (note : List Nat) : State :=
  s.send pkg (sdDie sd) 0 (sdDie sd) 0xff 0x11
    [(24, 1, c.num), (32, 8, handle), (40, 4, moveSeq), (44, 4, count)] [] note

/-! ### Reception -/

/-- Count a dropped packet in a field of GAL_DROP of the IOD that received it: 0 AUTH, 1 ROUTE, 2 EPOCH, 3 MALFORMED. -/
def State.countDrop (s : State) (port kind : Nat) : State :=
  let s := s.addRegFld 0x12 (port % 2) 0x58 (16 * kind + 15) (16 * kind) 1
  if kind = 0 then s.setFlag fAuthDrop (port % 2)
  else if kind = 1 then s.setFlag fRouteDrop (port % 2)
  else if kind = 2 then s.setFlag fEpochDrop (port % 2)
  else s

/-- Whether a packet passes authentication (R437, R438): its job has a slot whose key slot of KEY_PHASE is not EMPTY and
the tag verifies; under the all-zero key of job 0 only ROLL_CALL, SYNC and SYNC_REPLY pass. -/
def State.authentic (s : State) (h : Head) (opcode : Nat) : Bool :=
  match s.jobSlotOf h.job with
  | none => false
  | some (_, j) =>
    if h.job == 0 && j.p0.state == .empty && j.p1.state == .empty then
      h.tagOk && (opcode == 0x01 || opcode == 0x02 || opcode == 0x08)
    else (j.key h.phase).state != .empty && h.tagOk

/-- The committed FABRIC transaction that awaits its switch (R331). -/
def State.pendingFabric (s : State) : Option CtTxn := s.txns.find? fun x => x.scope == .fabric && x.state == 2

/-- The member list that a FABRIC transaction stages (R330): MEMBER PARAMs of its items; PARAM_ID 0x01 of the FABRIC
section with the place in INDEX and the package in the value (log entry 7). -/
def CtTxn.members (x : CtTxn) : List Nat :=
  (x.items.filter fun i => i.section_ == 5 && i.item == 2 && leAt i.body 0 2 == 0x01).map fun i => leAt i.body 8 2

/-- The epoch check of R331. -/
def State.epochOk (s : State) (h : Head) : Bool :=
  let e := s.epoch
  if h.epoch == e % 2 ^ 16 then s.gallery.members.contains h.srcPkg
  else if h.epoch == (e + 1) % 2 ^ 16 then
    s.pendingFabric.any fun x => ((aget x.shadows (pcs 0x12 0 0x10)).any fun v => v.1 == e + 1) && x.members.contains h.srcPkg
  else if h.epoch == (e + 2 ^ 16 - 1) % 2 ^ 16 then
    s.now ≤ s.gallery.epochSwitch + 100000 && s.gallery.membersBefore.contains h.srcPkg
  else false

/-- Whether a packet's form follows R310 and R316. -/
def formOk (h : Head) (opcode : Nat) : Bool :=
  h.reservedZero && 1 ≤ h.len && h.len ≤ 65
    && (if h.len = 1 then h.payBytes == 0 else decide (64 * (h.len - 2) < h.payBytes ∧ h.payBytes ≤ 64 * (h.len - 1)))
    && (if opcode = 0x50 then h.tc == 4 || h.tc == 5 || h.tc == 6 else opcodeClass opcode == some h.tc)

/-- A packet for this package reaches its receiving island (R438, R331, R316): it is authenticated, its epoch is
checked, but for ROLL_CALL, SYNC, SYNC_REPLY and MGMT, and its form; then `act` acts on it. -/
def State.receive (s : State) (h : Head) (opcode : Nat) (act : State → State) : State :=
  if !s.authentic h opcode then s.countDrop h.port 0
  else if !(opcode == 0x01 || opcode == 0x02 || opcode == 0x08 || opcode == 0x09) && !s.epochOk h then
    s.countDrop h.port 2
  else if !formOk h opcode then s.countDrop h.port 3
  else act s

/-- A Gallery port exists on every package (R306). -/
def portExists (h : Head) : Bool := h.port < 16

end Sys2Proof.Machine
end

