-- ==== Sys2Proof/Machine/Pages.lean ====
section
/-! DEFINITION. Pages of sessions: KV geometry (R152 to R161), KV maps (R163 to R166), reference counts (R126 to R131),
allocation, freeing and copy-on-write (R101, R115, R133), and residence (R40, R114). -/
namespace Sys2Proof.Machine

/-! ### KV geometry -/

/-- Bits of a stored element: KQ4, KQ6, KQ8, KBF16 (R152, R158). -/
def kvBits (fmt : Nat) : Nat := if fmt = 0 then 4 else if fmt = 1 then 6 else if fmt = 2 then 8 else 16

/-- KV-head groups of a layer: G = H_kv / gh. -/
def Model.groups (m : Model) : Nat := m.kvHeads / m.groupHeads

/-- Query heads per group: Q_g = gh × H_q / H_kv. -/
def Model.groupQueries (m : Model) : Nat := m.groupHeads * m.qHeads / m.kvHeads

/-- Value bytes of one slot: gh × hd × 2 × bits / 8 (R159). -/
def Model.slotBytes (m : Model) : Nat := m.groupHeads * m.headDim * 2 * kvBits m.kvFormat / 8

/-- Scale bytes of one slot: gh × 4 for KQ formats (R161). -/
def Model.slotScaleBytes (m : Model) : Nat := if m.kvFormat = 3 then 0 else m.groupHeads * 4

/-- Tokens per page p: the largest power of two that does not exceed page size / slot bytes (R159). -/
def Model.pageTokens (m : Model) : Nat := 2 ^ Nat.log2 (pageSize m.kvPageClass / m.slotBytes)

/-- The scale block of a KV page: 1/32 of the page, 0 for KBF16 (R101, R161). -/
def Model.scaleBytes (m : Model) : Nat := if m.kvFormat = 3 then 0 else pageSize m.kvPageClass / 32

/-- Offset of the V plane: V0 = p × gh × hd × bits / 8 (R160). -/
def Model.vPlane (m : Model) : Nat := m.pageTokens * m.groupHeads * m.headDim * kvBits m.kvFormat / 8

/-- Offset of the vector of head `h` at slot `j` in its plane (R160). -/
def Model.vectorAt (m : Model) (h j : Nat) : Nat := (h * m.pageTokens + j) * m.headDim * kvBits m.kvFormat / 8

/-- Layer-groups of a model instance: L × G (R164). -/
def Model.layerGroups (m : Model) : Nat := m.layers * m.groups

/-- The package that holds a layer-group, where it is another one (R177). -/
def Model.remoteOf (m : Model) (lg : Nat) : Option Nat := aget m.remoteGroups lg

/-- The minimum pool of a model instance in bytes (R120). -/
def Model.minPool (m : Model) : Nat :=
  m.layers * m.groups * (ceilDiv 128 m.pageTokens + 1) * (pageSize m.kvPageClass + m.scaleBytes) + 4096

/-! ### KV maps -/

/-- The pages of a run, in position order (R165). -/
def KvRun.usas (r : KvRun) : List Nat := (List.range r.pages).map fun i => r.usa + i * pageSize r.sizeClass

/-- The pages of a layer-group in position order. -/
def LayerGroup.usas (g : LayerGroup) : List Nat := g.runs.flatMap KvRun.usas

/-- A layer-group of a session; one without pages has an empty run list. -/
def SessionCore.lg (c : SessionCore) (i : Nat) : LayerGroup := agetD c.kvMap i { remote := none, runs := [] }

/-- The page of a layer-group that holds page index `k`. -/
def LayerGroup.page (g : LayerGroup) (k : Nat) : Option Nat := g.usas[k]?

/-- Runs that hold given pages of size class `cls` with `p` tokens each, from position `first` (R165, R166): a page at
the USA after the last page of the run extends it, up to 65,535 pages. -/
def buildRuns (cls p : Nat) : Nat → List Nat → List KvRun
  | _, [] => []
  | first, u :: us =>
    match buildRuns cls p (first + p) us with
    | r :: rs =>
      if r.usa = u + pageSize cls ∧ r.pages < 65535 then
        { firstToken := first, pages := r.pages + 1, sizeClass := cls, usa := u } :: rs
      else { firstToken := first, pages := 1, sizeClass := cls, usa := u } :: r :: rs
    | [] => [{ firstToken := first, pages := 1, sizeClass := cls, usa := u }]

/-- A layer-group with its pages replaced. -/
def SessionCore.setPages (c : SessionCore) (cls p lg : Nat) (us : List Nat) : SessionCore :=
  { c with kvMap := aset c.kvMap lg { c.lg lg with runs := buildRuns cls p 0 us } }

/-- Every page of a session: its metadata page, where it has one, and the pages of its KV map. -/
def SessionCore.pages (c : SessionCore) : List Nat :=
  (if c.entry.metaUsa = noPage then [] else [c.entry.metaUsa]) ++ c.kvMap.flatMap fun p => p.2.usas

/-- Map blocks and directory pages that a KV map takes (R164, R165). -/
def mapBlocksOf (m : List (Nat × LayerGroup)) : Nat := sumBy (fun p => ceilDiv p.2.runs.length 15) m
def dirPagesOf (m : List (Nat × LayerGroup)) : Nat :=
  ((m.filter fun p => !p.2.runs.isEmpty).map fun p => p.1 / 512).dedup.length

/-- Settle what a session's KV map holds of its home SD's map pool (R166): what it held returns, what it needs now is
taken, and MAP_POOL_LOW is set when the free blocks fall below 1/16 of the pool. -/
def State.settleMap (s : State) (slot : Nat) : State :=
  let x := s.sess slot
  let n := x.cur.entry.homeSd
  let d := s.sd n
  let b := mapBlocksOf x.cur.kvMap
  let k := dirPagesOf x.cur.kvMap
  let free := d.mapFree + x.mapHeld - b
  let s := s.putSd n { d with mapFree := free, dirFree := d.dirFree + x.dirHeld - k }
  (s.putSess slot { x with mapHeld := b, dirHeld := k }).flagIf
    (d.mapTotal ≤ 16 * d.mapFree && 16 * free < d.mapTotal) fMapPoolLow n

/-! ### Residence -/

/-- Pages per tier of a session (R114). -/
def State.tierCounts (s : State) (c : SessionCore) : Tri :=
  let tiers := c.pages.filterMap fun u => (s.leaf u).map Leaf.tier
  ⟨countBy (· == 0) tiers, countBy (· == 1) tiers, countBy (· == 2) tiers⟩

/-- The residence that page counts give (R40). -/
def residenceOf (x : Tri) : Residence :=
  if x.t1 = 0 ∧ x.t2 = 0 then .hot else if x.t0 = 0 then .parked else .warm

/-- Recount a session's pages and set its RESIDENCE (R40, R114); a session that becomes PARKED drops its park request
(R117). -/
def State.recount (s : State) (slot : Nat) : State :=
  let x := s.sess slot
  let c := s.tierCounts x.cur
  let e := x.cur.entry
  if e.residence = .dormant then s
  else
    let r := residenceOf c
    s.putSess slot { x.withEntry { e with residence := r } with
      tiers := c, parkRequest := x.parkRequest && r != .parked }

/-! ### Reference counts (R126 to R131) -/

/-- The sharing domain of a tenant (R136): its shared domain, else its private domain 0x1000 + t. -/
def State.domainOf (s : State) (t : Nat) : Nat :=
  if (s.tenant t).domain = 0 then 0x1000 + t else (s.tenant t).domain

/-- The member index of a tenant in a domain (R136); a private domain has its tenant as member 0. -/
def State.memberIndex (s : State) (dom t : Nat) : Nat :=
  if dom ≥ 0x1000 then 0 else ((agetD s.domains dom []).idxOf t)

/-- A list with one element changed. -/
def modifyAt (l : List Nat) (i : Nat) (f : Nat → Nat) : List Nat := l.modify i f

/-- A taken reference fills the first empty slot of the referrer chain (R131). -/
def fillSlot (slot : Nat) : List (Option Nat) → List (Option Nat)
  | [] => [some slot]
  | none :: r => some slot :: r
  | some i :: r => some i :: fillSlot slot r

/-- A dropped reference empties its slot (R131). -/
def emptySlot (slot : Nat) : List (Option Nat) → List (Option Nat)
  | [] => []
  | some i :: r => if i = slot then none :: r else some i :: emptySlot slot r
  | none :: r => none :: emptySlot slot r

/-- A reference entry that one more referrer joins: a session, or the prefix tree. -/
def RefEntry.join (s : State) (r : RefEntry) (who : Option Nat) : RefEntry :=
  match who with
  | none => { r with count := r.count + 1, tree := true }
  | some slot =>
    { r with count := r.count + 1, referrers := fillSlot slot r.referrers
             members := modifyAt r.members (s.memberIndex r.domain (s.entry slot).tenant) (· + 1) }

/-- A reference entry that a referrer leaves. -/
def RefEntry.leave (s : State) (r : RefEntry) (who : Option Nat) : RefEntry :=
  match who with
  | none => { r with count := r.count - 1, tree := false }
  | some slot =>
    { r with count := r.count - 1, referrers := emptySlot slot r.referrers
             members := modifyAt r.members (s.memberIndex r.domain (s.entry slot).tenant) (· - 1) }

/-- The reference entry of a page, where its count is above 1. -/
def State.refOf (s : State) (page : Nat) (l : Leaf) : Option RefEntry :=
  if l.refIndex = 0 then none else aget (s.sd (ownerSd page)).refs l.refIndex

/-- The reference count of a page (R126). -/
def State.refCount (s : State) (page : Nat) : Nat :=
  match s.leaf page with
  | none => 0
  | some l => match s.refOf page l with
    | some r => r.count
    | none => if l.orphan then 0 else 1

/-- Take a reference to a page (R128): `none` where the page can have no further one (R130), with the flag of R130 set in
the state answered beside it. -/
def State.takeRef (s : State) (page : Nat) (who : Option Nat) : Option State × State :=
  let n := ownerSd page
  match s.leaf page with
  | none => (none, s)
  | some l =>
    match s.refOf page l with
    | some r =>
      if r.count = 0xffffff then (none, s.setFlag fSaturated n)
      else
        let d := s.sd n
        (some (s.putSd n { d with refs := aset d.refs l.refIndex (r.join s who) }), s)
    | none =>
      let d := s.sd n
      match d.refPool.take with
      | none => (none, s.setFlag fRefFull n)
      | some (i, p) =>
        let idx := i + 1
        let dom := match who with
          | some slot => s.domainOf (s.entry slot).tenant
          | none => match l.owner with
            | some slot => s.domainOf (s.entry slot).tenant
            | none => s.domainOf l.tenant
        let r0 : RefEntry := { count := 0, tree := false, domain := dom, usa := page,
                               members := [0, 0, 0, 0, 0, 0, 0, 0], referrers := [] }
        let r := (r0.join s l.owner).join s who
        let s := s.putSd n { d with refPool := p, refs := aset d.refs idx r }
        (some (s.putLeaf page { l with refIndex := idx, owner := none }), s)

/-! ### Freeing (R101, R113, R126, R148) -/

/-- Give back a frame, its scale block and its tier use (R115). -/
def State.releaseFrame (s : State) (sd tier pool cls frame tenant scaleBytes : Nat) (scale : Option Nat) : State :=
  ((s.giveFrame sd tier pool cls frame).giveScale sd scale).dropUse tenant tier (pageUse cls scaleBytes)

/-- End a cage before C7: its new frame and use are released, and the old copy stays authoritative (R110). -/
def State.dropCage (s : State) (id : Nat) : State :=
  match aget s.cages id with
  | none => s
  | some c =>
    match s.leaf c.usa with
    | none => { s with cages := adel s.cages id }
    | some l =>
      let s := s.releaseFrame (ownerSd c.usa) c.tier c.pool l.sizeClass c.frame l.tenant l.scaleBytes c.scale
      let s := { s with
        cages := adel s.cages id
        mem := if c.up then s.mem else applyHeld s.mem c.usa s.heldWrites
        heldWrites := if c.up then s.heldWrites else s.heldWrites.filter fun w => w.1 != c.usa }
      s.putLeaf c.usa { l with cage := .resident, cageId := 0 }

/-- Free a page: a cage in progress is aborted before C7, and after C7 its old frame is released as well (R113); the
frame joins its pool, but a frame that failed a read stays withdrawn (R108); the page's place is empty again. -/
def State.freePage (s : State) (page : Nat) : State :=
  match s.leaf page with
  | none => s
  | some l0 =>
    let n := ownerSd page
    let s :=
      if l0.cageId = 0 then s
      else match aget s.cages l0.cageId with
        | none => s
        | some _ => (s.dropCage l0.cageId).setFlag fCageAborted n
    let l := (s.leaf page).getD l0
    let old := s.cages.find? fun p => p.2.usa == page && p.2.c7.isSome
    let s := match old with
      | none => s
      | some (id, c) =>
        { s.releaseFrame n c.oldTier c.oldPool l.sizeClass c.oldFrame l.tenant l.scaleBytes c.oldScale with
          cages := adel s.cages id }
    let s := s.releaseFrame n l.tier l.pool l.sizeClass l.frame l.tenant l.scaleBytes l.scale
    { s with leaves := adel s.leaves page
             heldWrites := s.heldWrites.filter fun w => w.1 != page
             mem := memZero (memZero s.mem page (pageSize l.sizeClass)) (scaleKey page 0) l.scaleBytes }

/-- A page whose count has fallen to 0 is freed, unless it is frozen (R148) or a hoist translation is pinned on it
(R95). -/
def State.freeUnheld (s : State) (page : Nat) : State :=
  match s.leaf page with
  | none => s
  | some l =>
    if l.frozen || l.pins > 0 then s.putLeaf page { l with orphan := true, owner := none } else s.freePage page

/-- Drop a reference to a page (R126, R128). -/
def State.dropRef (s : State) (page : Nat) (who : Option Nat) : State :=
  let n := ownerSd page
  match s.leaf page with
  | none => s
  | some l =>
    match s.refOf page l with
    | none => s.freeUnheld page
    | some r =>
      let r := r.leave s who
      let d := s.sd n
      if r.count ≤ 1 then
        let s := s.putSd n { d with refs := adel d.refs l.refIndex, refPool := d.refPool.give (l.refIndex - 1) }
        s.putLeaf page { l with refIndex := 0, owner := r.referrers.findSome? id }
      else s.putSd n { d with refs := aset d.refs l.refIndex r }

/-- Sessions that reference a page (R131). -/
def State.referrersOf (s : State) (page : Nat) : List Nat :=
  match s.leaf page with
  | none => []
  | some l => match s.refOf page l with
    | some r => r.referrers.filterMap id
    | none => l.owner.toList

/-! ### Allocation -/

/-- Set POOL_LOW and ask for a tier-policy run when a T0 class pool falls below T0_LOW_PCT free (R117). -/
def State.checkPoolLow (s : State) (sd cls : Nat) (before : Nat) : State :=
  let c := s.pool (poolKey sd 0 sd cls)
  let pct := s.regFld 0x04 0 0x18 54 48
  if pct * c.pool.total ≤ 100 * before ∧ 100 * c.pool.free < pct * c.pool.total then
    let s := s.setFlag fPoolLow sd
    s.putSd sd { s.sd sd with policyPending := true }
  else s

/-- Make a T0 page of a class for a tenant at a USA, with a scale block where it has one: frame and block together or
neither (R101); its contents are zeros (R162); its use is counted (R115). -/
def State.allocAt (s : State) (usa cls scaleBytes tenant : Nat) (owner : Option Nat) : Option State :=
  let n := ownerSd usa
  let before := (s.pool (poolKey n 0 n cls)).pool.free
  match s.takeFrame n 0 n cls with
  | none => none
  | some (fr, s1) =>
    let sc := if scaleBytes = 0 then some (none, s1) else (s1.takeScale n).map fun p => (some p.1, p.2)
    match sc with
    | none => none
    | some (blk, s2) =>
      let l : Leaf := { tier := 0, sizeClass := cls, pinned := false, cage := .resident, dirtyCkp := false,
                        dirtyDur := false, poison := false, frozen := false, pool := n, frame := fr,
                        tenant := tenant, refIndex := 0, access := 1, cageId := 0, scale := blk,
                        scaleBytes := scaleBytes, touched := false, pins := 0, orphan := false, owner := owner }
      let s3 := (s2.addUse tenant 0 (pageUse cls scaleBytes)).putLeaf usa l
      some (s3.checkPoolLow n cls before)

/-- Make a T0 page of a class in an SD's region, at a free USA (R95). -/
def State.allocPage (s : State) (sd cls scaleBytes tenant : Nat) (owner : Option Nat) : Option (Nat × State) :=
  let (u, s) := s.freshUsa sd cls
  (s.allocAt u cls scaleBytes tenant owner).map fun s => (u, s)

/-- Append one KV page to a layer-group of a session (R166): at the USA after its last page where that is unallocated,
else at a free one. -/
def State.growGroup (s : State) (slot lg : Nat) (m : Model) : Option (Nat × State) :=
  let c := (s.sess slot).cur
  let cls := m.kvPageClass
  let us := (c.lg lg).usas
  let try1 := match us.getLast? with
    | none => none
    | some u =>
      let v := u + pageSize cls
      if overlapsPage s.leaves v (pageSize cls) || ownerSd v != ownerSd u then none
      else (s.allocAt v cls m.scaleBytes c.entry.tenant (some slot)).map fun s => (v, s)
  let got := match try1 with
    | some r => some r
    | none => s.allocPage c.entry.homeSd cls m.scaleBytes c.entry.tenant (some slot)
  match got with
  | none => none
  | some (v, s) =>
    let x := s.sess slot
    let s := s.addRegFld 0x07 c.entry.homeSd 0x10 63 32 1
    some (v, s.putSess slot { x with cur := x.cur.setPages cls m.pageTokens lg (us ++ [v]) })

/-- Append `n` KV pages to a layer-group, collecting their USAs. -/
def State.growGroupBy (s : State) (slot lg : Nat) (m : Model) : Nat → Option (List Nat × State)
  | 0 => some ([], s)
  | n + 1 =>
    match s.growGroup slot lg m with
    | none => none
    | some (u, s) => (s.growGroupBy slot lg m n).map fun p => (u :: p.1, p.2)

/-! ### Writes and copies -/

/-- A page is written in the present step: DIRTY_CKP, and DIRTY_DUR where a CLASS_D session references it (R106); the
first touch of the step adds 1 to ACCESS, up to 0xFF (R107). -/
def State.markWritten (s : State) (page : Nat) : State :=
  let d := (s.referrersOf page).any fun i => (s.entry i).classD
  s.updLeaf page fun l =>
    { l with dirtyCkp := true, dirtyDur := l.dirtyDur || d, touched := true
             access := if l.touched then l.access else min 255 (l.access + 1) }

/-- A page is read in the present step (R107). -/
def State.markRead (s : State) (page : Nat) : State :=
  s.updLeaf page fun l => { l with touched := true, access := if l.touched then l.access else min 255 (l.access + 1) }

/-- A page of T1 or T2 whose ACCESS reaches HOT_THRESH enters its SD's hot list (R118): a full list loses its oldest
entry. -/
def State.checkHot (s : State) (page : Nat) : State :=
  match s.leaf page with
  | none => s
  | some l =>
    let n := ownerSd page
    let d := s.sd n
    if l.tier = 0 ∨ l.access < s.regFld 0x04 0 0x18 31 24 ∨ d.hot.contains page then s
    else
      let s := s.flagIf (d.hot.length ≥ 4096) fListOverflow n
      let d := s.sd n
      s.putSd n { d with hot := (if d.hot.length ≥ 4096 then d.hot.tail else d.hot) ++ [page], policyPending := true }

/-- Copy a whole page and its scale block onto another page of the same class (R133). -/
def State.copyPage (s : State) (src dst : Nat) : State :=
  match s.leaf src with
  | none => s
  | some l =>
    let m := memCopy s.mem src dst (pageSize l.sizeClass)
    { s with mem := memCopy m (scaleKey src 0) (scaleKey dst 0) l.scaleBytes }

/-- Replace a page in a layer-group of a session's KV map (R133). -/
def State.remapPage (s : State) (slot lg old new : Nat) (m : Model) : State :=
  let x := s.sess slot
  let us := (x.cur.lg lg).usas.map fun u => if u = old then new else u
  s.putSess slot { x with cur := x.cur.setPages m.kvPageClass m.pageTokens lg us }

/-- A read of a page meets an uncorrectable error, or a poisoned segment is written into it (R108): POISON, its frame
leaves its pool, MEM_FLAGS.POISONED and a DE entry. -/
def State.poisonPage (s : State) (page : Nat) : State :=
  match s.leaf page with
  | none => s
  | some l =>
    if l.poison then s
    else
      let n := ownerSd page
      let s := (s.putLeaf page { l with poison := true }).withdrawFrame n l.tier l.pool l.sizeClass l.frame
      (s.setFlag fPoisoned n).logError 1 (16 + n) 0x04 n 0x0101 page

end Sys2Proof.Machine
end

