-- ==== Sys2Proof/Machine/Cages.lean ====
section
/-! DEFINITION. Cages: moves of pages between tiers (R109 to R114), writes to pages (R99, R112), access decay (R107,
R118), the tier policy (R117, R119) and pressure demotion (R122, R123). -/
namespace Sys2Proof.Machine

/-! ### Requests -/

/-- Pages that a step in flight will write (R109): the pages at and after KV length of its members, their copies and
their metadata pages. -/
def State.writtenInFlight (s : State) (page : Nat) : Bool :=
  let members := (s.s0.run.toList ++ s.s1.run.toList).flatMap fun r => r.members.filter fun m => !m.removed && !m.applied
  members.any fun m =>
    let c := (s.sess m.slot).cur
    let md := aget s.models c.entry.model
    let p := md.elim 1 Model.pageTokens
    c.entry.metaUsa == page || m.newPages.contains page || (m.cows.any fun w => w.original == page || w.copy == page)
      || c.kvMap.any fun g => (g.2.usas.drop (c.kvLen / p)).contains page

/-- Cages of an SD between C3 and C9 (CAGE_STAT.ACTIVE). -/
def State.activeCages (s : State) (sd : Nat) : Nat := countBy (fun p => ownerSd p.2.usa == sd) s.cages

/-- The pools of a tier that may serve a request, by index (R96, R103): a T2 pool only while its device is in service
(XPN_DEV.STATE 1). -/
def State.tierPools (s : State) (sd tier : Nat) : List Nat :=
  if tier = 0 then [sd]
  else if tier = 1 then [0, 1]
  else (List.range 8).filter fun i => (agetD s.expanders i { state := 0, width := 0, capacity := 0 }).state == 1

/-- The pool that serves a request (R103): the one named, else the one whose SD share has the most free frames of the
class, the lower index of equals. -/
def State.choosePool (s : State) (sd tier cls : Nat) (named : Option Nat) : Option Nat :=
  match named with
  | some i => if (s.tierPools sd tier).contains i then some i else none
  | none =>
    minBy (fun i => 2 ^ 40 - (s.pool (poolKey sd tier i cls)).pool.free) (s.tierPools sd tier)

/-- A CAGE_ID that no cage of the SD bears (12 bits, not 0), as the key SD × 4,096 + ID. -/
def State.freeCageId (s : State) (sd : Nat) : Option Nat :=
  ((List.range 4095).map fun i => sd * 4096 + i + 1).find? fun k => (aget s.cages k).isNone

/-- C2 and C3 of an accepted request (R110): the destination frame, its scale block in T0 and the destination-tier use
are reserved together; then the leaf takes CAGE and CAGE_ID. `none` where a reservation fails. -/
def State.startCage (s : State) (page tier : Nat) (pool : Option Nat) (src : CageSource) (urgent : Bool) :
    Option State :=
  let n := ownerSd page
  match s.leaf page with
  | none => none
  | some l =>
    if !s.quotaFits l.tenant tier (pageUse l.sizeClass l.scaleBytes) then none
    else match s.choosePool n tier l.sizeClass pool, s.freeCageId n with
      | some p, some id =>
        match s.takeFrame n tier p l.sizeClass with
        | none => none
        | some (fr, s1) =>
          let sc := if tier != 0 || l.scaleBytes == 0 then some (none, s1)
            else (s1.takeScale n).map fun q => (some q.1, q.2)
          match sc with
          | none => none
          | some (blk, s2) =>
            let c : Cage := { usa := page, up := tier < l.tier, tier := tier, pool := p, frame := fr, scale := blk,
                              source := src, urgent := urgent, start := s.now, c5 := none, c7 := none,
                              oldTier := l.tier, oldPool := l.pool, oldFrame := l.frame, oldScale := l.scale,
                              marked := [], pins := 0 }
            let s3 := s2.addUse l.tenant tier (pageUse l.sizeClass l.scaleBytes)
            let s4 := s3.putLeaf page { l with cage := if tier < l.tier then .up else .down, cageId := id }
            some { s4 with cages := aset s4.cages id c }
      | _, _ => none

/-- A request waits at its SD, holding nothing. -/
def State.queueCage (s : State) (page tier : Nat) (pool : Option Nat) (src : CageSource) : State :=
  let n := ownerSd page
  let d := s.sd n
  s.putSd n { d with cageWaiting := d.cageWaiting ++ [⟨page, tier, pool, src, s.now⟩] }

/-- A request is dropped (CAGE_FLAGS.DROPPED). -/
def State.dropRequest (s : State) (page : Nat) : State := s.setFlag fCageDropped (ownerSd page % 12)

/-- Whether a request comes from a write. -/
def CageSource.isWrite : CageSource → Bool
  | .write _ => true
  | _ => false

/-- Whether a request evacuates a device: it may move a page to another pool of its own tier (R417). -/
def CageSource.evacuates : CageSource → Bool
  | .evacuate _ => true
  | _ => false

/-- A cage request at the home SD (R109, R110, R113). A promotion that meets a down-cage before C7 cancels it; an
eviction that meets an up-cage is dropped; a request on a frozen page waits, but a policy's is dropped; an accepted
request that finds MAX_ACTIVE cages waits for C2; a request that fails C2 is dropped, but one for a write waits
(R99). -/
def State.requestCage (s : State) (page tier : Nat) (pool : Option Nat) (src : CageSource) : State :=
  let n := ownerSd page
  match s.leaf page with
  | none => s.dropRequest page
  | some l =>
    if l.pinned || l.orphan || tier > 2 then s.dropRequest page
    else if l.cage = .down ∧ tier ≤ l.tier then
      let s := (s.dropCage l.cageId).setFlag fCageCancelled n
      if tier < l.tier && src.isWrite then (s.startCage page tier pool src true).getD (s.queueCage page tier pool src) else s
    else if l.cage != .resident || (tier == l.tier && !src.evacuates) then s.dropRequest page
    else if tier > l.tier && s.writtenInFlight page then s.dropRequest page
    else if l.frozen then (if src = .policy then s.dropRequest page else s.queueCage page tier pool src)
    else if s.activeCages n ≥ s.regFld 0x05 0 0x20 5 0 then s.queueCage page tier pool src
    else match s.startCage page tier pool src src.isWrite with
      | some s' => s'
      | none => if src.isWrite then s.queueCage page tier pool src else s.dropRequest page

/-- A request for a page waits at its SD. -/
def State.cageQueued (s : State) (page : Nat) : Bool := (s.sd (ownerSd page)).cageWaiting.any fun r => r.usa == page

/-- Down-cage a page to T1, or to T2 where T1 refuses (R119). -/
def State.demote (s : State) (page : Nat) (src : CageSource) : State :=
  let s1 := s.requestCage page 1 none src
  if ((s1.leaf page).any fun l => l.cage == .resident && l.tier == 0) && !s1.cageQueued page then
    s1.requestCage page 2 none src
  else s1

/-- The requests that wait at an SD are made again, each once (R99, R109). -/
def State.retryCages (s : State) (sd : Nat) : State :=
  let q := (s.sd sd).cageWaiting
  q.foldl (fun s r => s.requestCage r.usa r.tier r.pool r.source) (s.putSd sd { s.sd sd with cageWaiting := [] })

/-! ### Writes -/

/-- The 4 KiB segments of a page that a range of addresses touches. -/
def segmentsOf (page a n : Nat) : List Nat :=
  if n = 0 then [] else
    let lo := (a - page) / 4096
    let hi := (a + n - 1 - page) / 4096
    (List.range (hi + 1 - lo)).map (lo + ·)

/-- A write to the source pages of a copy with MARK marks the segments already copied (R278, R282). -/
def State.markHoists (s : State) (a n : Nat) : State :=
  { s with channels := s.channels.map fun (q : Nat × Channel) => match q.2.desc with
    | some d =>
      if (q.2.state == 1 || q.2.state == 2) && d.mark && d.srcSpace == 0 && decide (a < d.src + d.len ∧ d.src < a + n) then
        let lo := (max a d.src - d.src) / 4096
        let hi := (min (a + n) (d.src + d.len) - 1 - d.src) / 4096
        let hit := ((List.range (hi + 1 - lo)).map (lo + ·)).filter fun i => i < q.2.nextSeg && !q.2.marked.contains i
        (q.1, { q.2 with marked := q.2.marked ++ hit })
      else q
    | none => q }

/-- Write bytes of a page (R99, R106, R110, R112). In T0 they land, and a down-cage's segment is marked for a second
copy; from C5 they are held to C7; outside T0 they wait for an urgent up-cage. `at_` is a USA, or a place of the page's
scale block. -/
def State.writePage (s : State) (page : Nat) (addr : Nat) (bs : List Byte) (slot : Nat) : State :=
  match s.leaf page with
  | none => s
  | some l =>
    let s := (s.markWritten page).markHoists addr bs.length
    let hold := { s with heldWrites := s.heldWrites ++ [(page, addr, bs)] }
    if l.tier != 0 then
      if l.cage = .up then hold else hold.requestCage page 0 none (.write slot)
    else match aget s.cages l.cageId with
      | some c =>
        if l.cage = .down ∧ c.c5.isSome then hold
        else
          let seg := if addr < 2 ^ 48 then segmentsOf page addr bs.length else []
          { s with mem := memWrite s.mem addr bs
                   cages := aset s.cages l.cageId { c with marked := c.marked ++ seg } }
      | none => { s with mem := memWrite s.mem addr bs }

/-! ### Quota releases (R116) -/

/-- Sessions of a tenant in WAITING/QUOTA whose shortfall the releases now cover return to READY (R122). -/
def State.wakeQuota (s : State) (tenant : Nat) : State :=
  let slots := s.slotsWhere fun x => x.cur.entry.tenant == tenant && x.cur.entry.state == .waiting
    && x.cur.entry.waitReason == .quota
  slots.foldl (fun s i => if s.quotaFits tenant 0 (s.sess i).shortfall
    then s.setState i .ready else s) s

/-! ### Pressure demotion (R122, R123) -/

/-- A session's KV pages in the order of token position, with their page index. -/
def SessionCore.byPosition (c : SessionCore) : List (Nat × Nat) :=
  sortBy (·.1) (c.kvMap.flatMap fun g => (List.range g.2.usas.length).zip g.2.usas)

/-- The tail pages of a session (R122): those at or after the page that holds position KV length. -/
def isTail (p kvLen k : Nat) : Bool := (k + 1) * p > kvLen

/-- Whether pressure demotion may take a page (R122): in T0, resident, one reference, read or written by no step in
flight. -/
def State.demotable (s : State) (page : Nat) : Bool :=
  (s.leaf page).any (fun l => l.tier == 0 && l.cage == .resident && l.refIndex == 0 && !l.pinned && !l.frozen)
    && !s.writtenInFlight page
    && !((s.s0.run.toList ++ s.s1.run.toList).any fun r => r.members.any fun m =>
          !m.removed && !m.applied && (s.sess m.slot).cur.pages.contains page)

/-- Down-cage a page where pressure demotion takes it (R122): to T1 when the tenant's T1 quota allows, else to T2; where
neither quota can take the page, nothing is requested (R123). -/
def State.relieve (s : State) (page : Nat) (src : CageSource) : State :=
  match s.leaf page with
  | none => s
  | some l =>
    let n := pageUse l.sizeClass l.scaleBytes
    if s.quotaFits l.tenant 1 n then s.requestCage page 1 none src
    else if s.quotaFits l.tenant 2 n then s.requestCage page 2 none src
    else s

/-- Down-cage pages until `need` bytes of T0 are covered: the bytes covered, and the state. -/
def State.demoteList (s : State) (src : CageSource) : Nat → List Nat → Nat × State
  | _, [] => (0, s)
  | need, u :: us =>
    if need = 0 then (0, s)
    else
      let s1 := s.relieve u src
      let got := if s1.cageQueued u || (s1.leaf u).any (fun l => l.cage == .down) then
        (s1.leaf u).elim 0 fun l => pageUse l.sizeClass l.scaleBytes else 0
      let r := s1.demoteList src (need - got) us
      (got + r.1, r.2)

/-- The single-reference pages of a session that pressure demotion may take, lowest position first (R122). -/
def State.demotionPages (s : State) (slot : Nat) : List Nat :=
  let c := (s.sess slot).cur
  let p := (aget s.models c.entry.model).elim 1 Model.pageTokens
  ((c.byPosition.filter fun x => !isTail p c.kvLen x.1).map (·.2)).filter fun u => s.demotable u

/-- A T0 refusal on the tenant's quota stands (R122, R123): the session waits for the shortfall, its own pages are
down-caged; where nothing more can be freed, the floor refusal: a STATUS record with RESOURCE_FLOOR, MEM_FLAGS.FLOOR,
and the pages of the tenant's WAITING sessions, lowest ACCESS first, then lowest USA. -/
def State.pressure (s : State) (slot refused : Nat) : State :=
  let e := s.entry slot
  let t := s.tenant e.tenant
  let short := refused - (t.quota.t0 * 1024 - t.used.t0)
  let s := s.putSess slot { s.sess slot with shortfall := refused }
  let (got, s) := s.demoteList (.pressure slot) short (s.demotionPages slot)
  if got ≥ short then s
  else
    let s := s.sessionRecord slot 0x04 stResourceFloor (recordBody []) []
    let s := s.setFlag fFloor e.homeSd
    let waiting := s.slotsWhere fun x => x.cur.entry.tenant == e.tenant && x.cur.entry.state == .waiting
    let pages := waiting.flatMap fun i => s.demotionPages i
    let keyed := sortBy (fun u => ((s.leaf u).elim 0 Leaf.access) * 2 ^ 48 + u) pages
    (s.demoteList (.pressure slot) (short - got) keyed).2

/-! ### The meanings -/

/-- CAGE_REQUEST (R109): a request reaches the home SD of its page. -/
def execCageRequest (page tier : Nat) (pool : Option Nat) (src : CageSource) (t : Nat) (s : State) :
    Host.Outcome State Fault Refusal :=
  .next ((s.stamp t).requestCage page tier pool src)

/-- C5 of a cage (R110), or its abort by an uncorrectable read of the old copy (R113). -/
def State.cageCopied (s : State) (id : Nat) (poisoned : Bool) : State :=
  match aget s.cages id with
  | none => s
  | some c =>
    if c.c5.isSome then s
    else if poisoned then
      let n := ownerSd c.usa
      ((s.dropCage id).setFlag fCageAborted n).poisonPage c.usa
    else { s with cages := aset s.cages id { c with c5 := some s.now } }

/-- CAGE_COPY_DONE (R110): the last segment of a cage is copied and the write hold is placed. -/
def execCageCopyDone (id : Nat) (poisoned : Bool) (t : Nat) (s : State) : Host.Outcome State Fault Refusal :=
  .next ((s.stamp t).cageCopied id poisoned)

/-- The switch point C7 of a cage whose last segment is copied (R110, R112, R114): held writes go to the new copy, the
sessions that reference the page are recounted, CAGE_DONE counts it, a hold above 5 µs sets HOLD_LONG. -/
def State.cageSwitch (s : State) (id : Nat) : State :=
  match aget s.cages id with
  | none => s
  | some c =>
    match c.c5, c.c7, s.leaf c.usa with
    | some t5, none, some l =>
      let n := ownerSd c.usa
      let s := s.putLeaf c.usa { l with tier := c.tier, pool := c.pool, frame := c.frame, scale := c.scale,
                                        cage := .resident, cageId := 0 }
      let s := { s with
        cages := aset s.cages id { c with c7 := some s.now, marked := [] }
        mem := applyHeld s.mem c.usa s.heldWrites
        heldWrites := s.heldWrites.filter fun w => w.1 != c.usa }
      let s := s.flagIf (s.now - t5 > 5000) fHoldLong n
      let s := if c.up then s.addRegFld 0x05 n 0x08 31 0 1 else s.addRegFld 0x05 n 0x08 63 32 1
      (s.referrersOf c.usa).foldl State.recount s
    | _, _, _ => s

/-- CAGE_SWITCH_POINT (R110). -/
def execCageSwitchPoint (id t : Nat) (s : State) : Host.Outcome State Fault Refusal :=
  .next ((s.stamp t).cageSwitch id)

/-- C9 of a cage (R110): the old frame returns to its class pool and the source-tier use is released; sessions that wait
for it return to READY (R116, R122); requests that wait at the SD are made again (R99). -/
def State.cageRelease (s : State) (id : Nat) : State :=
  match aget s.cages id with
  | none => s
  | some c =>
    match c.c7, s.leaf c.usa with
    | some _, some l =>
      if c.pins > 0 then s
      else
        let n := ownerSd c.usa
        let s := s.releaseFrame n c.oldTier c.oldPool l.sizeClass c.oldFrame l.tenant l.scaleBytes c.oldScale
        let s := { s with cages := adel s.cages id }
        (s.wakeQuota l.tenant).retryCages n
    | _, _ => s

/-- CAGE_RELEASE (R110). -/
def execCageRelease (id t : Nat) (s : State) : Host.Outcome State Fault Refusal :=
  .next ((s.stamp t).cageRelease id)

/-- The decay sweep of one SD (R107, R118): ACCESS is halved in every leaf; a T0 page whose ACCESS is then 0 enters the
cold list. -/
def State.accessDecay (s : State) (sd : Nat) : State :=
  let mine := fun p : Nat × Leaf => ownerSd p.1 == sd
  let leaves := s.leaves.map fun p => if mine p then (p.1, { p.2 with access := p.2.access / 2 }) else p
  let d := s.sd sd
  let cold := (leaves.filter fun p => mine p && p.2.tier == 0 && p.2.access == 0).map (·.1)
  let all := (d.cold.filter fun u => !cold.contains u) ++ cold
  let s := { s with leaves := leaves }
  let s := s.flagIf (all.length > 4096) fListOverflow sd
  s.putSd sd { s.sd sd with cold := all.drop (all.length - 4096)
                            policyPending := d.policyPending || (d.cold.isEmpty && !cold.isEmpty) }

/-- ACCESS_DECAY (R107). -/
def execAccessDecay (sd t : Nat) (s : State) : Host.Outcome State Fault Refusal :=
  if sd < 12 then .next ((s.stamp t).accessDecay sd) else .fault .noSuchUnit

/-! ### The tier policy -/

/-- Sessions homed on an SD that satisfy a test. -/
def State.homed (s : State) (sd : Nat) (p : Session → Bool) : List Nat :=
  s.slotsWhere fun x => x.cur.entry.homeSd == sd && x.cur.entry.state != .free && p x

/-- The pages that a parked session gives up, lowest position first, the metadata page last; shared pages are skipped
(R147). -/
def State.parkPages (s : State) (slot : Nat) : List Nat :=
  let c := (s.sess slot).cur
  (c.byPosition.map (·.2) ++ (if c.entry.metaUsa = noPage then [] else [c.entry.metaUsa])).filter fun u =>
    (s.leaf u).any fun l => l.tier == 0 && l.refIndex == 0

/-- The default policy of R119, with the demotion of R498 first. -/
def State.defaultPolicy (s : State) (sd : Nat) : State :=
  let cfg := fun hi lo => s.regFld 0x04 0 0x18 hi lo
  let overUse := (s.homed sd fun x => x.cur.entry.state == .waiting && (s.tenant x.cur.entry.tenant).overQuota)
  let s := (sortBy (fun i => (s.sess i).since) overUse).foldl
    (fun s i => (s.parkPages i).foldl (fun s u => s.demote u .policy) s) s
  let hot := (s.sd sd).hot.filter fun u => (s.referrersOf u).any fun i =>
    (s.entry i).state == .ready || (s.entry i).state == .running
  let s := hot.foldl (fun s u => s.requestCage u 0 none .policy) s
  let wait := cfg 47 32
  let long := s.homed sd fun x => wait != 0 && x.cur.entry.state == .waiting && s.now - x.since > wait * 1000000
  let s := (sortBy (fun i => (s.sess i).since) long).foldl
    (fun s i => (s.parkPages i).foldl (fun s u => s.demote u .policy) s) s
  let parked := s.homed sd fun x => x.parkRequest
  let s := parked.foldl (fun s i => (s.parkPages i).foldl (fun s u => s.demote u (.park i)) s) s
  let low := (List.range 10).any fun c =>
    let p := (s.pool (poolKey sd 0 sd c)).pool
    100 * p.free < cfg 54 48 * p.total
  if low then (s.sd sd).cold.foldl (fun s u => s.demote u .policy) s else s

/-- A committed tier-policy program (R117, R224): without one the default policy runs (R119). -/
def State.hasPolicy (s : State) : Bool := s.programs.any fun p => p.2.place == .tierPolicy

/-- One run of an SD's tier policy (R117): the requests of the program, each governed by R109 and R110 and only for
unpinned pages of its own region; where there is none, the default policy (R119). A program fault sets PROGRAM_FAULT,
and the default policy runs until a new program commits. The hot and cold lists are read. -/
def State.tierPolicy (s : State) (sd : Nat) (asks : List (Nat × Nat × Option Nat)) (fault : Bool) : State :=
  let d := s.sd sd
  let s := s.putSd sd { d with policyPending := false, policyRunning := false, policyFaulted := d.policyFaulted || fault }
  let s := s.flagIf fault fProgramFault sd
  let s :=
    if d.policyFaulted || fault || !s.hasPolicy then s.defaultPolicy sd
    else asks.foldl (fun s a => if ownerSd a.1 = sd then s.requestCage a.1 a.2.1 a.2.2 .policy else s.dropRequest a.1) s
  s.putSd sd { s.sd sd with hot := [], cold := [] }

/-- A start that falls while the program runs is merged into the next one (R117). -/
def State.policyStart (s : State) (sd : Nat) (asks : List (Nat × Nat × Option Nat)) (fault : Bool) : State :=
  if (s.sd sd).policyRunning then s.putSd sd { s.sd sd with policyPending := true } else s.tierPolicy sd asks fault

/-- The end of a run that a sequencer has executed: a start merged meanwhile still stands. -/
def State.policyEnd (s : State) (sd : Nat) (asks : List (Nat × Nat × Option Nat)) (fault : Bool) : State :=
  let waiting := (s.sd sd).policyPending
  let s := s.tierPolicy sd asks fault
  s.putSd sd { s.sd sd with policyPending := waiting || (s.sd sd).policyPending }

/-- TIER_POLICY_RUN (R117). -/
def execTierPolicyRun (sd : Nat) (asks : List (Nat × Nat × Option Nat)) (fault : Bool) (t : Nat) (s : State) :
    Host.Outcome State Fault Refusal :=
  if sd < 12 then .next ((s.stamp t).policyStart sd asks fault) else .fault .noSuchUnit

/-- QUOTA_RELEASE (R116): tier use is released, and sessions that wait for it return to READY. -/
def execQuotaRelease (tenant tier bytes t : Nat) (s : State) : Host.Outcome State Fault Refusal :=
  .next ((((s.stamp t).dropUse tenant tier bytes)).wakeQuota tenant)

/-- QUOTA_RESERVATION (R116): the reservation is applied whole, or refused whole with the effect of its requester: a
session enters WAITING/QUOTA and pressure demotion starts (R122); a host command completes with QUOTA; a cage is
dropped at C2. -/
def execQuotaReservation (tenant tier bytes : Nat) (asker : QuotaFor) (t : Nat) (s : State) :
    Host.Outcome State Fault Refusal :=
  let s := s.stamp t
  if s.quotaFits tenant tier bytes then .next (s.addUse tenant tier bytes)
  else match asker with
    | .step slot =>
      if (s.entry slot).state = .ready then .next ((s.setWait slot .quota).pressure slot bytes) else .next s
    | .host f => .next (s.complete f stQuota)
    | .cage page => .next (s.dropRequest page)

end Sys2Proof.Machine
end

