-- ==== Sys2Proof/Machine/Text.lean ====
section
/-! DEFINITION. The text unit (chapter 09): the lattice and its settle points (R231 to R234), input pages (R236, R237),
detokenising (R238), generations and sequence lists (R240 to R248). -/
namespace Sys2Proof.Machine

/-! ### The lattice -/

/-- The bytes of a token (R229, R238). -/
def Vocab.bytesOf (v : Vocab) (tok : Nat) : List Byte := (v.pieces[tok]?).elim [] Piece.bytes

/-- The edges that span given bytes (R229, R231), by ascending token ID: pieces outside the byte-fallback range, and for
one byte its byte-fallback token with BYTE_SCORE. -/
def Vocab.edges (v : Vocab) (bs : List Byte) : List (Nat × Int) :=
  (v.pieces.zipIdx.filter fun p => p.1.bytes == bs && (p.2 < v.byteBase + 256 → p.2 < v.byteBase || bs.length == 1)).map
    fun p => (p.2, if v.byteBase ≤ p.2 ∧ p.2 < v.byteBase + 256 then v.byteScore else p.1.score)

/-- A node's best path: its total score, and its last edge's start node and token; node 0 has the empty path. -/
structure PathNode where
  score : Int
  start : Nat
  token : Nat
deriving DecidableEq, Repr

/-- The better of two paths to one node, the first tried winning ties (R231). -/
def betterPath (a : Option PathNode) (b : PathNode) : Option PathNode :=
  match a with
  | none => some b
  | some x => if x.score < b.score then some b else some x

/-- The best path to the next node j (R231): start nodes from the lowest (the longest edge) up, token IDs ascending. -/
def nextNode (v : Vocab) (bs : List Byte) (nodes : List PathNode) (j : Nat) : PathNode :=
  let starts := (List.range j).filter fun i => j ≤ i + max v.maxPiece 1
  let all := starts.flatMap fun i =>
    (v.edges ((bs.drop i).take (j - i))).map fun e =>
      ({ score := ((nodes[i]?).elim 0 PathNode.score) + e.2, start := i, token := e.1 } : PathNode)
  (all.foldl betterPath none).getD { score := 0, start := j - 1, token := 0 }

/-- The best paths to nodes 0 to n of the lattice of n bytes (R231). -/
def bestPaths (v : Vocab) (bs : List Byte) : List PathNode :=
  (List.range bs.length).foldl (fun nodes j => nodes ++ [nextNode v bs nodes (j + 1)]) [⟨0, 0, 0⟩]

/-- The nodes and tokens of the best path to node j, following at most `n` edges: nodes descending, tokens ascending. -/
def pathTo (nodes : List PathNode) : Nat → Nat → List Nat × List Nat
  | 0, j => ([j], [])
  | n + 1, j =>
    if j = 0 then ([0], [])
    else
      let x := (nodes[j]?).getD ⟨0, 0, 0⟩
      let r := pathTo nodes n x.start
      (j :: r.1, r.2 ++ [x.token])

/-- The deepest node on the best paths to every node of the window (R232). -/
def commonNode (nodes : List PathNode) (m n : Nat) : Nat :=
  let lo := n + 1 - m
  let paths := (List.range (n + 1 - lo)).map fun i => (pathTo nodes n (lo + i)).1
  match paths with
  | [] => 0
  | p :: ps => ((p.filter fun x => ps.all fun q => q.contains x).foldl max 0)

/-- An input with its window cut at node `j`: the tokens settled, and the input from there. -/
def TextInput.cutAt (v : Vocab) (i : TextInput) (j : Nat) : List Nat × TextInput :=
  let nodes := bestPaths v i.window
  ((pathTo nodes i.window.length j).2, { i with window := i.window.drop j, base := i.base + j })

/-- The settle point at the present frontier (R232). -/
def TextInput.settle (v : Vocab) (i : TextInput) : List Nat × TextInput :=
  i.cutAt v (commonNode (bestPaths v i.window) (max v.maxPiece 1) i.window.length)

/-- The text unit processes bytes: at each 4,096-byte mark it settles, or cuts there when the common node is at or below
the mark less 4,096 (R233); after the last byte it settles (R232). Answers the tokens settled, the input and whether a
forced cut was made. -/
def TextInput.feed (v : Vocab) (i : TextInput) : List Byte → List Nat × TextInput × Bool
  | [] => let r := i.settle v; (r.1, r.2, false)
  | b :: bs =>
    let i := { i with window := i.window ++ [b] }
    let f := i.base + i.window.length
    if f % 4096 = 0 then
      let c := commonNode (bestPaths v i.window) (max v.maxPiece 1) i.window.length
      let cut := i.base + c + 4096 ≤ f
      let r := i.cutAt v (if cut then i.window.length else c)
      let q := r.2.feed v bs
      (r.1 ++ q.1, q.2.1, cut || q.2.2)
    else i.feed v bs

/-! ### Input pages and pending tokens -/

/-- Text-pool pages that a session's input takes (R236): 1,024 settled tokens to a page, 4,096 bytes held to a page. -/
def inputPages (pending : List PendingToken) (inputs : List TextInput) : Nat :=
  ceilDiv pending.length 1024 + ceilDiv (sumBy (fun i => i.window.length) inputs) 4096

/-- Settle what a session holds of its home SD's text pool: its input pages, and `block` pages of its text block. -/
def State.settleText (s : State) (slot block : Nat) : State :=
  let x := s.sess slot
  let n := x.cur.entry.homeSd
  let need := inputPages x.pending x.inputs + block
  let s := s.putSd n { s.sd n with textFree := (s.sd n).textFree + x.textHeld - need }
  s.putSess slot { x with textHeld := need }

/-- The text-block pages of a session: 4 of 4 KiB (R239). -/
def textBlockPages : Nat := 4

/-- The model instance of a session. -/
def State.modelOf (s : State) (slot : Nat) : Option Model := aget s.models (s.entry slot).model

/-- Settled tokens enter PENDING_TOKENS (R232), up to the model's context limit less 1; the rest are discarded with
CONTEXT_CUT (R237). `fresh` says that the first of them is the first of its input. -/
def State.addPending (s : State) (slot limit : Nat) (fresh : Bool) (toks : List Nat) : State :=
  let x := s.sess slot
  let room := limit - 1 - (x.cur.entry.committed + x.pending.length)
  let keep := toks.take room
  let new := keep.zipIdx.map fun p => ({ token := p.1, first := fresh && p.2 == 0 } : PendingToken)
  let s := s.addRegFld 0x0b x.cur.entry.homeSd 0x08 31 0 toks.length
  (s.putSess slot { x with pending := x.pending ++ new }).flagIf (room < toks.length) fContextCut x.cur.entry.homeSd

/-- The text unit takes up to `count` bytes of a session's first input (R231 to R237). A frame that needs an input page
when none is free waits, holding nothing (R236). When the last byte of the input's final frame has been processed, the
whole best path settles (R234). -/
def State.textInput (s : State) (slot count : Nat) : State :=
  let x := s.sess slot
  match x.inputs, s.modelOf slot with
  | i :: rest, some m =>
    let v := m.vocab
    let n := x.cur.entry.homeSd
    let bs := i.unread.take count
    let (toks, j, cut) := i.feed v bs
    let j := { j with unread := i.unread.drop count, stalled := false }
    let done := i.closed && j.unread.isEmpty
    let (last, j) := if done then j.cutAt v j.window.length else ([], j)
    let all := toks ++ last
    let j := { j with fresh := i.fresh && all.isEmpty }
    let need := ceilDiv (x.pending.length + all.length) 1024
      + ceilDiv ((if done then 0 else j.window.length) + sumBy (fun k => k.window.length) rest) 4096
    if need + textBlockPages > x.textHeld + (s.sd n).textFree then
      let s := s.putSess slot { x with inputs := { i with stalled := true } :: rest }
      s.setFlag fTextPoolLow n
    else
      let s := s.putSess slot { x with inputs := if done then rest else j :: rest }
      let s := (s.addPending slot m.contextLimit i.fresh all).flagIf cut fForcedCut n
      let s := s.addRegFld 0x0b n 0x00 63 0 bs.length
      s.settleText slot textBlockPages
  | _, _ => s

/-- Queue text as a new, closed input of a session (R44, R51, R57): timeout text or wake text. -/
def State.queueText (s : State) (slot : Nat) (bs : List Byte) : State :=
  if bs.isEmpty then s
  else
    let x := s.sess slot
    s.putSess slot { x with inputs := x.inputs ++ [{ unread := bs, window := [], base := 0, closed := true, opcode := 0,
                                                     function := 0, queue := 0, fresh := true, stalled := false, waits := [] }] }

/-- Whether a frame continues the input that a session holds open (R401): a continuation that comes from another queue
or with TIMED completes with FRAME_FIELD. -/
def continuationOk (x : Session) (f : Frame) : Bool :=
  if !x.cur.entry.inputOpen then true
  else match x.inputs.getLast? with
    | some i => if i.closed || i.opcode != f.opcode then true else i.function == f.function && i.queue == f.queue && !f.timed
    | none => true

/-- Queue a frame's text (R44, R50, R401): it continues the open input of its opcode, else starts a new one; MORE keeps
the input open and sets INPUT_OPEN, the final frame closes it. -/
def State.queueFrameText (s : State) (slot : Nat) (f : Frame) : State :=
  let x := s.sess slot
  let e := x.cur.entry
  let inputs := match x.inputs.getLast? with
    | some i =>
      if e.inputOpen && !i.closed && i.opcode == f.opcode then
        x.inputs.dropLast ++ [{ i with unread := i.unread ++ f.payload, closed := !f.more }]
      else x.inputs ++ [{ unread := f.payload, window := [], base := 0, closed := !f.more, opcode := f.opcode,
                          function := f.function, queue := f.queue, fresh := true, stalled := false, waits := [] }]
    | none => [{ unread := f.payload, window := [], base := 0, closed := !f.more, opcode := f.opcode,
                 function := f.function, queue := f.queue, fresh := true, stalled := false, waits := [] }]
  s.putSess slot { x.withEntry { e with inputOpen := f.more } with inputs := inputs }

/-- Discard a session's pending input and free its pages (R236). The frames that waited for a page have had their text
queued and complete with OK (log entry 102). -/
def State.discardInput (s : State) (slot : Nat) : State :=
  let x := s.sess slot
  let s := (x.inputs.flatMap TextInput.waits).foldl (fun (s : State) f => s.complete f stOk) s
  let x := s.sess slot
  let s := s.putSess slot { x.withEntry { x.cur.entry with inputOpen := false } with pending := [], inputs := [] }
  s.settleText slot textBlockPages

/-! ### Detokenising (R238) -/

/-- The bytes of a UTF-8 sequence that a lead byte starts: 1 for a byte that starts none. -/
def utf8Len (b : Byte) : Nat :=
  let n := b.toNat
  if 0xc2 ≤ n ∧ n ≤ 0xdf then 2 else if 0xe0 ≤ n ∧ n ≤ 0xef then 3 else if 0xf0 ≤ n ∧ n ≤ 0xf4 then 4 else 1

/-- Whether bytes after a lead byte may continue its sequence: continuation bytes, the first within the range that the
lead byte leaves. -/
def utf8Cont (lead : Byte) : List Byte → Bool
  | [] => true
  | b :: bs =>
    let n := b.toNat
    let lo := if lead.toNat = 0xe0 then 0xa0 else if lead.toNat = 0xf0 then 0x90 else 0x80
    let hi := if lead.toNat = 0xed then 0x9f else if lead.toNat = 0xf4 then 0x8f else 0xbf
    decide (lo ≤ n ∧ n ≤ hi) && bs.all fun c => decide (0x80 ≤ c.toNat ∧ c.toNat ≤ 0xbf)

/-- How many bytes at the end of an output are an incomplete sequence that may still be completed: 0 to 3. -/
def utf8Held (bs : List Byte) : Nat :=
  (([1, 2, 3].filter fun k => match bs.drop (bs.length - k) with
    | b :: r => k ≤ bs.length && r.length + 1 == k && k < utf8Len b && utf8Cont b r
    | [] => false).foldl max 0)

/-- Output bytes released at a seal and the bytes held back (R238): a TOOL_CALL or DONE releases all. -/
def releaseText (bs : List Byte) (ended : Bool) : List Byte × List Byte :=
  if ended then (bs, []) else let k := utf8Held bs; (bs.take (bs.length - k), bs.drop (bs.length - k))

/-- A session's input is open: INPUT_OPEN (R50), or a part of an input has settled and its rest waits for a page (R236):
no step samples in the middle of it (log entry 102). -/
def Session.inputHeld (x : Session) : Bool :=
  x.cur.entry.inputOpen || x.inputs.any fun i => i.stalled && (!i.fresh || i.opcode == 0)

/-! ### Generations and sequence lists -/

/-- The start states of a generation (R240): matchers, count, open call and forced run are reset; held output and the
history stay. -/
def TextBlock.newGeneration (t : TextBlock) : TextBlock :=
  { t with genTail := [], genCount := 0, openCall := none, call := [], forced := [] }

/-- A committed token enters HISTORY (R239): the last 1,024. -/
def TextBlock.remember (t : TextBlock) (tok : Nat) : TextBlock :=
  let h := t.history ++ [tok]
  { t with history := h.drop (h.length - 1024) }

/-- Whether a sequence is completed by the last tokens of the generation (R244); `n` is how many of them may count. -/
def completed (gen : List Nat) (n : Nat) (sq : List Nat) : Bool :=
  decide (sq ≠ []) && decide (sq.length ≤ n) && gen.drop (gen.length - sq.length) == sq

/-- The first entry of a kind whose part A the generation's last token completes: list slot, image ID, entry index, entry
(R248: the lowest slot, then the lowest index). -/
def firstMatch (lists : List (Nat × SeqList)) (kind : Nat) (gen : List Nat) (n : Nat) :
    Option (Nat × Nat × Nat × SeqEntry) :=
  (lists.zipIdx.flatMap fun p => if p.1.2.kind != kind then [] else
    (p.1.2.entries.zipIdx.filter fun e => completed gen n e.1.partA).map fun e => (p.2, p.1.1, e.2, e.1)).head?

/-- The sequence lists of a session, by slot, with their image IDs (R37, R241). -/
def State.listsOf (s : State) (e : Entry) : List (Nat × SeqList) :=
  e.seqLists.map fun id => (id, agetD s.seqLists id { kind := 4, vocabPieces := 0, entries := [] })

/-- One token joins the generation (R244 to R248): the text block after it, how the generation ends there, and whether
the call text is cut here; the block keeps one byte past the 8,192 as the mark of a cut call. A call whose closer completes is open no more. `limit` and `len` are the model's context limit and COMMITTED_LEN after the token. -/
def TextBlock.advance (t : TextBlock) (v : Vocab) (lists : List (Nat × SeqList)) (tok : Nat) (forced : Bool)
    (maxNew limit len : Nat) : TextBlock × GenEnd × Bool :=
  let gen0 := t.genTail ++ [tok]
  let gen := gen0.drop (gen0.length - 64)
  let n := t.genCount + 1
  let bytes := v.bytesOf tok
  let longCall := match t.openCall with
    | some _ => t.call ++ bytes
    | none => []
  let t1 := { t with genTail := gen, genCount := n, call := longCall.take 8193,
                     forced := if forced then t.forced.tail else t.forced }
  let t2 := match t.openCall, firstMatch lists 2 gen n with
    | none, some (sl, _, ix, e) =>
      let opener := (e.partA.flatMap v.bytesOf)
      { t1 with openCall := some ⟨sl, ix, n⟩, call := opener.take 8192 }
    | _, _ => t1
  let closes := match t.openCall with
    | some c => ((lists[c.slot]?).bind fun l => (l.2.entries[c.entry]?).bind fun e =>
        if completed gen (n - c.openedAt) e.partB then some (l.1, c.entry) else none)
    | none => none
  let trigger := if forced then none else firstMatch lists 1 gen n
  let ending := match firstMatch lists 3 gen n, closes with
    | some _, _ => GenEnd.stop
    | none, some (id, ix) => GenEnd.park id ix
    | none, none => if n ≥ maxNew then .tokenLimit else if len ≥ limit then .contextLimit else .none
  let t3 := match ending, trigger with
    | .none, some (_, _, _, e) => { t2 with forced := t2.forced ++ e.partB }
    | _, _ => t2
  let t3 := if closes.isSome then { t3 with openCall := none } else t3
  (t3, ending, 8192 < longCall.length && t.call.length ≤ 8192)

end Sys2Proof.Machine
end

