-- ==== Sys2Proof/Machine/Sessions.lean ====
section
/-! DEFINITION. Sessions (chapter 02): slots, rollback, locks, peer edges, and the checks every session command meets. -/
namespace Sys2Proof.Machine

/-! ### Slots (R34, R36) -/

/-- CALL_ID + 1, saturating (R524). -/
def callNext (c : Nat) : Nat := min (c + 1) 0xffffffff

/-- The next table SD in rotation with a free slot, trying at most `n` from SD `k` (R36). -/
def State.nextTableSd (s : State) : Nat → Nat → Option Nat
  | 0, _ => none
  | n + 1, k => if (s.sd k).inService && (s.sd k).slots.take.isSome then some k else s.nextTableSd n ((k + 1) % 12)

/-- The choice of a table SD for a SESSION_OPEN or SESSION_FORK as it arrives: the rotation advances past the chosen SD
whatever the outcome of the command (R36). -/
def State.chooseSd (s : State) : Option Nat × State :=
  match s.nextTableSd 12 s.rotation with
  | none => (none, s)
  | some n => (some n, { s with rotation := (n + 1) % 12 })

/-- Take the head of a table SD's free list (R36). -/
def State.takeSlot (s : State) (sd : Nat) : Option (Nat × State) :=
  let d := s.sd sd
  d.slots.take.map fun p => (sd + 12 * p.1, s.putSd sd { d with slots := p.2 })

/-- A slot returns to the head of its list, its generation unchanged (R36). -/
def State.returnSlot (s : State) (slot : Nat) : State :=
  let n := tableSd slot
  let d := s.sd n
  let e := Entry.free slot
  let s := s.putSd n { d with slots := d.slots.giveFront (slot / 12) }
  s.putSess slot ((Session.free slot).withEntry { e with handle := mkHandle s.pkg slot (hGen (s.entry slot).handle) })

/-- A slot whose session has ended (R34): its generation rises by 1 and it joins the tail of its list, or at 0x0FFF_FFFF
it retires: SES_RETIRED, SLOT_RETIRED, and a CE entry that the error log takes. -/
def State.freeSlot (s : State) (slot : Nat) : State :=
  let n := tableSd slot
  let d := s.sd n
  let g := hGen (s.entry slot).handle + 1
  let blank := (Session.free slot).withEntry { Entry.free slot with handle := mkHandle s.pkg slot g }
  let s := s.putSess slot blank
  if g = 0x0fffffff then
    (((s.putSd n { d with retired := d.retired ++ [slot] }).addRegFld 0x02 n 0x10 23 0 1).setFlag fSlotRetired n).logError
      0 (16 + n) 0x02 n 0x0005 slot
  else s.putSd n { d with slots := d.slots.give (slot / 12) }

/-- Slots that a tenant's sessions hold (R497): not FREE, AWAY stubs and DORMANT sessions among them. -/
def State.tenantSlots (s : State) (t : Nat) : Nat :=
  countBy (fun x => x.2.cur.entry.state != .free && x.2.cur.entry.tenant == t) s.sessions

/-- The home SD that 0xFF chooses (R49): the SD in service whose T0 class pool of the model's KV page class has the most
free frames, the lower number of equals. -/
def State.chooseHome (s : State) (m : Model) : Nat :=
  (minBy (fun n => 2 ^ 40 - (s.pool (poolKey n 0 n m.kvPageClass)).pool.free)
    ((List.range 12).filter fun n => (s.sd n).inService)).getD 0

/-! ### Adapters (R267, R268) -/

/-- The current version of an adapter of a tenant (R267). -/
def State.currentAdapter (s : State) (id tenant : Nat) : Option Nat :=
  (s.adapters.find? fun a => a.1 / 65536 == id && a.2.current && a.2.tenant == tenant).map fun a => a.1 % 65536

/-- The pin count of an adapter version (R268): sessions bound to it, and steps in flight that use it. -/
def State.adapterPins (s : State) (key : Nat) : Nat :=
  countBy (fun x => x.2.cur.entry.state != .free && x.2.cur.entry.adapter * 65536 + x.2.cur.entry.adapterVersion == key
    || x.2.shadow.entry.state != .free && x.2.cur.entry.state == .running
        && x.2.shadow.entry.adapter * 65536 + x.2.shadow.entry.adapterVersion == key) s.sessions

/-- A version that is not current and has no pin is freed at once, with its pages (R268). -/
def State.sweepAdapter (s : State) (key : Nat) : State :=
  match aget s.adapters key with
  | none => s
  | some a =>
    if a.current || s.adapterPins key > 0 then s
    else { a.pages.foldl State.freePage s with adapters := adel s.adapters key }

/-! ### Peer edges (R54, R56) -/

/-- The waiters of a session in the order of their registration, following at most `n` links. -/
def State.waitersFrom (s : State) : Nat → Option Nat → List Nat
  | 0, _ => []
  | _ + 1, none => []
  | n + 1, some i => i :: s.waitersFrom n (s.entry i).nextWaiter

/-- The waiters of a session. -/
def State.waiters (s : State) (slot : Nat) : List Nat :=
  s.waitersFrom (s.sessions.length + 1) (s.entry slot).firstWaiter

/-- Rewrite the waiter list of a session (R54). -/
def State.linkWaiters (s : State) (peer : Nat) (ws : List Nat) : State :=
  let s := s.putEntry peer { s.entry peer with firstWaiter := ws.head? }
  (ws.zip (ws.tail.map some ++ [none])).foldl
    (fun s p => s.putEntry p.1 { s.entry p.1 with nextWaiter := p.2 }) s

/-- Recompute HEIGHT from a session's waiters, and along its own chain, at most `n` sessions (R56). -/
def State.fixHeights (s : State) : Nat → Option Nat → State
  | 0, _ => s
  | _ + 1, none => s
  | n + 1, some i =>
    let h := ((s.waiters i).map fun w => (s.entry w).height + 1).foldl max 0
    let s := s.putEntry i { s.entry i with height := h }
    s.fixHeights n (s.findHandle (s.entry i).peer)

/-- Remove the peer edge of a session, where it has one (R54). -/
def State.removeEdge (s : State) (slot : Nat) : State :=
  let e := s.entry slot
  if e.peer = 0 then s
  else
    let s1 := s.putEntry slot { e with peer := 0, nextWaiter := none }
    match s.findHandle e.peer with
    | none => s1
    | some b =>
      let ws := (s.waiters b).filter (· != slot)
      (s1.linkWaiters b ws).fixHeights 65 (some b)

/-- Edges walked from a session along PEER, and whether the walk meets slot `a`, at most `n` (R56). -/
def State.walkPeers (s : State) (a : Nat) : Nat → Nat → Nat × Bool
  | 0, b => (0, b == a)
  | n + 1, b =>
    if b = a then (0, true)
    else match s.findHandle (s.entry b).peer with
      | none => (0, false)
      | some c => let r := s.walkPeers a n c; (r.1 + 1, r.2)

/-- Disarm a session's timer and drop a staged timeout (R51). -/
def State.disarm (s : State) (slot : Nat) : State :=
  let x := s.sess slot
  s.putSess slot { x.withEntry { x.cur.entry with deadline := 0 } with timer := none, staged := none, fired := 0 }

/-! ### Rollback, locks, fences (R38, R59 to R61) -/

/-- The core that a rollback restores (R38): the values at the last seal, but for what no seal owns: delivery
(FUNCTION, RESULT_QUEUE, DETACHED), LOCK_REPORT, the registrar's fields, and INPUT_OPEN, which follows the input kept
(log entry 4). -/
def Session.rolledBack (x : Session) : SessionCore :=
  let e := x.cur.entry
  { x.shadow with entry := { x.shadow.entry with
      function := e.function, resultQueue := e.resultQueue, detached := e.detached, lockReport := e.lockReport,
      peer := e.peer, firstWaiter := e.firstWaiter, nextWaiter := e.nextWaiter, height := e.height,
      inputOpen := e.inputOpen, state := e.state, waitReason := e.waitReason, fenceReason := e.fenceReason,
      holder := e.holder, leaseEnd := e.leaseEnd, degraded := e.degraded, residence := e.residence } }

/-- Pages of a KV map that lie wholly at or beyond a length (R79). -/
def tailPages (m : Model) (c : SessionCore) (len : Nat) : List (Nat × Nat) :=
  c.kvMap.flatMap fun g => ((g.2.usas.zipIdx.filter fun p => len ≤ p.2 * m.pageTokens).map fun p => (g.1, p.1))

/-- Cut the pages that lie wholly at or beyond a length out of a session's KV map and drop them (R79). -/
def State.trimTail (s : State) (slot len : Nat) : State :=
  match s.modelOf slot with
  | none => s
  | some m =>
    let x := s.sess slot
    let gone := tailPages m x.cur len
    let c := { x.cur with kvMap := x.cur.kvMap.map fun g =>
      (g.1, { g.2 with runs := buildRuns m.kvPageClass m.pageTokens 0 (g.2.usas.take (ceilDiv len m.pageTokens)) }) }
    gone.foldl (fun s p => s.dropRef p.2 (some slot)) (s.putSess slot { x with cur := c })

/-- Whether the outbox test of R63 passes. -/
def State.outboxTest (s : State) (slot : Nat) : Bool :=
  let x := s.sess slot
  x.outbox.length + x.unpooled.length + 4 ≤ s.regFld 0x02 0 0x00 12 0 && 4 ≤ (s.sd (tableSd slot)).outboxFree

/-- A session in WAITING/OUTBOX_FULL whose outbox has drained to half, with 4 free entries in the pool, becomes READY
(R63). -/
def State.wakeOutbox (s : State) (slot : Nat) : State :=
  let x := s.sess slot
  if x.cur.entry.state = .waiting ∧ x.cur.entry.waitReason = .outboxFull
      ∧ x.outbox.length ≤ s.regFld 0x02 0 0x00 12 0 / 2 ∧ 4 ≤ (s.sd (tableSd slot)).outboxFree then
    s.setState slot .ready
  else s

/-- Sessions of a table SD that wait for outbox room (R63). -/
def State.wakeOutboxes (s : State) (sd : Nat) : State :=
  (s.sessions.map (·.1)).foldl (fun s i => if tableSd i = sd then s.wakeOutbox i else s) s

/-- Roll a session back to its last seal (R38): pages its map gained are dropped, pages wholly beyond COMMITTED_LEN are
freed (R79), reserved outbox entries return (R63), the input kept stays. -/
def State.rollback (s : State) (slot : Nat) : State :=
  let x := s.sess slot
  let back := x.rolledBack
  let gained := x.cur.pages.filter fun u => !back.pages.contains u
  let n := tableSd slot
  let s := s.putSd n { s.sd n with outboxReserved := (s.sd n).outboxReserved - x.reserved }
  let s := s.putSess slot { x with cur := back, reserved := 0 }
  let s := gained.foldl (fun s u => s.dropRef u (some slot)) s
  (((s.trimTail slot back.entry.committed).settleMap slot).recount slot).wakeOutboxes n

/-- Release a session's lock (R59). -/
def State.unlock (s : State) (slot : Nat) : State :=
  s.putEntry slot { s.entry slot with holder := .none, leaseEnd := 0 }

/-- The lease of a host-command lock runs from now (R60). -/
def State.leaseFrom (s : State) : Nat := s.now + s.regFld 0x02 0 0x00 45 32 * 1000000

/-- A host command takes a session's lock (R59, R60). -/
def State.lockFor (s : State) (slot : Nat) (f : Frame) : State :=
  let x := s.sess slot
  s.putSess slot { x.withEntry { x.cur.entry with holder := .host f.function f.queue, leaseEnd := s.leaseFrom } with
    owner := some f, lockStamp := s.now }

/-- Fence a session (R44): its timer goes, its peer edge is removed (R54), it has completed for its waiters (R57). -/
def State.fence (s : State) (slot : Nat) (r : FenceReason) : State :=
  let s := (s.disarm slot).removeEdge slot
  let x := s.sess slot
  s.putSess slot { x.withEntry { x.cur.entry with state := .fenced, waitReason := .none, fenceReason := r,
                                                  holder := .none, leaseEnd := 0 } with
    since := s.now, peerDone := true }

/-- Fence a session and report it: EVENT 0x03 (R409). -/
def State.fenceReport (s : State) (slot : Nat) (r : FenceReason) : State :=
  (s.fence slot r).sessionEvent slot 0x03 [(33, 1, r.code), (40, 8, s.now)]

/-- Break a session's lock (R61): roll back, FENCED/LOCK_BROKEN, LOCK_REPORT, EVENT, flag; the input of an APPEND or
RESUME that holds the lock is discarded (R38). The command whose lock breaks completes with `status`. -/
def State.breakLock (s : State) (slot status : Nat) : State :=
  let x := s.sess slot
  let s := match x.owner with
    | some f =>
      let s := s.complete f status
      if f.opcode = 0x0102 ∨ f.opcode = 0x0103 then
        let y := s.sess slot
        let mine := fun (i : TextInput) => i.opcode == f.opcode && i.function == f.function && i.queue == f.queue
        let s := ((y.inputs.filter mine).flatMap TextInput.waits).foldl
          (fun (s : State) g => if g = f then s else s.complete g status) s
        let y := s.sess slot
        s.putSess slot { y.withEntry { y.cur.entry with inputOpen := false } with
          inputs := y.inputs.filter fun i => !mine i }
      else s
    | none => s
  let s := s.putSess slot { s.sess slot with owner := none }
  let s := (s.rollback slot).fence slot .lockBroken
  let s := s.putEntry slot { s.entry slot with lockReport := true }
  (s.sessionEvent slot 0x02 [(40, 8, s.now)]).setFlag fLockBroken (tableSd slot)

/-! ### The checks of every session command (R35, R42, R47, R59, R61, R412) -/

/-- A STATUS record that names the package a session has moved to (R297). -/
def movedBody (pkg seq : Nat) : List Byte := recordBody [(32, 2, pkg), (36, 4, seq)]

/-- A frame completes with MOVED (R47, R297). -/
def State.completeMoved (s : State) (f : Frame) (slot : Nat) : State :=
  let x := s.sess slot
  s.completeWith f (statusRecord f stMoved f.handle (movedBody x.fwdPkg x.moveSeq))

/-- A command waits for a session, in the order of ingress stamps (R46, R59). -/
def State.waitFor (s : State) (slot : Nat) (f : Frame) (childSd : Option Nat) : State :=
  let x := s.sess slot
  s.putSess slot { x with waiting := insBy Waiting.stamp ⟨f, s.now, childSd⟩ x.waiting }

/-- What the checks before the state table decide. -/
inductive Gate where
  | refuse (status : Nat)
  | moved (slot : Nat)
  | brokenLock (slot : Nat)
  | hold (slot : Nat)
  | pass (slot : Nat)
deriving DecidableEq, Repr

/-- The checks a session command meets before the table of R44: handle and tenant (R35), its fields (R48), the AWAY rule
(R47), a detached session (R412), a broken lock not yet reported (R61), DORMANT (R42), commands held from FREEZE (R47),
and the lock (R59). CLOSE and RESTORE reach a DORMANT session, CLOSE a detached one. -/
def State.gate (s : State) (f : Frame) (fieldsOk dormantOk detachedOk : Bool) : Gate :=
  match s.findHandle f.handle with
  | none => .refuse stNoSession
  | some i =>
    let e := s.entry i
    let x := s.sess i
    if !s.bound e.tenant f.function then .refuse stNoSession
    else if !fieldsOk then .refuse stFrameField
    else if e.state = .away then .moved i
    else if e.detached && !detachedOk then .refuse stDetached
    else if e.state = .opening ∨ e.state = .closing then .refuse stSessionState
    else if x.frozen then .hold i
    else if e.holder != .none then .hold i
    else if e.lockReport then .brokenLock i
    else if e.residence = .dormant ∧ !dormantOk then .refuse stSessionState
    else .pass i

/-- A session command behind its gate: `act` is its row of R44; `childSd` is the table SD chosen for the child of a
SESSION_FORK. -/
def State.commandFor (s : State) (f : Frame) (fieldsOk dormantOk detachedOk : Bool) (childSd : Option Nat)
    (act : Nat → State → State) : State :=
  match s.gate f fieldsOk dormantOk detachedOk with
  | .refuse st => s.complete f st
  | .moved i => s.completeMoved f i
  | .brokenLock i => (s.putEntry i { s.entry i with lockReport := false }).complete f stLockBroken
  | .hold i => s.waitFor i f childSd
  | .pass i => act i s

/-- A session command that opens no session, behind its gate. -/
def State.command (s : State) (f : Frame) (fieldsOk dormantOk detachedOk : Bool) (act : Nat → State → State) : State :=
  s.commandFor f fieldsOk dormantOk detachedOk none act

/-! ### Timers and deadlines (R51 to R53) -/

/-- Arm a session's timer for a deadline or a NOT_BEFORE. -/
def State.arm (s : State) (slot : Nat) (k : TimerKind) (d : Nat) : State :=
  let x := s.sess slot
  s.putSess slot { x.withEntry { x.cur.entry with deadline := d } with timer := some k, staged := none, fired := 0 }

/-- The timeout of a wait takes effect (R51): CALL_ID + 1 and an EVENT; the timeout text is queued and the session is
READY, or it is FENCED/TIMEOUT. The peer edge goes. -/
def State.timeoutAction (s : State) (slot : Nat) : State :=
  let e := s.entry slot
  let s := (s.removeEdge slot).disarm slot
  let s := s.putEntry slot { s.entry slot with callId := callNext e.callId, timedOut := false }
  let s := s.sessionEvent slot 0x01 [(36, 4, callNext e.callId), (40, 8, e.deadline)]
  if e.timeoutFence then s.fence slot .timeout
  else (s.queueText slot (s.sess slot).cur.timeoutText).setState slot .ready

end Sys2Proof.Machine
end

