-- ==== Sys2Proof/Machine/SessionCmds.lean ====
section
/-! DEFINITION. The rows of the state table (R44) for the session commands of the host: what each does to a session that
has passed the checks of State.gate. A function named act… takes the frame and the slot. -/
namespace Sys2Proof.Machine

/-! ### Input -/

/-- Text of a frame is queued under the session's lock, held as a host command while the text unit works (R59); a frame
without bytes completes at once. -/
def State.takeText (s : State) (slot : Nat) (f : Frame) : State :=
  let s := s.queueFrameText slot f
  if f.payload.isEmpty then s.complete f stOk else s.lockFor slot f

/-- An APPEND as an untimed one (R44, R50). -/
def actAppend (f : Frame) (slot : Nat) (s : State) : State :=
  let e := s.entry slot
  match e.state with
  | .ready => s.takeText slot f
  | .waiting =>
    match e.waitReason with
    | .input => (s.setState slot .ready).takeText slot f
    | .timer | .outboxFull | .budget | .quota => s.takeText slot f
    | _ => s.complete f stSessionState
  | .held =>
    if e.prior = .waiting then
      match e.waitReason with
      | .input => (s.putEntry slot { e with prior := .ready, waitReason := .none }).takeText slot f
      | .timer | .outboxFull | .budget | .quota => s.takeText slot f
      | _ => s.complete f stSessionState
    else s.takeText slot f
  | _ => s.complete f stSessionState

/-- A TIMED APPEND whose NOT_BEFORE lies after its stamp (R44, R50). -/
def actTimedAppend (f : Frame) (slot : Nat) (s : State) : State :=
  let e := s.entry slot
  let wait := fun (s : State) =>
    let x := s.sess slot
    s.putSess slot { x with timed := insBy Waiting.stamp ⟨f, s.now, none⟩ x.timed }
  let timer := fun (s : State) => ((s.setWait slot .timer).arm slot .notBefore f.param).takeText slot f
  match e.state with
  | .ready => timer s
  | .waiting =>
    match e.waitReason with
    | .input => timer s
    | .timer | .outboxFull | .budget | .quota => wait s
    | _ => s.complete f stSessionState
  | .held =>
    if e.prior = .waiting && (e.waitReason == .tool || e.waitReason == .peer) then s.complete f stSessionState else wait s
  | _ => s.complete f stSessionState

/-- SESSION_APPEND behind its gate (R44, R50, R401). -/
def actSessionAppend (f : Frame) (slot : Nat) (s : State) : State :=
  if !continuationOk (s.sess slot) f then s.complete f stFrameField
  else if f.timed && s.now < f.param then actTimedAppend f slot s
  else actAppend f slot s

/-- How a RESUME is judged (R52): its CALL_ID, then, for the tool wait it answers, its stamp against D. -/
inductive ResumeVerdict where
  | field | late | accepted
deriving DecidableEq, Repr

/-- R52 for a RESUME of the present stamp. -/
def judgeResume (e : Entry) (callId now : Nat) : ResumeVerdict :=
  if callId > e.callId then .field
  else if callId < e.callId then .late
  else if e.waitReason == .tool && e.deadline != 0 && e.deadline < now then .late
  else .accepted

/-- SESSION_RESUME behind its gate (R44, R52, R53): its CALL_ID is judged in every state, since a lower one answers a call
that is over (log entry 97). A continuation of an accepted RESUME's input is queued (R401). -/
def actSessionResume (f : Frame) (slot : Nat) (s : State) : State :=
  let x := s.sess slot
  let e := x.cur.entry
  if !continuationOk x f then s.complete f stFrameField
  else if e.inputOpen && x.inputs.getLast?.any (fun i => !i.closed && i.opcode == f.opcode) then
    if e.state = .fenced then s.complete f stSessionState else s.takeText slot f
  else
    let answers := e.waitReason == .tool || e.waitReason == .peer
    match judgeResume e (f.field 32 4) s.now with
    | .field => s.complete f stFrameField
    | .late => s.complete f stLateResult
    | .accepted =>
      match e.state with
      | .waiting =>
        if answers then (((s.removeEdge slot).disarm slot).setState slot .ready).takeText slot f
        else s.complete f stSessionState
      | .held =>
        if e.prior = .waiting && answers then
          let s := (s.removeEdge slot).disarm slot
          (s.putEntry slot { s.entry slot with prior := .ready, waitReason := .none, timedOut := false }).takeText slot f
        else s.complete f stSessionState
      | _ => s.complete f stSessionState

/-! ### Hold and release -/

/-- SESSION_HOLD behind its gate (R44). -/
def actSessionHold (f : Frame) (slot : Nat) (s : State) : State :=
  let x := s.sess slot
  let e := x.cur.entry
  match e.state with
  | .ready | .waiting =>
    (s.putSess slot { x.withEntry { e with state := .held, prior := e.state } with since := s.now }).complete f stOk
  | .held => s.complete f stOk
  | _ => s.complete f stSessionState

/-- What a session does at the instant it leaves HELD (R44, R53, R63, R495): a deferred timeout applies; a wait whose end has
come meanwhile ends. -/
def State.afterRelease (s : State) (slot : Nat) : State :=
  let e := s.entry slot
  if e.timedOut then s.timeoutAction slot
  else if e.state = .waiting ∧ e.waitReason = .timer ∧ e.deadline ≤ s.now then
    (s.disarm slot).setState slot .ready
  else if e.state = .waiting ∧ e.waitReason = .budget ∧ 0 < (s.tenant e.tenant).remaining then s.setState slot .ready
  else if e.state = .waiting ∧ e.waitReason = .quota ∧ s.quotaFits e.tenant 0 (s.sess slot).shortfall then
    s.setState slot .ready
  else s.wakeOutbox slot

/-- SESSION_RELEASE behind its gate (R44). -/
def actSessionRelease (f : Frame) (slot : Nat) (s : State) : State :=
  let x := s.sess slot
  let e := x.cur.entry
  match e.state with
  | .held =>
    let y := { x.withEntry { e with state := e.prior, prior := .free } with
      since := s.now, readyStamp := if e.prior = .ready then s.now else x.readyStamp }
    ((s.putSess slot y).afterRelease slot).complete f stOk
  | .fenced =>
    if e.fenceReason = .lockBroken ∨ e.fenceReason = .timeout then
      let s := s.putEntry slot { e with fenceReason := .none }
      (if x.pending.isEmpty then s.setWait slot .input else s.setState slot .ready).complete f stOk
    else s.complete f stSessionState
  | _ => s.complete f stSessionState

/-! ### Park -/

/-- SESSION_PARK behind its gate (R44, R117, R147). -/
def actSessionPark (f : Frame) (slot : Nat) (s : State) : State :=
  let e := s.entry slot
  let target := f.field 32 1
  match e.state with
  | .ready | .waiting | .held | .fenced =>
    let s :=
      if target = 0 then
        let s := s.putSess slot { s.sess slot with parkRequest := true }
        s.putSd e.homeSd { s.sd e.homeSd with policyPending := true }
      else (s.parkPages slot).foldl (fun s u => s.requestCage u target none (.park slot)) s
    s.complete f stOk
  | _ => s.complete f stSessionState

/-! ### Cancel -/

/-- A generation ends without a record (R240): cancel. -/
def State.endGeneration (s : State) (slot : Nat) : State :=
  let x := s.sess slot
  s.putSess slot { x with cur := { x.cur with text := x.cur.text.newGeneration } }

/-- SESSION_CANCEL behind its gate (R44): for a session that is not RUNNING. -/
def actSessionCancel (f : Frame) (slot : Nat) (s : State) : State :=
  let e := s.entry slot
  let drop := fun (s : State) => ((s.removeEdge slot).disarm slot).discardInput slot
  match e.state with
  | .ready => (((s.discardInput slot).endGeneration slot).setWait slot .input).complete f stCancelled
  | .waiting =>
    if e.waitReason = .input then s.complete f stNotRunning
    else
      let s := drop s
      let s := s.putEntry slot { s.entry slot with callId := callNext e.callId }
      ((s.endGeneration slot).setWait slot .input).complete f stCancelled
  | .held =>
    if e.prior = .waiting ∧ e.waitReason = .input then s.complete f stNotRunning
    else
      let s := drop s
      let c := if e.prior = .waiting then callNext e.callId else e.callId
      let s := s.putEntry slot { s.entry slot with callId := c, prior := .waiting, waitReason := .input, timedOut := false }
      (s.endGeneration slot).complete f stCancelled
  | _ => s.complete f stSessionState

/-! ### Close -/

/-- Drop every page of a session (R128, R44): its KV map's references, its metadata page; its map storage returns. -/
def State.dropPages (s : State) (slot : Nat) : State :=
  let x := s.sess slot
  let pages := x.cur.pages ++ x.shadow.pages.filter fun u => !x.cur.pages.contains u
  let s := pages.foldl (fun s u => s.dropRef u (some slot)) s
  let blank := fun (c : SessionCore) => { c with kvMap := [], entry := { c.entry with metaUsa := noPage } }
  (s.putSess slot { s.sess slot with cur := blank (s.sess slot).cur, shadow := blank (s.sess slot).shadow }).settleMap slot

/-- Discard a session's undelivered records and free their pool entries (R63). -/
def State.dropOutbox (s : State) (slot : Nat) : State :=
  let n := tableSd slot
  let x := s.sess slot
  let d := s.sd n
  let s := s.putSd n { d with outbox := x.outbox.foldl (fun p o => p.give o.pool) d.outbox
                              outboxReserved := d.outboxReserved - x.reserved }
  (s.putSess slot { x with outbox := [], unpooled := [], reserved := 0 }).wakeOutboxes n

/-- A session enters CLOSING (R44): its pages, timer entry, edges and outbox are dropped; it has completed for its
waiters (R57). -/
def State.startClosing (s : State) (slot : Nat) : State :=
  let s := ((s.removeEdge slot).disarm slot).discardInput slot
  let s := (s.dropPages slot).dropOutbox slot
  let s := s.settleText slot 0
  let x := s.sess slot
  s.putSess slot { x.withEntry { x.cur.entry with state := .closing, waitReason := .none } with
    since := s.now, parkRequest := false, peerDone := true, timed := [], cur := { x.cur with entry :=
      { x.cur.entry with state := .closing, waitReason := .none } } }

/-- SESSION_CLOSE behind its gate (R44): the frame completes when the release is done. -/
def actSessionClose (f : Frame) (slot : Nat) (s : State) : State :=
  let e := s.entry slot
  match e.state with
  | .ready | .waiting | .held | .fenced =>
    let held := (s.sess slot).timed
    let s := s.startClosing slot
    let s := held.foldl (fun s w => s.complete w.frame stNoSession) s
    s.lockFor slot f
  | _ => s.complete f stSessionState

/-! ### Open and fork -/

/-- The metadata page and text block of a new session (R44, R239): `none` where a reservation fails. -/
def State.reserveSession (s : State) (slot home tenant : Nat) : Option State :=
  let n := pageUse 0 0
  if !s.quotaFits tenant 0 n || (s.sd home).textFree < textBlockPages then none
  else match s.allocPage home 0 0 tenant (some slot) with
    | none => none
    | some (u, s) =>
      let d := s.sd home
      let s := s.putSd home { d with textFree := d.textFree - textBlockPages }
      let x := s.sess slot
      some (s.putSess slot { x.withEntry { x.cur.entry with metaUsa := u } with textHeld := textBlockPages })

/-- The image ID that a SEQ_LISTS field resolves to (R241): 0xFFFF takes the model's default of the slot; `none` for an
ID that names no image, or one compiled for another vocabulary. -/
def State.resolveList (s : State) (m : Model) (i id : Nat) : Option Nat :=
  let id := if id = 0xffff then m.defaultLists.getD i 0 else id
  if id = 0 then some 0
  else match aget s.seqLists id with
    | some l => if l.vocabPieces = m.vocab.pieces.length then some id else none
    | none => none

/-- The four lists of a SESSION_OPEN frame (R48, R241). -/
def State.resolveLists (s : State) (m : Model) (v : Nat) : Option (List Nat) :=
  (List.range 4).mapM fun i => s.resolveList m i (fld v (16 * i + 15) (16 * i))

/-- The adapter version that SESSION_OPEN binds (R267): `none` where ADAPTER_ID names no current version of the
tenant. -/
def State.bindAdapter (s : State) (id tenant : Nat) : Option Nat :=
  if id = 0 then some 0 else s.currentAdapter id tenant

/-- The timeout text and the initial text in a SESSION_OPEN payload (R48): `none` where the length breaks it. -/
def openTexts (f : Frame) : Option (List Byte × List Byte) :=
  let n := leAt f.payload 0 2
  if f.payload.length < 2 || n > 1024 || f.payload.length < 2 + n then none
  else some ((f.payload.drop 2).take n, f.payload.drop (2 + n))

/-- The initial text that a SESSION_OPEN frame carries (R48). -/
def openText (f : Frame) : List Byte := ((openTexts f).map (·.2)).getD []

/-- The fields of SESSION_OPEN that the frame alone decides (R48). -/
def openFieldsOk (f : Frame) : Bool :=
  f.handle == 0 && !f.timed && fld f.param 55 48 ≤ 1 && fld f.param 63 56 ≤ 1 && f.field 36 1 ≤ 1 && f.field 37 1 ≤ 7
    && (f.field 38 1 ≤ 11 || f.field 38 1 == 0xff) && f.field 39 1 ≤ 63 && (openTexts f).isSome

/-- The entry that SESSION_OPEN writes (R37, R44, R48). -/
def openEntry (f : Frame) (slot gen pkg home version : Nat) (lists : List Nat) (degraded : Bool) : Entry :=
  { Entry.free slot with
    handle := mkHandle pkg slot gen, state := .opening, classD := f.field 36 1 == 1
    degraded := degraded && f.field 36 1 == 1, tenant := f.field 32 2, homeSd := home, priority := f.field 37 1
    timeoutFence := fld f.param 63 56 == 1, function := f.function, resultQueue := f.field 39 1
    model := f.field 34 2, adapter := fld f.param 47 32, adapterVersion := version
    adapterFollow := fld f.param 55 48 == 1, seed := f.field 40 8, seqLists := lists
    profile := fld f.param 31 0 }

/-- STORE_OK (PWR_PDS.STORE_OK): the protection of CLASS_D sessions is in force (R43). -/
def State.storeOk (s : State) : Bool := s.power.storeOk

/-- SESSION_OPEN (R36, R44, R48): the rotation advances; a slot of the chosen table SD enters OPENING with the tenant's
limit checked (R497) and the metadata page reserved, and OPEN_PREPARED ends it. -/
def State.sessionOpen (s : State) (f : Frame) : State :=
  let tenant := f.field 32 2
  let (chosen, s) := s.chooseSd
  if !s.bound tenant f.function then s.complete f stNoSession
  else if !openFieldsOk f then s.complete f stFrameField
  else match aget s.models (f.field 34 2), s.bindAdapter (fld f.param 47 32) tenant, openTexts f with
    | some m, some ver, some (timeout, text) =>
      match s.resolveLists m (f.field 56 8) with
      | none => s.complete f stFrameField
      | some lists =>
        if !(s.tenant tenant).models.contains (f.field 34 2) || (aget s.profiles (fld f.param 31 0)).isNone then
          s.complete f stFrameField
        else match chosen.bind s.takeSlot with
          | none => s.complete f stResourceFloor
          | some (slot, s) =>
            let within := s.tenantSlots tenant < (s.tenant tenant).maxSessions
            let home := if f.field 38 1 = 0xff then s.chooseHome m else f.field 38 1
            let e := openEntry f slot (hGen (s.entry slot).handle) s.pkg home ver lists (!s.storeOk)
            let x := { (Session.free slot).withEntry e with owner := some f, since := s.now }
            let x := { x with cur := { x.cur with toolTimeout := f.field 48 8, timeoutText := timeout } }
            let s := s.putSess slot x
            match if within && (s.sd home).inService then s.reserveSession slot home tenant else none with
            | none => s
            | some s => s.queueText slot text
    | _, _, _ => s.complete f stFrameField

/-- Preparation of an OPENING entry is done (R44): the handle is issued, READY where the frame carried text, else
WAITING/INPUT; or the
reservation failed, and the slot returns to the head of its list with QUOTA. -/
def State.openPrepared (s : State) (slot : Nat) : State :=
  let x := s.sess slot
  let e := x.cur.entry
  if e.state != .opening then s
  else match x.owner with
    | none => s
    | some f =>
      if e.metaUsa = noPage then (s.returnSlot slot).complete f stQuota
      else
        let st := if (openText f).isEmpty then s.setWait slot .input else s.setState slot .ready
        let y := { st.sess slot with owner := none }
        let s := (st.putSess slot { y with shadow := y.cur }).recount slot
        s.completeWith f (statusRecord f stOk e.handle (recordBody []))

/-- A fork's child takes the parent's pages that hold positions below its KV length (R135): it references each, or gets
a private copy where the page can have no further reference (R130). `none` where a copy's reservation fails. -/
def State.sharePages (s : State) (child : Nat) (m : Model) : List (Nat × Nat) → Option State
  | [] => some s
  | (lg, u) :: r =>
    match s.takeRef u (some child) with
    | (some s, _) =>
      let x := s.sess child
      let us := (x.cur.lg lg).usas ++ [u]
      (s.putSess child { x with cur := x.cur.setPages m.kvPageClass m.pageTokens lg us }).sharePages child m r
    | (none, s) =>
      let e := s.entry child
      if !s.quotaFits e.tenant 0 (pageUse m.kvPageClass m.scaleBytes) then none
      else match s.allocPage e.homeSd m.kvPageClass m.scaleBytes e.tenant (some child) with
        | none => none
        | some (v, s) =>
          let s := s.copyPage u v
          let x := s.sess child
          let us := (x.cur.lg lg).usas ++ [v]
          (s.putSess child { x with cur := x.cur.setPages m.kvPageClass m.pageTokens lg us }).sharePages child m r

/-- The pages of a session that hold a position below its KV length, by layer-group (R135). -/
def SessionCore.sharedPart (c : SessionCore) (p : Nat) : List (Nat × Nat) :=
  c.kvMap.flatMap fun g => (g.2.usas.take (ceilDiv c.kvLen p)).map fun u => (g.1, u)

/-- The child of a fork before its pages (R49): what it takes from its parent and from the frame. -/
def forkCore (f : Frame) (c : SessionCore) (slot gen pkg : Nat) (storeOk : Bool) : SessionCore :=
  let e := c.entry
  let cls := if f.field 32 1 = 0xff then e.classD else f.field 32 1 == 1
  { c with
    kvMap := [], wakeText := []
    entry := { e with
      handle := mkHandle pkg slot gen, state := .waiting, waitReason := .input, residence := .hot, classD := cls
      degraded := cls && !storeOk, fenceReason := .none, prior := .free
      priority := if f.field 33 1 = 0xff then e.priority else f.field 33 1
      seed := if f.field 40 8 = 0 then e.seed else f.field 40 8
      parent := e.handle, callId := 0, inputOpen := false, timedOut := false, lockReport := false, deadline := 0, peer := 0
      firstWaiter := none, nextWaiter := none, height := 0, holder := .none, leaseEnd := 0, metaUsa := noPage
      lastSeal := 0, lastS1 := false } }

/-- SESSION_FORK behind its gate (R36, R44, R49, R146): a child on the chosen table SD in WAITING/INPUT that shares the
parent's pages; QUOTA at the tenant's session limit, or where the reservation fails. -/
def actSessionFork (f : Frame) (childSd : Option Nat) (slot : Nat) (s : State) : State :=
  let x := s.sess slot
  let e := x.cur.entry
  if !(e.state = .ready ∨ e.state = .waiting ∨ e.state = .held) then s.complete f stSessionState
  else match childSd with
    | none => s.complete f stResourceFloor
    | some n =>
      if (s.tenant e.tenant).maxSessions ≤ s.tenantSlots e.tenant then s.complete f stQuota
      else match s.takeSlot n with
        | none => s.complete f stResourceFloor
        | some (child, s1) =>
          let core := forkCore f x.cur child (hGen (s1.entry child).handle) s1.pkg s1.storeOk
          let s2 := s1.putSess child { Session.free child with cur := core, since := s.now }
          match s2.reserveSession child e.homeSd e.tenant with
          | none => s.complete f stQuota
          | some s3 =>
            let shared := match s3.modelOf slot with
              | none => some s3
              | some m => s3.sharePages child m (x.cur.sharedPart m.pageTokens)
            match shared with
            | none => s.complete f stQuota
            | some s4 =>
              let s5 := (s4.settleMap child).recount child
              let y := s5.sess child
              let s6 := s5.putSess child { y with shadow := y.cur }
              s6.completeWith f (statusRecord f stOk core.entry.handle (recordBody []))

/-! ### Peer waits -/

/-- SESSION_WAIT_PEER behind its gate (R35, R44, R55, R56): a peer of a tenant that is not bound to the function is
unknown; the registrar walks from the peer; it refuses a cycle and a chain above 64 edges; else the edge joins the peer's
waiter list, HEIGHT rises along its chain, CALL_ID rises. -/
def actSessionWaitPeer (f : Frame) (slot : Nat) (s : State) : State :=
  let x := s.sess slot
  let e := x.cur.entry
  let inst := ((List.range 12).find? fun n => (s.sd n).inService).getD 0
  let waits := e.state = .waiting ∧ (e.waitReason = .input ∨ e.waitReason = .tool)
  if ¬ waits ∨ e.callId = 0xffffffff then s.complete f stSessionState
  else match s.findHandle (f.field 32 8) with
    | none => s.complete f stNoSession
    | some b =>
      if !s.bound (s.entry b).tenant f.function then s.complete f stNoSession
      else if (s.entry b).state = .away then s.complete f stMoved
      else
        let (edges, cycle) := s.walkPeers slot 65 b
        if cycle then (s.setFlag fWaitRefused inst).complete f stWaitCycle
        else if 64 < e.height + 1 + edges then (s.setFlag fWaitRefused inst).complete f stWaitDepth
        else
          let ws := s.waiters b
          let s := s.disarm slot
          let y := s.sess slot
          let s := s.putSess slot { y with cur := { y.cur with
            wakeText := f.payload
            entry := { y.cur.entry with peer := f.field 32 8, callId := callNext e.callId } } }
          let s := (s.linkWaiters b (ws ++ [slot])).fixHeights 66 (some b)
          let s := s.setWait slot .peer
          let s := if f.param = 0 then s else s.arm slot .deadline (s.now + f.param)
          s.complete f stOk

/-- A waiter wakes (R57): its edge and timer go and its wake text is queued; WAITING/PEER becomes READY, a HELD waiter's
PRIOR_STATE becomes READY. -/
def State.wakeWaiter (s : State) (slot : Nat) : State :=
  let e := s.entry slot
  let text := (s.sess slot).cur.wakeText
  let s := ((s.removeEdge slot).disarm slot).queueText slot text
  if e.state = .held then
    s.putEntry slot { s.entry slot with prior := .ready, waitReason := .none, timedOut := false }
  else s.setState slot .ready

/-- A peer completes (R57): the registrar wakes its waiters in the order of their registration, where no wake filter
rejects the completion. -/
def State.peerComplete (s : State) (slot : Nat) (rejects : List Nat) : State :=
  if !(s.sess slot).peerDone then s
  else
    let ws := s.waiters slot
    let s := s.putSess slot { s.sess slot with peerDone := false }
    (ws.filter fun w => !rejects.contains w).foldl State.wakeWaiter s

end Sys2Proof.Machine
end

