-- ==== Sys2Proof/Machine/Migration.lean ====
section
/-! DEFINITION. Session migration (R290 to R304): the source, the destination, stubs. -/
namespace Sys2Proof.Machine

def fMigAborted : FlagId := ⟨0x11, 0x20, 0⟩
def fFreezeLong : FlagId := ⟨0x11, 0x20, 1⟩
def fPushRefused : FlagId := ⟨0x11, 0x20, 2⟩
def fUndecided : FlagId := ⟨0x11, 0x20, 3⟩

/-! ### The source -/

/-- What must be identical on two packages for a session to move (R176, R293): the MODEL section and the KV
parameters. -/
def Model.signature (m : Model) : List Nat :=
  [m.layers, m.dModel, m.qHeads, m.kvHeads, m.headDim, m.contextLimit, m.kvFormat, m.kvPageClass, m.groupHeads,
   m.spanPages, m.rotaryDims, m.ropePairing, m.softmaxScale, m.exact, m.experts, m.topK, m.sharedExperts]
    ++ m.ropeTurns ++ m.smoothExp ++ m.window ++ m.formats ++ m.params.flatMap fun p => [p.1, p.2]

/-- The fields of SESSION_MIGRATE (R290). -/
def Frame.migrateOk (f : Frame) (pkg : Nat) : Bool :=
  f.paramOk && f.field 32 2 < 2 ^ 14 && f.field 32 2 != pkg && (f.field 34 1 ≤ 11 || f.field 34 1 == 0xff)
    && (f.field 35 1 ≤ 2 || f.field 35 1 == 0xff) && f.field 36 1 < 128 && f.field 37 1 ≤ 63 && f.zeros 38 63

/-- Outgoing migrations in progress (MIG_STAT.OUT_ACTIVE), pushes apart. -/
def State.migrationsOut (s : State) : Nat :=
  countBy (fun p => p.2.phase != .pushPrepare && p.2.phase != .push) s.migrations

/-- What PREPARE says of a session (R292): its pages by layer-group with the tier each is to have, and its text pages. -/
def State.prepareMsg (s : State) (slot : Nat) (m : Migration) (push : Bool) : PrepareMsg :=
  let x := s.sess slot
  let e := x.cur.entry
  let tierOf := fun u => if m.tier = 0xff then (s.leaf u).elim 0 Leaf.tier else m.tier
  let md := s.modelOf slot
  let pages := x.cur.kvMap.flatMap fun g => g.2.usas.map fun u => (g.1, tierOf u)
  let all := match md with
    | some md =>
      if push then (List.range md.layerGroups).flatMap fun g =>
        (List.range (ceilDiv (e.committed + x.pending.length) md.pageTokens)).map fun _ => (g, 0)
      else pages
    | none => pages
  { handle := e.handle, moveSeq := m.moveSeq, tenant := e.tenant, model := e.model, kvParams := md.elim [] Model.signature
    homeSd := m.homeSd, function := m.function, queue := m.queue, pages := all, metaTier := tierOf e.metaUsa
    textPages := x.textHeld, push := push }

/-- The numbers of a PREPARE that travel with it. -/
def PrepareMsg.note (p : PrepareMsg) : List Nat :=
  [p.handle, p.moveSeq, p.tenant, p.model, p.homeSd, p.function, p.queue, p.metaTier, p.textPages, bit p.push]
    ++ p.kvParams ++ p.pages.flatMap fun q => [q.1, q.2]

/-- Send the PREPARE of a migration (R292). -/
def State.sendPrepare (s : State) (slot : Nat) (m : Migration) (push : Bool) : State :=
  let p := s.prepareMsg slot m push
  s.sendMig m.dest (tableSd slot) .prepare p.handle p.moveSeq 0 p.note

/-- A migration record with PREPARE still to be answered. -/
def newMigration (f : Option Frame) (dest homeSd tier fn q : Nat) (push : Bool) (e : Entry) (seq now : Nat) :
    Migration :=
  { frame := f, dest := dest, homeSd := homeSd, tier := tier, function := fn, queue := q
    phase := if push then .pushPrepare else .prepare, state := e.state, wait := e.waitReason, moveSeq := seq
    since := now, freezeAt := 0, repeated := false, sent := 0, attached := [] }

/-- SESSION_MIGRATE behind its gate (R291, R305, R524): READY, WAITING or HELD, no edge, no waiter, no open input, a
MOVE_SEQ that can rise; then MOVING, with the migration record written and PREPARE sent. -/
def actSessionMigrate (f : Frame) (slot : Nat) (s : State) : State :=
  let x := s.sess slot
  let e := x.cur.entry
  let live := e.state = .ready ∨ e.state = .waiting ∨ e.state = .held
  if ¬ live ∨ e.peer ≠ 0 ∨ e.firstWaiter.isSome ∨ e.inputOpen ∨ (x.inputs.any fun i => !i.waits.isEmpty) ∨ x.moveSeq ≥ 0xffffffff then s.complete f stSessionState
  else if s.regFld 0x11 0 0x00 39 32 ≤ s.migrationsOut then s.complete f stResourceFloor
  else
    let m := newMigration (some f) (f.field 32 2) (f.field 34 1) (f.field 35 1) (f.field 36 1) (f.field 37 1) false e
      x.moveSeq s.now
    let s := { s with migrations := aset s.migrations slot m }
    let y := s.sess slot
    let s := s.putSess slot { y.withEntry { e with state := .moving } with since := s.now }
    s.sendPrepare slot m false

/-- A migration or a push ends without a handover (R296): the record goes; a MOVING session returns to its state before
MOVING and the lock of the channel ends; the frame completes with `status`. -/
def State.abortMigration (s : State) (slot status : Nat) : State :=
  match aget s.migrations slot with
  | none => s
  | some m =>
    let s := { s with migrations := adel s.migrations slot }
    if m.phase = .pushPrepare ∨ m.phase = .push then s
    else
      let x := s.sess slot
      let e := x.cur.entry
      let s :=
        if e.state = .moving then
          s.putSess slot { x.withEntry { e with state := m.state, waitReason := m.wait, holder := .none, leaseEnd := 0 }
            with frozen := false, since := s.now }
        else s.putSess slot { x with frozen := false }
      let s := (s.setFlag fMigAborted 0).addRegFld 0x11 0 0x18 31 0 1
      match m.frame with
      | some f => s.complete f status
      | none => s

/-- Tell the destination to free what it holds (R296, R304). -/
def State.sendAbort (s : State) (slot : Nat) : State :=
  match aget s.migrations slot with
  | none => s
  | some m => s.sendMig m.dest (tableSd slot) .abortReq (s.entry slot).handle m.moveSeq 0 []

/-- A push session that is cancelled, closed or fenced ends its push (R304). -/
def State.endPush (s : State) (slot : Nat) : State :=
  match aget s.migrations slot with
  | some m => if m.phase = .pushPrepare ∨ m.phase = .push then (s.sendAbort slot).abortMigration slot stDisabled else s
  | none => s

/-- READY reaches the source (R292, R293, R302): `status` 0 starts COPY, else the destination has refused PREPARE; in COPY
or FREEZE a status is the destination's report of a failed write or decode (R296). -/
def State.migReady (s : State) (slot status : Nat) : State :=
  match aget s.migrations slot with
  | none => s
  | some m =>
    if m.phase = .prepare then
      if status = 0 then { s with migrations := aset s.migrations slot { m with phase := .copy, since := s.now } }
      else s.abortMigration slot status
    else if m.phase = .pushPrepare then
      if status = 0 then { s with migrations := aset s.migrations slot { m with phase := .push, since := s.now } }
      else (s.setFlag fPushRefused 0).abortMigration slot status
    else if (m.phase = .copy ∨ m.phase = .freeze) ∧ status ≠ 0 then (s.sendAbort slot).abortMigration slot status
    else s

/-- Whether a CKP_CUT has been accepted and its cut seal has not been applied (R346). -/
def State.cutPending (s : State) (sd : Nat) : Bool := s.checkpoint.run.any fun r => r.cut.isNone || !r.recorded.contains sd

/-- Send HANDOVER for a migration at FREEZE (R292), but not between a CKP_CUT and its cut seal (R346). -/
def State.sendHandover (s : State) (slot : Nat) : State :=
  match aget s.migrations slot with
  | none => s
  | some m =>
    if m.phase != .freeze || s.cutPending (tableSd slot) then s
    else
      let s := { s with migrations := aset s.migrations slot { m with phase := .handover, since := s.now } }
      s.sendMig m.dest (tableSd slot) .handover (s.entry slot).handle m.moveSeq m.sent []

/-- COPY ends (R292): the channel takes the session's lock, commands are held, the delta and HANDOVER are sent. -/
def State.migCopyDone (s : State) (slot die chan sent : Nat) : State :=
  match aget s.migrations slot with
  | none => s
  | some m =>
    if m.phase != .copy then s
    else
      let s := { s with migrations := aset s.migrations slot
                          { m with phase := .freeze, since := s.now, freezeAt := s.now, sent := sent } }
      let x := s.sess slot
      let s := s.putSess slot { x.withEntry { x.cur.entry with holder := .hoist die chan } with
        frozen := true, lockStamp := s.now }
      s.sendHandover slot

/-- A session becomes AWAY (R44, R292, R298): its pages, its text block and its outbox go; the stub names the new home.
Commands held since FREEZE complete with MOVED, and so do TIMED ones. -/
def State.goAway (s : State) (slot dest moveSeq : Nat) : State :=
  let s := (s.disarm slot).discardInput slot
  let s := ((s.dropPages slot).dropOutbox slot).settleText slot 0
  let x := s.sess slot
  let held := x.waiting ++ x.timed
  let e := { x.cur.entry with state := .away, waitReason := .none, holder := .none, leaseEnd := 0, prior := .free }
  let s := s.putSess slot { x.withEntry e with
    frozen := false, fwdPkg := dest, moveSeq := moveSeq, waiting := [], timed := [], parkRequest := false, since := s.now
    owner := none }
  held.foldl (fun s w => s.completeMoved w.frame slot) s

/-- COMMITTED reaches the source (R292, R297, R298): RELEASE. -/
def State.migCommitted (s : State) (slot : Nat) : State :=
  match aget s.migrations slot with
  | none => s
  | some m =>
    if m.phase != .handover then s
    else
      let h := (s.entry slot).handle
      let us := (s.now - m.freezeAt) / 1000
      let s := { s with migrations := adel s.migrations slot }
      let seq := min (m.moveSeq + 1) 0xffffffff
      let s := s.goAway slot m.dest seq
      let s := if hOrigin h = s.pkg then s
        else { s with guests := aupd s.guests h fun g => { g with stub := true } }
      let s := s.addRegFld 0x11 0 0x10 63 32 1
      let s := (s.markReg 0x11 0 0x18 63 32 us).flagIf (s.now - m.freezeAt > 2000000) fFreezeLong 0
      match m.frame with
      | some f => s.completeWith f (statusRecord f stOk h (movedBody m.dest seq))
      | none => s

/-! ### The destination -/

/-- Make a page of a class in a tier for a tenant (R292): a T0 page with its scale block, or a page of a lower tier in the
pool that R103 chooses. -/
def State.allocTier (s : State) (sd tier cls scaleBytes tenant : Nat) (owner : Option Nat) : Option (Nat × State) :=
  if !s.quotaFits tenant tier (pageUse cls scaleBytes) then none
  else if tier = 0 then s.allocPage sd cls scaleBytes tenant owner
  else match s.choosePool sd tier cls none with
    | none => none
    | some p =>
      let (u, s) := s.freshUsa sd cls
      match s.takeFrame sd tier p cls with
      | none => none
      | some (fr, s) =>
        let l : Leaf := { tier := tier, sizeClass := cls, pinned := false, cage := .resident, dirtyCkp := false,
                          dirtyDur := false, poison := false, frozen := false, pool := p, frame := fr,
                          tenant := tenant, refIndex := 0, access := 1, cageId := 0, scale := none,
                          scaleBytes := scaleBytes, touched := false, pins := 0, orphan := false, owner := owner }
        some (u, (s.addUse tenant tier (pageUse cls scaleBytes)).putLeaf u l)

/-- Reserve the KV pages of a PREPARE, all or nothing (R58, R292): layer-group, page index, USA. -/
def State.reservePages (s : State) (sd cls scaleBytes tenant : Nat) (owner : Option Nat) :
    List (Nat × Nat) → List (Nat × Nat × Nat) → Option (List (Nat × Nat × Nat) × State)
  | [], acc => some (acc, s)
  | (lg, tier) :: r, acc =>
    match s.allocTier sd tier cls scaleBytes tenant owner with
    | none => none
    | some (u, s) =>
      s.reservePages sd cls scaleBytes tenant owner r (acc ++ [(lg, countBy (fun p => p.1 == lg) acc, u)])

/-- Guests whose local slot an SD holds. -/
def State.guestsOn (s : State) (sd : Nat) : Nat := countBy (fun g => tableSd g.2.slot == sd) s.guests

/-- The local slot for an incoming session (R294): the AWAY slot where this package is the ORIGIN, the slot of a stub
where one is left, else the head of the free list of SLOT mod 12, with a guest-map entry. -/
def State.localSlot (s : State) (handle : Nat) : Option (Nat × State) :=
  let n := tableSd (hSlot handle)
  if hOrigin handle = s.pkg then
    if (s.entry (hSlot handle)).state = .away ∧ (s.entry (hSlot handle)).handle = handle then some (hSlot handle, s)
    else none
  else match aget s.guests handle with
    | some g => some (g.slot, s)
    | none =>
      if (s.sd n).guestTotal ≤ s.guestsOn n then none
      else (s.takeSlot n).map fun p =>
        let g : Guest := { slot := p.1, gen := hGen (s.entry p.1).handle, stub := false }
        (p.1, { p.2 with guests := aset p.2.guests handle g })

/-- What decides a PREPARE (R293): the status, with the reservation made where it is OK. -/
def State.prepare (s : State) (src : Nat) (p : PrepareMsg) : Nat × State :=
  match aget s.models p.model with
  | none => (stFrameField, s)
  | some m =>
    if !(s.tenant p.tenant).declared || m.signature != p.kvParams then (stFrameField, s)
    else if !s.bound p.tenant p.function then (stNoSession, s)
    else if (s.tenant p.tenant).maxSessions ≤ s.tenantSlots p.tenant then (stQuota, s)
    else if s.regFld 0x11 0 0x00 47 40 ≤ s.incoming.length then (stResourceFloor, s)
    else
      let home := if p.homeSd = 0xff then s.chooseHome m else p.homeSd
      let bytes := fun tier => countBy (fun q => q.2 == tier) p.pages * pageUse m.kvPageClass m.scaleBytes
        + if p.metaTier = tier then pageUse 0 0 else 0
      if !(s.quotaFits p.tenant 0 (bytes 0) && s.quotaFits p.tenant 1 (bytes 1) && s.quotaFits p.tenant 2 (bytes 2)) then
        (stQuota, s)
      else match s.localSlot p.handle with
        | none => (stResourceFloor, s)
        | some (slot, s1) =>
          if (s1.sd home).textFree < p.textPages || !(s1.sd home).inService then (stResourceFloor, s)
          else match s1.allocTier home p.metaTier 0 0 p.tenant (some slot) with
            | none => (stResourceFloor, s)
            | some (mu, s2) =>
              match s2.reservePages home m.kvPageClass m.scaleBytes p.tenant (some slot) p.pages [] with
              | none => (stResourceFloor, s)
              | some (pages, s3) =>
                let d := s3.sd home
                let s4 := s3.putSd home { d with textFree := d.textFree - p.textPages }
                let i : Incoming :=
                  { src := src, slot := slot, homeSd := home, tenant := p.tenant, model := p.model, moveSeq := p.moveSeq
                    function := p.function, queue := p.queue, metaUsa := mu, textPages := p.textPages, pages := pages
                    staged := [], attached := [], accepted := 0, lastMsg := s.now, push := p.push, held := none }
                (stOk, { s4 with incoming := aset s4.incoming p.handle i })

/-- Free a destination's reservation (R295, R301): pages, text pages, local slot and guest-map entry. -/
def State.freeIncoming (s : State) (handle : Nat) : State :=
  match aget s.incoming handle with
  | none => s
  | some i =>
    let s := (i.metaUsa :: i.pages.map fun p => p.2.2).foldl State.freePage s
    let d := s.sd i.homeSd
    let s := s.putSd i.homeSd { d with textFree := d.textFree + i.textPages }
    let s := { s with incoming := adel s.incoming handle }
    match aget s.guests handle with
    | some g =>
      if g.stub || hOrigin handle == s.pkg then s
      else
        let e := Entry.free g.slot
        let s := { s with guests := adel s.guests handle }
        let n := tableSd g.slot
        let s := s.putSd n { s.sd n with slots := (s.sd n).slots.giveFront (g.slot / 12) }
        s.putSess g.slot ((Session.free g.slot).withEntry { e with handle := mkHandle s.pkg g.slot g.gen })
    | none => s

/-- The KV map of a session at its destination (R292): the reserved pages in order, remote layer-groups unchanged
(R300). -/
def incomingMap (m : Model) (i : Incoming) (kvMap : List (Nat × LayerGroup)) : List (Nat × LayerGroup) :=
  kvMap.map fun g =>
    let us := (i.pages.filter fun p => p.1 == g.1).map fun p => p.2.2
    (g.1, { g.2 with runs := buildRuns m.kvPageClass m.pageTokens 0 us })

/-- The handover commits at the destination (R295, R298 to R300): the session takes its state before MOVING in its local
slot; its pages count as written (R301); the origin and the holders of its shards learn its new home; COMMITTED is
sent. `x` is the session as the delta leaves it, in its state before MOVING. -/
def State.commitHandover (s : State) (handle : Nat) (i : Incoming) (x : Session) : State :=
  match aget s.models i.model with
  | none => s
  | some m =>
    let e := x.cur.entry
    let seq := min (i.moveSeq + 1) 0xffffffff
    let e' := { e with
      handle := handle, homeSd := i.homeSd, tenant := i.tenant, model := i.model, function := i.function
      resultQueue := i.queue, metaUsa := i.metaUsa, holder := .none, leaseEnd := 0, residence := .hot
      degraded := e.classD && !s.storeOk, detached := false, lockReport := false, peer := 0, firstWaiter := none
      nextWaiter := none, height := 0 }
    let core := { x.cur with entry := e', kvMap := incomingMap m i x.cur.kvMap }
    let used := core.pages
    let spare := (i.pages.map fun p => p.2.2).filter fun u => !used.contains u
    let n := tableSd i.slot
    let recs := x.outbox.map OutEntry.record ++ x.unpooled
    let y : Session := { Session.free i.slot with
      cur := core, shadow := core, pending := x.pending, inputs := x.inputs, timer := x.timer, staged := x.staged
      fired := x.fired, since := s.now, readyStamp := s.now, textHeld := i.textPages, moveSeq := seq }
    let s := { s with incoming := adel s.incoming handle }
    let s := spare.foldl State.freePage s
    let s := s.putSess i.slot y
    let s := used.foldl (fun s u => (s.updLeaf u fun l =>
      { l with dirtyCkp := true, dirtyDur := e'.classD })) s
    let s := ((s.settleMap i.slot).settleText i.slot textBlockPages).recount i.slot
    let s := recs.foldl (fun s r => s.putRecord i.slot r) s
    let s := if hOrigin handle = s.pkg then s
      else { s with guests := aupd s.guests handle fun g => { g with stub := false } }
    let s := if hOrigin handle = s.pkg ∨ hOrigin handle = i.src then s
      else s.sendMig (hOrigin handle) n .homeUpdate handle seq 0 [s.pkg]
    let holders := (core.kvMap.filterMap fun g => g.2.remote).dedup
    let s := holders.foldl (fun s k => s.sendMig k n .homeUpdate handle seq 0 [s.pkg]) s
    s.sendMig i.src n .committed handle seq 0 []

/-- The destination holds a HANDOVER until its data count is met (R314) and, after a CKP_CUT, until its cut seal (R346);
then it decides (R295). -/
def State.decideHandover (s : State) (handle : Nat) : State :=
  match aget s.incoming handle with
  | none => s
  | some i => match i.held with
    | none => s
    | some (x, count) => if s.cutPending (tableSd i.slot) || i.accepted < count then s else s.commitHandover handle i x

/-- HANDOVER reaches the destination (R295). -/
def State.handover (s : State) (handle count : Nat) (x : Session) : State :=
  match aget s.incoming handle with
  | none => s
  | some i =>
    let s := { s with incoming := aset s.incoming handle { i with held := some (x, count), lastMsg := s.now } }
    s.decideHandover handle

/-- A session on this package that has committed with a MOVE_SEQ above `seq` (R295). -/
def State.holds (s : State) (handle seq : Nat) : Bool :=
  match s.findHandle handle with
  | none => false
  | some i => (s.entry i).state != .away && seq < (s.sess i).moveSeq

/-- ABORT_REQ reaches the destination (R295): it finds the session committed, or frees the reservation. -/
def State.abortReq (s : State) (src handle seq : Nat) : State :=
  let n := tableSd (hSlot handle)
  if s.holds handle seq then s.sendMig src n .committed handle (min (seq + 1) 0xffffffff) 0 []
  else (s.freeIncoming handle).sendMig src n .aborted handle seq 0 []

/-- The origin's stub learns a new home, where its MOVE_SEQ is higher (R298); the old home is told so. A holder of shards
takes the home to address its replies to (R300). -/
def State.homeUpdate (s : State) (handle home seq : Nat) : State :=
  if hOrigin handle = s.pkg then
    let slot := hSlot handle
    let x := s.sess slot
    if x.cur.entry.state = .away ∧ x.cur.entry.handle = handle ∧ x.moveSeq < seq then
      let s := s.putSess slot { x with fwdPkg := home, moveSeq := seq }
      s.sendMig x.fwdPkg (tableSd slot) .homeUpdateAck handle seq 0 []
    else s
  else { s with gallery := { s.gallery with homes := aset s.gallery.homes handle home } }

/-- A local slot that a guest leaves returns with its own generation unchanged (R294, R298). -/
def State.freeGuest (s : State) (handle : Nat) : State :=
  match aget s.guests handle with
  | none => s
  | some g =>
    let n := tableSd g.slot
    let s := { s with guests := adel s.guests handle }
    let s := s.putSd n { s.sd n with slots := (s.sd n).slots.give (g.slot / 12) }
    s.putSess g.slot ((Session.free g.slot).withEntry
      { Entry.free g.slot with handle := mkHandle s.pkg g.slot g.gen })

/-- HOME_UPDATE is acknowledged: the former guest host frees its stub (R298). -/
def State.homeUpdateAck (s : State) (handle : Nat) : State :=
  if (aget s.guests handle).any Guest.stub then s.freeGuest handle else s

/-- CLOSE_NOTE reaches the origin (R299): its AWAY slot goes through CLOSING to FREE, its generation raised; it
acknowledges. -/
def State.closeNote (s : State) (src handle : Nat) : State :=
  let slot := hSlot handle
  let e := s.entry slot
  let s :=
    if hOrigin handle = s.pkg ∧ e.state = .away ∧ e.handle = handle then s.freeSlot slot else s
  s.sendMig src (tableSd slot) .closeNoteAck handle 0 0 []

/-! ### Pushes at their destination (R303) -/

/-- A layer page pushed by a step is held as a staged page, over an earlier staged copy of the same page. -/
def State.kvPush (s : State) (handle lg index : Nat) (bs : List Byte) : State :=
  match aget s.incoming handle with
  | none => s
  | some i =>
    let staged := (i.staged.filter fun p => !(p.1 == lg && p.2.1 == index)) ++ [(lg, index, bs)]
    { s with incoming := aset s.incoming handle { i with staged := staged, accepted := i.accepted + 1, lastMsg := s.now } }

/-- SEAL_NOTE: the staged pages are attached, each replacing an earlier copy of its page (R303); the note waits, without
effect, for its data count (R314). -/
def State.sealNote (s : State) (handle count : Nat) : State :=
  match aget s.incoming handle with
  | none => s
  | some i =>
    if i.accepted < count then
      { s with gallery := { s.gallery with held := s.gallery.held ++ [(handle, 0, count)] } }
    else
      let mem := i.staged.foldl (fun m q =>
        match i.pages.find? fun p => p.1 == q.1 && p.2.1 == q.2.1 with
        | some p => memWrite m p.2.2 q.2.2
        | none => m) s.mem
      let att := i.staged.map fun q => (q.1, q.2.1)
      { s with mem := mem
               incoming := aset s.incoming handle { i with
                 staged := [], lastMsg := s.now
                 attached := (i.attached.filter fun p => !att.contains p) ++ att } }

/-- DROP_NOTE: the staged pages are discarded (R303). -/
def State.dropNote (s : State) (handle count : Nat) : State :=
  match aget s.incoming handle with
  | none => s
  | some i =>
    if i.accepted < count then
      { s with gallery := { s.gallery with held := s.gallery.held ++ [(handle, 1, count)] } }
    else { s with incoming := aset s.incoming handle { i with staged := [], lastMsg := s.now } }

/-- Notes that wait for their data count are looked at again (R314). -/
def State.retryNotes (s : State) (handle : Nat) : State :=
  let mine := s.gallery.held.filter fun q => q.1 == handle
  let s := { s with gallery := { s.gallery with held := s.gallery.held.filter fun q => q.1 != handle } }
  mine.foldl (fun s q => if q.2.1 = 0 then s.sealNote handle q.2.2 else s.dropNote handle q.2.2) s

/-! ### Timeouts (R296, R301) -/

/-- PHASE_TIMEOUT_US in ns. -/
def State.phaseTimeout (s : State) : Nat := s.regFld 0x11 0 0x00 19 0 * 1000

/-- PHASE_TIMEOUT_US passes at the source without a reply (R296): before HANDOVER the migration aborts with DISABLED and
ABORT_REQ is sent; after it, ABORT_REQ is sent again; a push ends. -/
def State.sourceTimeout (s : State) (slot : Nat) : State :=
  match aget s.migrations slot with
  | none => s
  | some m =>
    if s.now < m.since + s.phaseTimeout then s
    else if m.phase = .handover then
      let s := { s with migrations := aset s.migrations slot { m with since := s.now } }
      (s.sendAbort slot).setFlag fUndecided 0
    else (s.sendAbort slot).abortMigration slot stDisabled

/-- PHASE_TIMEOUT_US passes at the destination with no further message (R301). A HANDOVER that is held is a message
received, and its reservation stays. -/
def State.destTimeout (s : State) (handle : Nat) : State :=
  match aget s.incoming handle with
  | none => s
  | some i => if i.held.isSome || s.now < i.lastMsg + s.phaseTimeout then s else s.freeIncoming handle

end Sys2Proof.Machine
end

