-- ==== Sys2Proof/Machine/Checkpoint.lean ====
section
/-! DEFINITION. Checkpoints and restore (chapter 13): the cut, freeze, staging and drain of an epoch, and SESSION_RESTORE
and CKP_RESTORE_GROUP. -/
namespace Sys2Proof.Machine

def fEpochFailed : FlagId := ⟨0x14, 0x40, 0⟩
def fStageFull : FlagId := ⟨0x14, 0x40, 1⟩
def fLayoutReject : FlagId := ⟨0x14, 0x40, 2⟩
def fStoreError : FlagId := ⟨0x14, 0x40, 3⟩

/-- Replace the checkpoint state. -/
def State.putCkp (s : State) (c : Checkpoint) : State := { s with checkpoint := c }

/-! ### Pages of an epoch -/

/-- Whether a page is a KV page of some session (R343). -/
def State.isKvPage (s : State) (u : Nat) : Bool :=
  s.sessions.any fun x => (x.2.cur.kvMap.any fun g => g.2.usas.contains u) || x.2.shadow.kvMap.any fun g => g.2.usas.contains u

/-- The record of a page (R349): its content as it stands. -/
def State.pageRecord (s : State) (u : Nat) (l : Leaf) : PageRecord :=
  let cut := fun (a n : Nat) => (s.mem.filter fun c => a ≤ c.1 && c.1 < a + n).map fun c => (c.1 - a, c.2)
  { usa := u, sizeClass := l.sizeClass, tier := l.tier, tenant := l.tenant, scaleBytes := l.scaleBytes
    bytes := cut u (pageSize l.sizeClass), scale := cut (scaleKey u 0) l.scaleBytes }

/-- The uncompressed bytes of a record (R289). -/
def PageRecord.size (r : PageRecord) : Nat := pageUse r.sizeClass r.scaleBytes

/-- Write a record's content into a page of its class. -/
def State.placeRecord (s : State) (u : Nat) (r : PageRecord) : State :=
  let put := fun (m : List Host.Cell) (a n : Nat) (cs : List Host.Cell) =>
    cs.foldl (fun m c => memPut m (a + c.1) c.2) (memZero m a n)
  let m := put s.mem u (pageSize r.sizeClass) r.bytes
  { s with mem := put m (scaleKey u 0) r.scaleBytes r.scale }

/-- A page leaves its freeze: an orphan is freed (R148), and cages that wait for the freeze are asked for again
(R109). -/
def State.unfreeze (s : State) (u : Nat) : State :=
  match s.leaf u with
  | none => s
  | some l =>
    let s := s.putLeaf u { l with frozen := false }
    let s := if l.orphan && l.pins == 0 then s.freePage u else s
    s.retryCages (ownerSd u)

/-- Stage one frozen page (R343, R344): its content is recorded, its freeze clears; a KV page takes staging space, a
control page has it reserved. -/
def State.stagePage (s : State) (u : Nat) : State :=
  match s.checkpoint.run, s.leaf u with
  | some r, some l =>
    if !l.frozen then s
    else
      let rec_ := s.pageRecord u l
      let free := if s.isKvPage u then s.checkpoint.stageFree - rec_.size else s.checkpoint.stageFree
      let c := { s.checkpoint with
        stageFree := free
        run := some { r with frozen := r.frozen.filter (· != u), staged := r.staged ++ [rec_] } }
      (s.putCkp c).unfreeze u
  | _, _ => s

/-- A write is about to reach a page: a frozen control page, row page or recall page is copied to staging first
(R343). -/
def State.beforeWrite (s : State) (u : Nat) : State :=
  if (s.leaf u).any (·.frozen) && !s.isKvPage u then s.stagePage u else s

/-- The metadata page of a session is written: by a seal, or by a command that changes its entry. -/
def State.touchMeta (s : State) (slot : Nat) : State :=
  let u := (s.entry slot).metaUsa
  if u = noPage then s else (s.beforeWrite u).markWritten u

/-- The layout signature (R356): the MODEL sections, the class sizes, this package's place among the members, the shard
placement. -/
def State.layoutSig (s : State) : Nat :=
  Config.sha384 ((s.models.flatMap fun m => m.1 :: m.2.signature)
    ++ [s.gallery.members.length, s.gallery.members.idxOf s.pkg]
    ++ s.boot.shards.flatMap fun h => [h.model, h.shard, h.sd])

/-! ### The cut -/

/-- CKP_CUT's frame (R339). -/
def Frame.cutOk (f : Frame) : Bool := f.timed && f.handle == 0 && f.field 48 1 ≤ 1 && f.zeros 49 63

/-- CKP_CUT (R338 to R340): refused, or armed at its cut PT. -/
def State.ckpCut (s : State) (f : Frame) : State :=
  let c := s.checkpoint
  let epoch := f.field 32 8
  if !f.cutOk then s.complete f stFrameField
  else if s.regFld 0x14 0 0x10 31 0 = 0 then s.complete f stDisabled
  else if c.run.isSome then s.complete f stCtBusy
  else if epoch ≤ c.lastEpoch then s.complete f stFrameField
  else
    let full := f.field 48 1 == 1 || c.needFull || s.regFld 0x14 0 0x00 7 0 ≤ c.chain
    s.putCkp { c with
      lastEpoch := epoch
      run := some { frame := f, epoch := epoch, cutPt := f.param, full := full, keepFrom := f.field 40 8, cut := none,
                    recorded := [], froze := false, frozen := [], staged := [], stored := [], sessions := [], ledger := [],
                    drained := 0 } }

/-- The epoch in progress fails (R342, R352): its extents and staging are freed, every freeze clears, the frame completes
with CKP_INCOMPLETE; after a freeze the next epoch is FULL. -/
def State.epochFail (s : State) : State :=
  match s.checkpoint.run with
  | none => s
  | some r =>
    let c := s.checkpoint
    let s := s.putCkp { c with run := none, stageFree := c.stageTotal, needFull := c.needFull || r.froze }
    let s := r.frozen.foldl State.unfreeze s
    (s.complete r.frame stCkpIncomplete).setFlag fEpochFailed 0

/-- The pages in scope (R337): those that recorded entries reach, and the pages of tenant row tables, by ascending
USA within each SD. -/
def State.pagesInScope (s : State) : List Nat :=
  let ses := s.sessions.flatMap fun x => match x.2.cur.entry.state with
    | .free | .opening | .closing | .away => []
    | .running => x.2.shadow.pages ++ x.2.cur.pages
    | _ => x.2.cur.pages
  let rows := (s.leaves.filter fun l => l.2.pinned && l.2.tenant != 0).map (·.1)
  (s.leaves.filter fun l => ses.contains l.1 || rows.contains l.1).map (·.1)

/-- Extents that the durable epochs hold. -/
def Checkpoint.extentsUsed (c : Checkpoint) : Nat :=
  sumBy (fun i => ceilDiv (sumBy PageRecord.size i.records) 1048576) c.images

/-- The cut seal on the active management island (R340, R342): the CUT EVENT, the frozen set with its reservations. The
seal is of S0 step `step`. -/
def State.checkpointCut (s : State) (step : Nat) : State :=
  match s.checkpoint.run with
  | none => s
  | some r =>
    if r.cut.isSome then s
    else
      let s := s.eventTo r.frame.function 0x30 [(40, 8, r.epoch), (48, 8, step)]
      let scope := s.pagesInScope.filter fun u => r.full || (s.leaf u).any (·.dirtyCkp)
      let size := fun u => ((s.leaf u).map fun l => pageUse l.sizeClass l.scaleBytes).getD 0
      let control := scope.filter fun u => !s.isKvPage u
      let kv := scope.filter fun u => s.isKvPage u
      let c := s.checkpoint
      let need := sumBy size control
      if c.stageFree < need ∨ Config.storeExtents < c.extentsUsed + ceilDiv (sumBy size scope) 1048576 then s.epochFail
      else
        let s := s.putCkp { c with
          stageFree := c.stageFree - need
          run := some { r with cut := some (s.now, step), froze := true, frozen := control ++ kv } }
        scope.foldl (fun s u => s.updLeaf u fun l => { l with frozen := true, dirtyCkp := false }) s

/-- What the checkpoint records of a session (R341, R346): nothing of one that is FREE, OPENING or CLOSING; a RUNNING one
at its last seal, READY; a MOVING one in its state before MOVING, UNDECIDED once HANDOVER has been sent. A host command
that holds the lock has not been applied. -/
def State.recordOf (s : State) (slot : Nat) (x : Session) : Option Recorded :=
  let x := match x.owner with
    | some f =>
      { x with owner := none, inputs := x.inputs.filter fun i =>
          !(f.opcode == i.opcode && i.function == f.function && i.queue == f.queue) }
    | none => x
  let x := x.withEntry { x.cur.entry with holder := .none, leaseEnd := 0 }
  let inputs := x.inputs.map fun (i : TextInput) => { i with waits := [] }
  let x := { x with waiting := [], timed := [], frozen := false, inputs := inputs }
  match x.cur.entry.state with
  | .free | .opening | .closing => none
  | .running =>
    let c := x.rolledBack
    some ⟨slot, { x with cur := { c with entry := { c.entry with state := .ready, waitReason := .none, holder := .none } } }, none⟩
  | .moving =>
    match aget s.migrations slot with
    | some m =>
      some ⟨slot, x.withEntry { x.cur.entry with state := m.state, waitReason := m.wait },
            if m.phase = .handover then some m.dest else none⟩
    | none => some ⟨slot, x, none⟩
  | _ => some ⟨slot, x, none⟩

/-- A table SD records its sessions, once it has applied the cut seal (R341). -/
def State.cutRecord (s : State) (sd : Nat) : State :=
  match s.checkpoint.run with
  | none => s
  | some r =>
    if r.cut.isNone || r.recorded.contains sd then s
    else
      let rs := (s.sessions.filter fun p => tableSd p.1 == sd).filterMap fun p => s.recordOf p.1 p.2
      s.putCkp { s.checkpoint with run := some { r with recorded := r.recorded ++ [sd], sessions := r.sessions ++ rs } }

/-- The ledger snapshot of an epoch: every charge of steps up to the cut seal (R348). -/
def State.cutLedger (s : State) : State :=
  match s.checkpoint.run with
  | none => s
  | some r =>
    if r.cut.isNone || !r.ledger.isEmpty then s
    else s.putCkp { s.checkpoint with run := some { r with ledger := s.tenants.map fun t => (t.1, t.2.counters) } }

/-! ### Staging and drain -/

/-- STAGING_COPY_DONE (R344, R345): the background copy, or an urgent one, stages a page. Staging that is full sets
STAGE_FULL and leaves the page frozen. -/
def State.stagingDone (s : State) (u : Nat) : State :=
  match s.leaf u with
  | none => s
  | some l =>
    if l.frozen && s.isKvPage u && s.checkpoint.stageFree < pageUse l.sizeClass l.scaleBytes then s.setFlag fStageFull 0
    else s.stagePage u

/-- Pop records up to `n` of the staged ones: those stored, those left. -/
def popStaged (n : Nat) (l : List PageRecord) : List PageRecord × List PageRecord := (l.take n, l.drop n)

/-- CKP_STORE_WRITE_DONE (R344, R345): the store completes a unit that ends `n` records, and its staging is free; a write
with an error fails the epoch. -/
def State.storeWritten (s : State) (n : Nat) (ok : Bool) : State :=
  match s.checkpoint.run with
  | none => s
  | some r =>
    if !ok then (s.setFlag fStoreError 0).epochFail
    else
      let (gone, left) := popStaged n r.staged
      let bytes := sumBy PageRecord.size gone
      let s := s.emit (.store (s.regFld 0x14 0 0x10 31 0) r.epoch 0 bytes)
      s.putCkp { s.checkpoint with
        stageFree := min s.checkpoint.stageTotal (s.checkpoint.stageFree + bytes)
        run := some { r with staged := left, stored := r.stored ++ gone, drained := r.drained + bytes } }

/-- Epochs that stay once a newer one is durable (R353): those retained, and their chains. -/
def retained (keepFrom : Nat) (l : List EpochImage) : List EpochImage :=
  let kept := l.filter fun i => keepFrom ≤ i.epoch
  l.filter fun i => kept.any fun k => k.base == i.base && i.epoch ≤ k.epoch

/-- CKP_MANIFEST_DURABLE (R351, R353): everything of the epoch is at the store and its header is written; CKP_CUT
completes with OK, and CKP_BYTES is charged (R490). It cannot come before. -/
def State.manifestDurable (s : State) : State :=
  match s.checkpoint.run with
  | none => s
  | some r =>
    match r.cut with
    | none => s
    | some (pt, step) =>
      if !(r.frozen.isEmpty && r.staged.isEmpty && ((List.range 12).all fun n =>
          !(s.sd n).inService || r.recorded.contains n)) then s
      else
        let c := s.checkpoint
        let parent := if r.full then 0 else c.lastDurable
        let base := if r.full then r.epoch else ((c.images.find? fun i => i.epoch == parent).map (·.base)).getD 0
        let nsid := s.regFld 0x14 0 0x10 31 0
        let img : EpochImage :=
          { epoch := r.epoch, nsid := nsid, full := r.full, xts := s.security.conf, parent := parent, base := base
            cutPt := pt, cutStep := step, layout := s.layoutSig, records := r.stored, sessions := r.sessions
            ledger := r.ledger }
        let keep := if r.keepFrom = 0 then c.lastDurable else r.keepFrom
        let s := s.putCkp { c with
          lastDurable := r.epoch, run := none, needFull := false
          chain := if r.full then 0 else c.chain + 1
          images := retained keep (c.images ++ [img]), stageFree := c.stageTotal }
        let s := r.stored.foldl (fun s p => s.charge p.tenant 11 p.size) s
        let s := r.sessions.foldl (fun s p => s.charge p.session.cur.entry.tenant 11 128) s
        (s.emit (.store nsid r.epoch 1 4096)).complete r.frame stOk

/-- STORE_TIMEOUT (R345, R352). -/
def State.storeTimeout (s : State) : State :=
  if s.checkpoint.run.isSome then (s.setFlag fStoreError 0).epochFail else s

/-! ### Restore of a package (R357) -/

/-- Rebuild a table SD's free list after a restore (R36): FREE slots that have not retired, ascending. -/
def State.rebuildSlots (s : State) (n : Nat) : State :=
  let d := s.sd n
  let used := (s.sessions.filter fun p => tableSd p.1 == n && p.2.cur.entry.state != .free).map fun p => p.1 / 12
  let out := used ++ d.retired.map (· / 12)
  let hi := (out ++ (d.slots.freed ++ d.slots.front)).foldl (fun m i => max m (i + 1)) d.slots.fresh
  s.putSd n { d with slots := { d.slots with
    front := (List.range hi).filter fun i => !out.contains i
    fresh := hi, freed := [] } }

/-- A recorded session enters its slot (R357): DORMANT, without pages, with its restore source; an AWAY stub as it was;
an UNDECIDED one with its migration record (R346). -/
def State.loadRecorded (s : State) (src : RestoreSource) (r : Recorded) : State :=
  let x := r.session
  if x.cur.entry.state = .away then s.putSess r.slot x
  else
    let e := { x.cur.entry with residence := .dormant, holder := .none, leaseEnd := 0,
                                degraded := x.cur.entry.classD && !s.storeOk }
    let y := { x.withEntry e with outbox := [], unpooled := [], reserved := 0, owner := none, tiers := ⟨0, 0, 0⟩,
                                  mapHeld := 0, dirHeld := 0, textHeld := 0 }
    let s := s.putSess r.slot y
    let s := s.putCkp { s.checkpoint with sources := aset s.checkpoint.sources r.slot src }
    match r.undecided with
    | none => s
    | some d =>
      let m := newMigration none d 0xff 0 e.function e.resultQueue false e x.moveSeq s.now
      { s with migrations := aset s.migrations r.slot { m with phase := .handover, state := e.state, wait := e.waitReason } }

/-- The checks that an epoch read from the store meets before anything of it is used (R354, R356, R444): `none` where it
is absent or its header fails. -/
def State.epochStatus (s : State) (img : Option EpochImage) : Nat :=
  match img with
  | none => stCkpIncomplete
  | some i =>
    if i.xts != s.security.conf then stConfidential
    else if i.layout != s.layoutSig then stCkpLayout
    else stOk

/-- CKP_RESTORE_GROUP (R357). `img` is what the store answers for the epoch and its chain. -/
def State.restoreGroup (s : State) (f : Frame) (img : Option EpochImage) : State :=
  if !(f.paramOk && f.handle == 0 && f.zeros 44 63) then s.complete f stFrameField
  else if s.sessions.any fun p => p.2.cur.entry.state != .free then s.complete f stSessionState
  else
    let st := s.epochStatus img
    match img with
    | none => s.complete f st
    | some i =>
      if st ≠ stOk then (s.flagIf (st == stCkpLayout) fLayoutReject 0).complete f st
      else
        let s := i.sessions.foldl (fun s r => s.loadRecorded (.epoch i.epoch (f.field 40 4)) r) s
        let s := i.ledger.foldl (fun s l => s.putTenant l.1 { s.tenant l.1 with counters := l.2 }) s
        ((List.range 12).foldl State.rebuildSlots s).complete f stOk

/-! ### Restore of a session (R358 to R361) -/

/-- SESSION_RESTORE's fields (R358). -/
def Frame.restoreOk (f : Frame) : Bool :=
  f.paramOk && f.field 32 1 ≤ 1 && (f.field 33 1 ≤ 11 || f.field 33 1 == 0xff) && f.zeros 34 39 && f.zeros 52 63

/-- Reserve the pages of a restored session in T0 at uncompressed size, all or nothing (R58, R358): the status, and where
it is OK the metadata page, the KV pages by former USA, and the state. -/
def State.restoreReserve (s : State) (slot home : Nat) (x : Session) (m : Model) :
    Nat × Option (Nat × List (Nat × Nat × Nat) × State) :=
  let t := x.cur.entry.tenant
  let old := x.cur.kvMap.flatMap fun g => g.2.usas.map fun u => (g.1, u)
  let text := textBlockPages + inputPages x.pending x.inputs
  if !s.quotaFits t 0 (pageUse 0 0 + old.length * pageUse m.kvPageClass m.scaleBytes) then (stQuota, none)
  else if !(s.sd home).inService || (s.sd home).textFree < text || (s.sd home).mapFree < mapBlocksOf x.cur.kvMap
      || (s.sd home).dirFree < dirPagesOf x.cur.kvMap then (stResourceFloor, none)
  else match s.allocPage home 0 0 t (some slot) with
    | none => (stResourceFloor, none)
    | some (mu, s) =>
      match s.reservePages home m.kvPageClass m.scaleBytes t (some slot) (old.map fun p => (p.1, 0)) [] with
      | none => (stResourceFloor, none)
      | some (new, s) => (stOk, some (mu, (old.zip new).map (fun p => (p.1.1, p.1.2, p.2.2.2)), s))

/-- Start a restore of a session into its slot (R358): the status where it is refused. -/
def State.restoreStart (s : State) (f : Frame) (slot : Nat) (x : Session) : Nat × State :=
  let e := x.cur.entry
  match aget s.models e.model with
  | none => (stSessionState, s)
  | some m =>
    if e.adapter ≠ 0 ∧ (aget s.adapters (e.adapter * 65536 + e.adapterVersion)).isNone then (stSessionState, s)
    else
      let home := if f.field 33 1 = 0xff then s.chooseHome m else f.field 33 1
      match s.restoreReserve slot home x m with
      | (st, none) => (st, s)
      | (_, some (mu, pages, s)) =>
        let run : RestoreRun := { frame := f, session := x, homeSd := home, metaUsa := mu, pages := pages }
        let s := s.putCkp { s.checkpoint with restores := aset s.checkpoint.restores slot run }
        (stOk, s.lockFor slot f)

/-- What a SESSION_RESTORE restores: the recorded session that the store answers for an epoch, else the DORMANT entry
itself. -/
def restoreSource (f : Frame) (x : Session) (rec_ : Option Recorded) : Option Session :=
  if f.field 32 1 = 0 ∧ x.cur.entry.residence = .dormant then some x else rec_.map (·.session)

/-- SESSION_RESTORE behind its gate (R44, R346, R358): a DORMANT session, or one FENCED/POISON, DIE_LOST or TIER_LOST,
whose remaining pages are dropped. An UNDECIDED session sends ABORT_REQ and stays DORMANT. -/
def actSessionRestore (f : Frame) (rec_ : Option Recorded) (slot : Nat) (s : State) : State :=
  let x := s.sess slot
  let e := x.cur.entry
  let lost := e.state = .fenced ∧ (e.fenceReason = .poison ∨ e.fenceReason = .dieLost ∨ e.fenceReason = .tierLost)
  if ¬ (e.residence = .dormant ∨ lost) then s.complete f stSessionState
  else match aget s.migrations slot with
    | some m => (s.sendMig m.dest (tableSd slot) .abortReq e.handle m.moveSeq 0 []).complete f stSessionState
    | none =>
      match restoreSource f x rec_ with
      | none => s.complete f stCkpIncomplete
      | some y =>
        let y := { y with cur := { y.cur with entry := { y.cur.entry with handle := e.handle } }
                          waiting := x.waiting, moveSeq := x.moveSeq, fwdPkg := x.fwdPkg }
        let (st, s1) := s.restoreStart f slot y
        if st ≠ stOk then s.complete f st
        else if e.residence = .dormant then s1
        else
          let s2 := ((s1.dropPages slot).dropOutbox slot).settleText slot 0
          s2.putEntry slot { s2.entry slot with residence := .dormant }

/-- SESSION_RESTORE of a handle of another package that this one does not hold (R361): the handle is adopted as a guest
within the tenant's limits, then restored. -/
def State.adoptRestore (s : State) (f : Frame) (rec_ : Option Recorded) : State :=
  match rec_ with
  | none => s.complete f stNoSession
  | some r =>
    let x := r.session
    let e := x.cur.entry
    if hOrigin f.handle = s.pkg || e.handle != f.handle || !s.bound e.tenant f.function then s.complete f stNoSession
    else if !f.restoreOk then s.complete f stFrameField
    else if (s.tenant e.tenant).maxSessions ≤ s.tenantSlots e.tenant then s.complete f stQuota
    else match s.localSlot f.handle with
      | none => s.complete f stResourceFloor
      | some (slot, s1) =>
        let s2 := s1.loadRecorded (.epoch (f.field 40 8) (f.field 48 4)) { r with slot := slot, undecided := none }
        let (st, s3) := s2.restoreStart f slot x
        if st ≠ stOk then s.complete f st else s3

/-- A restored session: its recorded state, with its new home, its new pages and the commands that wait for it (R358). -/
def restoredSession (s : State) (slot : Nat) (r : RestoreRun) : Session :=
  let x := r.session
  let p := ((aget s.models x.cur.entry.model).map Model.pageTokens).getD 1
  let cls := ((aget s.models x.cur.entry.model).map Model.kvPageClass).getD 0
  let map := x.cur.kvMap.map fun g =>
    (g.1, { g.2 with runs := buildRuns cls p 0 ((r.pages.filter fun q => q.1 == g.1).map fun q => q.2.2) })
  let e : Entry := { x.cur.entry with
    homeSd := r.homeSd, metaUsa := r.metaUsa, residence := .hot, holder := .none, leaseEnd := 0
    degraded := x.cur.entry.classD && !s.storeOk }
  let c : SessionCore := { x.cur with entry := e, kvMap := map }
  { x with
    cur := c, shadow := c, waiting := (s.sess slot).waiting, owner := none, outbox := [], unpooled := [], reserved := 0
    tiers := ⟨0, 0, 0⟩, mapHeld := 0, dirHeld := 0, textHeld := 0, since := s.now, readyStamp := s.now }

/-- A restored session whose deadline is already past (R53, R359). -/
def State.restoredDeadline (s : State) (slot : Nat) : State :=
  let x := s.sess slot
  let e := x.cur.entry
  if e.deadline = 0 || s.now ≤ e.deadline then s
  else if e.state == .held then s.putEntry slot { e with timedOut := x.timer == some .deadline }
  else if e.state == .waiting && (e.waitReason == .tool || e.waitReason == .peer) then s.timeoutAction slot
  else if e.state == .waiting && e.waitReason == .timer then (s.disarm slot).setState slot .ready
  else s

/-- The reads of a restore end (R350, R358, R359): the pages are written, the KV map rewritten, the session has its
recorded state; a deadline already past takes effect at once. A read that answers POISON leaves it DORMANT. -/
def State.restorePlaced (s : State) (slot : Nat) (records : List PageRecord) (ok : Bool) : State :=
  match aget s.checkpoint.restores slot with
  | none => s
  | some r =>
    let s := s.putCkp { s.checkpoint with restores := adel s.checkpoint.restores slot }
    let news := r.metaUsa :: r.pages.map fun p => p.2.2
    if !ok then
      let s := news.foldl State.freePage s
      let s := s.putSess slot { s.sess slot with owner := none }
      (s.unlock slot).complete r.frame stPoison
    else
      let place := fun (s : State) (p : Nat × Nat × Nat) =>
        match records.find? fun q => q.usa == p.2.1 with
        | some q => s.placeRecord p.2.2 q
        | none => s
      let s := news.foldl State.markWritten (r.pages.foldl place s)
      let s := s.putSess slot (restoredSession s slot r)
      let s := ((s.settleMap slot).settleText slot textBlockPages).recount slot
      let s := s.putCkp { s.checkpoint with sources := adel s.checkpoint.sources slot }
      (s.restoredDeadline slot).complete r.frame stOk

end Sys2Proof.Machine
end

