-- ==== Sys2Proof/Machine/Tables.lean ====
section
/-! DEFINITION. Row tables, adapters and recall (chapter 10): lookups, updates, table switches, adapter versions, recall
queries and inserts, and the device-resident resumes they deliver. -/
namespace Sys2Proof.Machine

def fHotReadErr : FlagId := ⟨0x0d, 0x40, 0⟩
def fMoveDone : FlagId := ⟨0x0d, 0x40, 1⟩
def fShardFull : FlagId := ⟨0x0e, 0x20, 0⟩
def fTextFault : FlagId := ⟨0x0e, 0x20, 1⟩

/-- Whether the package has an S0 stream: it has a committed model instance (R67, R477). -/
def State.hasS0 (s : State) : Bool := !s.models.isEmpty

/-- Replace the tables' state. -/
def State.putTables (s : State) (t : Tables) : State := { s with tables := t }

/-- Replace one row table. -/
def State.putTable (s : State) (id : Nat) (t : RowTable) : State :=
  s.putTables { s.tables with tables := aset s.tables.tables id t }

/-- A fresh key of a load, lookup, query, insert or request. -/
def State.freshKey (s : State) : Nat × State :=
  (s.tables.nextKey, s.putTables { s.tables with nextKey := s.tables.nextKey + 1 })

/-! ### Rows (R255, R256) -/

/-- Elements of a NUMERIC row (R256). -/
def RowTable.elems (t : RowTable) : Nat :=
  if isBlockFmt t.format then t.rowBytes * 32 / (4 * fmtBits t.format + 1) else t.rowBytes / (fmtBits t.format / 8)

/-- Element `k` of a NUMERIC row (R256): plain elements, or all mantissas and then the exponent bytes. -/
def RowTable.elem (t : RowTable) (bs : List Byte) (k : Nat) : Opd :=
  let b := fmtBits t.format
  if isBlockFmt t.format then
    blockElem t.format (leAt bs (t.elems * b / 8 + k / 32) 1) (packedAt b (bs.drop (4 * b * (k / 32))) (k % 32))
  else match fpFmt t.format with
    | some f => scalarOpd f (leAt bs (k * (b / 8)) (b / 8))
    | none => ⟨.nan, 0⟩

/-- A NUMERIC row of FP32 values rounded into the table's facet format (R195, R196, R256). -/
def facetRow (b : Nat) (xs : List Nat) : List Byte :=
  let blocks := (List.range (xs.length / 32)).map fun i => facetBlock b ((xs.drop (32 * i)).take 32)
  (blocks.flatMap fun p => packCodes b p.2.1) ++ blocks.map fun p => BitVec.ofNat 8 p.1

/-- Rows per block. -/
def RowTable.perBlock (t : RowTable) : Nat := 2 ^ t.log2Block

/-- Blocks of a table. -/
def RowTable.blockCount (t : RowTable) : Nat := ceilDiv t.rowCount t.perBlock

/-- Bytes of a block. -/
def RowTable.blockBytes (t : RowTable) : Nat := t.perBlock * t.rowBytes

/-- The block that holds a row. -/
def RowTable.blockOf (t : RowTable) (row : Nat) : Option RowBlock := t.blocks[row / t.perBlock]?

/-- The address of a row. -/
def RowTable.addr (t : RowTable) (b : RowBlock) (row : Nat) : Nat := b.usa + row % t.perBlock * t.rowBytes

/-- A block-map entry in memory (R255): base USA, owner SD, owner package. -/
def State.mapEntry (s : State) (map i : Nat) : RowBlock :=
  let v := leNat (memRead s.mem (map + 16 * i) 16)
  { usa := fld v 47 0, sd := fld v 51 48, pkg := fld v 77 64 }

/-- The block map of a table that stands at an address. -/
def State.readMap (s : State) (t : RowTable) (map : Nat) : List RowBlock :=
  (List.range t.blockCount).map (s.mapEntry map)

/-- A row of this package: its bytes, or `none` where its page is POISON (R108). -/
def State.readRow (s : State) (t : RowTable) (b : RowBlock) (row : Nat) : Option (List Byte) :=
  let a := t.addr b row
  if (s.pageOf a).any (·.2.poison) then none else some (memRead s.mem a t.rowBytes)

/-- Write a row in place (R263, R343): a frozen page is staged first. -/
def State.writeRow (s : State) (t : RowTable) (b : RowBlock) (row : Nat) (bs : List Byte) : State :=
  let a := t.addr b row
  match s.pageOf a with
  | none => { s with mem := memWrite s.mem a bs }
  | some (u, _) =>
    let s := s.beforeWrite u
    { s with mem := memWrite s.mem a bs }.markWritten u

/-- Count row reads at their shards (ROW_SHARD.LOOKUPS, QUEUE_HWM) and what each SD looked up (R260): `rows` are rows of
this package with their owner SD, none of them read from a hot copy. -/
def RowTable.countReads (t : RowTable) (sd : Nat) (rows : List (Nat × Nat)) : RowTable :=
  rows.foldl (fun t r =>
    let seen := if t.lookedUp.contains (sd, r.1) then t.lookedUp else t.lookedUp ++ [(sd, r.1)]
    if t.copies.contains (r.1, sd) then { t with lookedUp := seen }
    else
      let n := countBy (fun q => q.2 == r.2) rows
      { t with lookedUp := seen
               lookups := aset t.lookups r.2 ((agetD t.lookups r.2 0 + 1) % 2 ^ 32)
               queueHwm := aset t.queueHwm r.2 (min 0xffff (max (agetD t.queueHwm r.2 0) n)) }) t

/-! ### Device-resident results (R274) -/

/-- The SESSION_RESUME that the package makes (R274). -/
def deviceResume (handle callId : Nat) (text : List Byte) : Frame :=
  { function := 0, queue := deviceQueue, seq := 0, len := 64 + text.length, opcode := 0x0103, flags := 0, handle := handle
    tag := 0, param := 0, body := leBytes 32 callId, payload := text }

/-- Trailing 0x00 bytes of a row are dropped (R274). -/
def dropZeros (bs : List Byte) : List Byte := (bs.reverse.dropWhile (· == 0)).reverse

/-- The resume is delivered at the session's table SD and judged there like any other (R52, R274). -/
def State.deliverResume (s : State) (handle callId : Nat) (text : List Byte) : State :=
  let f := deviceResume handle callId text
  match s.findHandle handle with
  | none => s
  | some i =>
    let f := { f with function := (s.entry i).function }
    s.command f true false false (actSessionResume f)

/-! ### Lookups (R257, R258) -/

/-- Pool a bag of rows (R257): POOL 0 NONE, 1 SUM, 2 MEAN. -/
def RowTable.pool (t : RowTable) (mode : Nat) (rows : List (List Byte)) : List Byte :=
  if mode = 0 then rows.flatten
  else (List.range t.elems).flatMap fun k =>
    let ops := rows.map fun r => [t.elem r k]
    let code :=
      if mode = 1 then (reduce fmtFP32 1 ops).1
      else if hasNan ops then fmtFP32.nan
      else match reductionAnchor 1 ops with
        | none => 0
        | some a => match accumulate a ops with
          | some v => (fmtFP32.roundQ v rows.length (a - 128)).1
          | none => fmtFP32.nan
    leBytes 4 code

/-- A version's old blocks are freed once no lookup is bound to it (R259). -/
def State.sweepTable (s : State) (id : Nat) : State :=
  match aget s.tables.tables id with
  | none => s
  | some t =>
    let busy := fun v => s.tables.lookups.any fun w => w.2.table == id && w.2.version == v
    let gone := t.retiring.filter fun r => !busy r.1
    let s := s.putTable id { t with retiring := t.retiring.filter fun r => busy r.1 }
    let n := t.blockBytes
    gone.foldl (fun s r => r.2.foldl (fun s b =>
      if b.pkg != s.pkg then s
      else ((s.leaves.filter fun l => b.usa ≤ l.1 && l.1 < b.usa + n
          && !(t.blocks.any fun c => c.pkg == s.pkg && c.usa < l.1 + pageSize l.2.sizeClass && l.1 < c.usa + n)).map
        (·.1)).foldl State.freePage s) s) s

/-- What a lookup's frame asks for: pooling mode, tenant, RESUME, CALL_ID; a recall query's resume reads rows too. -/
def Frame.lookupMode (f : Frame) : Nat := if f.opcode = 0x0201 then f.field 34 1 else 0
def Frame.lookupTenant (f : Frame) : Nat := if f.opcode = 0x0201 then f.field 42 2 else f.field 44 2
def Frame.wantsResume (f : Frame) : Bool := if f.opcode = 0x0201 then f.field 35 1 == 1 else f.field 38 1 == 1
def Frame.resumeCall (f : Frame) : Nat := if f.opcode = 0x0201 then f.field 36 4 else f.field 40 4

/-- A lookup has all its rows (R257, R274, R276): the result goes to the text ring, or as a resume to the session. -/
def State.lookupDone (s : State) (f : Frame) (t : RowTable) (rows : List (List Byte)) : State :=
  let s := if f.opcode = 0x0201 then s.charge f.lookupTenant 14 rows.length else s
  if f.wantsResume then
    (s.deliverResume f.handle f.resumeCall (rows.flatMap dropZeros)).complete f stOk
  else
    s.completeWith f { statusRecord f stOk f.handle (recordBody []) with text := t.pool f.lookupMode rows }

/-- The row indexes in a lookup's payload. -/
def Frame.bag (f : Frame) : List Nat := (List.range (f.field 40 2)).map fun i => leAt f.payload (4 * i) 4

/-- Gather a bag (R257): the rows of this package are read; those of another are asked for, one request for each owner
package and SD. A POISON row ends the lookup. -/
def State.gather (s : State) (f : Frame) (sd id : Nat) (t : RowTable) (bag : List Nat) : State :=
  let places := bag.zipIdx.map fun p => (p.2, p.1, (t.blockOf p.1).getD ⟨0, 0, 0⟩)
  let here := places.filter fun p => p.2.2.pkg == s.pkg
  let far := places.filter fun p => p.2.2.pkg != s.pkg
  let s := s.putTable id (t.countReads sd (here.map fun p => (p.2.1, p.2.2.sd)))
  match here.mapM fun p => (s.readRow t p.2.2 p.2.1).map fun b => (p.1, b) with
  | none => s.complete f stPoison
  | some got =>
    if far.isEmpty then s.lookupDone f t (got.map (·.2))
    else
      let owners := (far.map fun p => (p.2.2.pkg, p.2.2.sd)).dedup
      let (s, reqs) := owners.foldl (fun (acc : State × List (Nat × List Nat × List Byte)) o =>
        let (k, s) := acc.1.freshKey
        let mine := far.filter fun p => (p.2.2.pkg, p.2.2.sd) == o
        let rows := mine.map fun p => p.2.1
        let s := s.send o.1 (sdDie o.2) 3 (sdDie sd) 0 0x34 [(24, 2, id), (28, 4, rows.length), (40, 4, k)]
          (rows.flatMap (leBytes 4)) []
        (s, acc.2 ++ [(k, mine.map (·.1), [])])) (s, [])
      let w : LookupWait :=
        { frame := f, sd := sd, table := id, version := t.version, bag := bag, rows := got, requests := reqs }
      let (k, s) := s.freshKey
      s.putTables { s.tables with lookups := aset s.tables.lookups k w }

/-- ROW_LOOKUP's own fields (R275). -/
def Frame.rowLookupOk (f : Frame) : Bool :=
  f.paramOk && 1 ≤ f.field 32 2 && f.field 32 2 ≤ 4095 && f.field 34 1 ≤ 2 && f.field 35 1 ≤ 1
    && 1 ≤ f.field 40 2 && f.field 40 2 ≤ 1024 && f.zeros 44 63 && f.payload.length == 4 * f.field 40 2
    && (f.field 35 1 == 1 || f.handle == 0)

/-- Whether a frame with RESUME names a session of a tenant bound to its function (R35, R274). -/
def State.resumeOk (s : State) (f : Frame) : Bool :=
  !f.wantsResume || (s.findHandle f.handle).any fun i => s.bound (s.entry i).tenant f.function

/-- A lookup of a bag by a tenant (R257): ACCESS_FAULT for a row or a table that it may not read, FRAME_FIELD where BYTES
are pooled. -/
def State.lookup (s : State) (f : Frame) (sd id tenant mode : Nat) (bag : List Nat) : State :=
  match aget s.tables.tables id with
  | none => s.complete f stAccessFault
  | some t =>
    if t.tenant ≠ 0 ∧ t.tenant ≠ tenant then s.complete f stAccessFault
    else if mode ≠ 0 ∧ !t.numeric then s.complete f stFrameField
    else if bag.any fun r => t.rowCount ≤ r then
      (s.flagIf (f.opcode == 0x0301) fTextFault sd).complete f stAccessFault
    else s.gather f sd id t bag

/-- ROW_LOOKUP at the active management island; `sd` is the SD whose row engine serves it. -/
def State.rowLookup (s : State) (f : Frame) (sd : Nat) : State :=
  if !s.bound (f.field 42 2) f.function then s.complete f stNoSession
  else if !f.rowLookupOk then s.complete f stFrameField
  else if !s.resumeOk f then s.complete f stNoSession
  else s.lookup f sd (f.field 32 2) (f.field 42 2) (f.field 34 1) f.bag

/-- A row request of another package is served from the owner's rows (R257): the reply's bytes go in packets of up to
4,096. -/
def State.rowReq (s : State) (h : Head) (id request : Nat) (bag : List Nat) : State :=
  match aget s.tables.tables id with
  | none => s
  | some t =>
    let sd := h.dstDie - 16
    let t1 := t.countReads sd ((bag.filterMap fun r => (t.blockOf r).map fun b => (r, b.sd)))
    let s := s.putTable id t1
    let bytes := bag.flatMap fun r => match t.blockOf r with
      | some b => if b.pkg = s.pkg then memRead s.mem (t.addr b r) t.rowBytes else []
      | none => []
    (List.range (ceilDiv bytes.length 4096)).foldl (fun s i =>
      s.send h.srcPkg h.srcDie 3 h.dstDie 0 0x35 [(40, 4, request)] ((bytes.drop (4096 * i)).take 4096) []) s

/-- Rows of a request arrive (R257): when every request of the lookup has its rows, the bag is pooled in bag order. -/
def State.rowReply (s : State) (request : Nat) (bytes : List Byte) : State :=
  match s.tables.lookups.find? fun w => w.2.requests.any fun r => r.1 == request with
  | none => s
  | some (k, w) =>
    match aget s.tables.tables w.table with
    | none => s
    | some t =>
      let reqs := w.requests.map fun r => if r.1 = request then (r.1, r.2.1, r.2.2 ++ bytes) else r
      let whole := fun (r : Nat × List Nat × List Byte) => decide (r.2.1.length * t.rowBytes ≤ r.2.2.length)
      let rows := w.rows ++ (reqs.filter whole).flatMap fun r =>
        r.2.1.zipIdx.map fun p => (p.1, bytesAt r.2.2 (p.2 * t.rowBytes) t.rowBytes)
      let left := reqs.filter fun r => !whole r
      if left.isEmpty then
        let s := s.putTables { s.tables with lookups := adel s.tables.lookups k }
        (s.lookupDone w.frame t ((sortBy (·.1) rows).map (·.2))).sweepTable w.table
      else
        s.putTables { s.tables with lookups := aset s.tables.lookups k { w with rows := rows, requests := left } }

/-! ### Table switches (R259, R261) -/

/-- TABLE_SWITCH (R259): the new map is read, and the switch waits for the next step boundary. -/
def State.tableSwitch (s : State) (f : Frame) : State :=
  let id := f.field 32 2
  if !s.bound (f.field 36 2) f.function && f.field 36 2 != 0 then s.complete f stNoSession
  else if !(f.paramOk && f.handle == 0 && 1 ≤ id && id ≤ 4095 && f.field 34 1 ≤ 3 && f.zeros 35 35 && f.zeros 38 39
      && f.zeros 48 63) then s.complete f stFrameField
  else match aget s.tables.tables id with
    | none => s.complete f stAccessFault
    | some t =>
      if t.tenant ≠ f.field 36 2 then s.complete f stAccessFault
      else if t.pending.isSome then s.complete f stCtBusy
      else if (s.pageOf (f.field 40 8)).isNone then s.complete f stAccessFault
      else
        let p : PendingSwitch :=
          { frame := f, map := f.field 40 8, blocks := s.readMap t (f.field 40 8), stamp := s.now
            retire := bitOf (f.field 34 1) 0, copyMoved := bitOf (f.field 34 1) 1 }
        s.putTable id { t with pending := some p }

/-- Blocks whose place differs between two maps: old and new. -/
def movedBlocks (old new : List RowBlock) : List (RowBlock × RowBlock) := (old.zip new).filter fun p => p.1 != p.2

/-- Copy a moved block to its new place (R261), on this package or over TC6 in 4 KiB segments. -/
def State.moveBlock (s : State) (n : Nat) (p : RowBlock × RowBlock) : State :=
  if p.1.pkg != s.pkg then s
  else if p.2.pkg = s.pkg then { s with mem := memCopy s.mem p.1.usa p.2.usa n }
  else (List.range (ceilDiv n 4096)).foldl (fun s i =>
    s.send p.2.pkg (sdDie p.2.sd) 6 (sdDie p.1.sd) 0 0x50 [(24, 8, 0), (32, 4, i), (36, 1, 0), (40, 8, p.2.usa + 4096 * i)]
      (memRead s.mem (p.1.usa + 4096 * i) (min 4096 (n - 4096 * i))) []) s

/-- A pending switch becomes current at a step boundary (R259, R261): moved blocks stand at their new places with every
update applied so far; VERSION rises; a moved block whose copy meets POISON aborts the switch. -/
def State.switchTable (s : State) (id : Nat) : State :=
  match aget s.tables.tables id with
  | none => s
  | some t =>
    match t.pending with
    | none => s
    | some p =>
      let n := t.blockBytes
      let moved := if p.copyMoved then movedBlocks t.blocks p.blocks else []
      let poisoned := moved.any fun m => m.1.pkg == s.pkg && s.leaves.any fun l =>
        l.2.poison && l.1 < m.1.usa + n && m.1.usa < l.1 + pageSize l.2.sizeClass
      if poisoned then (s.putTable id { t with pending := none }).complete p.frame stPoison
      else
        let s := moved.foldl (State.moveBlock · n) s
        let s := moved.foldl (fun s m => if m.2.pkg = s.pkg then s.setFlag fMoveDone m.2.sd else s) s
        let old := t.blocks.filter fun b => !p.blocks.contains b
        let s := s.putTable id { t with
          pending := none, map := p.map, blocks := p.blocks, version := (t.version + 1) % 2 ^ 32
          retiring := if p.retire then t.retiring ++ [(t.version, old)] else t.retiring }
        (s.sweepTable id).complete p.frame stOk

/-- Every pending switch accepted before the seal becomes current at it. -/
def State.switchTables (s : State) : State := (s.tables.tables.map (·.1)).foldl State.switchTable s

/-! ### Updates (R262 to R264) -/

/-- The order of updates of one row (R263). -/
def RowUpdate.key (u : RowUpdate) : Nat := ((u.step * 2 ^ 14 + u.pkg) * 2 ^ 64 + u.handle) * 2 ^ 32 + u.seq

/-- Send the updates that wait for their source step (R264). -/
def State.sendUpdates (s : State) (step : Nat) : State :=
  s.tables.outgoing.foldl (fun s p =>
    let u := p.2.2.2
    let s := s.send p.2.1 (sdDie p.2.2.1) 3 (sdDie p.2.2.1) 0 0x36
      [(24, 8, step), (32, 8, u.handle), (40, 4, u.seq), (44, 4, u.row)] u.bytes [p.1, bit u.overwrite]
    match u.frame with
    | some f => s.complete f stOk
    | none => s) (s.putTables { s.tables with outgoing := [] })

/-- ROW_UPDATE (R262, R264): refused, queued at the owner SD of this package, or kept to be sent to the owner. -/
def State.rowUpdate (s : State) (f : Frame) : State :=
  let id := f.field 32 2
  if !s.bound (f.field 44 2) f.function then s.complete f stNoSession
  else if !(f.paramOk && 1 ≤ id && id ≤ 4095 && f.field 34 1 ≤ 1 && f.zeros 35 35 && f.zeros 46 63) then
    s.complete f stFrameField
  else match aget s.tables.tables id with
    | none => s.complete f stAccessFault
    | some t =>
      let ovw := f.field 34 1 == 0
      let len := if ovw then t.rowBytes else 4 * t.elems
      if t.tenant ≠ f.field 44 2 ∨ t.rowCount ≤ f.field 40 4 then s.complete f stAccessFault
      else if (!ovw && !t.numeric) || f.payload.length != len then s.complete f stFrameField
      else
        let u : RowUpdate :=
          { step := 0, pkg := s.pkg, handle := f.handle, seq := f.field 36 4, overwrite := ovw, row := f.field 40 4
            bytes := f.payload, stamp := s.now, frame := some f }
        let b := (t.blockOf u.row).getD ⟨0, 0, 0⟩
        if b.pkg = s.pkg then s.putTable id { t with updates := t.updates ++ [u] }
        else
          let s := s.putTables { s.tables with outgoing := s.tables.outgoing ++ [(id, b.pkg, b.sd, u)] }
          if s.hasS0 then s else s.sendUpdates s.s0.step

/-- ROW_UPD (R264): the owner queues an update of another package with its source step. -/
def State.rowUpd (s : State) (h : Head) (id step handle seq row : Nat) (ovw : Bool) (bytes : List Byte) : State :=
  match aget s.tables.tables id with
  | none => s
  | some t =>
    let u : RowUpdate :=
      { step := step, pkg := h.srcPkg, handle := handle, seq := seq, overwrite := ovw, row := row, bytes := bytes
        stamp := s.now, frame := none }
    s.putTable id { t with updates := t.updates ++ [u] }

/-- The new value of a row (R263): `us` are its updates in order, no two of one key. -/
def RowTable.updated (t : RowTable) (cur : List Byte) (us : List RowUpdate) : List Byte :=
  let base := us.foldl (fun (acc : List Byte × List (List Byte)) u =>
    if u.overwrite then (u.bytes, []) else (acc.1, acc.2 ++ [u.bytes])) (cur, [])
  if base.2.isEmpty then base.1
  else
    let sum := fun (f : FpFmt) (k : Nat) =>
      (reduce f 1 ([t.elem base.1 k] :: base.2.map fun d => [scalarOpd fmtFP32 (leAt d (4 * k) 4)])).1
    if isBlockFmt t.format then facetRow (fmtBits t.format) ((List.range t.elems).map (sum fmtFP32))
    else match fpFmt t.format with
      | some f => (List.range t.elems).flatMap fun k => leBytes (fmtBits t.format / 8) (sum f k)
      | none => base.1

/-- Drop updates whose key an earlier one of the same row has: those kept, those refused (R263). -/
def splitDuplicates : List RowUpdate → List RowUpdate × List RowUpdate
  | [] => ([], [])
  | u :: us =>
    let r := splitDuplicates us
    let same := fun (v : RowUpdate) => v.row == u.row && v.key == u.key
    (u :: r.1.filter fun v => !same v, r.1.filter same ++ r.2)

/-- The owner SD's batch at an S0 boundary, or at a 1 ms tick on a package with no S0 stream (R262, R263): updates whose
stamp is at or before `upTo`; local ones take `step` as their source step. -/
def State.updateBatch (s : State) (id step upTo : Nat) : State :=
  match aget s.tables.tables id with
  | none => s
  | some t =>
    let due := (t.updates.filter fun u => u.stamp ≤ upTo).map fun u => if u.pkg = s.pkg then { u with step := step } else u
    let s := s.putTable id { t with updates := t.updates.filter fun u => upTo < u.stamp }
    let (good, bad) := splitDuplicates due
    let apply := fun (s : State) (row : Nat) =>
      match t.blockOf row with
      | none => s
      | some b =>
        if b.pkg != s.pkg then s
        else
          let us := sortBy RowUpdate.key (good.filter fun u => u.row == row)
          s.writeRow t b row (t.updated (memRead s.mem (t.addr b row) t.rowBytes) us)
    let s := ((good.map (·.row)).dedup).foldl apply s
    let finish := fun (st : Nat) (s : State) (u : RowUpdate) => match u.frame with
      | some f => s.complete f st
      | none => s
    bad.foldl (finish stFrameField) (good.foldl (finish stOk) s)

/-- Every table's batch, and the updates that this package sends to others (R263, R264). -/
def State.updateBatches (s : State) (step upTo : Nat) : State :=
  ((s.tables.tables.map (·.1)).foldl (fun s id => s.updateBatch id step upTo) s).sendUpdates step

/-! ### Hot rows (R260) -/

/-- HOT_CACHE_REFRESH on one SD: it reads the hot list of each table that has one; a table without one keeps no copy of
the SD's rows. -/
def State.hotRefresh (s : State) (sd : Nat) : State :=
  let own := fun (t : RowTable) (row : Nat) => (t.blockOf row).any fun b => b.pkg == s.pkg && b.sd == sd
  s.putTables { s.tables with tables := s.tables.tables.map fun p =>
    let t := p.2
    if t.hotCount = 0 then (p.1, { t with copies := t.copies.filter fun c => !own t c.1 })
    else (p.1, { t with reading := if t.reading.contains sd then t.reading else t.reading ++ [sd] }) }

/-- The read of a table's hot list ends on an SD (R260): for each listed row that it holds in T1 or T2, each SD that
looked the row up gets a copy; an error keeps the former cache. -/
def State.hotListRead (s : State) (id sd : Nat) (rows : List Nat) (ok : Bool) : State :=
  match aget s.tables.tables id with
  | none => s
  | some t =>
    if !t.reading.contains sd then s
    else
      let t := { t with reading := t.reading.filter (· != sd) }
      if !ok then (s.putTable id t).setFlag fHotReadErr sd
      else
        let own := fun (row : Nat) => (t.blockOf row).any fun b => b.pkg == s.pkg && b.sd == sd
        let low := fun (row : Nat) => (t.blockOf row).any fun b =>
          (s.pageOf (t.addr b row)).any fun l => l.2.tier != 0
        let listed := (rows.take t.hotCount).filter fun r => decide (r < t.rowCount) && own r && low r
        let new := listed.dedup.flatMap fun r => (t.lookedUp.filter fun q => q.2 == r).map fun q => (r, q.1)
        s.putTable id { t with
          copies := t.copies.filter (fun c => !own c.1) ++ new
          lookedUp := t.lookedUp.filter fun q => !own q.2 }

/-! ### Adapters (R265 to R268) -/

/-- ADAPTER_LOAD (R265): refused, or the host read of the image starts. -/
def State.adapterLoad (s : State) (f : Frame) : State :=
  let key := f.field 32 2 * 65536 + f.field 34 2
  if !s.bound (f.field 36 2) f.function then s.complete f stNoSession
  else if !(f.paramOk && f.handle == 0 && 1 ≤ f.field 32 2 && f.field 40 8 % 64 == 0 && f.zeros 56 63)
      || (aget s.models (f.field 38 2)).isNone || (aget s.adapters key).isSome
      || s.tables.loads.any (fun l => l.2.key == key) then s.complete f stFrameField
  else if 4096 ≤ s.adapters.length + s.tables.loads.length then s.complete f stResourceFloor
  else
    let (k, s) := s.freshKey
    s.putTables { s.tables with loads := aset s.tables.loads k { frame := f, key := key } }

/-- The targets of an adapter image: layer, projection code, offset (R265). -/
def adapterTargets (bs : List Byte) : List (Nat × Nat × Nat) :=
  (List.range (leAt bs 6 2)).map fun i => (leAt bs (32 + 8 * i) 2, leAt bs (34 + 8 * i) 1, leAt bs (36 + 8 * i) 4)

/-- Whether an adapter image keeps the ranges of R265. -/
def adapterImageOk (m : Model) (bs : List Byte) : Bool :=
  leAt bs 0 4 == 0x50414441 && 1 ≤ leAt bs 4 2 && leAt bs 4 2 ≤ 256 && 1 ≤ leAt bs 6 2 && leAt bs 6 2 ≤ 4096
    && (leAt bs 12 1 == 2 || leAt bs 12 1 == 9) && leAt bs 13 19 == 0 && 32 + 8 * leAt bs 6 2 ≤ bs.length
    && (adapterTargets bs).all fun t => decide (t.1 < m.layers ∧ t.2.2 < bs.length)

/-- The pages that hold an adapter image: one page of the smallest class that holds it, else pages of 2 MiB
(log entry 20). -/
def imageClasses (n : Nat) : List Nat :=
  match (List.range 10).find? fun c => n ≤ pageSize c with
  | some c => [c]
  | none => List.replicate (ceilDiv n (pageSize 9)) 9

/-- Allocate T0 pages of given classes for a tenant, all or nothing. -/
def State.allocPages (s : State) (sd tenant : Nat) : List Nat → List Nat → Option (List Nat × State)
  | [], acc => some (acc, s)
  | c :: cs, acc => match s.allocPage sd c 0 tenant none with
    | none => none
    | some (u, s) => s.allocPages sd tenant cs (acc ++ [u])

/-- Write an image over pages in order. -/
def State.writeOver (s : State) : List Nat → List Byte → State
  | [], _ => s
  | u :: us, bs =>
    let n := ((s.leaf u).map fun l => pageSize l.sizeClass).getD 0
    { s with mem := memWrite s.mem u (bs.take n) }.writeOver us (bs.drop n)

/-- The host read of an adapter image ends (R265): the version is created on SD `sd`, or nothing is. -/
def State.adapterRead (s : State) (k sd : Nat) (bs : List Byte) (ok : Bool) : State :=
  match aget s.tables.loads k with
  | none => s
  | some l =>
    let f := l.frame
    let s := s.putTables { s.tables with loads := adel s.tables.loads k }
    if !ok then s.complete f stPoison
    else match aget s.models (f.field 38 2) with
      | none => s.complete f stFrameField
      | some m =>
        let cls := imageClasses bs.length
        if !adapterImageOk m bs then s.complete f stFrameField
        else if !s.quotaFits (f.field 36 2) 0 (sumBy pageSize cls) then s.complete f stQuota
        else match s.allocPages sd (f.field 36 2) cls [] with
          | none => s.complete f stResourceFloor
          | some (us, s) =>
            let a : AdapterVersion :=
              { current := false, tenant := f.field 36 2, model := f.field 38 2, rank := leAt bs 4 2, scale := leAt bs 8 4
                format := leAt bs 12 1, targets := adapterTargets bs, pages := us }
            let s := s.writeOver us bs
            { s with adapters := aset s.adapters l.key a }.complete f stOk

/-- ADAPTER_SWITCH's fields (R275). -/
def Frame.adapterSwitchOk (f : Frame) : Bool :=
  f.paramOk && 1 ≤ f.field 32 2 && f.field 36 1 ≤ 1 && f.zeros 37 37 && f.zeros 40 63

/-- ADAPTER_SWITCH with handle 0 (R267): the version becomes current; FOLLOW sessions move at the next seal. -/
def State.adapterSwitch (s : State) (f : Frame) : State :=
  let id := f.field 32 2
  let key := id * 65536 + f.field 34 2
  if !s.bound (f.field 38 2) f.function then s.complete f stNoSession
  else if !f.adapterSwitchOk then s.complete f stFrameField
  else match aget s.adapters key with
    | none => s.complete f stFrameField
    | some a =>
      if a.tenant ≠ f.field 38 2 then s.complete f stFrameField
      else
        let old := (s.adapters.filter fun p => p.1 / 65536 == id && p.2.current).map (·.1)
        let s := { s with adapters := s.adapters.map fun (p : Nat × AdapterVersion) =>
          if p.1 / 65536 = id then (p.1, { p.2 with current := p.1 == key }) else p }
        let s := s.putTables { s.tables with follow := s.tables.follow ++ [(id, s.now)] }
        (old.foldl State.sweepAdapter s).complete f stOk

/-- ADAPTER_SWITCH that names a session, behind its gate (R44, R267): READY, WAITING or HELD. -/
def actAdapterSwitch (f : Frame) (slot : Nat) (s : State) : State :=
  let e := s.entry slot
  let key := f.field 32 2 * 65536 + f.field 34 2
  if !(e.state = .ready ∨ e.state = .waiting ∨ e.state = .held) then s.complete f stSessionState
  else match aget s.adapters key with
    | none => s.complete f stFrameField
    | some a =>
      if a.tenant ≠ e.tenant ∨ f.field 38 2 ≠ e.tenant then s.complete f stFrameField
      else
        let old := e.adapter * 65536 + e.adapterVersion
        let s := s.putEntry slot { e with
          adapter := f.field 32 2, adapterVersion := f.field 34 2, adapterFollow := f.field 36 1 == 1 }
        (s.sweepAdapter old).complete f stOk

/-- FOLLOW sessions move to the current version at the first seal after the switch (R267): `upTo` is the seal's stamp;
a switch of an equal stamp waits for the next. -/
def State.followAdapters (s : State) (upTo : Nat) : State :=
  let due := (s.tables.follow.filter fun p => p.2 < upTo).map (·.1)
  let s := s.putTables { s.tables with follow := s.tables.follow.filter fun p => upTo ≤ p.2 }
  due.foldl (fun s id =>
    match s.adapters.find? fun a => a.1 / 65536 == id && a.2.current with
    | none => s
    | some (key, _) =>
      let slots := s.slotsWhere fun x => x.cur.entry.state != .free && x.cur.entry.adapter == id && x.cur.entry.adapterFollow
      let old := (slots.map fun i => id * 65536 + (s.entry i).adapterVersion).dedup
      let s := slots.foldl (fun s i => s.putEntry i { s.entry i with adapterVersion := key % 65536 }) s
      old.foldl State.sweepAdapter s) s

/-! ### Recall (R269 to R273) -/

/-- The exact difference of two operands. -/
def diffOpd (a b : Opd) : Opd :=
  match a.val.finite, b.val.finite with
  | .fin m e, .fin n k =>
    let d := addExact m e (-n) k
    ⟨.fin d.1 d.2, d.2 + bitLen d.1.natAbs⟩
  | _, _ => ⟨.nan, 0⟩

/-- The negation of an operand. -/
def negOpd (a : Opd) : Opd :=
  match a.val with
  | .fin m e => ⟨.fin (-m) e, a.u⟩
  | .inf n => ⟨.inf !n, a.u⟩
  | .nan => a

/-- An FP16 code in units of 2^-24; `none` where it is no finite number. -/
def halfUnits (code : Nat) : Option Int :=
  match fmtFP16.decode code with
  | .fin m e => some (m * 2 ^ (e + 24).toNat)
  | _ => none

/-- An entry of the distance table (R270): query elements and centroid elements of one subspace. -/
def distEntry (inner : Bool) (q c : List Nat) : Nat :=
  let ops := (q.zip c).map fun p =>
    let x := scalarOpd fmtFP32 p.1
    let y := scalarOpd fmtFP16 p.2
    if inner then [negOpd x, y] else [diffOpd x y, diffOpd x y]
  (reduce fmtFP16 2 ops).1

/-- The distance table of a query (R270). -/
def RecallIndex.distances (i : RecallIndex) (q : List Nat) : List (List (Option Int)) :=
  let w := i.dim / i.subspaces
  (List.range i.subspaces).map fun j =>
    let part := (q.drop (j * w)).take w
    (List.range 256).map fun c => halfUnits (distEntry i.innerProduct part (i.codebook.getD (256 * j + c) []))

/-- A vector's exact distance (R270): `none` where an entry is no finite number. -/
def distanceOf (dist : List (List (Option Int))) (codes : List Nat) : Option Int :=
  (dist.zip codes).foldl (fun acc p => match acc, (p.1.getD p.2 none) with
    | some a, some b => some (a + b)
    | _, _ => none) (some 0)

/-- A filter term (R271): MASK, VALUE, OP. -/
def Frame.term (f : Frame) (i : Nat) : Nat × Nat × Nat :=
  (leAt f.payload (24 * i) 8, leAt f.payload (24 * i + 8) 8, leAt f.payload (24 * i + 16) 1)

/-- Whether an attribute word passes one term (R271). -/
def passesTerm (attr : Nat) (t : Nat × Nat × Nat) : Bool :=
  let v := attr &&& t.1
  if t.2.2 = 0 then v == t.2.1 else if t.2.2 = 1 then v != t.2.1 else if t.2.2 = 2 then v < t.2.1 else t.2.1 ≤ v

/-- Whether an attribute word passes a query's filter (R271). -/
def Frame.passes (f : Frame) (attr : Nat) : Bool :=
  let ts := (List.range (f.field 37 1)).map f.term
  ts.isEmpty || if f.field 36 1 = 0 then ts.all (passesTerm attr) else ts.any (passesTerm attr)

/-- RECALL_QUERY's fields (R275): 4 terms of 24 bytes, then D FP32 elements. -/
def Frame.queryOk (f : Frame) (dim : Nat) : Bool :=
  f.paramOk && 1 ≤ f.field 34 2 && f.field 34 2 ≤ 1024 && f.field 36 1 ≤ 1 && f.field 37 1 ≤ 4 && f.field 38 1 ≤ 1
    && f.zeros 39 39 && f.zeros 48 63 && f.payload.length == 96 + 4 * dim
    && (List.range 4).all (fun i => (f.term i).2.2 ≤ 3 && leAt f.payload (24 * i + 17) 7 == 0)
    && (f.field 38 1 == 1 || f.handle == 0)

/-- RECALL_QUERY (R272): refused, or the distance table is built and every shard starts its scan. -/
def State.recallQuery (s : State) (f : Frame) (sd : Nat) : State :=
  if !s.bound (f.field 44 2) f.function then s.complete f stNoSession
  else match aget s.tables.indexes (f.field 32 2) with
    | none => s.complete f stFrameField
    | some i =>
      if !f.queryOk i.dim || i.tenant ≠ f.field 44 2 then s.complete f stFrameField
      else if !s.resumeOk f then s.complete f stNoSession
      else
        let q := (List.range i.dim).map fun k => leAt f.payload (96 + 4 * k) 4
        let w : QueryWait :=
          { frame := f, index := f.field 32 2, sd := sd, stamp := s.now, open_ := i.sds, dist := i.distances q, results := [] }
        let (k, s) := s.freshKey
        s.putTables { s.tables with queries := aset s.tables.queries k w }

/-- The better of two results (R272): the lower distance, then the lower ID. -/
def resultBefore (a b : Int × Nat) : Bool := decide (a.1 < b.1 ∨ (a.1 = b.1 ∧ a.2 < b.2))

/-- Insert a result in rank order. -/
def insertResult (a : Int × Nat) : List (Int × Nat) → List (Int × Nat)
  | [] => [a]
  | b :: l => if resultBefore a b then a :: b :: l else b :: insertResult a l

/-- The first k of results in rank order. -/
def topK (k : Nat) (l : List (Int × Nat)) : List (Int × Nat) := (l.foldl (fun acc a => insertResult a acc) []).take k

/-- The passing vectors of a shard with their distances (R270, R271); a distance that the spec does not give is a free
value. `n` counts the free values drawn before. -/
def scanShard (f : Frame) (dist : List (List (Option Int))) (n : Nat) (rs : List RecallRecord) : List (Int × Nat) :=
  (rs.zipIdx.filter fun p => !p.1.dead && f.passes p.1.attr).map fun p =>
    ((distanceOf dist p.1.codes).getD (Config.freeValue (n + p.2) : Nat), p.1.id)

/-- An insert's records take effect on a shard in their order (R269): replace, add, or mark dead; a new vector of a full
shard is refused. -/
def applyRecords (cap : Nat) (delete : Bool) (shard : List RecallRecord) : List RecallRecord → List RecallRecord × Bool
  | [] => (shard, false)
  | r :: rs =>
    let known := shard.any fun x => x.id == r.id
    if delete then
      applyRecords cap delete (shard.map fun x => if x.id = r.id then { x with dead := true } else x) rs
    else if known then applyRecords cap delete (shard.map fun x => if x.id = r.id then r else x) rs
    else if shard.length < cap then applyRecords cap delete (shard ++ [r]) rs
    else ((applyRecords cap delete shard rs).1, true)

/-- One shard applies the records of an insert; the frame completes with its last shard (R269). -/
def State.applyInsert (s : State) (x : ShardInsert) : State :=
  match aget s.tables.indexes x.index, aget s.tables.inserts x.key with
  | some i, some w =>
    let (shard, full) := applyRecords i.capacity x.delete (agetD i.shards x.sd []) x.records
    let s := s.putTables { s.tables with
      indexes := aset s.tables.indexes x.index { i with shards := aset i.shards x.sd shard }
      shardInserts := s.tables.shardInserts.filter (· != x) }
    let s := s.flagIf full fShardFull x.sd
    let w := { w with left := w.left - 1, full := w.full || full }
    if w.left = 0 then
      (s.putTables { s.tables with inserts := adel s.tables.inserts x.key }).complete w.frame
        (if w.full then stQuota else stOk)
    else s.putTables { s.tables with inserts := aset s.tables.inserts x.key w }
  | _, _ => s

/-- Whether an insert waits for a scan of an earlier query on its shard (R273). -/
def Tables.insertWaits (t : Tables) (x : ShardInsert) : Bool :=
  t.queries.any fun q => q.2.index == x.index && q.2.open_.contains x.sd && decide (q.2.stamp < x.stamp)

/-- Inserts that no longer wait are applied, in the order of their stamps. -/
def State.drainInserts (s : State) : State :=
  (sortBy ShardInsert.stamp s.tables.shardInserts).foldl (fun s x =>
    if s.tables.insertWaits x then s else s.applyInsert x) s

/-- The records of a RECALL_INSERT (R275). -/
def Frame.recallRecords (f : Frame) (m : Nat) : List RecallRecord :=
  (List.range (f.field 34 2)).map fun i =>
    let o := i * (16 + m)
    { id := leAt f.payload o 8, attr := leAt f.payload (o + 8) 8
      codes := (bytesAt f.payload (o + 16) m).map BitVec.toNat, dead := false }

/-- RECALL_INSERT (R269, R273): each shard applies its records once the scans of earlier queries have ended. -/
def State.recallInsert (s : State) (f : Frame) : State :=
  if !s.bound (f.field 44 2) f.function then s.complete f stNoSession
  else match aget s.tables.indexes (f.field 32 2) with
    | none => s.complete f stFrameField
    | some i =>
      let n := f.field 34 2
      if !(f.paramOk && f.handle == 0 && 1 ≤ n && n ≤ 65472 / (16 + i.subspaces) && f.field 36 1 ≤ 1 && f.zeros 37 43
          && f.zeros 46 63 && f.payload.length == n * (16 + i.subspaces)) || i.tenant ≠ f.field 44 2 then
        s.complete f stFrameField
      else
        let (k, s) := s.freshKey
        let recs := f.recallRecords i.subspaces
        let shardOf := fun (r : RecallRecord) => i.sds.getD (r.id % i.sds.length) 0
        let parts := ((recs.map shardOf).dedup).map fun sd =>
          ({ index := f.field 32 2, sd := sd, stamp := s.now, key := k, delete := f.field 36 1 == 1
             records := recs.filter fun r => shardOf r == sd } : ShardInsert)
        (s.putTables { s.tables with
          inserts := aset s.tables.inserts k { frame := f, left := parts.length, full := false }
          shardInserts := s.tables.shardInserts ++ parts }).drainInserts

/-- A query's results as the text of its record (R276). -/
def resultBytes (l : List (Int × Nat)) : List Byte :=
  l.flatMap fun r => leBytes 8 r.2 ++ leBytes 4 (fmtFP32.round r.1 (-24)).1 ++ leBytes 4 0

/-- A shard's scan ends (R272, R273): its vectors are counted and ranked; with the last shard the query completes. A
scan cannot end while an earlier insert of its shard waits. -/
def State.scanDone (s : State) (k sd : Nat) : State :=
  match aget s.tables.queries k with
  | none => s
  | some w =>
    match aget s.tables.indexes w.index with
    | none => s
    | some i =>
      let earlier := s.tables.shardInserts.any fun x => x.index == w.index && x.sd == sd && decide (x.stamp ≤ w.stamp)
      if !w.open_.contains sd || earlier then s
      else
        let shard := agetD i.shards sd []
        let f := w.frame
        let res := topK (f.field 34 2) (w.results ++ scanShard f w.dist s.draws shard)
        let s := { s with draws := s.draws + shard.length }
        let s := s.charge (f.field 44 2) 13 shard.length
        let left := w.open_.filter (· != sd)
        let i := { i with
          queries := aset i.queries sd ((agetD i.queries sd 0 + 1) % 2 ^ 32)
          scanned := aset i.scanned sd ((agetD i.scanned sd 0 + shard.length) % 2 ^ 64) }
        let s := s.putTables { s.tables with
          indexes := aset s.tables.indexes w.index i
          queries := if left.isEmpty then adel s.tables.queries k
                     else aset s.tables.queries k { w with open_ := left, results := res } }
        let s := s.drainInserts
        if !left.isEmpty then s
        else if f.wantsResume then s.lookup f w.sd (f.field 46 2) (f.field 44 2) 0 (res.map (·.2))
        else s.completeWith f { statusRecord f stOk f.handle (recordBody []) with text := resultBytes res }

/-! ### The meanings -/

/-- ROW_LOOKUP (R257). -/
def execRowLookup (f : Frame) (sd t : Nat) (s : State) : Host.Outcome State Fault Refusal :=
  unitExists (sd < 12) ((s.stamp t).rowLookup f sd)

/-- ROW_UPDATE (R262). -/
def execRowUpdate (f : Frame) (t : Nat) (s : State) : Host.Outcome State Fault Refusal :=
  .next ((s.stamp t).rowUpdate f)

/-- TABLE_SWITCH (R259). -/
def execTableSwitch (f : Frame) (t : Nat) (s : State) : Host.Outcome State Fault Refusal :=
  .next ((s.stamp t).tableSwitch f)

/-- RECALL_QUERY (R272). -/
def execRecallQuery (f : Frame) (sd t : Nat) (s : State) : Host.Outcome State Fault Refusal :=
  unitExists (sd < 12) ((s.stamp t).recallQuery f sd)

/-- RECALL_INSERT (R269). -/
def execRecallInsert (f : Frame) (t : Nat) (s : State) : Host.Outcome State Fault Refusal :=
  .next ((s.stamp t).recallInsert f)

/-- RECALL_SHARD_SCAN_DONE (R272): the scan of query `k` ends on an SD. -/
def execRecallShardScanDone (k sd t : Nat) (s : State) : Host.Outcome State Fault Refusal :=
  unitExists (sd < 12) ((s.stamp t).scanDone k sd)

/-- ADAPTER_LOAD (R265). -/
def execAdapterLoad (f : Frame) (t : Nat) (s : State) : Host.Outcome State Fault Refusal :=
  .next ((s.stamp t).adapterLoad f)

/-- ADAPTER_IMAGE_READ_DONE (R265): the image of load `k` has been read, or its read has failed. -/
def execAdapterImageReadDone (k sd : Nat) (bytes : List Byte) (ok : Bool) (t : Nat) (s : State) :
    Host.Outcome State Fault Refusal :=
  unitExists (sd < 12) ((s.stamp t).adapterRead k sd bytes ok)

/-- ROW_REQ (R257). -/
def execRowReq (h : Head) (table request : Nat) (bag : List Nat) (t : Nat) (s : State) :
    Host.Outcome State Fault Refusal :=
  unitExists (portExists h) ((s.stamp t).receive h 0x34 fun s => s.rowReq h table request bag)

/-- ROW_REPLY (R257). -/
def execRowReply (h : Head) (request : Nat) (bytes : List Byte) (t : Nat) (s : State) :
    Host.Outcome State Fault Refusal :=
  unitExists (portExists h) ((s.stamp t).receive h 0x35 fun s => s.rowReply request bytes)

/-- ROW_UPD (R264). -/
def execRowUpd (h : Head) (table step handle seq row : Nat) (overwrite : Bool) (bytes : List Byte) (t : Nat) (s : State) :
    Host.Outcome State Fault Refusal :=
  unitExists (portExists h)
    ((s.stamp t).receive h 0x36 fun s => s.rowUpd h table step handle seq row overwrite bytes)

/-- HOT_CACHE_REFRESH (R260) on one SD. -/
def execHotCacheRefresh (sd t : Nat) (s : State) : Host.Outcome State Fault Refusal :=
  unitExists (sd < 12) ((s.stamp t).hotRefresh sd)

/-- HOT_LIST_READ_DONE (R260). -/
def execHotListReadDone (table sd : Nat) (rows : List Nat) (ok : Bool) (t : Nat) (s : State) :
    Host.Outcome State Fault Refusal :=
  unitExists (sd < 12) ((s.stamp t).hotListRead table sd rows ok)

end Sys2Proof.Machine
end

