-- ==== Sys2Proof/Machine/Commands.lean ====
section
/-! DEFINITION. Session commands and events at the table SDs (chapter 02, and the frames of chapters 09 to 13 that name a
session): each command behind its gate, the commands that wait for a lock, timers, leases, records and release. -/
namespace Sys2Proof.Machine

/-! ### Commands and the lock's queue (R46, R59) -/

/-- A command of a session whose push ends with it (R304). -/
def endingPush (act : Nat → State → State) (slot : Nat) (s : State) : State := act slot (s.endPush slot)

/-- A session frame at its table SD, by its opcode (R407). `rec_` is what the store answers for a SESSION_RESTORE,
`childSd` the table SD chosen for the child of a SESSION_FORK. -/
def State.sessionFrame (s : State) (f : Frame) (rec_ : Option Recorded) (childSd : Option Nat) : State :=
  let op := f.opcode
  if op = 0x0102 then s.command f f.plainOk false false (actSessionAppend f)
  else if op = 0x0103 then s.command f f.resumeOk false false (actSessionResume f)
  else if op = 0x0104 then s.command f f.plainOk false false (actSessionHold f)
  else if op = 0x0105 then s.command f f.plainOk false false (actSessionRelease f)
  else if op = 0x0106 then s.command f f.parkOk false false (actSessionPark f)
  else if op = 0x0107 then s.command f f.plainOk false false (endingPush (actSessionCancel f))
  else if op = 0x0108 then s.command f f.plainOk true true (endingPush (actSessionClose f))
  else if op = 0x0109 then s.commandFor f f.forkOk false false childSd (actSessionFork f childSd)
  else if op = 0x010a then s.command f (f.migrateOk s.pkg) false false (actSessionMigrate f)
  else if op = 0x010b then s.command f f.waitPeerOk false false (actSessionWaitPeer f)
  else if op = 0x0402 then s.command f f.adapterSwitchOk false false (actAdapterSwitch f)
  else if (s.findHandle f.handle).isNone && f.field 32 1 == 1 then s.adoptRestore f rec_
  else s.command f f.restoreOk true false (actSessionRestore f rec_)

/-- A host-command lock taken by a command that had waited: its lease runs from now (R60). -/
def State.leaseNow (s : State) (slot : Nat) : State :=
  let x := s.sess slot
  match x.cur.entry.holder with
  | .host _ _ => s.putSess slot { x.withEntry { x.cur.entry with leaseEnd := s.leaseFrom } with lockStamp := s.now }
  | _ => s

/-- The first command that waits for a session is applied, at its own ingress stamp (R46), where the lock is free. -/
def State.drainStep (s : State) (slot : Nat) : State :=
  let x := s.sess slot
  if x.frozen || x.cur.entry.holder != .none then s
  else match x.waiting with
    | [] => s
    | w :: r =>
      let now := s.now
      let s := { s.putSess slot { x with waiting := r } with now := w.stamp }
      let s := s.sessionFrame w.frame none w.childSd
      { s with now := now }.leaseNow slot

/-- Up to `n` commands that wait for a session are applied, one at a time (R46). -/
def State.drainCommands (s : State) (slot : Nat) : Nat → State
  | 0 => s
  | n + 1 => (s.drainStep slot).drainCommands slot n

/-- A session's lock is free: the commands that wait for it are applied in the order of their stamps (R46, R59). -/
def State.drainSession (s : State) (slot : Nat) : State := s.drainCommands slot (s.sess slot).waiting.length

/-- A command frame reaches its table SD, and what it frees goes on. -/
def State.frameFor (s : State) (f : Frame) (rec_ : Option Recorded) (childSd : Option Nat) : State :=
  let s := s.sessionFrame f rec_ childSd
  match s.findHandle f.handle with
  | none => s
  | some i => s.drainSession i

/-- A command frame that opens no session reaches its table SD. -/
def State.frameAt (s : State) (f : Frame) (rec_ : Option Recorded) : State := s.frameFor f rec_ none

/-! ### Text (R232, R236) -/

/-- Whether a frame that holds the lock still has bytes to process. -/
def Session.frameBusy (x : Session) (f : Frame) : Bool :=
  x.inputs.any fun i => i.opcode == f.opcode && i.function == f.function && i.queue == f.queue && !i.unread.isEmpty

/-- The last input that a frame's bytes are in waits for it too. -/
def attachFrame (f : Frame) : List TextInput → List TextInput
  | [] => []
  | i :: r =>
    let mine := fun (k : TextInput) => k.opcode == f.opcode && k.function == f.function && k.queue == f.queue
    if mine i && !r.any mine then { i with waits := i.waits ++ [f] } :: r else i :: attachFrame f r

/-- The APPEND or RESUME that holds a session's lock. -/
def Session.textOwner (x : Session) : Option Frame :=
  match x.cur.entry.holder with
  | .host _ _ => x.owner.filter fun f => f.opcode == 0x0102 || f.opcode == 0x0103
  | _ => none

/-- The frame that holds the lock lets it go: its bytes wait, or are behind bytes that wait, for an input page (R58,
R236). -/
def State.letGo (s : State) (slot : Nat) (f : Frame) : State :=
  let x := s.sess slot
  let known := x.inputs.any fun i => i.waits.contains f
  let inputs := if known then x.inputs else attachFrame f x.inputs
  (s.putSess slot { x with owner := none, inputs := inputs }).unlock slot

/-- After the text unit has worked for a session: the frame that holds the lock completes once its bytes are processed;
else, where they wait for a page, it waits holding nothing (R236), or its lease goes on from this progress (R60). -/
def State.afterText (s : State) (slot : Nat) : State :=
  let x := s.sess slot
  match x.textOwner with
  | none => s
  | some f =>
    if !x.frameBusy f then
      let s := (s.putSess slot { x with owner := none }).unlock slot
      (s.complete f stOk).drainSession slot
    else if (x.inputs.head?).any TextInput.stalled then (s.letGo slot f).drainSession slot
    else s.putEntry slot { x.cur.entry with leaseEnd := s.leaseFrom }

/-- After the text unit has worked on an input that frames wait for, under the lock that they have taken again: they
complete once its bytes are processed. -/
def State.afterWait (s : State) (slot count : Nat) (ws : List Frame) : State :=
  let x := s.sess slot
  let busy := x.inputs.length == count && (x.inputs.head?).any fun i => !i.unread.isEmpty
  if !busy then
    let inputs := if x.inputs.length = count then x.inputs.map fun i => if i.waits = ws then { i with waits := [] } else i
      else x.inputs
    let s := (s.putSess slot { x with owner := none, inputs := inputs }).unlock slot
    (ws.foldl (fun s f => s.complete f stOk) s).drainSession slot
  else if (x.inputs.head?).any TextInput.stalled then ((s.putSess slot { x with owner := none }).unlock slot).drainSession slot
  else s.putEntry slot { x.cur.entry with leaseEnd := s.leaseFrom }

/-- The text unit works on a session's first input. Frames that wait for it retry from the session lock (R58): while
another holds it, nothing happens. -/
def State.textWork (s : State) (slot : Nat) (work : State → State) : State :=
  let x := s.sess slot
  let ws := ((x.inputs.head?).map TextInput.waits).getD []
  match ws with
  | [] => (work s).afterText slot
  | w :: _ =>
    if x.textOwner = some w then (work s).afterWait slot x.inputs.length ws
    else
      let s := match x.textOwner with
        | some f => s.letGo slot f
        | none => s
      if (s.entry slot).holder != .none then s
      else (work (s.lockFor slot w)).afterWait slot x.inputs.length ws

/-- A frame that waits for an input page continues (R236). -/
def State.textResume (s : State) (slot : Nat) : State :=
  match (s.sess slot).inputs with
  | i :: _ => if i.stalled then s.textInput slot i.unread.length else s
  | [] => s

/-! ### Close (R34, R299) -/

/-- The release of a CLOSING session is done (R34, R44, R299): its frame completes; commands that waited find no session;
the slot is FREE with its generation raised, or retires. Waiters that the registrar has not woken yet wake now (R57, log
entry 101). A guest's local slot returns unchanged, and the origin is told until it acknowledges. -/
def State.closeReleased (s : State) (slot : Nat) : State :=
  let x := s.sess slot
  let e := x.cur.entry
  if e.state != .closing then s
  else
    let s := s.peerComplete slot []
    let s := match x.owner with
      | some f => s.complete f stOk
      | none => s
    let s := x.waiting.foldl (fun s w => s.complete w.frame stNoSession) s
    let key := e.adapter * 65536 + e.adapterVersion
    let s :=
      if hOrigin e.handle = s.pkg then s.freeSlot slot
      else
        let s := (s.freeGuest e.handle).sendMig (hOrigin e.handle) (tableSd slot) .closeNote e.handle x.moveSeq 0 []
        { s with gallery := { s.gallery with closeNotes := aset s.gallery.closeNotes e.handle s.now } }
    s.sweepAdapter key

/-! ### Timers (R50 to R53) -/

/-- A timer fires (R51): the timeout is staged; SES_TIMER marks the delay past D + TIMER_GUARD (R516), and firing more
than 1 µs late sets TIMER_LATE. -/
def State.timerFire (s : State) (slot : Nat) : State :=
  let x := s.sess slot
  let e := x.cur.entry
  let guard := s.regFld 0x02 0 0x00 25 16 * 1000
  if x.timer != some .deadline || x.staged.isSome || s.now < e.deadline + guard then s
  else
    ((s.putSess slot { x with staged := some e.deadline, fired := s.now }).markReg 0x02 (tableSd slot) 0x30 63 32
      (s.now - (e.deadline + guard))).flagIf
      (e.deadline + guard + 1000 < s.now) fTimerLate (tableSd slot)

/-- A staged timeout commits (R51, R53, R291), once no event stamped at or before D waits for the session: a HELD session
takes TIMED_OUT; a MOVING one leaves it to its owner after the migration. -/
def State.timeoutCommit (s : State) (slot : Nat) : State :=
  let x := s.sess slot
  let e := x.cur.entry
  match x.staged with
  | none => s
  | some d =>
    if x.waiting.any (fun w => w.stamp ≤ d) || e.holder != .none || e.state == .moving then s
    else if e.state = .held then
      s.putSess slot { x.withEntry { e with timedOut := true } with staged := none, timer := none }
    else if e.state == .waiting && (e.waitReason == .tool || e.waitReason == .peer) then s.timeoutAction slot
    else s.putSess slot { x with staged := none, timer := none }

/-- NOT_BEFORE of a TIMER wait is reached (R44, R53). -/
def State.notBefore (s : State) (slot : Nat) : State :=
  let e := s.entry slot
  if e.state = .waiting ∧ e.waitReason = .timer ∧ e.deadline ≤ s.now then (s.disarm slot).setState slot .ready else s

/-- The oldest TIMED APPEND whose NOT_BEFORE has come is applied as an untimed one (R50). -/
def State.timedRelease (s : State) (slot : Nat) : State :=
  let x := s.sess slot
  match x.timed.find? fun w => w.frame.param ≤ s.now with
  | none => s
  | some w =>
    let s := s.putSess slot { x with timed := x.timed.filter (· != w) }
    s.frameAt w.frame none

/-- A host-command lock reaches LEASE_END without progress (R60, R61). -/
def State.leaseLapse (s : State) (slot : Nat) : State :=
  let e := s.entry slot
  match e.holder with
  | .host _ _ => if e.leaseEnd ≤ s.now then ((s.endPush slot).breakLock slot stLockBroken).drainSession slot else s
  | _ => s

/-! ### Records (R62, R63) -/

/-- A record that waited for the outbox pool takes a freed entry (R63). -/
def State.recordEnters (s : State) (slot : Nat) : State :=
  let x := s.sess slot
  let n := tableSd slot
  let d := s.sd n
  match x.unpooled with
  | [] => s
  | r :: rest =>
    if d.outboxFree = 0 then s
    else match d.outbox.take with
      | none => s
      | some (i, p) =>
        let s1 := s.putSd n { d with outbox := p }
        (s1.putSess slot { x with outbox := x.outbox ++ [⟨i, r⟩], unpooled := rest }).checkOutboxLow n d.outboxFree

/-! ### The meanings -/

/-- SESSION_OPEN (R36, R44, R48), at the active management island. -/
def execSessionOpen (f : Frame) (t : Nat) (s : State) : Host.Outcome State Fault Refusal :=
  .next ((s.stamp t).sessionOpen f)

/-- OPEN_PREPARED (R44). -/
def execOpenPrepared (slot t : Nat) (s : State) : Host.Outcome State Fault Refusal :=
  .next (((s.stamp t).openPrepared slot).drainSession slot)

/-- SESSION_APPEND (R44, R50). -/
def execSessionAppend (f : Frame) (t : Nat) (s : State) : Host.Outcome State Fault Refusal :=
  .next ((s.stamp t).frameAt { f with opcode := 0x0102 } none)

/-- TIMED_APPEND_RELEASE (R50). -/
def execTimedAppendRelease (slot t : Nat) (s : State) : Host.Outcome State Fault Refusal :=
  .next ((s.stamp t).timedRelease slot)

/-- SESSION_RESUME (R44, R52). -/
def execSessionResume (f : Frame) (t : Nat) (s : State) : Host.Outcome State Fault Refusal :=
  .next ((s.stamp t).frameAt { f with opcode := 0x0103 } none)

/-- SESSION_HOLD (R44). -/
def execSessionHold (f : Frame) (t : Nat) (s : State) : Host.Outcome State Fault Refusal :=
  .next ((s.stamp t).frameAt { f with opcode := 0x0104 } none)

/-- SESSION_RELEASE (R44, R53). -/
def execSessionRelease (f : Frame) (t : Nat) (s : State) : Host.Outcome State Fault Refusal :=
  .next ((s.stamp t).frameAt { f with opcode := 0x0105 } none)

/-- SESSION_PARK (R44, R117). -/
def execSessionPark (f : Frame) (t : Nat) (s : State) : Host.Outcome State Fault Refusal :=
  .next ((s.stamp t).frameAt { f with opcode := 0x0106 } none)

/-- SESSION_CANCEL (R44, R91). -/
def execSessionCancel (f : Frame) (t : Nat) (s : State) : Host.Outcome State Fault Refusal :=
  .next ((s.stamp t).frameAt { f with opcode := 0x0107 } none)

/-- SESSION_CLOSE (R44). -/
def execSessionClose (f : Frame) (t : Nat) (s : State) : Host.Outcome State Fault Refusal :=
  .next ((s.stamp t).frameAt { f with opcode := 0x0108 } none)

/-- CLOSE_RELEASE_DONE (R34, R44, R299). -/
def execCloseReleaseDone (slot t : Nat) (s : State) : Host.Outcome State Fault Refusal :=
  .next ((s.stamp t).closeReleased slot)

/-- SESSION_FORK (R36, R44, R49, R135). -/
def execSessionFork (f : Frame) (t : Nat) (s : State) : Host.Outcome State Fault Refusal :=
  let (n, s) := (s.stamp t).chooseSd
  .next (s.frameFor { f with opcode := 0x0109 } none n)

/-- SESSION_MIGRATE (R290, R291). -/
def execSessionMigrate (f : Frame) (t : Nat) (s : State) : Host.Outcome State Fault Refusal :=
  .next ((s.stamp t).frameAt { f with opcode := 0x010a } none)

/-- SESSION_WAIT_PEER (R54 to R56), at the wait registrar and the table SD. -/
def execSessionWaitPeer (f : Frame) (t : Nat) (s : State) : Host.Outcome State Fault Refusal :=
  .next ((s.stamp t).frameAt { f with opcode := 0x010b } none)

/-- SESSION_RESTORE (R358, R361); `found` is the recorded session that the restore source answers. -/
def execSessionRestore (f : Frame) (found : Option Recorded) (t : Nat) (s : State) : Host.Outcome State Fault Refusal :=
  .next ((s.stamp t).frameAt { f with opcode := 0x010c } found)

/-- RESTORE_PAGES_PLACED (R358): the reads of a restore end with the page records, or with POISON. -/
def execRestorePagesPlaced (slot : Nat) (records : List PageRecord) (ok : Bool) (t : Nat) (s : State) :
    Host.Outcome State Fault Refusal :=
  .next (((s.stamp t).restorePlaced slot records ok).drainSession slot)

/-- ADAPTER_SWITCH (R267): of a session, or of the adapter's current version. -/
def execAdapterSwitch (f : Frame) (t : Nat) (s : State) : Host.Outcome State Fault Refusal :=
  .next (if f.handle = 0 then (s.stamp t).adapterSwitch f else (s.stamp t).frameAt { f with opcode := 0x0402 } none)

/-- TEXT_INPUT (R232): `count` bytes of a session's input reach the text unit. -/
def execTextInput (slot count t : Nat) (s : State) : Host.Outcome State Fault Refusal :=
  .next ((s.stamp t).textWork slot fun s => s.textInput slot count)

/-- TEXT_FRAME_RESUME (R236). -/
def execTextFrameResume (slot t : Nat) (s : State) : Host.Outcome State Fault Refusal :=
  .next ((s.stamp t).textWork slot fun s => s.textResume slot)

/-- TIMER_FIRE (R51). -/
def execTimerFire (slot t : Nat) (s : State) : Host.Outcome State Fault Refusal :=
  .next ((s.stamp t).timerFire slot)

/-- TIMEOUT_COMMIT (R51, R53). -/
def execTimeoutCommit (slot t : Nat) (s : State) : Host.Outcome State Fault Refusal :=
  .next ((s.stamp t).timeoutCommit slot)

/-- NOT_BEFORE_REACHED (R44). -/
def execNotBeforeReached (slot t : Nat) (s : State) : Host.Outcome State Fault Refusal :=
  .next ((s.stamp t).notBefore slot)

/-- LEASE_LAPSE (R60). -/
def execLeaseLapse (slot t : Nat) (s : State) : Host.Outcome State Fault Refusal :=
  .next ((s.stamp t).leaseLapse slot)

/-- PEER_COMPLETE (R57); `rejects` are the waiters whose wake-filter run rejects the completion, empty where no filter is
installed. -/
def execPeerComplete (slot : Nat) (rejects : List Nat) (t : Nat) (s : State) : Host.Outcome State Fault Refusal :=
  .next ((s.stamp t).peerComplete slot rejects)

/-- OUTBOX_RECORD_WRITE (R63). -/
def execOutboxRecordWrite (slot t : Nat) (s : State) : Host.Outcome State Fault Refusal :=
  .next ((s.stamp t).recordEnters slot)

end Sys2Proof.Machine
end

