-- ==== Sys2Proof/Machine/Prefix.lean ====
section
/-! DEFINITION. Shared prefixes (chapter 05): SipHash-2-4 keys, the walker, insertion and the retention sweep. -/
namespace Sys2Proof.Machine

/-! ### SipHash-2-4 (R140) -/

/-- A 64-bit word rotated left. -/
def rotl64 (x n : Nat) : Nat := x * 2 ^ n % 2 ^ 64 + x / 2 ^ (64 - n)

/-- The state of SipHash. -/
structure Sip where
  v0 : Nat
  v1 : Nat
  v2 : Nat
  v3 : Nat
deriving DecidableEq, Repr

/-- One SipRound. -/
def Sip.round (s : Sip) : Sip :=
  let a0 := (s.v0 + s.v1) % 2 ^ 64
  let b1 := rotl64 s.v1 13 ^^^ a0
  let a2 := (s.v2 + s.v3) % 2 ^ 64
  let b3 := rotl64 s.v3 16 ^^^ a2
  let c0 := (rotl64 a0 32 + b3) % 2 ^ 64
  let d3 := rotl64 b3 21 ^^^ c0
  let c2 := (a2 + b1) % 2 ^ 64
  let d1 := rotl64 b1 17 ^^^ c2
  ⟨c0, d1, rotl64 c2 32, d3⟩

/-- The words that SipHash takes from a message of `len` bytes: whole little-endian words, then the rest with the length
in the top byte; `n` bounds the words. -/
def sipWords (len : Nat) : Nat → List Byte → List Nat
  | 0, _ => []
  | n + 1, bs =>
    if bs.length < 8 then [leNat bs + len % 256 * 2 ^ 56] else leNat (bs.take 8) :: sipWords len n (bs.drop 8)

/-- Two rounds over one word. -/
def Sip.absorb (s : Sip) (m : Nat) : Sip :=
  let r := ({ s with v3 := s.v3 ^^^ m } : Sip).round.round
  { r with v0 := r.v0 ^^^ m }

/-- SipHash-2-4 of a message under a 128-bit key, as a 64-bit number. -/
def sipHash (key : Nat) (bs : List Byte) : Nat :=
  let k0 := key % 2 ^ 64
  let k1 := key / 2 ^ 64 % 2 ^ 64
  let s0 : Sip := ⟨k0 ^^^ 0x736f6d6570736575, k1 ^^^ 0x646f72616e646f6d, k0 ^^^ 0x6c7967656e657261, k1 ^^^ 0x7465646279746573⟩
  let s1 := (sipWords bs.length (bs.length / 8 + 1) bs).foldl Sip.absorb s0
  let r := ({ s1 with v2 := s1.v2 ^^^ 0xff } : Sip).round.round.round.round
  r.v0 ^^^ r.v1 ^^^ r.v2 ^^^ r.v3

/-! ### Chain keys (R139, R140) -/

/-- The domain key of a domain on an SD, drawn when the domain is first used after reset (R139). -/
def State.domainKey (s : State) (sd dom : Nat) : Nat × State :=
  match aget (s.sd sd).domainKeys dom with
  | some k => (k, s)
  | none =>
    let (d, s) := s.draw
    let k := Config.random d % 2 ^ 128
    (k, s.putSd sd { s.sd sd with domainKeys := aset (s.sd sd).domainKeys dom k })

/-- A computed key of 0 is replaced by 1. -/
def nonZeroKey (h : Nat) : Nat := if h = 0 then 1 else h

/-- h₀ of a session (R140). -/
def rootKey (key : Nat) (e : Entry) (m : Model) : Nat :=
  nonZeroKey (sipHash key (leBytes 2 e.model ++ leBytes 2 e.adapter ++ leBytes 2 e.adapterVersion
    ++ leBytes 1 m.kvFormat ++ leBytes 1 m.kvPageClass ++ leBytes 4 m.pageTokens ++ leBytes 4 0))

/-- hₙ from hₙ₋₁ and the p tokens of the page (R140). -/
def nextKey (key prev : Nat) (toks : List Nat) : Nat :=
  nonZeroKey (sipHash key (leBytes 8 prev ++ toks.flatMap (leBytes 4)))

/-- A node of an SD's tree, by its key. -/
def StateDie.node (d : StateDie) (key : Nat) : Option PrefixNode := d.nodes.find? fun n => n.key == key

/-! ### The walker (R142) -/

/-- The session takes its reference to one page of a matched node, or its private copy where the page can have no
further reference (R130): the page that its KV map gains. -/
def State.sharePage (s : State) (slot page : Nat) : Option (Nat × State) :=
  match s.takeRef page (some slot) with
  | (some s', _) => some (page, s')
  | (none, s') =>
    match s'.leaf page with
    | none => none
    | some l =>
      let t := (s'.entry slot).tenant
      if !s'.quotaFits t 0 (pageUse l.sizeClass l.scaleBytes) then none
      else (s'.allocPage (ownerSd page) l.sizeClass l.scaleBytes t (some slot)).map fun p => (p.1, p.2.copyPage page p.1)

/-- The pages of a node enter the session's KV map at page index `k`, in layer-group order; a stale tail moves on. -/
def State.gainPages (s : State) (slot k : Nat) (m : Model) : List (Nat × Nat) → Option State
  | [] => some s
  | (lg, page) :: r =>
    if page = noPage then s.gainPages slot k m r
    else match s.sharePage slot page with
      | none => none
      | some (u, s) =>
        let x := s.sess slot
        let us := (x.cur.lg lg).usas
        let c := x.cur.setPages m.kvPageClass m.pageTokens lg (us.take k ++ [u] ++ us.drop k)
        (s.putSess slot { x with cur := c }).gainPages slot k m r

/-- Follow the chain from a key at page index `k` with the tokens still unmatched, at most `n` nodes: the tokens
matched. -/
def State.walkNodes (s : State) (slot key : Nat) (m : Model) : Nat → Nat → Nat → List Nat → Nat × State
  | 0, _, _, _ => (0, s)
  | n + 1, prev, k, toks =>
    let p := m.pageTokens
    if toks.length ≤ p then (0, s)
    else
      let e := s.entry slot
      let sd := e.homeSd
      let mine := toks.take p
      let h := nextKey key prev mine
      match (s.sd sd).node h with
      | none => (0, s)
      | some nd =>
        if nd.parentKey != prev || nd.depth != k + 1 || nd.domain != s.domainOf e.tenant || nd.tokens != mine then (0, s)
        else match s.gainPages slot k m ((List.range nd.pages.length).zip nd.pages) with
          | none => (0, s)
          | some s =>
            let seen := { nd with lastMatch := s.now, hits := min (nd.hits + 1) 0xffffffff }
            let d := s.sd sd
            let s := s.putSd sd { d with nodes := d.nodes.map fun q => if q.key = h then seen else q }
            let s := s.addRegFld 0x06 sd 0x18 63 32 1
            let r := s.walkNodes slot key m n h (k + 1) (toks.drop p)
            (p + r.1, r.2)

/-- The walker (R142), when a prefill chunk is shaped: the tokens matched, whose pages the session's KV map has
gained. -/
def State.walk (s : State) (slot : Nat) (m : Model) : Nat × State :=
  let x := s.sess slot
  let c := x.cur
  let e := c.entry
  let p := m.pageTokens
  if s.regFld 0x06 0 0x00 0 0 = 0 ∨ c.openToken.isSome ∨ c.kvLen % p ≠ 0 ∨ x.pending.length ≤ p then (0, s)
  else
    let (key, s) := s.domainKey e.homeSd (s.domainOf e.tenant)
    let s := s.addRegFld 0x06 e.homeSd 0x18 31 0 1
    let start := if c.kvLen = 0 then rootKey key e m else c.chainKey
    s.walkNodes slot key m (x.pending.length / p) start (c.kvLen / p) (x.pending.map (·.token))

/-! ### Nodes (R143 to R145) -/

/-- A node leaves the tree: the tree's references to its pages go (R145). -/
def State.dropNode (s : State) (sd : Nat) (nd : PrefixNode) : State :=
  let d := s.sd sd
  let s := s.putSd sd { d with nodes := d.nodes.filter fun q => q.key != nd.key }
  (nd.pages.filter (· != noPage)).foldl (fun s u => s.dropRef u none) s

/-- The tree takes a reference to each page of a node; `none` where one can have no further reference (R130). -/
def State.treeRefs (s : State) : List Nat → Option State
  | [] => some s
  | u :: us => if u = noPage then s.treeRefs us else match (s.takeRef u none).1 with
    | none => none
    | some s => s.treeRefs us

/-- A full bucket loses its node with the oldest LAST_MATCH (R144). -/
def State.makeRoom (s : State) (sd key : Nat) : State :=
  let d := s.sd sd
  let bucket := d.nodes.filter fun q => q.key % d.buckets == key % d.buckets
  if bucket.length < 8 then s
  else match minBy PrefixNode.lastMatch bucket with
    | none => s
    | some old => (s.dropNode sd old).setFlag fBucketEvict sd

/-- Insert node `n` of a chain at a seal (R143, R144): the pages of page index n − 1 of the session's KV map. -/
def State.insertNode (s : State) (slot n key prev : Nat) (toks : List Nat) (m : Model) : State :=
  let e := s.entry slot
  let sd := e.homeSd
  let d := s.sd sd
  if s.regFld 0x06 0 0x00 1 1 = 0 ∨ d.buckets = 0 ∨ ¬ (n = 1 ∨ (d.node prev).isSome) then s
  else match d.node key with
    | some q => s.flagIf (q.tokens != toks) fCollision sd
    | none =>
      let c := (s.sess slot).cur
      let pages := (List.range m.layerGroups).map fun g =>
        if (m.remoteOf g).isSome then noPage else ((c.lg g).page (n - 1)).getD noPage
      match s.treeRefs pages with
      | none => s
      | some s =>
        let s := s.makeRoom sd key
        let nd : PrefixNode := { key := key, parentKey := prev, pages := pages, tokens := toks, lastMatch := s.now,
                                 depth := n, domain := s.domainOf e.tenant, hits := 0 }
        s.putSd sd { s.sd sd with nodes := (s.sd sd).nodes ++ [nd] }

/-- The chain key advances over each page boundary that the committed tokens cross, and each node is inserted (R143);
at most `n` boundaries. -/
def State.advanceChain (s : State) (slot : Nat) (m : Model) : Nat → State
  | 0 => s
  | n + 1 =>
    let x := s.sess slot
    let c := x.cur
    let p := m.pageTokens
    if c.chainTail.length < p then s
    else
      let e := c.entry
      let (key, s) := s.domainKey e.homeSd (s.domainOf e.tenant)
      let k := (c.kvLen - c.chainTail.length) / p
      let prev := if k = 0 then rootKey key e m else c.chainKey
      let toks := c.chainTail.take p
      let h := nextKey key prev toks
      let s := s.insertNode slot (k + 1) h prev toks m
      let y := s.sess slot
      let s := s.putSess slot { y with cur := { y.cur with chainKey := h, chainTail := y.cur.chainTail.drop p } }
      s.advanceChain slot m n

/-- The KV length pointer has risen over tokens at a seal (R143): `toks` are the tokens of the new positions, and KV
length has been set. -/
def State.chainTokens (s : State) (slot : Nat) (m : Model) (toks : List Nat) : State :=
  let x := s.sess slot
  let s := s.putSess slot { x with cur := { x.cur with chainTail := x.cur.chainTail ++ toks } }
  s.advanceChain slot m (toks.length / m.pageTokens + 1)

/-- The retention sweep of an SD (R145): nodes whose LAST_MATCH is older than RETAIN_S. -/
def State.retentionSweep (s : State) (sd : Nat) : State :=
  let age := s.regFld 0x06 0 0x00 31 16 * 1000000000
  ((s.sd sd).nodes.filter fun nd => nd.lastMatch + age < s.now).foldl (fun s nd => s.dropNode sd nd) s

/-- PREFIX_RETENTION_SWEEP (R145). -/
def execPrefixRetentionSweep (sd t : Nat) (s : State) : Host.Outcome State Fault Refusal :=
  if sd < 12 then .next ((s.stamp t).retentionSweep sd) else .fault .noSuchUnit

end Sys2Proof.Machine
end

