-- ==== Sys2Proof/Machine/Steps.lean ====
section
/-! DEFINITION. Steps (chapter 03): clusters and roles, eligibility, shapes, the reservation of an admission, fair
selection, removal and abandonment, pre-emption. -/
namespace Sys2Proof.Machine

def fRemoved : FlagId := ⟨0x03, 0x78, 0⟩
def fAbandoned : FlagId := ⟨0x03, 0x78, 1⟩
def fPreempted : FlagId := ⟨0x03, 0x78, 2⟩
def fS1Guard : FlagId := ⟨0x03, 0x78, 3⟩
def fDurableThrottle : FlagId := ⟨0x15, 0x40, 1⟩

/-! ### Streams and clusters -/

/-- A step stream. -/
def State.stream (s : State) (s1 : Bool) : Stream := if s1 then s.s1 else s.s0

/-- Replace a stream. -/
def State.putStream (s : State) (s1 : Bool) (x : Stream) : State := if s1 then { s with s1 := x } else { s with s0 := x }

/-- Members of a run that have been neither removed nor applied. -/
def StepRun.live (r : StepRun) : List Member := r.members.filter fun m => !m.removed && !m.applied

/-- Change the member of a slot in a stream's run. -/
def State.updMember (s : State) (s1 : Bool) (slot : Nat) (f : Member → Member) : State :=
  let x := s.stream s1
  match x.run with
  | none => s
  | some r => s.putStream s1 { x with run := some { r with members := r.members.map fun m => if m.slot = slot then f m else m } }

/-- The member of a slot in a stream's run, where it is live. -/
def State.member (s : State) (s1 : Bool) (slot : Nat) : Option Member :=
  (s.stream s1).run.bind fun r => r.live.find? fun m => m.slot == slot

/-- The role of a logical cluster (R69). -/
def State.role (s : State) (l : Nat) : Nat := fld (s.reg (pcs 0x03 0 (0x10 + 8 * (l / 16)))) (4 * (l % 16) + 3) (4 * (l % 16))

/-- A logical cluster is in service: its CD exists (R4, R456) and has it, and neither is fenced. Cluster L is cluster
L mod 4 of CD L div 4 (R69). -/
def State.clusterIn (s : State) (l : Nat) : Bool :=
  l / 4 < s.boot.cdMap.length && l % 4 < (agetD s.boot.clusterMap (l / 4) []).length && !s.boot.diesOut.contains (l / 4)
    && !s.boot.clustersOut.contains l

/-- The clusters in service of a role. -/
def State.clustersOf (s : State) (role : Nat) : List Nat := (List.range 64).filter fun l => s.role l == role && s.clusterIn l

/-- The clusters that a stream's step in flight holds. -/
def State.heldClusters (s : State) (s1 : Bool) : List Nat := ((s.stream s1).run.map fun r => r.live.map Member.cluster).getD []

/-- Clusters available to S1 (R66): PREFILL, and MIXED that no S0 step holds. -/
def State.s1Clusters (s : State) : List Nat :=
  s.clustersOf 1 ++ (s.clustersOf 3).filter fun l => !(s.heldClusters false).contains l

/-- The pre-emption guard has been reached (R83). -/
def State.guarded (s : State) : Bool := s.s1.run.any fun r => s.regFld 0x03 0 0x00 31 24 ≤ r.preempted

/-- Clusters on which a step of a stream may form (R66, R83): under the guard, S0 takes DECODE clusters alone. -/
def State.streamClusters (s : State) (s1 : Bool) : List Nat :=
  if s1 then s.s1Clusters else if s.guarded then s.clustersOf 2 else s.clustersOf 2 ++ s.clustersOf 3

/-- A model instance is committed, its weight shards are loaded (R469), and an EXPERT cluster serves its routed experts
(R485). -/
def State.modelReady (s : State) (mi : Nat) : Bool :=
  ((aget s.models mi).any fun m => m.experts == 0 || !(s.clustersOf 4).isEmpty)
    && s.boot.shards.all fun h => h.model != mi || h.loaded

/-- Whether a stream may form a step now (R67, R71, R89, R360, R367, R387): it has none in flight, no drain runs, the
group does not shrink, its pacing delay has ended and it has a cluster. -/
def State.mayForm (s : State) (s1 : Bool) : Bool :=
  s.boot.ready && s.power.drain.isNone && !s.gallery.shrinking && (s.stream s1).run.isNone
    && (s.stream s1).paceUntil == 0 && !(s.streamClusters s1).isEmpty

/-! ### Eligibility (R72) -/

/-- Positions that wait for a session: the open token, and pending tokens (R73). -/
def Session.positions (x : Session) : Nat := x.pending.length + bit x.cur.openToken.isSome

/-- Text that the OV32 itself appends as prefill (R44, R51, R57), and that of the frame that opened the session, is settled
before a step takes the session, unless it waits for an input page (R236); log entry 99. -/
def Session.ownText (x : Session) : Bool := x.inputs.all fun i => i.opcode != 0 || i.stalled

/-- Whether a session meets R72 for a stream, its outbox apart. -/
def State.eligible (s : State) (s1 : Bool) (slot : Nat) : Bool :=
  let x := s.sess slot
  let e := x.cur.entry
  let long := s.regFld 0x03 0 0x00 47 32 ≤ x.pending.length
  x.ownText && e.state == .ready && e.residence != .dormant && (!x.inputHeld || 2 ≤ x.pending.length) && e.holder == .none
    && !x.frozen && x.waiting.isEmpty && s.modelReady e.model && 1 ≤ x.positions
    && (if s1 then long && !s.s1Clusters.isEmpty else !long || s.s1Clusters.isEmpty)

/-! ### Shapes (R73 to R76, R495, R496) -/

/-- The chunk classes (R74). -/
def chunkClasses : List Nat := [128, 256, 512, 1024, 2048]

/-- The smallest class that holds `n` positions. -/
def classFor (n : Nat) : Nat := (chunkClasses.find? (n ≤ ·)).getD 2048

/-- The largest class that does not exceed `n`. -/
def classWithin (n : Nat) : Option Nat := (chunkClasses.filter (· ≤ n)).getLast?

/-- What a member's shape is (R73). -/
structure Shape where
  decode : Bool
  drafts : Nat
  carried : Nat
  cls : Nat
  worst : Nat
deriving DecidableEq, Repr

/-- Input positions of a shape. -/
def Shape.inputs (h : Shape) (x : Session) : Nat := if h.decode then 1 + h.drafts else h.carried + bit x.cur.openToken.isSome

/-- Positions counted against the step's budget. -/
def Shape.counted (h : Shape) : Nat := if h.decode then 1 + h.drafts else h.cls

/-- The limit that shaping lowers W to (R495, R496). -/
def Tenant.room (t : Tenant) : Nat := if t.bucketRate = 0 then t.remaining else min t.remaining (t.bucket / 1000)

/-- The draft count of a decode member (R76), within the step's budget and a limit on W. -/
def State.draftCount (s : State) (x : Session) (m : Model) (budget room : Nat) : Nat :=
  if !m.draftHead then 0
  else
    let c := x.cur
    let pr := (aget s.profiles c.entry.profile)
    let carry := x.pending.length
    let gen := if x.pending.any (·.first) then 0 else c.text.genCount
    let left := (pr.elim 1 Profile.maxNew) - gen
    let ctx := m.contextLimit - (c.entry.committed + carry)
    min (min (min (s.regFld 0x03 0 0x00 23 20) (pr.elim 0 Profile.drafts)) (min (left - 1) (ctx - 1))) (min (budget - 1) (room - 1))

/-- Carried tokens and W of a chunk of `n` pending tokens of `left`, under a limit on W (R73, R75, R495); `whole` says
that the chunk may carry the last pending token and then samples. -/
def chunkCarry (n left room : Nat) (whole : Bool) : Nat × Nat :=
  if whole && n == left then
    if n + 1 ≤ room then (n, n + 1) else let k := min (n - 1) room; (k, k)
  else let k := min n room; (k, k)

/-- The shape of a session in a step (R73 to R76, R495): `matched` of its pending tokens are taken by a prefix match,
`maxCls` bounds the class. `none` where nothing fits. -/
def State.shapeOf (s : State) (s1 : Bool) (slot matched budget room maxCls : Nat) (m : Model) : Option Shape :=
  let x := s.sess slot
  let op := bit x.cur.openToken.isSome
  let left := x.pending.length - matched
  if !s1 && x.positions == 1 && !x.inputHeld then
    if budget = 0 ∨ room = 0 then none
    else
      let d := s.draftCount x m budget room
      some { decode := true, drafts := d, carried := left, cls := 0, worst := d + 1 }
  else
    let whole := !s1 && !x.inputHeld
    let chunkMax := (chunkClasses[s.regFld 0x03 0 0x00 18 16]?).getD 2048
    let want := classFor (min (left + op) chunkMax)
    match classWithin (min (min want maxCls) budget) with
    | none => none
    | some cls =>
      let n := min (cls - op) (if whole then left else left - 1)
      let (k, w) := chunkCarry n left room whole
      if k = 0 then none
      else some { decode := false, drafts := 0, carried := k, cls := if k < n then classFor (k + op) else cls, worst := w }

/-- W of the smallest shape of a session (R495): no draft, or one carried token. -/
def Session.smallestWorst (x : Session) (s1 : Bool) (matched : Nat) : Nat :=
  if !s1 && !x.inputHeld && 2 ≤ x.positions && x.pending.length - matched == 1 then 2 else 1

/-! ### The protected dirty set (R379, R383) -/

/-- The protected dirty set in bytes (R379): the session table, the ledger snapshot, pages with DIRTY_DUR; of every
CLASS_D session changed since its last journal entry the metadata page, text block and input pages; pages captured into
entries not yet committed. -/
def State.durableSet (s : State) : Nat :=
  let pages := sumBy (fun p => if p.2.dirtyDur then pageUse p.2.sizeClass p.2.scaleBytes else 0) s.leaves
  let ses := sumBy (fun p =>
    let e := p.2.cur.entry
    if e.classD && e.state != .free && (s.leaf e.metaUsa).any (·.dirtyDur) then
      4096 * (1 + p.2.textHeld) - 4096 else 0) s.sessions
  let caps := sumBy (fun w => sumBy PageRecord.size w.entry.records) s.power.writes
  513 * 2 ^ 20 + pages + ses + caps

/-- R383: whether a member of a CLASS_D session that may make `w` bytes dirty is admitted. -/
def State.durableFits (s : State) (slot w : Nat) : Bool :=
  !(s.entry slot).classD || !s.power.storeOk || s.durableSet + w ≤ s.power.limitMib * 2 ^ 20

/-! ### The reservation of an admission (R76, R99, R132, R166, R345) -/

/-- What a reservation comes to. -/
inductive Reserve where
  | ok (s : State) (newPages : List Nat) (cows : List CowPage) (mapBlocks : Nat)
  | quota (bytes : Nat)
  | floor
  /-- R345: a page that the step will write is frozen outside T0 while staging is full -/
  | frozen
  /-- R383 -/
  | durable

/-- Pages of a session that positions `a` to `a + n − 1` fall into and that it already has: layer-group and page. -/
def SessionCore.writtenPages (c : SessionCore) (m : Model) (a n : Nat) : List (Nat × Nat) :=
  let p := m.pageTokens
  c.kvMap.flatMap fun g => ((g.2.usas.take (ceilDiv (a + n) p)).drop (a / p)).map fun u => (g.1, u)

/-- Grow each layer-group of a list by its count (R166): the pages made. -/
def State.growGroups (s : State) (slot : Nat) (m : Model) : List (Nat × Nat) → Option (List Nat × State)
  | [] => some ([], s)
  | (lg, n) :: r =>
    match s.growGroupBy slot lg m n with
    | none => none
    | some (us, s) => (s.growGroups slot m r).map fun q => (us ++ q.1, q.2)

/-- Reserve a copy for each shared page of a list (R133). -/
def State.reserveCows (s : State) (slot : Nat) (m : Model) : List (Nat × Nat) → Option (List CowPage × State)
  | [] => some ([], s)
  | (lg, u) :: r =>
    let e := s.entry slot
    match s.allocPage e.homeSd m.kvPageClass m.scaleBytes e.tenant (some slot) with
    | none => none
    | some (v, s) =>
      (s.reserveCows slot m r).map fun q =>
        (({ layerGroup := lg, original := u, copy := v, made := false } : CowPage) :: q.1, q.2)

/-- Start the urgent up-cages of pages outside T0 that will be written (R99): C2 of each is part of the reservation. One
of a frozen page waits at its SD (R109). -/
def State.upCages (s : State) (slot : Nat) : List Nat → Option State
  | [] => some s
  | u :: r =>
    match s.leaf u with
    | none => s.upCages slot r
    | some l =>
      if l.cage = .up then s.upCages slot r
      else if l.frozen then (s.queueCage u 0 none (.write slot)).upCages slot r
      else
        let s := if l.cage = .down then s.dropCage l.cageId else s
        match s.startCage u 0 none (.write slot) true with
        | none => none
        | some s => s.upCages slot r

/-- Further map blocks that copies may need: two runs each (R166). -/
def cowBlocks (c : SessionCore) (cows : List CowPage) : Nat :=
  sumBy (fun g =>
    let k := countBy (fun w => w.layerGroup == g.1) cows
    ceilDiv (g.2.runs.length + 2 * k) 15 - ceilDiv g.2.runs.length 15) c.kvMap

/-- Settle the map pool after the pages of an admission have been made, with the blocks that its copies may need. -/
def State.reserveMap (s : State) (slot : Nat) (cows : List CowPage) : Option (Nat × State) :=
  let x := s.sess slot
  let d := s.sd x.cur.entry.homeSd
  let b := mapBlocksOf x.cur.kvMap
  let k := dirPagesOf x.cur.kvMap
  let extra := cowBlocks x.cur cows
  if d.mapFree + x.mapHeld < b + extra ∨ d.dirFree + x.dirHeld < k then none
  else
    let s := s.settleMap slot
    let d := s.sd x.cur.entry.homeSd
    some (extra, s.putSd x.cur.entry.homeSd { d with mapFree := d.mapFree - extra })

/-- Reserve everything that the positions `a` to `a + n − 1` of a session need, all or nothing (R58, R76). -/
def State.reserveStep (s : State) (slot : Nat) (m : Model) (a n : Nat) : Reserve :=
  let c := (s.sess slot).cur
  let e := c.entry
  let use := pageUse m.kvPageClass m.scaleBytes
  let need := ((List.range m.layerGroups).filter fun g => (m.remoteOf g).isNone).map fun g =>
    (g, ceilDiv (a + n) m.pageTokens - (c.lg g).usas.length)
  let old := c.writtenPages m a n
  let shared := old.filter fun p => 1 < s.refCount p.2
  let own := e.metaUsa :: (old.filter fun p => s.refCount p.2 ≤ 1).map (·.2)
  let ups := own.filter fun u => (s.leaf u).any fun l => l.tier != 0
  let upUse := sumBy (fun u => (s.leaf u).elim 0 fun l => if l.cage = .up then 0 else pageUse l.sizeClass l.scaleBytes) ups
  let fresh := (sumBy (·.2) need + shared.length) * use
  let dirty := fresh + 4224 + 4096 * textBlockPages
    + sumBy (fun u => (s.leaf u).elim 0 fun l => if l.dirtyDur then 0 else pageUse l.sizeClass l.scaleBytes) own.tail
  let full := fun u => (s.leaf u).any fun l => l.frozen && s.checkpoint.stageFree < pageUse l.sizeClass l.scaleBytes
  if !s.durableFits slot dirty then .durable
  else if ups.any full then .frozen
  else if !s.quotaFits e.tenant 0 (fresh + upUse) then .quota (fresh + upUse)
  else match s.growGroups slot m (need.filter fun p => p.2 != 0) with
    | none => .floor
    | some (pages, s1) => match s1.reserveCows slot m shared with
      | none => .floor
      | some (cows, s2) => match s2.upCages slot ups with
        | none => .floor
        | some s3 => match s3.reserveMap slot cows with
          | none => .floor
          | some (blocks, s4) => .ok s4 pages cows blocks

/-! ### Fair selection (R77) -/

/-- The place of a tag relative to v, in the order of the sign of their difference modulo 2^64. -/
def tagKey (v tag : Nat) : Nat := (tag + 2 ^ 64 - v % 2 ^ 64 + 2 ^ 63) % 2 ^ 64

/-- Whether tag `a` is lower than tag `b`. -/
def tagLower (v a b : Nat) : Bool := tagKey v a < tagKey v b

/-- The cost of a session-step. -/
def Tenant.cost (t : Tenant) : Nat := 2 ^ 24 / max t.weight 1

/-- A tenant's finish tag on a stream. -/
def Tenant.finish (t : Tenant) (s1 : Bool) : Nat := if s1 then t.finish1 else t.finish0

/-- A tenant with its finish tag on a stream replaced. -/
def Tenant.setFinish (t : Tenant) (s1 : Bool) (x : Nat) : Tenant := if s1 then { t with finish1 := x } else { t with finish0 := x }

/-- What the step former has come to while it forms a step. -/
structure Forming where
  s : State
  budget : Nat
  v : Nat
  members : List Member
  tried : List Nat

/-- The order of a tenant's sessions: priority class, ready stamp, slot. -/
def Session.tryKey (x : Session) (slot : Nat) : Nat :=
  (x.cur.entry.priority * 2 ^ 64 + x.readyStamp % 2 ^ 64) * 2 ^ 22 + slot

/-- The next session to try. -/
def Forming.next (f : Forming) (s1 : Bool) : Option Nat :=
  let cands := (f.s.sessions.map (·.1)).filter fun i => f.s.eligible s1 i && !f.tried.contains i
  let tenants := sortBy id ((cands.map fun i => (f.s.entry i).tenant).dedup)
  match minBy (fun t => tagKey f.v ((f.s.tenant t).finish s1 + (f.s.tenant t).cost)) tenants with
  | none => none
  | some t => minBy (fun i => (f.s.sess i).tryKey i) (cands.filter fun i => (f.s.entry i).tenant == t)

/-- Members that a tenant has in steps in flight and in the step being formed (R497). -/
def Forming.running (f : Forming) (t : Nat) : Nat :=
  let live := ((f.s.s0.run.map StepRun.live).getD []) ++ ((f.s.s1.run.map StepRun.live).getD [])
  countBy (fun m => m.tenant == t) (live ++ f.members)

/-- The PREPARE of a push session's first S1 admission (R302). -/
def State.startPush (s : State) (slot : Nat) : State :=
  let x := s.sess slot
  if x.pushTried || s.regFld 0x11 0 0x08 14 14 == 0 || x.moveSeq ≥ 0xffffffff then s
  else
    let e := x.cur.entry
    let m := newMigration none (s.regFld 0x11 0 0x08 13 0) 0xff 0 e.function e.resultQueue true e x.moveSeq s.now
    let s := s.putSess slot { x with pushTried := true }
    ({ s with migrations := aset s.migrations slot m }).sendPrepare slot m true

/-- A tenant reserves W at an admission (R495, R496). -/
def Tenant.reserve (t : Tenant) (w : Nat) : Tenant :=
  { t with reserved := t.reserved + w, bucket := if t.bucketRate = 0 then t.bucket else t.bucket - 1000 * w }

/-- The reservation of W ends, with `charged` tokens charged (R495, R496): the rest is refunded, up to the cap. -/
def Tenant.settle (t : Tenant) (w charged : Nat) : Tenant :=
  { t with
    reserved := t.reserved - w
    bucket := if t.bucketRate = 0 then t.bucket
      else min (1000 * t.bucketDepth) (t.bucket + 1000 * (w - charged)) }

/-- A session whose reservation has been made joins the step (R59, R63, R66, R77). -/
def Forming.take (f : Forming) (s1 : Bool) (slot matched : Nat) (h : Shape) (s : State) (pages : List Nat)
    (cows : List CowPage) (blocks : Nat) : Forming :=
  let x := s.sess slot
  let e := x.cur.entry
  let n := tableSd slot
  let cs := f.s.streamClusters s1
  let (d, s) := s.draw
  let m : Member :=
    { slot := slot, tenant := e.tenant, decode := h.decode, drafts := h.drafts, carried := h.carried, counted := h.counted
      worst := h.worst, matched := matched, cluster := (cs[Config.freeCluster d % cs.length]?).getD 0, draftTokens := [], draws := []
      cows := cows, newPages := pages, mapBlocks := blocks, dirPages := 0, appended := [], attention := [], attnBytes := 0
      remote := [], experts := [], out := none, removed := false, applied := false, cancelled := false
      lateFence := none }
  let s := s.putSess slot { x.withEntry { e with state := .running, holder := .stepFormer s1 } with
    reserved := 4, lockStamp := s.now, since := s.now, owner := none }
  let free := (s.sd n).outboxFree
  let s := (s.putSd n { s.sd n with outboxReserved := (s.sd n).outboxReserved + 4 }).checkOutboxLow n free
  let t := (s.tenant e.tenant).reserve h.worst
  let fin := (t.finish s1 + t.cost) % 2 ^ 64
  let s := s.putTenant e.tenant (t.setFinish s1 fin)
  let s := s.recount slot
  let s := if s1 then s.startPush slot else s
  { f with s := s, budget := f.budget - h.counted, v := if tagLower f.v fin f.v then f.v else fin, members := f.members ++ [m] }

/-- Try to reserve and take a shape; a chunk refused on the tenant's T0 quota is tried again with each smaller class
(R121), at most `n` times, before the refusal stands (R122). `s0` is the state before the walk, `s` after it. -/
def Forming.tryReserve (f : Forming) (s1 : Bool) (slot matched room : Nat) (m : Model) (s0 s : State) :
    Nat → Shape → Forming
  | 0, _ => { f with s := s0 }
  | n + 1, h =>
    let x := s.sess slot
    match s.reserveStep slot m (x.cur.kvLen + matched) (h.inputs x) with
    | .ok s' pages cows blocks => f.take s1 slot matched h s' pages cows blocks
    | .floor => { f with s := s0 }
    | .durable => { f with s := s0.setFlag fDurableThrottle 0 }
    | .frozen => { f with s := (s0.addRegFld 0x14 0 0x38 31 0 1).setFlag fStageFull 0 }
    | .quota bytes =>
      let smaller := if h.decode ∨ h.cls ≤ 128 then none
        else s.shapeOf s1 slot matched f.budget room (h.cls / 2) m
      match smaller with
      | some h' => f.tryReserve s1 slot matched room m s0 s n h'
      | none => { f with s := (s0.setWait slot .quota).pressure slot bytes }

/-- Shape a session within the budget and try to take it (R63, R77, R495 to R497). -/
def Forming.tryAdmit (f : Forming) (s1 : Bool) (slot : Nat) : Forming :=
  let f := { f with tried := slot :: f.tried }
  let s := f.s
  let e := s.entry slot
  match aget s.models e.model with
  | none => f
  | some m =>
    if !s.outboxTest slot then { f with s := s.setWait slot .outboxFull }
    else
      let t := s.tenant e.tenant
      let (matched, sw) := if 2 ≤ (s.sess slot).positions then s.walk slot m else (0, s)
      let s0 := s.setReg (pcs 0x06 e.homeSd 0x18) (sw.reg (pcs 0x06 e.homeSd 0x18))
      let f := { f with s := s0 }
      match sw.shapeOf s1 slot matched f.budget (2 ^ 64) 2048 m with
      | none => f
      | some _ =>
        if t.remaining < (sw.sess slot).smallestWorst s1 matched then
          if 0 < t.reserved then f else { f with s := (s0.setWait slot .budget).setFlag fBudgetEmpty 0 }
        else match sw.shapeOf s1 slot matched f.budget t.room 2048 m with
          | none => f
          | some h =>
            if t.maxRunning ≤ f.running e.tenant then f
            else f.tryReserve s1 slot matched t.room m s0 sw 6 h

/-- The loop of R77, over at most `n` sessions. -/
def Forming.loop (s1 : Bool) (limit : Nat) : Nat → Forming → Forming
  | 0, f => f
  | n + 1, f =>
    if f.budget = 0 ∨ limit ≤ f.members.length then f
    else match f.next s1 with
      | none => f
      | some slot => Forming.loop s1 limit n (f.tryAdmit s1 slot)

/-- S0 steps in a row that have pre-empted an S1 step (R83), once an S0 step has formed: it counts while the S1 step stays
suspended; an S0 step that needs none of its clusters ends the row. -/
def State.countPreemption (s : State) : State :=
  match s.s1.run with
  | none => s
  | some r =>
    let clash := (r.live.map Member.cluster).any fun l => (s.heldClusters false).contains l
    let guard := s.regFld 0x03 0 0x00 31 24
    if clash && r.suspended then
      let s := { s with s1 := { s.s1 with run := some { r with preempted := r.preempted + 1 } } }
      s.flagIf (r.preempted + 1 == guard) fS1Guard 0
    else if clash || guard ≤ r.preempted then s
    else { s with s1 := { s.s1 with run := some { r with preempted := 0 } } }

/-- Form the next step of a stream (R67, R77). -/
def State.stepForm (s : State) (s1 : Bool) : State :=
  if !s.mayForm s1 then s
  else
    let x := s.stream s1
    let floor := fun (t : Tenant) => if tagLower x.vtime (t.finish s1) x.vtime then t.setFinish s1 x.vtime else t
    let s := { s with tenants := s.tenants.map fun p => (p.1, floor p.2) }
    let f0 : Forming := { s := s, budget := s.regFld 0x03 0 0x00 15 0, v := x.vtime, members := [], tried := [] }
    let f := Forming.loop s1 (s.regFld 0x03 0 0x00 63 48) s.sessions.length f0
    let s := f.s
    if f.members.isEmpty then s.putStream s1 { x with vtime := f.v }
    else
      let r : StepRun :=
        { number := x.step + 1, members := f.members, startPt := s.now, sealPt := none, budgetUsed := sumBy Member.counted f.members
          suspended := false, suspensions := 0, preempted := 0, layer := 0, commitAtSeal := false, energy := 0 }
      let s := s.putStream s1 { x with step := x.step + 1, vtime := f.v, run := some r }
      if s1 then s else s.countPreemption

/-- A role shift ends when the cluster first runs under its new role (R71): a step formed now has a member on it, or it is
an EXPERT cluster, which serves every step. STP_SHIFT has its duration. -/
def State.endShifts (s : State) (s1 : Bool) : State :=
  if !((s.stream s1).run.any fun r => r.startPt == s.now) then s
  else
    let ends := fun (h : RoleShift) => h.toRole == 4 || (s.heldClusters s1).contains h.cluster
    let s' := { s with shifts := s.shifts.filter fun h => !ends h }
    (s.shifts.filter ends).foldl (fun s h =>
      let us := (s.now - h.start) / 1000
      (s.setRegFld 0x03 0 0x88 31 0 us).markReg 0x03 0 0x88 63 32 us) s'

/-! ### Pre-emption (R82, R83) -/

/-- An S1 step on a MIXED cluster that S0 needs is suspended at a layer boundary. -/
def State.s1Suspend (s : State) (layer : Nat) : State :=
  match s.s1.run with
  | none => s
  | some r =>
    let clash := (r.live.map Member.cluster).any fun l => (s.heldClusters false).contains l
    if r.suspended || r.sealPt.isSome || !clash then s
    else
      let r' := { r with suspended := true, suspensions := min 255 (r.suspensions + 1), preempted := r.preempted + 1, layer := layer }
      let s := ({ s with s1 := { s.s1 with run := some r' } }).setFlag fPreempted 0
      s.flagIf (r'.preempted == s.regFld 0x03 0 0x00 31 24) fS1Guard 0

/-- A suspended S1 step resumes once no S0 step holds its clusters. -/
def State.s1Resume (s : State) : State :=
  match s.s1.run with
  | none => s
  | some r =>
    let clash := (r.live.map Member.cluster).any fun l => (s.heldClusters false).contains l
    if !r.suspended || clash then s else { s with s1 := { s.s1 with run := some { r with suspended := false } } }

/-! ### Removal and abandonment (R84 to R86) -/

/-- What an admission reserved beyond the pages that the map holds goes back: copies not made, map blocks, tokens, with
`charged` tokens charged. -/
def State.releaseMember (s : State) (m : Member) (charged : Nat) : State :=
  let s := (m.cows.filter fun w => !w.made).foldl (fun s w => s.freePage w.copy) s
  let n := (s.entry m.slot).homeSd
  let s := s.putSd n { s.sd n with mapFree := (s.sd n).mapFree + m.mapBlocks }
  s.putTenant m.tenant ((s.tenant m.tenant).settle m.worst charged)

/-- A push destination discards what a rolled-back member staged (R303). -/
def State.dropPushed (s : State) (slot : Nat) : State :=
  match aget s.migrations slot with
  | some m =>
    if m.phase = .push then s.sendMig m.dest (tableSd slot) .dropNote (s.entry slot).handle m.moveSeq m.sent [] else s
  | none => s

/-- A member is rolled back and leaves its step; its session is READY, its lock free. -/
def State.rollMember (s : State) (s1 : Bool) (m : Member) : State :=
  let s := s.updMember s1 m.slot fun q => { q with removed := true }
  let s := s.releaseMember m 0
  let s := ((s.rollback m.slot).unlock m.slot).dropPushed m.slot
  s.setState m.slot .ready

/-- A member that meets a condition of R84 is removed, unless it has produced its outputs (R85). -/
def State.removeMember (s : State) (s1 : Bool) (slot : Nat) (why : RemoveCause) : State :=
  match s.member s1 slot with
  | none => s
  | some m =>
    if m.out.isSome || ((s.stream s1).run.any fun r => r.sealPt.isSome) then s
    else
      let s := (s.rollMember s1 m).setFlag fRemoved 0
      match why with
      | .unreachable => s
      | .poison => (s.endPush slot).fenceReport slot .poison
      | .tierLost => (s.endPush slot).fenceReport slot .tierLost
      | .dieLost => (s.endPush slot).fenceReport slot .dieLost

end Sys2Proof.Machine
end

