-- ==== Sys2Proof/Machine/Attention.lean ====
section
/-! DEFINITION. KV append and attention (chapter 06), remote layer-groups, expert exchange and split reductions (R81, R177
to R180, R197 to R199). -/
namespace Sys2Proof.Machine

/-- ATT_REMOTE_TIMEOUT in ns. -/
def State.remoteLimit (s : State) : Nat := s.regFld 0x08 0 0x00 19 0 * 1000

/-- A member is removed (R84), and the commands that waited for its session's lock are applied (R59). -/
def State.loseMember (s : State) (s1 : Bool) (slot : Nat) (why : RemoveCause) : State :=
  (s.removeMember s1 slot why).drainSession slot

/-! ### Append (R156, R157, R160, R161, R167) -/

/-- Channel smoothing of a vector in a layer (R156), by 2^e for a key and 2^−e for a query: the vector, and whether an
element saturated or was flushed. -/
def Model.smooth (m : Model) (layer : Nat) (query : Bool) (x : List Nat) : List Nat × Bool :=
  let r := (x.zipIdx).map fun p =>
    let e := signed 8 (m.smoothExp.getD (layer * m.headDim + p.2) 0)
    smooth32 p.1 (if query then -e else e)
  (r.map (·.1), r.any (·.2))

/-- The writes that store K and V of head `h` at slot `j` of the page at `u` (R160, R161), and whether a non-finite
element was replaced. -/
def Model.slotWrites (m : Model) (u h j : Nat) (k v : List Nat) : List (Nat × List Byte) × Bool :=
  let (kb, ks, b1) := kvStore m.kvFormat k
  let (vb, vs, b2) := kvStore m.kvFormat v
  let place := m.vectorAt h j
  let values := [(u + place, kb), (u + m.vPlane + place, vb)]
  (if m.kvFormat = 3 then values else values ++ [(scaleKey u ((j * m.groupHeads + h) * 4), leBytes 4 (ks + vs * 65536))],
   b1 || b2)

/-- The page that a member's write to a page of its map lands in (R132, R133): the copy, made now where the page is
shared and a copy is reserved. -/
def State.copyOnWrite (s : State) (s1 : Bool) (slot lg u : Nat) (md : Model) : Nat × State :=
  if s.refCount u ≤ 1 then (u, s)
  else match (s.member s1 slot).bind fun m => m.cows.find? fun w => w.layerGroup == lg && w.original == u && !w.made with
    | none => (u, s)
    | some w =>
      let s := (s.copyPage u w.copy).remapPage slot lg u w.copy md
      (w.copy, s.updMember s1 slot fun m =>
        { m with cows := m.cows.map fun c => if c.copy = w.copy then { c with made := true } else c })

/-- Write K and V of all heads of a group at one position (R167). -/
def State.appendPosition (s : State) (s1 : Bool) (slot lg pos : Nat) (md : Model) (kv : List (List Nat × List Nat)) : State :=
  match ((s.sess slot).cur.lg lg).page (pos / md.pageTokens) with
  | none => s
  | some u0 =>
    let (u, s) := s.copyOnWrite s1 slot lg u0 md
    let n := (s.entry slot).homeSd
    let put := fun (s : State) (p : (List Nat × List Nat) × Nat) =>
      let (ws, bad) := md.slotWrites u p.2 (pos % md.pageTokens) p.1.1 p.1.2
      (ws.foldl (fun s w => s.writePage u w.1 w.2 slot) s).flagIf bad fNonfinite n
    (kv.zipIdx.foldl put s).addRegFld 0x07 n 0x10 31 0 1

/-- Input positions of a member. -/
def Member.inputs (m : Member) (x : Session) : Nat := if m.decode then 1 + m.drafts else m.carried + bit x.cur.openToken.isSome

/-- The first input position of a member: KV length, past the tokens that a prefix match has taken. -/
def Member.start (m : Member) (x : Session) : Nat := x.cur.kvLen + m.matched

/-- A push session sends the pages of a layer that its S1 chunk wrote (R303). -/
def State.pushLayer (s : State) (slot lg first last : Nat) (md : Model) : State :=
  match aget s.migrations slot with
  | none => s
  | some g =>
    if g.phase != .push then s
    else
      let e := s.entry slot
      let us := ((s.sess slot).cur.lg lg).usas
      let ks := (List.range (last / md.pageTokens + 1)).filter fun k => first / md.pageTokens ≤ k
      let send := fun (s : State) (k : Nat) =>
        match us[k]? with
        | none => s
        | some u =>
          let bytes := memRead s.mem u (pageSize md.kvPageClass) ++ memRead s.mem (scaleKey u 0) md.scaleBytes
          s.send g.dest (sdDie (tableSd slot)) 4 (sdDie e.homeSd) 0 0x40
            [(24, 8, e.handle), (32, 2, lg / md.groups), (34, 2, lg % md.groups), (36, 4, k)] bytes []
      let s := ks.foldl send s
      { s with migrations := aset s.migrations slot { g with sent := g.sent + ks.length } }

/-- Append one local layer-group of a layer for a member. -/
def State.appendGroup (s : State) (s1 : Bool) (slot lg start : Nat) (md : Model) (kv : List (List (List Nat × List Nat))) :
    State :=
  let h0 := lg % md.groups * md.groupHeads
  let s := kv.zipIdx.foldl (fun s p => s.appendPosition s1 slot lg (start + p.2) md ((p.1.drop h0).take md.groupHeads)) s
  let s := s.updMember s1 slot fun m => { m with appended := aset m.appended lg kv.length }
  if s1 then s.pushLayer slot lg start (start + kv.length - 1) md else s

/-- KV_APPEND: K and V of every input position of a member in a layer, by position and KV head, as the cluster has
rotated them (R154, R155); K is smoothed, both are quantised and written. -/
def State.kvAppend (s : State) (s1 : Bool) (slot layer : Nat) (kv : List (List (List Nat × List Nat))) : State :=
  match s.member s1 slot, s.modelOf slot with
  | some m, some md =>
    let x := s.sess slot
    let smooth := kv.map fun p => p.map fun q => (md.smooth layer false q.1, q.2)
    let sat := smooth.any fun p => p.any fun q => q.1.2
    let kv := smooth.map fun p => p.map fun q => (q.1.1, q.2)
    let groups := (List.range md.groups).map fun g => layer * md.groups + g
    let s := s.flagIf sat fSmoothSat x.cur.entry.homeSd
    (groups.filter fun lg => (md.remoteOf lg).isNone).foldl
      (fun s lg => s.appendGroup s1 slot lg (m.start x) md (kv.take (m.inputs x))) s
  | _, _ => s

/-- KV_APPEND (R167). -/
def execKvAppend (s1 : Bool) (slot layer : Nat) (kv : List (List (List Nat × List Nat))) (t : Nat) (s : State) :
    Host.Outcome State Fault Refusal :=
  .next ((s.stamp t).kvAppend s1 slot layer kv)

/-! ### Spans (R168 to R172, R180) -/

/-- The tokens of a span. -/
def Model.spanTokens (m : Model) : Nat := m.spanPages * m.pageTokens

/-- The first and last position of span `k` that is visible to some of the queries at positions `start` to
`start + n − 1` of a layer-group (R170); `none` where the span is skipped (R171). -/
def Model.spanRange (m : Model) (lg k start n : Nat) : Option (Nat × Nat) :=
  let w := m.window.getD (lg / m.groups) 0
  let a := k * m.spanTokens
  let lo := if w = 0 then a else max a (start + 1 - w)
  let hi := min (a + m.spanTokens - 1) (start + n - 1)
  if hi < lo ∨ n = 0 then none else some (lo, hi)

/-- A key is visible to the query at position t (R170). -/
def Model.visible (m : Model) (lg t j : Nat) : Bool :=
  let w := m.window.getD (lg / m.groups) 0
  j ≤ t && (w == 0 || t < j + w)

/-- The spans of a layer-group with positions up to `len`. -/
def Model.spanCount (m : Model) (len : Nat) : Nat := ceilDiv len m.spanTokens

/-- Pages of a span. -/
def Model.spanUsas (m : Model) (us : List Nat) (k : Nat) : List Nat := (us.drop (k * m.spanPages)).take m.spanPages

/-- K and V of head `h` at slot `j` of a page as attention reads them (R158, R161, R172). -/
def Model.readSlot (m : Model) (mem : List Host.Cell) (u h j : Nat) : KvSlot :=
  let n := m.headDim * kvBits m.kvFormat / 8
  let kb := memRead mem (u + m.vectorAt h j) n
  let vb := memRead mem (u + m.vPlane + m.vectorAt h j) n
  let sc := leAt (memRead mem (scaleKey u ((j * m.groupHeads + h) * 4)) 4) 0 4
  { k := (List.range m.headDim).map (kvElem m.kvFormat kb)
    ks := if m.kvFormat = 3 then Val.one else fmtBF16.decode (sc % 65536)
    v := (List.range m.headDim).map (kvElem m.kvFormat vb)
    vs := if m.kvFormat = 3 then ⟨Val.one, 1⟩ else scalarOpd fmtBF16 (sc / 65536) }

/-- The partials of a span for every query row (R172): positions ascending, query heads ascending. -/
def Model.spanRows (m : Model) (mem : List Host.Cell) (us : List Nat) (lg k start : Nat) (queries : List (List (List Nat))) :
    List Partial :=
  match m.spanRange lg k start queries.length with
  | none => queries.flatMap fun q => q.map fun _ => Partial.empty m.headDim
  | some (lo, hi) =>
    let per := m.qHeads / m.kvHeads
    queries.zipIdx.flatMap fun qs => qs.1.zipIdx.map fun q =>
      let keys := ((List.range (hi + 1 - lo)).map (lo + ·)).filter fun j => m.visible lg (start + qs.2) j
      spanPartial m.softmaxScale m.headDim q.1 (keys.map fun j =>
        m.readSlot mem (us.getD (j / m.pageTokens) 0) (q.2 / per) (j % m.pageTokens))

/-- Bytes counted for a span that is not skipped (R180). -/
def Model.spanBytes (m : Model) (lg k start n : Nat) : Nat :=
  match m.spanRange lg k start n with
  | none => 0
  | some (lo, hi) => (hi + 1 - lo) * (m.slotBytes + m.slotScaleBytes)

/-- The unit that attends a span of a member, as its ATT instance (R169): the home SD's NSA units and streams, or the IOD
with most of the span's lower-tier bytes. -/
def State.spanUnit (s : State) (decode : Bool) (home : Nat) (us : List Nat) : Nat :=
  let ls := us.filterMap s.leaf
  let bytes := fun iod => sumBy (fun l => if l.tier != 0 && (if l.tier == 1 then l.pool else l.pool / 4) == iod then
    pageUse l.sizeClass l.scaleBytes else 0) ls
  if !decode || ls.all fun l => l.tier == 0 then home else if bytes 0 < bytes 1 then 17 else 16

/-- Change the pins of cages. -/
def State.repin (s : State) (ids : List Nat) (f : Nat → Nat) : State :=
  { s with cages := s.cages.map fun (c : Nat × Cage) => if ids.contains c.1 then (c.1, { c.2 with pins := f c.2.pins }) else c }

/-- Dispatch one span: its unit's queue, the reads of its pages (R107, R118), the old copies it pins (R111). -/
def State.dispatchSpan (s : State) (decode : Bool) (home lg k start n : Nat) (us : List Nat) (md : Model) (w : AttnWork) :
    AttnWork × State :=
  if (md.spanRange lg k start n).isNone then (w, s.addRegFld 0x08 home 0x08 63 32 1)
  else
    let pages := md.spanUsas us k
    let unit := s.spanUnit decode home pages
    let s := pages.foldl (fun s u => (s.markRead u).checkHot u) s
    let ids := (s.cages.filter fun c => pages.contains c.2.usa && c.2.c7.isNone).map (·.1)
    let s := s.repin ids (· + 1)
    let s := s.addRegFld 0x08 unit 0x18 15 0 1
    let s := s.markReg 0x08 unit 0x18 31 16 (s.regFld 0x08 unit 0x18 15 0)
    ({ w with units := w.units ++ [(k, unit)], pins := w.pins ++ ids.map fun i => (k, i) }, s)

/-- The request stream of R179: for each position K then V of the group's heads, then its query vectors; FP32. -/
def requestStream (kv : List (List (List Nat × List Nat))) (queries : List (List (List Nat))) : List Byte :=
  (kv.zip queries).flatMap fun p =>
    (p.1.flatMap fun q => q.1.flatMap (leBytes 4)) ++ (p.1.flatMap fun q => q.2.flatMap (leBytes 4))
      ++ p.2.flatMap fun q => q.flatMap (leBytes 4)

/-- A stream cut into parts of 4,096 bytes (R179), at most `n`. -/
def cutParts : Nat → List Byte → List (List Byte)
  | 0, _ => []
  | n + 1, bs => if bs.length ≤ 4096 then [bs] else bs.take 4096 :: cutParts n (bs.drop 4096)

/-- The parts of a stream (R179). -/
def partsOf (bs : List Byte) : List (List Byte) := cutParts (bs.length / 4096 + 1) bs

/-- Send a part train (R179); `oph` is what the opcode's packets share. -/
def State.sendParts (s : State) (pkg dstDie srcDie unit opcode request : Nat) (oph : List (Nat × Nat × Nat)) (bs : List Byte)
    (note : List Nat) : State :=
  let ps := partsOf bs
  ps.zipIdx.foldl (fun s p =>
    s.send pkg dstDie 2 srcDie unit opcode (oph ++ [(38, 2, p.2), (40, 4, request), (44, 2, ps.length)]) p.1 note) s

/-- SPAN_DISPATCH of one layer-group of a member (R169, R177): queries by position and query head, rotated and not yet
smoothed; K and V of the group for a remote one. Nothing is dispatched while an append of the member still waits. -/
def State.spanDispatch (s : State) (s1 : Bool) (slot lg : Nat) (queries : List (List (List Nat)))
    (kv : List (List (List Nat × List Nat))) : State :=
  match s.member s1 slot, s.modelOf slot with
  | some m, some md =>
    let x := s.sess slot
    let e := x.cur.entry
    let layer := lg / md.groups
    let q := queries.map fun p => p.map fun v => md.smooth layer true v
    let sat := q.any fun p => p.any (·.2)
    let qs := q.map fun p => p.map (·.1)
    let start := m.start x
    let n := m.inputs x
    let us := (x.cur.lg lg).usas
    let w : AttnWork :=
      { layerGroup := lg, start := start, queries := qs, spans := md.spanCount (start + n), units := [], pins := []
        next := 0, received := [], folded := qs.flatMap fun p => p.map fun _ => Partial.empty md.headDim, output := none }
    if m.attention.any (fun a => a.layerGroup == lg) || qs.length != n then s
    else match md.remoteOf lg with
      | some pkg =>
        let keys := kv.map fun p => p.map fun c => ((md.smooth layer false c.1).1, c.2)
        let request := s.gallery.request
        let s := s.flagIf sat fSmoothSat e.homeSd
        let s := { s with gallery := { s.gallery with request := (request + 1) % 2 ^ 32 } }
        let s := s.sendParts pkg (sdDie e.homeSd) (m.cluster / 4) 0 0x20 request
          [(24, 8, e.handle), (32, 2, layer), (34, 2, lg % md.groups), (36, 2, n)] (requestStream keys qs)
          [start, e.tenant, e.model]
        s.updMember s1 slot fun m =>
          { m with attention := m.attention ++ [w], remote := m.remote ++ [⟨request, s.now, lg, []⟩] }
      | none =>
        if (aget m.appended lg).isNone || s.heldWrites.any fun h => us.contains h.1 then s
        else
          let s := s.flagIf sat fSmoothSat e.homeSd
          let r := (List.range w.spans).foldl
            (fun (p : AttnWork × State) k => p.2.dispatchSpan m.decode e.homeSd lg k start n us md p.1) (w, s)
          r.2.updMember s1 slot fun m => { m with attention := m.attention ++ [r.1] }
  | _, _ => s

/-- SPAN_DISPATCH (R169). -/
def execSpanDispatch (s1 : Bool) (slot lg : Nat) (queries : List (List (List Nat))) (kv : List (List (List Nat × List Nat)))
    (t : Nat) (s : State) : Host.Outcome State Fault Refusal :=
  .next ((s.stamp t).spanDispatch s1 slot lg queries kv)

/-! ### Folding (R174, R175) -/

/-- Fold the partials that are next in span order, at most `n` spans; spans not dispatched are empty (R171). -/
def AttnWork.fold (w : AttnWork) : Nat → AttnWork
  | 0 => w
  | n + 1 =>
    if w.spans ≤ w.next then w
    else if (aget w.units w.next).isNone then ({ w with next := w.next + 1 }).fold n
    else match aget w.received w.next with
      | none => w
      | some rows =>
        ({ w with next := w.next + 1, received := adel w.received w.next
                  folded := (w.folded.zip rows).map fun (p : Partial × Partial) => p.1.fold p.2 }).fold n

/-- Once every span is folded, the attention output of each row is formed (R175). -/
def AttnWork.finish (w : AttnWork) : AttnWork :=
  if w.spans ≤ w.next ∧ w.output.isNone then { w with output := some (w.folded.map fun p => p.output) } else w

/-- Replace a member's work on a layer-group. -/
def Member.setWork (m : Member) (w : AttnWork) : Member :=
  { m with attention := m.attention.map fun a => if a.layerGroup = w.layerGroup then w else a }

/-- A partial of a span arrives at the home CD (R172 to R175, R180). `bad` is a page of the span whose read met an
uncorrectable error; `unreachable` says that a page's authoritative copy could not be reached: both remove the member
(R84). -/
def State.spanDone (s : State) (s1 : Bool) (slot lg k : Nat) (bad : Option Nat) (unreachable : Bool) : State :=
  match s.member s1 slot, s.modelOf slot with
  | some m, some md =>
    match m.attention.find? fun w => w.layerGroup == lg with
    | none => s
    | some w => match aget w.units k with
      | none => s
      | some unit =>
        if k < w.next || (aget w.received k).isSome then s
        else
          let us := ((s.sess slot).cur.lg lg).usas
          let pages := md.spanUsas us k
          let s := match bad with
            | some u => if pages.contains u then s.poisonPage u else s
            | none => s
          let ids := (w.pins.filter fun p => p.1 == k).map (·.2)
          let s := s.repin ids (· - 1)
          let depth := s.regFld 0x08 unit 0x18 15 0
          let s := s.setRegFld 0x08 unit 0x18 15 0 (depth - 1)
          if pages.any fun u => (s.leaf u).any Leaf.poison then
            (s.setFlag fReadFault unit).loseMember s1 slot .poison
          else if unreachable then (s.setFlag fReadFault unit).loseMember s1 slot .unreachable
          else
            let n := w.queries.length
            let bytes := md.spanBytes lg k w.start n
            let s := (s.addRegFld 0x08 unit 0x08 31 0 1).addRegFld 0x08 unit 0x10 63 0 bytes
            let w := { w with received := aset w.received k (md.spanRows s.mem us lg k w.start w.queries) }
            let w := (w.fold w.spans).finish
            s.updMember s1 slot fun m => { m.setWork w with attnBytes := m.attnBytes + bytes }
  | _, _ => s

/-- SPAN_PARTIAL_DONE (R172). -/
def execSpanPartialDone (s1 : Bool) (slot lg span : Nat) (bad : Option Nat) (unreachable : Bool) (t : Nat) (s : State) :
    Host.Outcome State Fault Refusal :=
  .next ((s.stamp t).spanDone s1 slot lg span bad unreachable)

/-! ### Remote layer-groups (R177 to R179) -/

/-- Collect a part of a train (R179): a duplicate is discarded; the whole stream once all parts are there. -/
def addPart (l : List (Nat × List Byte)) (part : Nat) (bs : List Byte) : List (Nat × List Byte) :=
  if (aget l part).isSome then l else aset l part bs

/-- The bytes of a train whose parts are all there. -/
def wholeTrain (l : List (Nat × List Byte)) (parts : Nat) : Option (List Byte) :=
  if l.length = parts then some (l.flatMap (·.2)) else none

/-- `n` vectors of `hd` FP32 codes from byte `off` of a stream. -/
def vectorsAt (hd : Nat) (bs : List Byte) (off n : Nat) : List (List Nat) :=
  (List.range n).map fun i => (List.range hd).map fun d => leAt bs (off + 4 * (i * hd + d)) 4

/-- Make the pages of a shard up to `n` pages of a layer-group, within the tenant's quota here (R177). -/
def State.growShard (s : State) (sd tenant : Nat) (md : Model) : Nat → Option (List Nat × State)
  | 0 => some ([], s)
  | n + 1 =>
    if !s.quotaFits tenant 0 (pageUse md.kvPageClass md.scaleBytes) then none
    else match s.allocPage sd md.kvPageClass md.scaleBytes tenant none with
      | none => none
      | some (u, s) => (s.growShard sd tenant md n).map fun p => (u :: p.1, p.2)

/-- The reply of a holder (R173): the folded state of every row, or a status. -/
def replyRecord (handle layer group spans positions heads status bytes : Nat) (rows : List Partial) : List Byte :=
  leBytes 8 handle ++ leBytes 2 layer ++ leBytes 2 group ++ leBytes 4 0 ++ leBytes 4 spans ++ leBytes 2 positions
    ++ leBytes 2 heads ++ leBytes 2 status ++ leBytes 6 bytes ++ rows.flatMap Partial.bytes

/-- A holder serves a whole request (R177): it appends, attends every span, folds from the empty state and replies. A
shard that cannot grow answers ACCESS_FAULT. -/
def State.serveAttention (s : State) (src handle layer group positions request first : Nat) (c : KvShard) (md : Model)
    (bs : List Byte) : State :=
  let lg := layer * md.groups + group
  let hd := md.headDim
  let gh := md.groupHeads
  let qg := md.groupQueries
  let per := 4 * hd * (2 * gh + qg)
  let kv := (List.range positions).map fun i =>
    (vectorsAt hd bs (per * i) gh).zip (vectorsAt hd bs (per * i + 4 * hd * gh) gh)
  let qs := (List.range positions).map fun i => vectorsAt hd bs (per * i + 8 * hd * gh) qg
  let old := agetD c.pages lg []
  let home := match aget s.gallery.homes handle with
    | some p => p
    | none => src
  let answer := fun (s : State) (status bytes : Nat) (rows : List Partial) =>
    let r := replyRecord handle layer group (md.spanCount (first + positions)) positions qg status bytes rows
    (s.charge c.tenant 10 (partsOf r).length).sendParts home (sdDie c.sd) (sdDie c.sd) 0 0x21 request [] r []
  match s.growShard c.sd c.tenant md (ceilDiv (first + positions) md.pageTokens - old.length) with
  | none => answer s stAccessFault 0 []
  | some (new, s) =>
    let us := old ++ new
    let s := { s with kvShards := aset s.kvShards handle { c with pages := aset c.pages lg us } }
    let put := fun (s : State) (p : (List (List Nat × List Nat)) × Nat) =>
      let pos := first + p.2
      let u := us.getD (pos / md.pageTokens) 0
      (p.1.zipIdx).foldl (fun s q =>
        let (ws, bad) := md.slotWrites u q.2 (pos % md.pageTokens) q.1.1 q.1.2
        (ws.foldl (fun s w => s.writePage u w.1 w.2 0) s).flagIf bad fNonfinite c.sd) s
    let s := kv.zipIdx.foldl put s
    let n := md.spanCount (first + positions)
    if us.any fun u => (s.leaf u).any Leaf.poison then answer s stPoison 0 []
    else
      let empty := qs.flatMap fun p => p.map fun _ => Partial.empty hd
      let rows := (List.range n).foldl
        (fun (acc : List Partial) k => (acc.zip (md.spanRows s.mem us lg k first qs)).map fun p => p.1.fold p.2) empty
      answer s stOk (sumBy (fun k => md.spanBytes lg k first positions) (List.range n)) rows

/-- ATT_REQ (R177, R179): one part of a request; the whole is served. What the layout of R316 does not carry (the first
position, and for a new shard the tenant, the model instance and the SD) comes with it. -/
def execAttReq (h : Head) (handle layer group positions part request parts first tenant model sd : Nat)
    (payload : List Byte) (t : Nat) (s : State) : Host.Outcome State Fault Refusal :=
  if portExists h && sd < 12 then
    .next ((s.stamp t).receive h 0x20 fun s =>
      let key := h.srcPkg * 2 ^ 32 + request
      let set := agetD s.attRequests key { since := s.now, parts := [] }
      let set := { set with parts := addPart set.parts part payload }
      let c := agetD s.kvShards handle { home := h.srcPkg, tenant := tenant, model := model, sd := sd, pages := [] }
      match wholeTrain set.parts parts, aget s.models c.model with
      | some bs, some md =>
        ({ s with attRequests := adel s.attRequests key }).serveAttention h.srcPkg handle layer group positions request
          first c md bs
      | _, _ => { s with attRequests := aset s.attRequests key set })
  else .fault .noSuchUnit

/-- ATT_REQ_PARTS_TIMEOUT (R179): a request whose parts are not all accepted in time is discarded. -/
def execAttReqPartsTimeout (src request t : Nat) (s : State) : Host.Outcome State Fault Refusal :=
  let s := s.stamp t
  let key := src * 2 ^ 32 + request
  .next (if (aget s.attRequests key).any fun p => p.since + s.remoteLimit < s.now then
      { s with attRequests := adel s.attRequests key } else s)

/-- The member that waits for a request, with its stream. -/
def State.waiterOf (s : State) (request : Nat) : Option (Bool × Member × RemoteWait) :=
  let look := fun s1 => ((s.stream s1).run.map StepRun.live).getD [] |>.findSome? fun m =>
    (m.remote.find? fun w => w.request == request).map fun w => (s1, m, w)
  match look false with
  | some r => some r
  | none => look true

/-- A whole ATT_REPLY is the final state of its layer-group (R177); a STATUS other than OK removes the member (R173). -/
def State.takeReply (s : State) (s1 : Bool) (m : Member) (w : RemoteWait) (bs : List Byte) : State :=
  let slot := m.slot
  let status := leAt bs 24 2
  let home := (s.entry slot).homeSd
  if status = stPoison then (s.setFlag fReadFault home).loseMember s1 slot .poison
  else if status ≠ stOk then (s.setFlag fReadFault home).loseMember s1 slot .unreachable
  else match s.modelOf slot with
    | none => s
    | some md =>
      let n := leAt bs 20 2 * leAt bs 22 2
      let rows := (List.range n).map fun i => partialAt md.headDim bs (32 + i * (8 + 4 * md.headDim))
      s.updMember s1 slot fun m =>
        { m with
          attnBytes := m.attnBytes + leAt bs 26 6
          remote := m.remote.filter fun r => r.request != w.request
          attention := m.attention.map fun a => if a.layerGroup = w.key then
            { a with next := a.spans, folded := rows, output := some (rows.map Partial.output) } else a }

/-- ATT_REPLY (R178, R179): a part is accepted up to issue + ATT_REMOTE_TIMEOUT; one that no request waits for any more is
discarded and counted. -/
def execAttReply (h : Head) (part request parts : Nat) (payload : List Byte) (t : Nat) (s : State) :
    Host.Outcome State Fault Refusal :=
  if portExists h then
    .next ((s.stamp t).receive h 0x21 fun s =>
      match s.waiterOf request with
      | none => s.setFlag fLateReply 0
      | some (s1, m, w) =>
        if w.issued + s.remoteLimit < s.now then s.setFlag fLateReply (s.entry m.slot).homeSd
        else
          let w' := { w with parts := addPart w.parts part payload }
          match wholeTrain w'.parts parts with
          | some bs => s.takeReply s1 m w bs
          | none => s.updMember s1 m.slot fun q =>
              { q with remote := q.remote.map fun r => if r.request = request then w' else r })
  else .fault .noSuchUnit

/-- REMOTE_TIMEOUT (R178, R81): no reply to a request of a member has been accepted in time, and the member is removed;
`expert` tells an expert request of that issue stamp from an attention request. -/
def execRemoteTimeout (s1 : Bool) (slot request issued : Nat) (expert : Bool) (t : Nat) (s : State) :
    Host.Outcome State Fault Refusal :=
  let s := s.stamp t
  .next (match s.member s1 slot with
  | none => s
  | some m =>
    let open_ := if expert then !m.experts.contains request else m.remote.any fun w => w.request == request && w.issued == issued
    if open_ && issued + s.remoteLimit < s.now && m.out.isNone then
      (s.setFlag fRemoteTimeout (s.entry slot).homeSd).loseMember s1 slot .unreachable
    else s)

/-! ### Experts (R81) -/

/-- EXPERT_TOKENS (R81): the owning package runs its expert over the tokens, whose outputs the cluster computes by R203
and gives in `output`, and returns them. -/
def execExpertTokens (h : Head) (step layer expert tokens request : Nat) (payload output : List Byte) (t : Nat)
    (s : State) : Host.Outcome State Fault Refusal :=
  if portExists h then
    .next ((s.stamp t).receive h 0x30 fun s =>
      let s := { s with gallery := { s.gallery with inbox := s.gallery.inbox ++ [(h.dstDie, request, payload)] } }
      s.send h.srcPkg h.srcDie 3 h.dstDie 0 0x31
        [(24, 8, step), (32, 2, layer), (34, 2, expert), (36, 2, tokens), (40, 4, request)] output [])
  else .fault .noSuchUnit

/-- EXPERT_REPLY (R81, R178): an expert output comes back for a member; one that is late is discarded and counted. -/
def execExpertReply (h : Head) (s1 : Bool) (slot request issued : Nat) (payload : List Byte) (t : Nat) (s : State) :
    Host.Outcome State Fault Refusal :=
  if portExists h then
    .next ((s.stamp t).receive h 0x31 fun s =>
      if issued + s.remoteLimit < s.now || (s.member s1 slot).isNone then s.setFlag fLateReply ((s.entry slot).homeSd % 12)
      else
        let s := s.updMember s1 slot fun m => { m with experts := m.experts ++ [request] }
        { s with gallery := { s.gallery with inbox := s.gallery.inbox ++ [(h.dstDie, request, payload)] } })
  else .fault .noSuchUnit

/-! ### Split reductions (R197 to R199) -/

/-- A reduction split across packages, before anything has arrived. -/
def SplitSum.start (step : Nat) : SplitSum :=
  { step := step, bounds := [], sources := [], sums := [], partials := [], outputs := [] }

/-- The largest bound known for a token. -/
def SplitSum.raise (r : SplitSum) (i : Nat) (b : Int) : SplitSum :=
  { r with bounds := aset r.bounds i (match aget r.bounds i with
    | some x => max x b
    | none => b) }

/-- ANCHOR (R198): bounds of a peer's slice, by token from `first`; `own` are this package's. -/
def execAnchor (h : Head) (step reduction first : Nat) (bounds own : List Int) (t : Nat) (s : State) :
    Host.Outcome State Fault Refusal :=
  if portExists h then
    .next ((s.stamp t).receive h 0x33 fun s =>
      let r := agetD s.splitSums reduction (SplitSum.start step)
      let r := (bounds.zipIdx ++ own.zipIdx).foldl (fun r p => r.raise (first + p.2) p.1) r
      { s with splitSums := aset s.splitSums reduction r })
  else .fault .noSuchUnit

/-- Add one accumulator image, or one BF16 partial, to an output (R198, R199), and round it once the last peer's is
there: the sum, and whether the output overflowed. -/
def SplitSum.add (r : SplitSum) (i : SplitInfo) (out : Nat) (image : List Byte) : SplitSum × Bool :=
  let own := agetD i.own out []
  let n := agetD r.sources out 0 + 1
  let f := (fpFmt i.format).getD fmtFP32
  let r := { r with sources := aset r.sources out n }
  if i.exact then
    let before := agetD r.sums out (imageAcc own)
    let acc := sumAcc [before, imageAcc image]
    let r := { r with sums := aset r.sums out acc }
    if n < i.peers then (r, false)
    else
      let (code, big) := roundAcc f (i.weightBound + agetD r.bounds i.token 0 + 1) acc (fmtFP32.decode i.scale)
      ({ r with outputs := aset r.outputs out code }, big)
  else
    let parts := agetD r.partials out [leAt own 0 2] ++ [leAt image 0 2]
    let r := { r with partials := aset r.partials out parts }
    if n < i.peers then (r, false)
    else
      let (code, big) := reduce f 1 (parts.map fun c => [scalarOpd fmtBF16 c])
      ({ r with outputs := aset r.outputs out code }, big)

def fOutOverflow : FlagId := ⟨0x09, 0x10, 1⟩

/-- ACC_IMAGES (R197 to R199): a peer's images, or BF16 partials, of the outputs from `first`. -/
def execAccImages (h : Head) (step reduction first : Nat) (images : List (List Byte)) (info : SplitInfo) (t : Nat)
    (s : State) : Host.Outcome State Fault Refusal :=
  if portExists h then
    .next ((s.stamp t).receive h 0x32 fun s =>
      let r0 := agetD s.splitSums reduction (SplitSum.start step)
      let (r, big) := images.zipIdx.foldl (fun (p : SplitSum × Bool) q =>
        let x := p.1.add info (first + q.2) q.1
        (x.1, p.2 || x.2)) (r0, false)
      let s := { s with splitSums := aset s.splitSums reduction r }
      let s := if info.exact then s.addRegFld 0x09 (h.dstDie % 16) 0x20 63 32 images.length else s
      s.flagIf big fOutOverflow (h.dstDie % 16))
  else .fault .noSuchUnit

end Sys2Proof.Machine
end

