-- ==== Sys2Proof/Machine/Codec.lean ====
section
/-! DEFINITION. The state codec (R284 to R288): blocks of 4,096 bytes, sub-streams, streams. -/

namespace Sys2Proof.Machine

/-- Cut a list into pieces of `n` bytes, at most `k` of them. -/
def pieces (n : Nat) : Nat → List Byte → List (List Byte)
  | 0, _ => []
  | k + 1, bs => if bs.isEmpty then [] else bs.take n :: pieces n k (bs.drop n)

/-- Byte k of element n goes to k × N + n (R286). -/
def shuffleBytes (w : Nat) (x : List Byte) : List Byte :=
  let els := pieces w x.length x
  (List.range w).flatMap fun k => els.map fun e => e.getD k 0

/-- The inverse of the shuffle. -/
def unshuffleBytes (w : Nat) (y : List Byte) : List Byte :=
  let n := y.length / w
  let rows := pieces n w y
  (List.range n).flatMap fun i => rows.map fun r => r.getD i 0

/-- A zero-run token (R286): the one-byte form below 129 bytes. -/
def zeroRun (z : Nat) : List Byte := if z < 129 then [BitVec.ofNat 8 (z + 0x7e)] else BitVec.ofNat 8 0xff :: leBytes 2 z

/-- Bytes of the literal that starts a list: up to `n`, up to the first pair of zeros. -/
def literalLen : Nat → List Byte → Nat
  | 0, _ => 0
  | _, [] => 0
  | n + 1, a :: r => if a = 0 ∧ r.head? = some 0 then 0 else 1 + literalLen n r

/-- Zero-run coding, at most `n` tokens (R286). -/
def zrle : Nat → List Byte → List Byte
  | 0, _ => []
  | n + 1, y =>
    if y.isEmpty then []
    else
      let z := (y.takeWhile (· == 0)).length
      if 2 ≤ z then zeroRun z ++ zrle n (y.drop z)
      else
        let k := literalLen 128 y
        BitVec.ofNat 8 (k - 1) :: y.take k ++ zrle n (y.drop k)

/-- Decode zero-run tokens, at most `n`; a token cut short gives `none`. -/
def unzrle : Nat → List Byte → Option (List Byte)
  | 0, bs => if bs.isEmpty then some [] else none
  | _, [] => some []
  | n + 1, c :: r =>
    let v := c.toNat
    if v < 0x80 then
      if r.length < v + 1 then none else (unzrle n (r.drop (v + 1))).map (r.take (v + 1) ++ ·)
    else if v < 0xff then (unzrle n r).map (List.replicate (v - 0x7e) 0 ++ ·)
    else
      let z := leAt r 0 2
      if r.length < 2 ∨ z < 129 ∨ 4096 < z then none else (unzrle n (r.drop 2)).map (List.replicate z 0 ++ ·)

/-- The codings of a block in the order of preference (R285, R287): mode, width code, payload. -/
def blockForms (x : List Byte) : List (Nat × Nat × List Byte) :=
  let zero := if x.all (· == 0) then [(0, 0, [])] else []
  let pat := x.take 8
  let const := if (pieces 8 512 x).all (· == pat) then [(1, 0, pat)] else []
  let z := (List.range 4).filterMap fun k =>
    let p := zrle 4096 (shuffleBytes (2 ^ k) x)
    if p.length < 4096 then some (3, k, p) else none
  zero ++ const ++ [(2, 0, x)] ++ z

/-- The coding of a block (R287): the smallest payload, the lower mode, the lower width. -/
def codeBlock (x : List Byte) : Nat × Nat × List Byte :=
  (minBy (fun f : Nat × Nat × List Byte => f.2.2.length) (blockForms x)).getD (2, 0, x)

/-- A block header (R285). -/
def blockHeader (f : Nat × Nat × List Byte) : List Byte := leBytes 2 (f.1 + 4 * f.2.1) ++ leBytes 2 f.2.2.length

/-- A sub-stream of up to 16 blocks (R285). -/
def subStream (blocks : List (List Byte)) : List Byte :=
  let fs := blocks.map codeBlock
  leBytes 8 fs.length ++ fs.flatMap blockHeader ++ fs.flatMap fun f => f.2.2

/-- Pad to a multiple of 4,096 bytes (R284). -/
def padBlock (bs : List Byte) : List Byte := bs ++ List.replicate ((4096 - bs.length % 4096) % 4096) 0

/-- The blocks of an input. -/
def blocksOf (bs : List Byte) : List (List Byte) := pieces 4096 (bs.length / 4096 + 1) (padBlock bs)

/-- The modes that the encoder takes for an input, counted: ZERO, CONST, RAW, SHUFFLE-ZRLE. -/
def modeCounts (bs : List Byte) : List Nat :=
  let ms := (blocksOf bs).map fun b => (codeBlock b).1
  (List.range 4).map fun k => countBy (· == k) ms

/-- Index entries of sub-streams that start at an offset (R284). -/
def indexOf (off : Nat) : List (List Byte) → List Byte
  | [] => []
  | x :: r => leBytes 8 (off + x.length * 2 ^ 40) ++ indexOf (off + x.length) r

/-- Encode an input (R284). -/
def encodeStream (bs : List Byte) : List Byte :=
  let p := padBlock bs
  let subs := (pieces 65536 (p.length / 65536 + 1) p).map fun c => subStream (blocksOf c)
  leBytes 4 0x4353564f ++ leBytes 2 1 ++ leBytes 2 0 ++ leBytes 8 p.length ++ leBytes 4 subs.length ++ leBytes 12 0
    ++ indexOf (32 + 8 * subs.length) subs ++ subs.flatten

/-- Decode one block (R285, R288). -/
def decodeBlock (mode width : Nat) (pay : List Byte) : Option (List Byte) :=
  if mode = 0 then if pay.isEmpty && width == 0 then some (List.replicate 4096 0) else none
  else if mode = 1 then if pay.length == 8 && width == 0 then some ((List.replicate 512 pay).flatten) else none
  else if mode = 2 then if pay.length == 4096 && width == 0 then some pay else none
  else match unzrle 4096 pay with
    | some y => if y.length == 4096 && 1 ≤ pay.length && pay.length ≤ 4095 then some (unshuffleBytes (2 ^ width) y) else none
    | none => none

/-- Decode the blocks of a sub-stream: their headers, and their payloads. -/
def decodeBlocks : List (List Byte) → List Byte → Option (List Byte)
  | [], bs => if bs.isEmpty then some [] else none
  | h :: hs, bs =>
    let w := leAt h 0 2
    let n := leAt h 2 2
    if 16 ≤ w ∨ bs.length < n then none
    else match decodeBlock (w % 4) (w / 4) (bs.take n), decodeBlocks hs (bs.drop n) with
      | some x, some y => some (x ++ y)
      | _, _ => none

/-- Decode a sub-stream. -/
def decodeSub (bs : List Byte) : Option (List Byte) :=
  let n := leAt bs 0 8
  if bs.length < 8 + 4 * n ∨ n = 0 ∨ 16 < n then none
  else decodeBlocks (pieces 4 n ((bs.drop 8).take (4 * n))) (bs.drop (8 + 4 * n))

/-- Decode sub-streams `i` and up, `n` of them, from their index entries. -/
def decodeSubs (bs : List Byte) : Nat → Nat → Option (List Byte)
  | 0, _ => some []
  | n + 1, i =>
    let e := leAt bs (32 + 8 * i) 8
    let off := e % 2 ^ 40
    let len := e / 2 ^ 40
    if bs.length < off + len then none
    else match decodeSub ((bs.drop off).take len), decodeSubs bs n (i + 1) with
      | some x, some y => some (x ++ y)
      | _, _ => none

/-- Decode a stream; `none` where R288 rejects it. Bytes past its last sub-stream are the padding of the copy. -/
def decodeStream (bs : List Byte) : Option (List Byte) :=
  let size := leAt bs 8 8
  let n := leAt bs 16 4
  if bs.length < 32 ∨ leAt bs 0 4 ≠ 0x4353564f ∨ leAt bs 4 2 ≠ 1 ∨ leAt bs 6 2 ≠ 0 ∨ leAt bs 20 12 ≠ 0 ∨ size % 4096 ≠ 0
      ∨ n ≠ ceilDiv size 65536 ∨ bs.length < 32 + 8 * n then none
  else match decodeSubs bs n 0 with
    | some x => if x.length = size then some x else none
    | none => none

end Sys2Proof.Machine
end

