-- ==== Sys2Proof/Machine/Moves.lean ====
section
/-! DEFINITION. The events of migrations (R291 to R304) and of checkpoint epochs (R338 to R353) at this package. -/

namespace Sys2Proof.Machine

/-! ### Migration messages -/

/-- PREPARE at the destination (R292, R293): the reply says how it went. -/
def State.takePrepare (s : State) (src : Nat) (p : PrepareMsg) : State :=
  let (st, s) := s.prepare src p
  s.sendMig src (tableSd (hSlot p.handle)) .ready p.handle p.moveSeq 0 [st]

/-- A migration at its source ends without a handover, and the commands it held are applied (R47, R296). -/
def State.endMigration (s : State) (slot status : Nat) : State := (s.abortMigration slot status).drainSession slot

/-- COPY ends (R292), or a source page has returned POISON (R296). -/
def State.copyEnds (s : State) (slot die chan sent : Nat) (poison : Bool) : State :=
  if !poison then s.migCopyDone slot die chan sent
  else match aget s.migrations slot with
    | none => s
    | some m => if m.phase = .copy ∨ m.phase = .freeze then (s.sendAbort slot).endMigration slot stPoison else s

/-- ABORTED reaches the source after HANDOVER (R296). -/
def State.migAborted (s : State) (slot : Nat) : State :=
  if (aget s.migrations slot).any fun m => m.phase == .handover then s.endMigration slot stDisabled else s

/-- HANDOVERs that waited for the cut seal go on (R346). -/
def State.afterCut (s : State) : State :=
  let s := (s.migrations.map (·.1)).foldl State.sendHandover s
  (s.incoming.map (·.1)).foldl State.decideHandover s

/-- A CLOSE_NOTE not yet acknowledged is sent again (R299). -/
def State.closeNoteAgain (s : State) (handle : Nat) : State :=
  match aget s.gallery.closeNotes handle with
  | none => s
  | some _ =>
    let s := s.sendMig (hOrigin handle) (tableSd (hSlot handle)) .closeNote handle 0 0 []
    { s with gallery := { s.gallery with closeNotes := aset s.gallery.closeNotes handle s.now } }

/-- A pushed page may be the one that a note or a HANDOVER waits for (R303, R314). -/
def State.pushArrives (s : State) (handle lg index : Nat) (bs : List Byte) : State :=
  ((s.kvPush handle lg index bs).retryNotes handle).decideHandover handle

/-- MIG_COPY_DONE (R292). -/
def execMigCopyDone (slot die chan sent : Nat) (poison : Bool) (t : Nat) (s : State) : Host.Outcome State Fault Refusal :=
  .next ((s.stamp t).copyEnds slot die chan sent poison)

/-- PREPARE (R293). -/
def execPrepare (h : Head) (p : PrepareMsg) (t : Nat) (s : State) : Host.Outcome State Fault Refusal :=
  if !portExists h then .fault .noSuchUnit else .next ((s.stamp t).receive h 0x11 fun s => s.takePrepare h.srcPkg p)

/-- READY (R292). -/
def execReady (h : Head) (slot status t : Nat) (s : State) : Host.Outcome State Fault Refusal :=
  if !portExists h then .fault .noSuchUnit
  else .next ((s.stamp t).receive h 0x11 fun s => (s.migReady slot status).drainSession slot)

/-- HANDOVER (R295): `x` is the session as the transferred state gives it. -/
def execHandover (h : Head) (handle count : Nat) (x : Session) (t : Nat) (s : State) : Host.Outcome State Fault Refusal :=
  if !portExists h then .fault .noSuchUnit else .next ((s.stamp t).receive h 0x11 fun s => s.handover handle count x)

/-- COMMITTED (R292). -/
def execCommitted (h : Head) (slot t : Nat) (s : State) : Host.Outcome State Fault Refusal :=
  if !portExists h then .fault .noSuchUnit else .next ((s.stamp t).receive h 0x11 fun s => s.migCommitted slot)

/-- ABORT_REQ (R295). -/
def execAbortReq (h : Head) (handle seq t : Nat) (s : State) : Host.Outcome State Fault Refusal :=
  if !portExists h then .fault .noSuchUnit
  else .next ((s.stamp t).receive h 0x11 fun s => s.abortReq h.srcPkg handle seq)

/-- ABORTED (R296). -/
def execAborted (h : Head) (slot t : Nat) (s : State) : Host.Outcome State Fault Refusal :=
  if !portExists h then .fault .noSuchUnit else .next ((s.stamp t).receive h 0x11 fun s => s.migAborted slot)

/-- HOME_UPDATE (R298, R300). -/
def execHomeUpdate (h : Head) (handle home seq t : Nat) (s : State) : Host.Outcome State Fault Refusal :=
  if !portExists h then .fault .noSuchUnit
  else .next ((s.stamp t).receive h 0x11 fun s => s.homeUpdate handle home seq)

/-- HOME_UPDATE_ACK (R298). -/
def execHomeUpdateAck (h : Head) (handle t : Nat) (s : State) : Host.Outcome State Fault Refusal :=
  if !portExists h then .fault .noSuchUnit else .next ((s.stamp t).receive h 0x11 fun s => s.homeUpdateAck handle)

/-- CLOSE_NOTE (R299). -/
def execCloseNote (h : Head) (handle t : Nat) (s : State) : Host.Outcome State Fault Refusal :=
  if !portExists h then .fault .noSuchUnit else .next ((s.stamp t).receive h 0x11 fun s => s.closeNote h.srcPkg handle)

/-- CLOSE_NOTE_ACK (R299). -/
def execCloseNoteAck (h : Head) (handle t : Nat) (s : State) : Host.Outcome State Fault Refusal :=
  if !portExists h then .fault .noSuchUnit
  else .next ((s.stamp t).receive h 0x11 fun s =>
    { s with gallery := { s.gallery with closeNotes := adel s.gallery.closeNotes handle } })

/-- CLOSE_NOTE_RETRY (R299). -/
def execCloseNoteRetry (handle t : Nat) (s : State) : Host.Outcome State Fault Refusal :=
  .next ((s.stamp t).closeNoteAgain handle)

/-- SEAL_NOTE (R303). -/
def execSealNote (h : Head) (handle count t : Nat) (s : State) : Host.Outcome State Fault Refusal :=
  if !portExists h then .fault .noSuchUnit else .next ((s.stamp t).receive h 0x11 fun s => s.sealNote handle count)

/-- DROP_NOTE (R303). -/
def execDropNote (h : Head) (handle count t : Nat) (s : State) : Host.Outcome State Fault Refusal :=
  if !portExists h then .fault .noSuchUnit else .next ((s.stamp t).receive h 0x11 fun s => s.dropNote handle count)

/-- KV_PUSH (R303). -/
def execKvPush (h : Head) (handle lg index : Nat) (bytes : List Byte) (t : Nat) (s : State) : Host.Outcome State Fault Refusal :=
  if !portExists h then .fault .noSuchUnit
  else .next ((s.stamp t).receive h 0x40 fun s => s.pushArrives handle lg index bytes)

/-- PHASE_TIMEOUT (R296). -/
def execPhaseTimeout (slot t : Nat) (s : State) : Host.Outcome State Fault Refusal :=
  .next (((s.stamp t).sourceTimeout slot).drainSession slot)

/-- DEST_PHASE_TIMEOUT (R301). -/
def execDestPhaseTimeout (handle t : Nat) (s : State) : Host.Outcome State Fault Refusal :=
  .next ((s.stamp t).destTimeout handle)

/-! ### Checkpoint epochs -/

/-- CKP_CUT (R338 to R340). -/
def execCkpCut (f : Frame) (t : Nat) (s : State) : Host.Outcome State Fault Refusal := .next ((s.stamp t).ckpCut f)

/-- The cut on a package without an S0 stream (R340, R341, R348): at the cut PT, on its own PT. -/
def State.cutAtPt (s : State) : State :=
  match s.checkpoint.run with
  | none => s
  | some r =>
    if s.hasS0 || r.cut.isSome || s.now < r.cutPt then s
    else ((List.range 12).foldl State.cutRecord (s.checkpointCut 0)).cutLedger.afterCut

/-- CKP_CUT_AT_PT (R340). -/
def execCkpCutAtPt (t : Nat) (s : State) : Host.Outcome State Fault Refusal := .next (s.stamp t).cutAtPt

/-- STAGING_COPY_DONE (R344, R345). -/
def execStagingCopyDone (page t : Nat) (s : State) : Host.Outcome State Fault Refusal := .next ((s.stamp t).stagingDone page)

/-- CKP_STORE_WRITE_DONE (R344): a unit that ends `records` page records completes, or fails. -/
def execCkpStoreWriteDone (records : Nat) (ok : Bool) (t : Nat) (s : State) : Host.Outcome State Fault Refusal :=
  .next ((s.stamp t).storeWritten records ok).afterCut

/-- CKP_MANIFEST_DURABLE (R351). -/
def execCkpManifestDurable (t : Nat) (s : State) : Host.Outcome State Fault Refusal := .next (s.stamp t).manifestDurable

/-- STORE_TIMEOUT (R345). -/
def execStoreTimeout (t : Nat) (s : State) : Host.Outcome State Fault Refusal := .next (s.stamp t).storeTimeout.afterCut

/-- CKP_RESTORE_GROUP (R357); `image` is what the store answers for the epoch. -/
def execCkpRestoreGroup (f : Frame) (image : Option EpochImage) (t : Nat) (s : State) : Host.Outcome State Fault Refusal :=
  .next ((s.stamp t).restoreGroup f image)

end Sys2Proof.Machine
end

