-- ==== Sys2Proof/Machine/Hoist.lean ====
section
/-! DEFINITION. Hoist channels (R277 to R283, R224), their remote segments (R315), and the codec's counters. -/

namespace Sys2Proof.Machine

def fAccessRefused : FlagId := ⟨0x0f, 0x30, 0⟩
def fHoistPoison : FlagId := ⟨0x0f, 0x30, 1⟩
def fMalformed : FlagId := ⟨0x10, 0x18, 0⟩

/-! ### Channels -/

/-- The key of a channel: HOI instance of its die (0 to 11 SDs, 16 and 17 IODs) and its number. -/
def chanKey (die chan : Nat) : Nat := die * 64 + chan

/-- Whether a channel exists (R277). -/
def chanExists (die chan : Nat) : Bool := (die < 12 && chan < 32) || ((die == 16 || die == 17) && chan < 16)

/-- A channel. -/
def State.chan (s : State) (die chan : Nat) : Channel := agetD s.channels (chanKey die chan) Channel.reset

/-- Replace a channel. -/
def State.putChan (s : State) (die chan : Nat) (c : Channel) : State :=
  { s with channels := aset s.channels (chanKey die chan) c }

/-- Whether a channel is an urgent one (R277). -/
def State.urgentChan (s : State) (die chan : Nat) : Bool := die < 12 && chan < s.regFld 0x05 0 0x20 12 8

/-- The package die index of a HOI instance (R16). -/
def hoiDie (die : Nat) : Nat := if die < 12 then 16 + die else 28 + (die - 16)

/-- A channel has a descriptor in work. -/
def Channel.busy (c : Channel) : Bool := c.state == 1 || c.state == 2

/-- The segments of a descriptor. -/
def Descriptor.segments (d : Descriptor) : Nat := ceilDiv d.len 4096

/-- The next segment of a channel: its source and destination index (R281, R224). Segments that MARK recorded follow the
others. -/
def Channel.nextSegment (c : Channel) (d : Descriptor) : Option (Nat × Nat) :=
  if d.segments ≤ c.nextSeg then c.marked.head?.map fun i => (i, i)
  else if d.prog = 0 then some (c.nextSeg, c.nextSeg)
  else c.order.head?

/-- A channel of a die has a segment to move. -/
def State.hasWork (s : State) (die chan : Nat) : Bool :=
  let c := s.chan die chan
  c.busy && (c.desc.any fun d => (c.nextSegment d).isSome)

/-- The channel that the copy engine of a die serves next (R281): the lowest-numbered urgent channel with work, else the
next background channel in rotation. -/
def State.chooseChan (s : State) (die : Nat) : Option Nat :=
  let n := if die < 12 then 32 else 16
  let work := (List.range n).filter fun c => s.hasWork die c
  match work.find? fun c => s.urgentChan die c with
  | some c => some c
  | none =>
    let last := agetD s.hoistTurn die (n - 1)
    match work.find? fun c => last < c with
    | some c => some c
    | none => work.head?

/-- The copy engine takes its next segment: the chosen channel runs, the others with work are suspended; a background
channel that an urgent one suspends is counted. -/
def State.schedule (s : State) (die : Nat) : State :=
  match s.chooseChan die with
  | none => s
  | some k =>
    let n := if die < 12 then 32 else 16
    let urgent := s.urgentChan die k
    (List.range n).foldl (fun s c =>
      let ch := s.chan die c
      if !ch.busy then s
      else if c = k then s.putChan die c { ch with state := 1 }
      else
        let s := if ch.state == 1 && urgent && !s.urgentChan die c then s.addRegFld 0x0f die 0x20 31 16 1 else s
        s.putChan die c { ch with state := 2 }) s

/-! ### Ranges (R279, R280) -/

/-- The 4 KiB places of a range. -/
def placesOf (a n : Nat) : List Nat := if n = 0 then [] else (List.range ((a + n - 1) / 4096 + 1 - a / 4096)).map fun i => (a / 4096 + i) * 4096

/-- The lowest forbidden address of a USA range, where it has one. -/
def State.usaFault (s : State) (a n tenant : Nat) : Option Nat :=
  (placesOf a n).findSome? fun p => match s.pageOf (max p a) with
    | some (_, l) => if tenant = 0 ∨ l.tenant = tenant then none else some (max p a)
    | none => some (max p a)

/-- A window of a function that a whole range lies in (R404). -/
def HostFn.windowOf (h : HostFn) (a n : Nat) : Option Nat :=
  (h.windows.find? fun w => w.2.len != 0 && w.2.base ≤ a && a + n ≤ w.2.base + w.2.len).map (·.1)

/-- The first address of a host range that lies in no window of the function. -/
def HostFn.hostFault (h : HostFn) (a n : Nat) : Option Nat :=
  if (h.windowOf a n).isSome then none
  else some ((h.windows.filterMap fun w => if w.2.base ≤ a && a < w.2.base + w.2.len then some (w.2.base + w.2.len) else none).foldl max a)

/-- The lowest forbidden address of a range in a space; remote ranges are checked by their package. -/
def State.rangeFault (s : State) (d : Descriptor) (die space a n : Nat) : Option Nat :=
  if space = 0 then s.usaFault a n d.tenant
  else if space = 1 then (s.fn d.function).hostFault a n
  else if space = 3 then
    let size := ((aget s.drives (die % 2)).map fun x => x.sizeMib * 1048576).getD 0
    if a + n ≤ size then none else some (max a size)
  else none

/-- The pages of a descriptor's USA ranges, and the windows of its host ranges. -/
def State.pinsOf (s : State) (d : Descriptor) : List Nat :=
  let of := fun space a => if space = 0 then ((placesOf a d.len).filterMap fun p => (s.pageOf (max p a)).map (·.1)).dedup else []
  ((if d.op = 3 then [] else of d.srcSpace d.src) ++ of d.dstSpace d.dst).dedup
def State.windowsOf (s : State) (d : Descriptor) : List (Nat × Nat) :=
  let of := fun space a => if space = 1 then (((s.fn d.function).windowOf a d.len).map fun w => (d.function, w)).toList else []
  ((if d.op = 3 then [] else of d.srcSpace d.src) ++ of d.dstSpace d.dst).dedup

/-- Pin pages and windows. -/
def State.pinAll (s : State) (pages : List Nat) (ws : List (Nat × Nat)) : State :=
  let s := pages.foldl (fun s u => s.updLeaf u fun l => { l with pins := l.pins + 1 }) s
  ws.foldl (fun s w =>
    let h := s.fn w.1
    s.putFn w.1 { h with windows := aupd h.windows w.2 fun x => { x with pins := x.pins + 1 } }) s

/-- Release a pin of a page: one that is free but for the pin goes (R95, R280). -/
def State.unpinPage (s : State) (u : Nat) : State :=
  match s.leaf u with
  | none => s
  | some l =>
    let s := s.putLeaf u { l with pins := l.pins - 1 }
    if l.pins ≤ 1 && l.orphan && !l.frozen then s.freePage u else s

/-- Release a pin of a window: a write that it held takes effect (R404). -/
def State.unpinWindow (s : State) (w : Nat × Nat) : State :=
  let h := s.fn w.1
  s.putFn w.1 { h with windows := aupd h.windows w.2 fun x =>
    if x.pins ≤ 1 then
      match x.held with
      | some (b, n) => { base := b, len := n, pins := 0, held := none }
      | none => { x with pins := 0 }
    else { x with pins := x.pins - 1 } }

/-- A channel's descriptor ends with a status (R279 to R283): its pins go. POISON marks the pages written. -/
def State.hoistEnd (s : State) (die chan status addr : Nat) : State :=
  let c := s.chan die chan
  match c.desc with
  | none => s
  | some d =>
    let s := s.putChan die chan { c with
      state := if status = stOk then 3 else 4, status := status, faultAddr := if status = stOk then c.faultAddr else addr
      pins := [], windows := [], marked := [], order := [] }
    let s := c.pins.foldl State.unpinPage s
    let s := c.windows.foldl State.unpinWindow s
    let s := { s with gallery := { s.gallery with unacked := s.gallery.unacked.filter fun q => q.1 / 2 ^ 32 != chanKey die chan } }
    let s :=
      if status = stPoison then
        let hit := if d.dstSpace = 0 && 0 < c.done then ((placesOf d.dst d.len).filterMap fun p => (s.pageOf (max p d.dst)).map (·.1)).dedup else []
        (hit.foldl State.poisonPage s).setFlag fHoistPoison die
      else s.flagIf (status == stAccessFault) fAccessRefused die
    s.schedule die

/-- HOIST_ISSUE (R278 to R280). -/
def State.hoistIssue (s : State) (die chan : Nat) (d : Descriptor) : State :=
  let c := s.chan die chan
  if c.busy then s
  else
    let c := { Channel.reset with desc := some d, state := 2 }
    let s := s.putChan die chan c
    let bad := d.srcSpace > 3 || d.dstSpace > 3 || d.op > 3 || d.len % 64 != 0 || d.len == 0 || d.len > 0xffffffc0 || !d.reservedZero
    if bad then s.hoistEnd die chan stFrameField 0
    else
      let f1 := if d.op = 3 then none else s.rangeFault d die d.srcSpace d.src d.len
      let f2 := s.rangeFault d die d.dstSpace d.dst d.len
      match f1, f2 with
      | none, none =>
        let pages := s.pinsOf d
        let ws := s.windowsOf d
        ((s.pinAll pages ws).putChan die chan { c with pins := pages, windows := ws }).schedule die
      | some a, none => s.hoistEnd die chan stAccessFault a
      | none, some b => s.hoistEnd die chan stAccessFault b
      | some a, some b => s.hoistEnd die chan stAccessFault (min a b)

/-! ### Moving segments (R281, R282, R315) -/

/-- Write bytes at a USA, page by page. -/
def State.writeUsa (s : State) (a : Nat) (bs : List Byte) (slot : Nat) : State :=
  (placesOf a bs.length).foldl (fun s p =>
    let lo := max p a
    match s.pageOf lo with
    | some (u, _) => (s.beforeWrite u).writePage u lo ((bs.drop (lo - a)).take (p + 4096 - lo)) slot
    | none => s) s

/-- Whether a USA range holds poisoned data: the address. -/
def State.poisonIn (s : State) (a n : Nat) : Option Nat :=
  (placesOf a n).findSome? fun p => match s.pageOf (max p a) with
    | some (_, l) => if l.poison then some (max p a) else none
    | none => none

/-- The session on whose behalf a descriptor runs. -/
def State.hoistSlot (s : State) (d : Descriptor) : Nat := (s.findHandle d.handle).getD 0

/-- Send one segment as SEG_DATA, to be acknowledged (R315). -/
def State.sendSegment (s : State) (die chan : Nat) (d : Descriptor) (seg addr : Nat) (bs : List Byte) : State :=
  let before := s.gallery.sending.length
  let s := s.send d.remotePkg d.remoteDie d.tc (hoiDie die) chan 0x50
    [(24, 8, d.tag), (32, 4, seg), (36, 1, chan), (40, 8, addr)] bs [d.dstSpace, d.handle]
  let s := if d.handle = 0 then s else match s.findHandle d.handle with
    | some i => s.charge (s.entry i).tenant 10 1
    | none => s
  match s.gallery.sending[before]? with
  | some p => { s with gallery := { s.gallery with unacked := aset s.gallery.unacked (chanKey die chan * 2 ^ 32 + seg) (p, s.now) } }
  | none => s

/-- Put bytes of a descriptor at a place of its destination. -/
def State.putDest (s : State) (die chan : Nat) (d : Descriptor) (seg addr : Nat) (bs : List Byte) : State :=
  if d.dstSpace = 0 then s.writeUsa addr bs (s.hoistSlot d)
  else if d.dstSpace = 1 then s.emit (.hostWrite d.function addr bs)
  else if d.dstSpace = 2 then s.sendSegment die chan d seg addr bs
  else if d.remotePkg = s.pkg ∨ d.remotePkg = 0 then s.emit (.drain (die % 2) addr bs)
  else s.sendSegment die chan d seg addr bs

/-- Whether a descriptor's segments are acknowledged by another die. -/
def Descriptor.remote (d : Descriptor) (pkg : Nat) : Bool := d.dstSpace == 2 || (d.dstSpace == 3 && d.remotePkg != pkg && d.remotePkg != 0)

/-- A descriptor whose last segment is done ends with OK. -/
def State.hoistCheck (s : State) (die chan : Nat) : State :=
  let c := s.chan die chan
  match c.desc with
  | none => s
  | some d =>
    let open_ := s.gallery.unacked.any fun q => q.1 / 2 ^ 32 == chanKey die chan
    if c.busy && d.segments ≤ c.nextSeg && c.marked.isEmpty && !open_ then s.hoistEnd die chan stOk 0 else s

/-- The codec counts an input it has encoded (COD_IN, COD_OUT, COD_MODES). -/
def State.countCodec (s : State) (die : Nat) (raw coded : List Byte) : State :=
  if 12 ≤ die then s
  else
    let ms := modeCounts raw
    let s := (s.addRegFld 0x10 die 0x00 63 0 (padBlock raw).length).addRegFld 0x10 die 0x08 63 0 coded.length
    (List.range 4).foldl (fun s i => s.addRegFld 0x10 die 0x10 (16 * i + 15) (16 * i) (ms.getD i 0)) s

/-- The last segment of an ENCODE or DECODE is moved: the whole stream is coded or decoded and written (R284, R288). -/
def State.hoistCode (s : State) (die chan : Nat) (d : Descriptor) (input : List Byte) : State :=
  if d.op = 1 then
    let out := encodeStream input
    (s.countCodec die input out).putDest die chan d 0 d.dst out
  else match decodeStream input with
    | some out => s.putDest die chan d 0 d.dst out
    | none => (s.flagIf (die < 12) fMalformed die).hoistEnd die chan stPoison d.src

/-- The bytes of a descriptor's source range from an offset: state memory, or what the host or drive returned. -/
def State.sourceBytes (s : State) (d : Descriptor) (off n : Nat) (given : List Byte) : List Byte :=
  if d.op = 3 then List.replicate n 0 else if d.srcSpace = 0 then memRead s.mem (d.src + off) n else bytesAt given 0 n

/-- HOIST_SEGMENT_DONE (R281 to R283): the segment that the copy engine has chosen is moved. `given` is what a host, drain
or remote read has returned (for a coded copy, the whole source on its last segment); `ok` is false where it returned an
error. -/
def State.segmentDone (s : State) (die chan : Nat) (given : List Byte) (ok : Bool) : State :=
  let c := s.chan die chan
  match c.desc with
  | none => s
  | some d =>
    match c.nextSegment d with
    | none => s
    | some (i, j) =>
      if c.state != 1 then s
      else
        let off := 4096 * i
        let n := min 4096 (d.len - off)
        let bad := if d.op != 3 && d.srcSpace == 0 then s.poisonIn (d.src + off) n else if ok then none else some (d.src + off)
        match bad with
        | some a => s.hoistEnd die chan stPoison a
        | none =>
          let fresh := c.nextSeg < d.segments
          let c' := if fresh then
              { c with nextSeg := c.nextSeg + 1, order := c.order.drop 1, done := if d.remote s.pkg then c.done else c.done + n }
            else { c with marked := c.marked.drop 1 }
          let last := fresh && c'.nextSeg == d.segments
          let s := (s.putChan die chan c').addRegFld 0x0f die 0x20 63 32 1
          let s := if s.urgentChan die chan then s else { s with hoistTurn := aset s.hoistTurn die chan }
          let s :=
            if d.op = 0 ∨ d.op = 3 then s.putDest die chan d j (d.dst + 4096 * j) (s.sourceBytes d off n given)
            else if last then s.hoistCode die chan d (s.sourceBytes d 0 d.len given)
            else s
          let s := s.hoistCheck die chan
          if (d.op = 1 ∨ d.op = 2) ∧ c'.nextSeg % 16 ≠ 0 ∧ !last then s else s.schedule die

/-- HOIST_PROGRAM_RUN (R224): the micro-program gives the segments of the next batch, or faults. -/
def State.hoistProgram (s : State) (die chan : Nat) (segs : List (Nat × Nat)) (fault : Bool) : State :=
  let c := s.chan die chan
  match c.desc with
  | none => s
  | some d =>
    if !c.busy || d.prog == 0 || !c.order.isEmpty then s
    else
      let out := segs.any fun p => d.segments ≤ p.1 || d.segments ≤ p.2
      if fault || out || 64 < segs.length then s.hoistEnd die chan stAccessFault 0
      else (s.putChan die chan { c with order := segs.take (d.segments - c.nextSeg) }).schedule die

/-- HOIST_CHANNEL_RESET (R282): the descriptor ends with DISABLED, and the locks of the channel break (R61). -/
def State.channelReset (s : State) (die chan : Nat) : State :=
  let s := if (s.chan die chan).busy then s.hoistEnd die chan stDisabled 0 else s
  let held := s.slotsWhere fun x => x.cur.entry.holder == .hoist die chan
  held.foldl (fun s i => (((s.breakLock i stDisabled).sendAbort i).abortMigration i stDisabled).drainSession i) s

/-- SEGMENT_RESEND (R315): a segment not acknowledged within RESEND_US goes out again as a new packet. -/
def State.resend (s : State) (die chan seg : Nat) : State :=
  let key := chanKey die chan * 2 ^ 32 + seg
  match aget s.gallery.unacked key with
  | none => s
  | some (p, at_) =>
    if s.now < at_ + s.regFld 0x12 0 0x00 47 32 * 1000 then s
    else { s with gallery := { s.gallery with
      unacked := aset s.gallery.unacked key (p, s.now), sending := s.gallery.sending ++ [{ p with epoch := s.epoch % 2 ^ 16 }] } }

/-- SEG_ACK reaches the channel (R315): the segment is completed, or the remote package has refused it. -/
def State.segAck (s : State) (die chan tag seg status : Nat) : State :=
  let key := chanKey die chan * 2 ^ 32 + seg
  let c := s.chan die chan
  match c.desc, aget s.gallery.unacked key with
  | some d, some _ =>
    if d.tag != tag || !c.busy then s
    else if status != 0 then s.hoistEnd die chan status (d.dst + 4096 * seg)
    else
      let s := { s with gallery := { s.gallery with unacked := adel s.gallery.unacked key } }
      let s := s.putChan die chan { c with done := min d.len (c.done + min 4096 (d.len - 4096 * seg)) }
      s.hoistCheck die chan
  | _, _ => s

/-- SEG_DATA at the receiving die (R279, R314, R315): the bytes are written and acknowledged; a place that is not allowed
is refused. -/
def State.segData (s : State) (h : Head) (tag seg chan addr : Nat) (drain : Bool) (bs : List Byte) : State :=
  let bad := !drain && (s.usaFault addr bs.length 0).isSome
  let s :=
    if bad then s
    else if drain then s.emit (.drain (h.dstDie % 2) addr bs)
    else s.writeUsa addr bs 0
  let page := (s.pageOf addr).map (·.1)
  let owner := s.incoming.find? fun q => q.2.src == h.srcPkg && (page.any fun u => u == q.2.metaUsa || q.2.pages.any fun p => p.2.2 == u)
  let s := match owner with
    | some (k, i) =>
      if bad then s
      else ({ s with incoming := aset s.incoming k { i with accepted := i.accepted + 1, lastMsg := s.now } }).decideHandover k
    | none => s
  let s := if bad then s else { s with gallery := { s.gallery with
    dataCounts := aset s.gallery.dataCounts h.srcPkg (agetD s.gallery.dataCounts h.srcPkg 0 + 1) } }
  s.send h.srcPkg h.srcDie 0 h.dstDie 0xff 0x10
    [(24, 8, tag), (32, 4, seg), (36, 1, chan), (37, 1, if bad then stAccessFault else 0)] [] []

/-! ### The meanings -/

/-- HOIST_ISSUE (R279). -/
def execHoistIssue (die chan : Nat) (d : Descriptor) (t : Nat) (s : State) : Host.Outcome State Fault Refusal :=
  if !chanExists die chan then .fault .noSuchUnit else .next ((s.stamp t).hoistIssue die chan d)

/-- HOIST_SEGMENT_DONE (R281). -/
def execHoistSegmentDone (die chan : Nat) (bytes : List Byte) (ok : Bool) (t : Nat) (s : State) : Host.Outcome State Fault Refusal :=
  if !chanExists die chan then .fault .noSuchUnit else .next ((s.stamp t).segmentDone die chan bytes ok)

/-- HOIST_PROGRAM_RUN (R224). -/
def execHoistProgramRun (die chan : Nat) (segs : List (Nat × Nat)) (fault : Bool) (t : Nat) (s : State) :
    Host.Outcome State Fault Refusal :=
  if !chanExists die chan then .fault .noSuchUnit else .next ((s.stamp t).hoistProgram die chan segs fault)

/-- HOIST_CHANNEL_RESET (R282). -/
def execHoistChannelReset (die chan t : Nat) (s : State) : Host.Outcome State Fault Refusal :=
  if !chanExists die chan then .fault .noSuchUnit else .next ((s.stamp t).channelReset die chan)

/-- SEGMENT_RESEND (R315). -/
def execSegmentResend (die chan seg t : Nat) (s : State) : Host.Outcome State Fault Refusal :=
  if !chanExists die chan then .fault .noSuchUnit else .next ((s.stamp t).resend die chan seg)

/-- SEG_DATA (R315). -/
def execSegData (h : Head) (tag seg chan addr : Nat) (drain : Bool) (payload : List Byte) (t : Nat) (s : State) :
    Host.Outcome State Fault Refusal :=
  if !portExists h then .fault .noSuchUnit
  else .next ((s.stamp t).receive h 0x50 fun s => s.segData h tag seg chan addr drain payload)

/-- SEG_ACK (R315). -/
def execSegAck (h : Head) (die chan tag seg status t : Nat) (s : State) : Host.Outcome State Fault Refusal :=
  if !(portExists h && chanExists die chan) then .fault .noSuchUnit
  else .next ((s.stamp t).receive h 0x10 fun s => s.segAck die chan tag seg status)

end Sys2Proof.Machine
end

