-- ==== Sys2Proof/Machine/Fabric.lean ====
section
/-! DEFINITION. Gallery ports and links (R306 to R309, R326 to R329), routing (R322 to R325), the egress scheduler (R317
to R321), packet counters (R312, R437, R439), Package Time over the fabric (R332, R333), and what is received for the
management units. -/

namespace Sys2Proof.Machine

/-! ### Ports -/

/-- A port. -/
def State.port (s : State) (p : Nat) : GalPort := agetD s.gallery.ports p GalPort.reset

/-- Replace a port. -/
def State.putPort (s : State) (p : Nat) (g : GalPort) : State :=
  { s with gallery := { s.gallery with ports := aset s.gallery.ports p g } }

/-- GAL_PORT_CTL enables a port, its IOD is in service (R485), and no MAP item names it (R461). -/
def State.portEnabled (s : State) (p : Nat) : Bool :=
  bitOf (s.reg (pcs 0x12 (p % 2) 0x70)) p && !s.boot.diesOut.contains (28 + p % 2)
    && !s.boot.defects.any fun d => d.kind == 3 && d.index == p

/-- An EVENT of the fabric (R329): to result queue 0 of GAL_CFG.EVENT_FUNC. -/
def State.galleryEvent (s : State) (code p : Nat) : State :=
  let g := s.port p
  let h := s.fn (s.regFld 0x12 0 0x00 54 48)
  let rq := h.rq 0
  let r : Record := { type := 0x05, status := stOk, opcode := 0, handle := 0, tag := 0, text := []
                      body := recordBody [(32, 1, code), (33, 1, p), (34, 2, g.peerPkg), (36, 8, g.peerSerial), (48, 8, s.now)] }
  let s := s.putFn (s.regFld 0x12 0 0x00 54 48) { h with rqs := aset h.rqs 0 { rq with waiting := rq.waiting ++ [(r, false)] } }
  s.setFlag fMemberChange (p % 2)

/-! ### Routing (R322 to R324) -/

/-- Whether a class is ORDERED (R317, R323): TFQ_WEIGHT.ORDERED, its bits 0 and 1 set. -/
def State.ordered (s : State) (tc : Nat) : Bool := tc < 2 || bitOf (s.regFld 0x13 0 0x00 55 48) tc

/-- Flits of a packet. -/
def Packet.flits (p : Packet) : Nat := flitsOf p.payload.length

/-- The queue of a class at a port. -/
def GalPort.queue (g : GalPort) (tc : Nat) : List Queued := agetD g.queues tc []

/-- The UP ports of a destination's mask, ascending. -/
def State.upPorts (s : State) (dst : Nat) : List Nat :=
  let mask := agetD s.gallery.routes dst 0
  (List.range 16).filter fun p => bitOf mask p && (s.port p).state == .up && (s.port p).draining.isNone && s.portEnabled p

/-- The egress port of a packet (R323): ORDERED, the lowest UP port; ADAPTIVE, of the UP ports with credits for it (of
all, where none has) the one whose queue of the class holds the fewest flits. -/
def State.route (s : State) (p : Packet) : Option Nat :=
  let up := s.upPorts p.dstPkg
  if s.ordered p.tc then up.head?
  else
    let ok := up.filter fun q => p.flits ≤ (s.port q).credits.getD p.tc 0
    minBy (fun q => sumBy (fun x : Queued => x.packet.flits) ((s.port q).queue p.tc)) (if ok.isEmpty then up else ok)

/-- A packet is dropped as ROUTE (R324), counted at an IOD. -/
def State.routeDrop (s : State) (iod : Nat) : State := s.countDrop iod 1

/-! ### Egress queues (R319, R321) -/

/-- The flow queue of a packet in its class. -/
def Packet.flowQueue (p : Packet) : Nat := 256 * p.tc + (p.flow + p.srcPkg) % 256

/-- The cost of a packet of a class (R319). -/
def State.flowCost (s : State) (tc : Nat) : Nat := 2 ^ 24 / max (s.regFld 0x13 0 0x00 (8 * (tc - 2) + 7) (8 * (tc - 2))) 1

/-- A packet arrives at an egress queue (R319, R321). -/
def State.enqueue (s : State) (p : Nat) (x : Packet) : State :=
  let g := s.port p
  let old := g.queue x.tc
  let fq := x.flowQueue
  let idle := !(old.any fun y => y.packet.flowQueue == fq)
  let f := agetD g.finish fq 0
  let f := if tagLower g.vtime f g.vtime then g.vtime else f
  let g := { g with
    queues := aset g.queues x.tc (old ++ [⟨x, s.now⟩])
    finish := if 2 ≤ x.tc && idle then aset g.finish fq ((f + s.flowCost x.tc) % 2 ^ 64) else g.finish
    occHwm := aset g.occHwm x.tc (max (agetD g.occHwm x.tc 0) (old.length + 1)) }
  s.putPort p g

/-- A packet finds its way (R322, R324): to a die of this package, to an egress queue, or it is dropped as ROUTE at the
IOD that looked. -/
def State.dispatch (s : State) (iod : Nat) (x : Packet) : State :=
  if x.dstPkg = s.pkg then s.emit (.onPackage x)
  else match s.route x with
    | none => s.routeDrop iod
    | some p => s.enqueue p x

/-- A port goes down (R308, R309, R328): what its links held is lost, its queued packets are routed again; it trains at
once where it is enabled. -/
def State.portDown (s : State) (p : Nat) : State :=
  let g := s.port p
  let old := g.queues.flatMap fun q => q.2.map Queued.packet
  let was := g.state
  let s := s.putPort p { g with
    state := if s.portEnabled p then .training else .down
    lanes := 0, txSeq := 0, acked := 0, rxSeq := 0, tries := 0, queues := [], missed := 0 }
  let s := s.flagIf (was == .up) fPortDown (p % 2)
  let s := if was = .up ∨ was = .rollCall ∨ was = .fenced then s.galleryEvent 0x21 p else s
  old.foldl (fun s x => s.dispatch (p % 2) x) s

/-! ### Link level (R307, R308, R320) -/

/-- LINK_CONTROL_FLIT at a sender: acknowledgement, credits, and a replay request; one flit replayed 8 times without
acknowledgement takes the port down. -/
def State.linkControl (s : State) (p acked : Nat) (replay : Option Nat) (credits : List Nat) : State :=
  let g := s.port p
  let moved := acked != g.acked
  let g := { g with
    acked := acked, tries := if moved then 0 else g.tries
    credits := (List.range 8).map fun c => g.credits.getD c 0 + credits.getD c 0 }
  match replay with
  | none => s.putPort p g
  | some _ =>
    let g := { g with tries := g.tries + 1 }
    if 8 ≤ g.tries then (s.putPort p g).portDown p else s.putPort p g

/-- An uncorrectable codeword (R308): flits from the first marked one are discarded and a replay is requested. -/
def State.codewordBad (s : State) (p seq : Nat) : State :=
  let g := s.port p
  s.putPort p { g with rxSeq := seq % 2 ^ 32, replays := (g.replays + 1) % 2 ^ 32 }

/-! ### Roll calls (R327 to R329) -/

/-- The bytes of a ROLL_CALL (R327). -/
def State.rollCallBytes (s : State) (p : Nat) : List Byte :=
  let part := s.reg (pcs 0x00 0 0x08) % 2 ^ 16
  let mask := (List.range 16).foldl (fun m i => if s.portEnabled i then m + 2 ^ i else m) 0
  leBytes 2 s.pkg ++ leBytes 1 p ++ leBytes 1 (s.regFld 0x12 0 0x08 17 16) ++ leBytes 4 0 ++ leBytes 8 Config.serial
    ++ leBytes 8 (part + mask * 2 ^ 16) ++ leBytes 8 s.epoch ++ leBytes 48 s.boot.hfHash ++ leBytes 48 0

/-- Send a link-local packet of the management job on a port (R327, R332). -/
def State.sendLink (s : State) (p dst tc opcode : Nat) (oph payload : List Byte) : State :=
  let d := 28 + p % 2
  let key := ((0 * 2 + (agetD s.security.jobs 0 JobSlot.free).txPhase) * 32 + d) * 2 ^ 14 + dst
  let n := agetD s.security.seqs key 0
  let x : Packet :=
    { dstPkg := dst, dstDie := 0, tc := tc, srcPkg := s.pkg, srcDie := d, flow := d * 256 + 0xff, opcode := opcode, job := 0
      phase := (agetD s.security.jobs 0 JobSlot.free).txPhase, seq := n, epoch := s.epoch % 2 ^ 16, hops := 0, oph := oph
      payload := payload, note := [] }
  { s with security := { s.security with seqs := aset s.security.seqs key (n + 1) } }.emit (.packet p x)

/-- Send ROLL_CALL on a port (R327). -/
def State.rollCallSend (s : State) (p : Nat) : State :=
  let g := s.port p
  if g.state = .rollCall ∨ g.state = .up ∨ g.state = .fenced then
    s.sendLink p 0x3fff 7 0x08 (leBytes 24 0) (s.rollCallBytes p)
  else s

/-- Training completes (R309): link sequences and credits start at 0, and the port's first roll call goes out. -/
def State.trained (s : State) (p lanes : Nat) : State :=
  let g := s.port p
  if !s.portEnabled p || !(g.state == .down || g.state == .training) then s
  else (s.putPort p { g with
    state := .rollCall, lanes := lanes % 16, trainings := (g.trainings + 1) % 2 ^ 16, txSeq := 0, acked := 0, rxSeq := 0
    tries := 0, credits := [0, 0, 0, 0, 0, 0, 0, 0], missed := 0, draining := none }).rollCallSend p

/-- A roll call is accepted at a port (R328, R329). -/
def State.rollCall (s : State) (p pkg peerPort pos serial hash epoch : Nat) : State :=
  let g := s.port p
  if !(g.state == .rollCall || g.state == .up || g.state == .fenced) then s
  else
    let named := agetD s.gallery.boardPeers p pkg
    let fence := pkg == s.pkg || (p < 3 && named != pkg)
    let changed := g.peerSerial != 0 && (g.peerPkg != pkg || g.peerSerial != serial || g.peerHash != hash)
    let next := if fence then PortState.fenced else if g.state == .fenced then .fenced else .up
    let s := s.putPort p { g with
      state := next, peerPkg := pkg, peerPort := peerPort, peerPos := pos, peerSerial := serial, peerHash := hash
      hashMatch := hash == s.boot.hfHash, epochMatch := epoch == s.epoch, missed := 0
      upSince := if next = .up ∧ g.state ≠ .up then s.now / 2 ^ 20 % 2 ^ 32 else g.upSince }
    let s := if changed then s.galleryEvent 0x22 p else s
    let s := s.flagIf (g.state == .up && next != .up) fPortDown (p % 2)
    if next = g.state then s else if next = .up then s.galleryEvent 0x20 p else s.galleryEvent 0x23 p

/-! ### The scheduler (R318, R319) -/

/-- Tokens of the strict bucket now (R318): CAP_PCT percent of 1.5625 × 10^9 × 255/256 flits a second. -/
def State.strictTokens (s : State) (g : GalPort) : Nat :=
  min (s.regFld 0x13 0 0x08 31 16 * 409600) (g.tokens + (s.now - g.tokensAt) * s.regFld 0x13 0 0x08 6 0 * 6375)

/-- The head packets of a class's flow queues, with their places: flow queue and packet. -/
def GalPort.heads (g : GalPort) (tc : Nat) (now : Nat) : List (Nat × Queued) :=
  ((g.queue tc).foldl (fun acc x =>
    let q := x.packet.flowQueue
    if acc.any fun y => y.1 == q then acc else acc ++ [(q, x)]) []).filter fun y => y.2.stamp ≤ now

/-- What the port sends at a packet boundary: class, flow queue and packet. A packet starts only with credits for all its
flits (R320). -/
def State.pickEgress (s : State) (p : Nat) : Option (Nat × Queued) :=
  let g := s.port p
  let tokens := s.strictTokens g
  let credit := fun x : Queued => x.packet.flits ≤ g.credits.getD x.packet.tc 0
  let strict := fun tc => match g.queue tc with
    | x :: _ => if x.stamp ≤ s.now && credit x && x.packet.flits * 409600 ≤ tokens then some (x.packet.flowQueue, x) else none
    | [] => none
  match strict 1 with
  | some x => some x
  | none => match strict 0 with
    | some x => some x
    | none =>
      let all := (List.range 6).flatMap fun i => (g.heads (i + 2) s.now).filter fun y => credit y.2
      minBy (fun y => tagKey g.vtime (agetD g.finish y.1 0) * 4096 + y.1) all

/-- The SEQ space of a packet (R312). -/
def seqKey (job phase srcDie dstPkg : Nat) : Nat := ((job * 2 + phase) * 32 + srcDie) * 2 ^ 14 + dstPkg

/-- A key slot becomes EXHAUSTED (R439). -/
def Security.exhaust (c : Security) (slot phase : Nat) : Security :=
  { c with jobs := aupd c.jobs slot fun j =>
      if phase = 0 then { j with p0 := { j.p0 with state := .exhausted } } else { j with p1 := { j.p1 with state := .exhausted } } }

/-- Protection of a packet of this package as it leaves (R312, R437, R439): its key phase and SEQ; `none` where its job
cannot send. -/
def State.protect (s : State) (x : Packet) : Option Packet × State :=
  match s.jobSlotOf x.job with
  | none => (none, s)
  | some (slot, j) =>
    let ph := j.txPhase
    let key := seqKey x.job ph x.srcDie x.dstPkg
    let bare := x.job == 0 && j.p0.state == .empty && j.p1.state == .empty
    if (!bare && (j.key ph).state == .empty) || s.security.spent.contains key then (none, s)
    else
      let n := agetD s.security.seqs key 0
      let s := { s with security := { s.security with seqs := aset s.security.seqs key (n + 1) } }
      let ev := fun (s : State) code => s.deviceEvent code [(34, 2, x.job), (36, 1, ph), (40, 8, n)]
      let s := if n = 2 ^ 48 - 2 ^ 32 then ev (s.setFlag fSeqAlert 0) 0x50 else s
      let s := if n = 2 ^ 48 - 1 then
          let sec := { s.security with spent := key :: s.security.spent }
          ev ({ s with security := sec.exhaust slot ph }.setFlag fKeyExhausted 0) 0x51
        else s
      (some { x with phase := ph, seq := n }, s)

/-- A packet that cannot be protected counts as lost; the descriptor of a hoist segment ends with KEY_EXHAUSTED (R439). -/
def State.unsent (s : State) (x : Packet) : State :=
  if x.opcode = 0x50 then
    let die := if x.srcDie < 28 then x.srcDie - 16 else 16 + (x.srcDie - 28)
    if (s.chan die (x.flow % 256)).busy then s.hoistEnd die (x.flow % 256) stKeyExhausted 0 else s
  else s

/-- The packet chosen at a boundary leaves (R318 to R321, R307): its flow queue's next tag, V, credits, tokens, residence
mark, link sequence. -/
def State.egress (s : State) (p : Nat) : State :=
  match s.pickEgress p with
  | none => s
  | some (fq, x) =>
    let g := s.port p
    if g.state != .up then s
    else
      let tc := x.packet.tc
      let rest := (g.queue tc).erase x
      let n := x.packet.flits
      let f := agetD g.finish fq 0
      let more := rest.any fun y => y.packet.flowQueue == fq
      let g := { g with
        queues := aset g.queues tc rest
        vtime := if tc < 2 then g.vtime else if tagLower g.vtime f g.vtime then g.vtime else f
        finish := if 2 ≤ tc && more then aset g.finish fq ((f + s.flowCost tc) % 2 ^ 64) else g.finish
        credits := g.credits.modify tc fun c => c - n
        tokens := if tc < 2 then s.strictTokens g - n * 409600 else g.tokens
        tokensAt := if tc < 2 then s.now else g.tokensAt
        resHwm := aset g.resHwm tc (max (agetD g.resHwm tc 0) (s.now - x.stamp))
        txSeq := (g.txSeq + n) % 2 ^ 32 }
      if x.packet.srcPkg = s.pkg then
        match s.protect x.packet with
        | (some y, s) => (s.putPort p g).emit (.packet p y)
        | (none, s) => (s.putPort p { g with credits := (s.port p).credits, txSeq := (s.port p).txSeq }).unsent x.packet
      else (s.putPort p g).emit (.packet p x.packet)

/-- A packet of this package, handed over by its unit, reaches the egress island or a die of the package (R322). -/
def State.takeSending (s : State) (i : Nat) : State :=
  match s.gallery.sending[i]? with
  | none => s
  | some x =>
    let s := { s with gallery := { s.gallery with sending := s.gallery.sending.eraseIdx i } }
    s.dispatch (x.srcDie % 2) x

/-- A packet in transit (R324, R325): routed on without authentication, its HOPS raised. -/
def State.transit (s : State) (x : Packet) : State :=
  if x.dstPkg = s.pkg then s
  else if 15 ≤ x.hops then s.routeDrop 0
  else s.dispatch 0 { x with hops := x.hops + 1 }

/-- A transit packet has waited for credit longer than 1,000 µs (R320). -/
def State.transitTimeout (s : State) (p tc : Nat) : State :=
  let g := s.port p
  match (g.queue tc).find? fun x => x.packet.srcPkg != s.pkg && x.stamp + 1000000 < s.now with
  | none => s
  | some x => (s.putPort p { g with queues := aset g.queues tc ((g.queue tc).erase x) }).routeDrop (p % 2)

/-- A read of TFQ_HWM restarts the marks (R321). -/
def State.hwmRead (s : State) (p tc : Nat) : State :=
  let g := s.port p
  s.putPort p { g with occHwm := aset g.occHwm tc (g.queue tc).length, resHwm := aset g.resHwm tc 0 }

/-! ### Package Time over the fabric (R332, R333) -/

/-- The upstream port (R332): the ORDERED choice towards the time root, or the backup root. -/
def State.upstream (s : State) : Option Nat :=
  let id := s.reg (pcs 0x12 0 0x08)
  let root := if bitOf (s.reg (pcs 0x12 0 0x50)) 21 then fld id 61 48 else fld id 45 32
  (s.upPorts root).head?

/-- Send SYNC on the upstream port; the time root sends none. -/
def State.syncSend (s : State) : State :=
  match s.upstream with
  | none => s
  | some p => s.sendLink p (s.port p).peerPkg 1 0x01 (leBytes 8 s.now ++ leBytes 16 0) []

/-- The upstream package answers a SYNC. -/
def State.syncAnswer (s : State) (h : Head) (t1 : Nat) : State :=
  s.sendLink h.port h.srcPkg 1 0x02 (leBytes 8 t1 ++ leBytes 8 s.now ++ leBytes 8 s.now) []

/-- A SYNC_REPLY gives the offset (R332); T4 is now. Before the first step a PT that lags by more than 1 µs steps
forward once (R333); else the rate is adjusted within ±200 ppm by an amount the spec leaves open (log entry 31). -/
def State.syncReply (s : State) (p t1 t2 t3 : Nat) : State :=
  let off : Int := (((t2 : Int) - t1) - ((s.now : Int) - t3)) / 2 + agetD s.gallery.asymmetry p 0
  let near := decide (-5 ≤ off ∧ off ≤ 5)
  let good := if near then s.gallery.syncGood + 1 else 0
  let s := { s with gallery := { s.gallery with syncMissed := 0, syncGood := good } }
  let a := pcs 0x12 0 0x50
  let (d, s) := s.draw
  let rate : Int := (Config.freeValue d % 400001 : Nat) - (200000 : Int)
  let s := s.setReg a (setFld (setFld (setFld (setFld (s.reg a) 15 0 (toMod 16 off)) 19 16 p) 20 20 (bit (8 ≤ good))) 63 32 (toMod 32 rate))
  if !s.gallery.synced && s.s0.step == 0 && s.s1.step == 0 && decide (1000 < off) then
    { s with pt := s.pt + off.toNat, gallery := { s.gallery with synced := true } }
  else s

/-- No SYNC_REPLY for 8 intervals (R333): the rate is held, the backup root is selected. -/
def State.syncLost (s : State) : State :=
  let p := s.upstream.getD 0
  let a := pcs 0x12 0 0x50
  let s := s.setReg a (setFld (setFld (s.reg a) 20 20 0) 21 21 1)
  let s := { s with gallery := { s.gallery with syncMissed := 0, syncGood := 0 } }
  (s.setFlag fSyncLost 0).galleryEvent 0x24 p

/-! ### Messages -/

/-- A group or checkpoint control message (R314): held until its data count is met, then handed to the management
complex, whose firmware acts on it. -/
def State.groupCtl (s : State) (h : Head) (code epoch count : Nat) : State :=
  if agetD s.gallery.dataCounts h.srcPkg 0 < count then
    { s with gallery := { s.gallery with held := s.gallery.held ++ [(2 ^ 64 + h.srcPkg, code + 256 * epoch, count)] } }
  else { s with gallery := { s.gallery with mgmt := s.gallery.mgmt ++ [(0x12, leBytes 1 code ++ leBytes 8 epoch)] } }

/-! ### The meanings -/

/-- CODEWORD_UNCORRECTABLE (R308). -/
def execCodewordUncorrectable (port seq t : Nat) (s : State) : Host.Outcome State Fault Refusal :=
  if 16 ≤ port then .fault .noSuchUnit else .next ((s.stamp t).codewordBad port seq)

/-- LINK_CONTROL_FLIT (R307). -/
def execLinkControlFlit (port acked : Nat) (replay : Option Nat) (credits : List Nat) (t : Nat) (s : State) :
    Host.Outcome State Fault Refusal :=
  if 16 ≤ port then .fault .noSuchUnit else .next ((s.stamp t).linkControl port acked replay credits)

/-- PORT_TRAINED (R309). -/
def execPortTrained (port lanes t : Nat) (s : State) : Host.Outcome State Fault Refusal :=
  if 16 ≤ port then .fault .noSuchUnit else .next ((s.stamp t).trained port lanes)

/-- LANE_LOCK_LOSS (R309). -/
def execLaneLockLoss (port t : Nat) (s : State) : Host.Outcome State Fault Refusal :=
  if 16 ≤ port then .fault .noSuchUnit else .next ((s.stamp t).portDown port)

/-- ROLL_CALL_SEND (R327). -/
def execRollCallSend (port t : Nat) (s : State) : Host.Outcome State Fault Refusal :=
  if 16 ≤ port then .fault .noSuchUnit else .next ((s.stamp t).rollCallSend port)

/-- ROLL_CALL (R328): link-local, whatever package it names. -/
def execRollCall (h : Head) (pkg peerPort pos serial hash epoch t : Nat) (s : State) : Host.Outcome State Fault Refusal :=
  if !portExists h then .fault .noSuchUnit
  else .next ((s.stamp t).receive h 0x08 fun s => s.rollCall h.port pkg peerPort pos serial hash epoch)

/-- ROLL_CALL_MISSED (R328): three in a row. -/
def execRollCallMissed (port t : Nat) (s : State) : Host.Outcome State Fault Refusal :=
  if 16 ≤ port then .fault .noSuchUnit
  else
    let s := s.stamp t
    let g := s.port port
    .next (if g.state = .up ∨ g.state = .rollCall ∨ g.state = .fenced then s.portDown port else s)

/-- SYNC_SEND (R332). -/
def execSyncSend (t : Nat) (s : State) : Host.Outcome State Fault Refusal := .next (s.stamp t).syncSend

/-- SYNC (R332). -/
def execSync (h : Head) (t1 t : Nat) (s : State) : Host.Outcome State Fault Refusal :=
  if !portExists h then .fault .noSuchUnit else .next ((s.stamp t).receive h 0x01 fun s => s.syncAnswer h t1)

/-- SYNC_REPLY (R332). -/
def execSyncReply (h : Head) (t1 t2 t3 t : Nat) (s : State) : Host.Outcome State Fault Refusal :=
  if !portExists h then .fault .noSuchUnit else .next ((s.stamp t).receive h 0x02 fun s => s.syncReply h.port t1 t2 t3)

/-- SYNC_LOST (R333). -/
def execSyncLost (t : Nat) (s : State) : Host.Outcome State Fault Refusal := .next (s.stamp t).syncLost

/-- PACKET_ENQUEUE (R319): the packet at a place of the fabric's list. -/
def execPacketEnqueue (index t : Nat) (s : State) : Host.Outcome State Fault Refusal := .next ((s.stamp t).takeSending index)

/-- EGRESS_SELECT (R318). -/
def execEgressSelect (port t : Nat) (s : State) : Host.Outcome State Fault Refusal :=
  if 16 ≤ port then .fault .noSuchUnit else .next ((s.stamp t).egress port)

/-- PACKET_TRANSIT (R325). -/
def execPacketTransit (p : Packet) (t : Nat) (s : State) : Host.Outcome State Fault Refusal := .next ((s.stamp t).transit p)

/-- TRANSIT_CREDIT_TIMEOUT (R320). -/
def execTransitCreditTimeout (port tc t : Nat) (s : State) : Host.Outcome State Fault Refusal :=
  if 16 ≤ port || 8 ≤ tc then .fault .noSuchUnit else .next ((s.stamp t).transitTimeout port tc)

/-- GROUP_CTL (R314). -/
def execGroupCtl (h : Head) (code epoch count t : Nat) (s : State) : Host.Outcome State Fault Refusal :=
  if !portExists h then .fault .noSuchUnit else .next ((s.stamp t).receive h 0x12 fun s => s.groupCtl h code epoch count)

/-- KERNEL_DATA (R216): written into the destination die's SRAM. -/
def execKernelData (h : Head) (addr : Nat) (payload : List Byte) (t : Nat) (s : State) : Host.Outcome State Fault Refusal :=
  if !portExists h then .fault .noSuchUnit
  else .next ((s.stamp t).receive h 0x37 fun s =>
    { s with gallery := { s.gallery with inbox := s.gallery.inbox ++ [(h.dstDie, addr, payload)] } })

/-- MGMT (R316). -/
def execMgmt (h : Head) (type_ : Nat) (payload : List Byte) (t : Nat) (s : State) : Host.Outcome State Fault Refusal :=
  if !portExists h then .fault .noSuchUnit
  else .next ((s.stamp t).receive h 0x09 fun s =>
    { s with gallery := { s.gallery with mgmt := s.gallery.mgmt ++ [(type_, payload)] } })

/-- TFQ_HWM_READ (R321). -/
def execTfqHwmRead (port tc t : Nat) (s : State) : Host.Outcome State Fault Refusal :=
  if 16 ≤ port || 8 ≤ tc then .fault .noSuchUnit else .next ((s.stamp t).hwmRead port tc)

end Sys2Proof.Machine
end

