-- ==== Sys2Proof/Machine/Sampler.lean ====
section
/-! DEFINITION. The sampler (R249 to R254): penalties, bans, candidates, the Philox draw, speculative acceptance. -/
namespace Sys2Proof.Machine

/-! ### Philox4x32-10 (R252) -/

/-- One round on the counter words under a key. -/
def philoxRound (k0 k1 : Nat) (c : Nat × Nat × Nat × Nat) : Nat × Nat × Nat × Nat :=
  let p0 := 0xd2511f53 * c.1
  let p1 := 0xcd9e8d57 * c.2.2.1
  ((p1 / 2 ^ 32) ^^^ c.2.1 ^^^ k0, p1 % 2 ^ 32, (p0 / 2 ^ 32) ^^^ c.2.2.2 ^^^ k1, p0 % 2 ^ 32)

/-- `n` rounds, the key bumped between rounds. -/
def philoxRounds : Nat → Nat → Nat → Nat × Nat × Nat × Nat → Nat × Nat × Nat × Nat
  | 0, _, _, c => c
  | n + 1, k0, k1, c =>
    philoxRounds n ((k0 + 0x9e3779b9) % 2 ^ 32) ((k1 + 0xbb67ae85) % 2 ^ 32) (philoxRound k0 k1 c)

/-- The random value of the draw for a position under a seed: output word 0. -/
def philoxDraw (seed pos : Nat) : Nat :=
  (philoxRounds 10 (seed % 2 ^ 32) (seed / 2 ^ 32 % 2 ^ 32) (pos % 2 ^ 32, 0, 0, 0)).1

/-! ### Logits and candidates (R245, R250) -/

/-- A candidate: token and logit, an FP32 code. -/
structure Cand where
  token : Nat
  l : Nat
deriving DecidableEq, Repr

/-- NaN becomes −∞, +∞ the largest finite code. -/
def cleanLogit (code : Nat) : Nat :=
  match fmtFP32.decode code with
  | .nan => fp32NegInf
  | .inf false => fmtFP32.limit - 1
  | _ => code

/-- The penalties of a token that occurs `n` times in the window (R250). -/
def penalise (p : Profile) (n l : Nat) : Nat :=
  if n = 0 ∨ l = fp32NegInf then l
  else
    let l := if fp32Lt 0 l then fp32Div l p.repPenalty else fp32Mul l p.repPenalty
    match fmtFP32.decode l, fmtFP32.decode p.presence, fmtFP32.decode p.frequency with
    | .fin m e, .fin pm pe, .fin fm fe =>
      let a := addExact m e (-pm) pe
      let b := addExact a.1 a.2 (-(fm * n)) fe
      rne32 b.1 b.2
    | _, _, _ => l

/-- Whether placing a token now would complete an entry of a BAN list (R245). -/
def bannedHere (lists : List (Nat × SeqList)) (t : TextBlock) (tok : Nat) : Bool :=
  (firstMatch lists 0 (t.genTail ++ [tok]) (t.genCount + 1)).isSome

/-- Insert a candidate by falling logit, behind those of an equal one. -/
def insertCand (c : Cand) : List Cand → List Cand
  | [] => [c]
  | d :: r => if fp32Lt d.l c.l then c :: d :: r else d :: insertCand c r

/-- Candidates by falling logit, equals in their former order: with tokens ascending, ties go to the lower token. -/
def rankCands (l : List Cand) : List Cand := l.foldl (fun acc c => insertCand c acc) []

/-- The candidates of a position: the top_k tokens left after penalties and bans, with the hook's penalties (units of
2^−16) applied; and whether the BAN lists were ignored because they ban every token. -/
def candidates (p : Profile) (lists : List (Nat × SeqList)) (t : TextBlock) (history : List Nat) (logits : List Nat)
    (hook : List Int) : List Cand × Bool :=
  let recent := history.drop (history.length - p.penaltyWindow)
  let all := logits.zipIdx.map fun q =>
    ({ token := q.2, l := penalise p (countBy (fun y => y == q.2) recent) (cleanLogit q.1) } : Cand)
  let kept := all.filter fun c => !bannedHere lists t c.token
  let none_ := kept.isEmpty && !all.isEmpty
  let top := (rankCands (if none_ then all else kept)).take p.topK
  let out :=
    if p.hookId = 0 then top
    else
      let adj := top.zipIdx.map fun q => match fmtFP32.decode q.1.l with
        | .fin m e =>
          let a := addExact m e (-(hook.getD q.2 0)) (-16)
          { q.1 with l := rne32 a.1 a.2 }
        | _ => q.1
      rankCands (sortBy Cand.token adj)
  (out, none_)

/-- A finite, non-negative FP32 code in units of 2^−149. -/
def fp32Units (code : Nat) : Nat :=
  match fmtFP32.decode code with
  | .fin m e => m.toNat * 2 ^ (e + 149).toNat
  | _ => 0

/-- Running sums of a list. -/
def runningSums : Nat → List Nat → List Nat
  | _, [] => []
  | acc, x :: r => (acc + x) :: runningSums (acc + x) r

/-- z = l / temperature, saturating to finite (R250). -/
def temper (t l : Nat) : Nat :=
  if l = fp32NegInf then fmtFP32.sign + fmtFP32.limit - 1
  else
    let z := fp32Div l t
    match fmtFP32.decode z with
    | .inf neg => fmtFP32.limit - 1 + if neg then fmtFP32.sign else 0
    | _ => z

/-- The draw from ranked candidates (R250, R251): the token, and whether the first candidate's logit was −∞. -/
def drawToken (p : Profile) (cs : List Cand) (u : Nat) : Nat × Bool :=
  match cs with
  | [] => (0, true)
  | c0 :: _ =>
    if c0.l = fp32NegInf then (c0.token, true)
    else if fp32Units p.temperature = 0 then (c0.token, false)
    else
      let z0 := temper p.temperature c0.l
      let ws := cs.map fun c => (c.token, fp32Units (expE (fp32Sub (temper p.temperature c.l) z0)))
      let kept := ws.filter fun w => fp32Units p.minP ≤ w.2
      let sums := runningSums 0 (kept.map (·.2))
      let wt := (sums.getLast?).getD 0
      let n := ((indexOf? (fun c => decide (fp32Units p.topP * wt ≤ c * 2 ^ 149)) sums).getD (sums.length - 1)) + 1
      let nucleus := (kept.map (·.1)).zip sums |>.take n
      let total := ((nucleus.getLast?).map (·.2)).getD 0
      match nucleus.find? fun c => decide (u * total < c.2 * 2 ^ 32) with
      | some c => (c.1, false)
      | none => (c0.token, false)

/-! ### Members -/

/-- The tokens of a member that a prefix match has taken or its chunk carries. -/
def Member.promptTokens (m : Member) (x : Session) : List PendingToken := x.pending.take (m.matched + m.carried)

/-- The text block as the step's prompt tokens leave it: a new input starts a new generation (R240). -/
def Member.textBefore (m : Member) (x : Session) : TextBlock :=
  let toks := m.promptTokens x
  let t0 := if toks.any (·.first) then x.cur.text.newGeneration else x.cur.text
  toks.foldl (fun t p => t.remember p.token) t0

/-- Whether a member samples at its seal (R73, R75): not in S1, not while its input is open, not short of the last
pending token. -/
def Member.samples (m : Member) (s1 : Bool) (x : Session) : Bool :=
  !s1 && !x.inputHeld && (m.decode || x.pending.length ≤ m.matched + m.carried)

/-- Every local layer-group has the K and V of the member's inputs, and no remote request is open (R85, R167). -/
def Member.layersDone (m : Member) (md : Model) (n : Nat) : Bool :=
  m.remote.isEmpty && (List.range md.layerGroups).all fun lg => (md.remoteOf lg).isSome || aget m.appended lg == some n

/-- The member's position in COMMITTED_LEN before its first drawn token. -/
def Member.lenBefore (m : Member) (x : Session) : Nat := x.cur.entry.committed + m.matched + m.carried

/-- Run the text block over tokens that stand at the first drawn positions. -/
def runText (v : Vocab) (lists : List (Nat × SeqList)) (maxNew limit : Nat) : TextBlock → Nat → List Nat → TextBlock
  | t, _, [] => t
  | t, len, tok :: r =>
    let forced := t.forced.head? == some tok
    runText v lists maxNew limit ((t.advance v lists tok forced maxNew limit (len + 1)).1.remember tok) (len + 1) r

/-- Verify the drafts (R253, R254): from position `i`, with the text block there; the committed tokens, the drafts
accepted, how the generation ends, the text block, and whether a call text was cut. -/
def acceptDraws (v : Vocab) (lists : List (Nat × SeqList)) (maxNew limit : Nat) :
    TextBlock → Nat → List (Nat × Bool) → List Nat → List Nat × Nat × GenEnd × TextBlock × Bool
  | t, _, [], _ => ([], 0, .none, t, false)
  | t, len, (y, forced) :: ys, drafts =>
    let (t1, ending, cut) := t.advance v lists y forced maxNew limit (len + 1)
    let t1 := t1.remember y
    match ending, drafts with
    | .none, d :: ds =>
      if d = y ∧ ys ≠ [] then
        let r := acceptDraws v lists maxNew limit t1 (len + 1) ys ds
        (y :: r.1, r.2.1 + 1, r.2.2.1, r.2.2.2.1, cut || r.2.2.2.2)
      else ([y], 0, .none, t1, cut)
    | e, _ => ([y], 0, e, t1, cut)

/-- A sampler's counters. -/
def State.sampler (s : State) (cluster : Nat) : SamplerCount := agetD s.samplers cluster ⟨0, 0, 0, 0⟩

/-- The member's outputs once its last position has been drawn. -/
def State.finishDraws (s : State) (slot : Nat) (m : Member) (md : Model) (p : Profile) : State :=
  let x := s.sess slot
  let lists := s.listsOf x.cur.entry
  let (toks, acc, ending, text, cut) :=
    acceptDraws md.vocab lists p.maxNew md.contextLimit (m.textBefore x) (m.lenBefore x) m.draws m.draftTokens
  let out : MemberOut := { tokens := toks, accepted := acc, ending := ending, text := text, call := text.call.take 8192 }
  let c := s.sampler m.cluster
  let s := { s with samplers := aset s.samplers m.cluster { c with proposed := (c.proposed + m.drafts) % 2 ^ 32 } }
  (s.flagIf cut fCallTrunc x.cur.entry.homeSd).updMember false slot fun q => { q with out := some out }

/-- SAMPLER_DRAW of position `i` of a member (R250, R253): the logits of every token, the drafts that the draft head has
proposed, the hook's penalties. Positions are drawn in order. -/
def State.samplerDraw (s : State) (slot i : Nat) (logits drafts : List Nat) (hook : List Int) : State :=
  match s.member false slot, s.modelOf slot with
  | some m, some md =>
    let x := s.sess slot
    let e := x.cur.entry
    match aget s.profiles e.profile with
    | none => s
    | some p =>
      if !m.samples false x || m.draws.length != i || m.drafts < i || !m.layersDone md (m.inputs x) then s
      else
        let drafts := if i = 0 then drafts.take m.drafts else m.draftTokens
        let lists := s.listsOf e
        let t := runText md.vocab lists p.maxNew md.contextLimit (m.textBefore x) (m.lenBefore x) (drafts.take i)
        let (cs, all) := candidates p lists t t.history logits hook
        let pos := m.start x + (if m.decode then 1 else m.inputs x) + i
        let (y, noMass) := drawToken p cs (philoxDraw e.seed pos)
        let die := m.cluster / 4
        let (tok, forced) := match t.forced.head? with
          | some f => (f, true)
          | none => (y, false)
        let s := (s.flagIf all fBanAll die).flagIf (noMass && !forced) fNoMass die
        let c := s.sampler m.cluster
        let c : SamplerCount := { c with drawn := (c.drawn + 1) % 2 ^ 32, forced := (c.forced + bit forced) % 2 ^ 32 }
        let s := { s with samplers := aset s.samplers m.cluster c }
        let m' := { m with draftTokens := drafts, draws := m.draws ++ [(tok, forced)] }
        let s := s.updMember false slot fun _ => m'
        if i = m.drafts then s.finishDraws slot m' md p else s
  | _, _ => s

/-- SAMPLER_DRAW (R250). -/
def execSamplerDraw (slot i : Nat) (logits drafts : List Nat) (hook : List Int) (t : Nat) (s : State) :
    Host.Outcome State Fault Refusal :=
  .next ((s.stamp t).samplerDraw slot i logits drafts hook)

end Sys2Proof.Machine
end

