-- ==== Sys2Proof/Machine/Seal.lean ====
section
/-! DEFINITION. The seal of a step at its table SDs, its outcome at the ledger (R87 to R92, R491, R493, R494), abandonment,
and the 1 ms accounting tick (R150, R491, R496). -/

namespace Sys2Proof.Machine

/-! ### The ledger -/

/-- A tenant with one counter raised (R492: 96 bits). -/
def Tenant.count (t : Tenant) (i n : Nat) : Tenant := { t with counters := t.counters.modify i fun c => (c + n) % 2 ^ 96 }

/-- A tenant with its charges stamped at or before an instant posted (R491). -/
def Tenant.post (t : Tenant) (upTo now : Nat) : Tenant :=
  let due := t.charges.filter fun c => c.2.2 ≤ upTo
  { due.foldl (fun t c => t.count c.1 c.2.1) t with charges := t.charges.filter fun c => upTo < c.2.2, snapPt := now }

/-- Post the charges of every tenant stamped at or before an instant. -/
def State.postCharges (s : State) (upTo : Nat) : State :=
  { s with tenants := s.tenants.map fun p => (p.1, p.2.post upTo s.now) }

/-- Count for a tenant now. -/
def State.countFor (s : State) (t i n : Nat) : State := if n = 0 then s else s.putTenant t ((s.tenant t).count i n)

/-- The package energy since the last mark (R493), and the state with the mark moved. -/
def State.takeEnergy (s : State) : Nat × State :=
  (s.power.energyMj - s.power.energyMark, { s with power := { s.power with energyMark := s.power.energyMj } })

/-- Members that a seal has committed. -/
def StepRun.committed (r : StepRun) : List Member := r.members.filter fun m => m.applied && !m.cancelled

/-- Tokens that a member has drawn. -/
def Member.drawn (m : Member) : Nat := (m.out.map fun o => o.tokens.length).getD 0

/-- The energy of a sealed step is split among the tenants (R493). -/
def State.splitEnergy (s : State) (r : StepRun) : State :=
  let ms := r.committed
  let a := s.regFld 0x1c 0 0x40 6 0
  let alpha := if sumBy Member.attnBytes ms = 0 then 100 else a
  let ss := ms.length
  let bs := sumBy Member.attnBytes ms
  let share := fun t =>
    let st := countBy (fun m => m.tenant == t) ms
    let bt := sumBy Member.attnBytes (ms.filter fun m => m.tenant == t)
    if ss = 0 then 0
    else if bs = 0 then r.energy * st / ss
    else r.energy * (alpha * st * bs + (100 - alpha) * bt * ss) / (100 * ss * bs)
  let ts := (ms.map Member.tenant).dedup
  let s := ts.foldl (fun s t => s.countFor t 15 (share t)) s
  s.countFor 0 15 (r.energy - sumBy share ts)

/-! ### Step records (R92) -/

/-- The bytes of a step record. -/
def StepRecord.bytes (r : StepRecord) : List Byte :=
  leBytes 8 r.step ++ leBytes 8 r.startPt ++ leBytes 8 r.sealPt ++ leBytes 4 r.members ++ leBytes 4 r.removed
    ++ leBytes 4 r.decodeTokens ++ leBytes 4 r.prefillTokens ++ leBytes 4 r.proposed ++ leBytes 4 r.accepted
    ++ leBytes 4 r.cancelled ++ leBytes 2 r.budgetUsed ++ leBytes 1 r.flags ++ leBytes 1 r.suspensions
    ++ leBytes 4 r.energy ++ leBytes 4 0

/-- The record of a step as far as it has come: its token counts are those of the seals applied. -/
def StepRun.record (r : StepRun) (s1 abandoned : Bool) (pt : Nat) : StepRecord :=
  let ms := r.committed
  let cs := r.members.filter fun m => m.cancelled
  { step := r.number, startPt := r.startPt, sealPt := pt, members := r.members.length
    removed := if abandoned then 0 else countBy Member.removed r.members
    decodeTokens := sumBy Member.drawn ms, prefillTokens := sumBy Member.carried ms, proposed := sumBy Member.drafts ms
    accepted := sumBy (fun m => (m.out.map MemberOut.accepted).getD 0) ms
    cancelled := sumBy (fun m => m.carried + m.drawn) cs, budgetUsed := r.budgetUsed
    flags := bit s1 + 2 * bit (r.suspensions != 0) + 4 * bit abandoned + 8 * bit r.commitAtSeal
    suspensions := r.suspensions, energy := r.energy }

/-- STP_REC of a stream. -/
def recReg (s1 : Bool) : Nat := pcs 0x03 0 (if s1 then 0x68 else 0x60)

/-- Write a record at an index of a stream's ring (R92): in the ring's page, where it has one. -/
def State.putStepRecord (s : State) (s1 : Bool) (index : Nat) (r : StepRecord) : State :=
  let cfg := s.reg (recReg s1)
  let base := fld cfg 47 0
  let i := index % 2 ^ fld cfg 52 48
  if base = 0 then s
  else
    let x := s.stream s1
    let s := s.putStream s1 { x with records := aset x.records i r }
    match s.pageOf (base + 64 * i) with
    | some _ => { s with mem := memWrite s.mem (base + 64 * i) r.bytes }
    | none => s

/-- A new record takes the next index (STP_REC_HEAD). -/
def State.newStepRecord (s : State) (s1 : Bool) (r : StepRecord) : State :=
  let x := s.stream s1
  if fld (s.reg (recReg s1)) 47 0 = 0 then s
  else
    let s := s.putStepRecord s1 x.head r
    s.putStream s1 { s.stream s1 with head := (x.head + 1) % 2 ^ 32 }

/-! ### Waiting cancels, and entering WAITING -/

/-- A SESSION_CANCEL that waits with a stamp lower than the seal's (R91). -/
def Session.cancelBefore (x : Session) (t : Nat) : Bool := x.waiting.any fun w => w.frame.opcode == 0x0107 && w.stamp < t

/-- A session of a tenant over its quota is parked as by PARK with TARGET 0 when it enters WAITING (R498). -/
def State.parkOver (s : State) (slot : Nat) : State :=
  let x := s.sess slot
  if (s.tenant x.cur.entry.tenant).overQuota && x.cur.entry.state == .waiting then
    let s := s.putSess slot { x with parkRequest := true }
    s.putSd x.cur.entry.homeSd { s.sd x.cur.entry.homeSd with policyPending := true }
  else s

/-- The reservation of a member ends at its seal: `n` tokens are charged (R494, R495). -/
def State.settleMember (s : State) (m : Member) (n : Nat) : State :=
  let s := s.releaseMember m n
  let t := s.tenant m.tenant
  s.putTenant m.tenant { t with tokensUsed := min (t.tokensUsed + n) (2 ^ 64 - 1) }

/-- Reserved outbox entries that a step did not use return to the pool (R63). -/
def State.returnReserved (s : State) (slot : Nat) : State :=
  let x := s.sess slot
  let n := tableSd slot
  let s := s.putSd n { s.sd n with outboxReserved := (s.sd n).outboxReserved - x.reserved }
  (s.putSess slot { x with reserved := 0 }).wakeOutboxes n

/-! ### The seal of one member -/

/-- A cancel stamped before the seal (R91): the outputs are dropped, W' is charged, the session is READY as at its last
seal. -/
def State.sealCancelled (s : State) (s1 : Bool) (m : Member) : State :=
  let s := s.updMember s1 m.slot fun q => { q with applied := true, cancelled := true }
  let s := s.settleMember m (m.carried + m.drawn)
  let s := ((s.rollback m.slot).unlock m.slot).dropPushed m.slot
  s.setState m.slot .ready

/-- Copies that the step made: the writer's reference to each original is dropped (R133). -/
def State.dropOriginals (s : State) (m : Member) : State :=
  (m.cows.filter CowPage.made).foldl (fun s w => s.dropRef w.original (some m.slot)) s

/-- What the seal commits into a session (R78, R87, R239, R240): prompt tokens leave the input, COMMITTED_LEN, the KV
length pointer, the open token, the text block. -/
def State.sealCore (s : State) (s1 : Bool) (step : Nat) (m : Member) (md : Model) : State :=
  let x := s.sess m.slot
  let e := x.cur.entry
  let prompt := m.promptTokens x
  let drawn := (m.out.map MemberOut.tokens).getD []
  let text := (m.out.map MemberOut.text).getD (m.textBefore x)
  let seq := x.cur.openToken.toList ++ prompt.map PendingToken.token ++ drawn
  let committed := e.committed + prompt.length + drawn.length
  let kvLen := committed - bit (!drawn.isEmpty)
  let c : SessionCore := { x.cur with
    entry := { e with committed := committed, lastSeal := step, lastS1 := s1 }
    openToken := drawn.getLast?, kvLen := kvLen, text := text }
  let s := s.putSess m.slot { x with cur := c, pending := x.pending.drop (m.matched + m.carried) }
  s.chainTokens m.slot md (seq.take (kvLen - x.cur.kvLen))

/-- The TEXT record of a seal (R62, R238, R405): the bytes of the committed generated tokens, held bytes first. -/
def State.sealText (s : State) (slot step : Nat) (md : Model) (o : MemberOut) : State :=
  if o.tokens.isEmpty then s
  else
    let x := s.sess slot
    let all := x.cur.text.held ++ o.tokens.flatMap md.vocab.bytesOf
    let (out, held) := releaseText all (o.ending != .none)
    let s := s.putSess slot { x with cur := { x.cur with text := { x.cur.text with held := held } } }
    let s := s.addRegFld 0x0b x.cur.entry.homeSd 0x08 63 32 o.tokens.length
    s.sessionRecord slot 0x01 stOk (recordBody [(32, 8, step), (40, 4, o.tokens.length)]) out

/-- A generation ends with DONE (R64): WAITING/INPUT; the session has completed for its waiters (R57). -/
def State.sealDone (s : State) (slot step reason : Nat) : State :=
  let x := s.sess slot
  let s := s.sessionRecord slot 0x03 stOk (recordBody [(32, 1, reason), (36, 4, x.cur.entry.committed), (40, 8, step)]) []
  let s := s.putSess slot { s.sess slot with peerDone := true }
  (s.setWait slot .input).parkOver slot

/-- A PARK closer has completed (R44, R51, R64, R247): CALL_ID + 1, the deadline, TOOL_CALL; WAITING/TOOL. -/
def State.sealToolCall (s : State) (slot step list index : Nat) (call : List Byte) : State :=
  let x := s.sess slot
  let id := callNext x.cur.entry.callId
  let d := if x.cur.toolTimeout = 0 then 0 else s.now + x.cur.toolTimeout
  let s := s.putEntry slot { x.cur.entry with callId := id }
  let s := s.sessionRecord slot 0x02 stOk
    (recordBody [(32, 4, id), (36, 2, list), (40, 4, index), (48, 8, d), (56, 8, step)]) call
  let s := s.setWait slot .tool
  (if d = 0 then s else s.arm slot .deadline d).parkOver slot

/-- The row of R44 that a seal takes. -/
def State.sealTransition (s : State) (slot step : Nat) (o : Option MemberOut) : State :=
  match o.map MemberOut.ending with
  | some .stop => s.sealDone slot step 0
  | some .tokenLimit => s.sealDone slot step 1
  | some .contextLimit => s.sealDone slot step 2
  | some (.park list index) =>
    if (s.entry slot).callId = 0xffffffff then s.sealDone slot step 3
    else s.sealToolCall slot step list index ((o.map MemberOut.call).getD [])
  | _ => s.setState slot .ready

/-- Where more work remains, the outbox test decides between READY and WAITING/OUTBOX_FULL (R44, R63). -/
def State.sealOutbox (s : State) (slot : Nat) : State :=
  if (s.entry slot).state = .ready ∧ !s.outboxTest slot then (s.setWait slot .outboxFull).parkOver slot else s

/-- SEAL_NOTE of a push (R303), and the migration of a push session that is left with one pending token (R304). -/
def State.sealPush (s : State) (s1 : Bool) (slot : Nat) : State :=
  match aget s.migrations slot with
  | none => s
  | some g =>
    if g.phase != .push || !s1 then s
    else
      let s := s.sendMig g.dest (tableSd slot) .sealNote (s.entry slot).handle g.moveSeq g.sent []
      let x := s.sess slot
      if x.pending.length != 1 || x.cur.entry.state != .ready then s
      else
        let s := { s with migrations := aset s.migrations slot { g with phase := .copy, state := .ready, wait := .none, since := s.now } }
        s.putSess slot { x.withEntry { x.cur.entry with state := .moving } with since := s.now }

/-- A member commits (R87, R88). -/
def State.sealCommitted (s : State) (s1 : Bool) (step : Nat) (m : Member) (md : Model) : State :=
  let s := s.updMember s1 m.slot fun q => { q with applied := true }
  let s := s.sealCore s1 step m md
  let s := (s.dropOriginals m).settleMember m (m.carried + m.drawn)
  let s := ((s.settleMap m.slot).settleText m.slot textBlockPages).recount m.slot
  let s := s.touchMeta m.slot
  let s := match m.out with
    | some o => s.sealText m.slot step md o
    | none => s
  let s := s.sealTransition m.slot step m.out
  let s := (s.returnReserved m.slot).unlock m.slot
  let s := (s.sealOutbox m.slot).sealPush s1 m.slot
  let c := s.sampler m.cluster
  match m.out with
  | some o => { s with samplers := aset s.samplers m.cluster { c with accepted := (c.accepted + o.accepted) % 2 ^ 32 } }
  | none => s

/-- The seal reaches one member (R88, R91): it commits or is dropped; then its values are those of the last seal, a fence
that waited for the seal takes effect (R85), and the commands that waited for the lock are applied (R59). -/
def State.sealMember (s : State) (s1 : Bool) (step : Nat) (m : Member) : State :=
  match s.modelOf m.slot with
  | none => s
  | some md =>
    let s := if (s.sess m.slot).cancelBefore s.now then s.sealCancelled s1 m else s.sealCommitted s1 step m md
    let x := s.sess m.slot
    let s := s.putSess m.slot { x with shadow := x.cur }
    let s := match m.lateFence with
      | some r => (s.endPush m.slot).fenceReport m.slot r
      | none => s
    s.drainSession m.slot

/-- A table SD applies the seal of a step in flight to its members (R88), and records its sessions for a cut (R341). -/
def State.sealApply (s : State) (s1 : Bool) (sd : Nat) : State :=
  match (s.stream s1).run with
  | none => s
  | some r =>
    if r.sealPt.isNone then s
    else
      let ms := r.live.filter fun m => tableSd m.slot == sd
      let s := ms.foldl (fun s m => s.sealMember s1 r.number m) s
      if s1 then s else s.cutRecord sd

/-! ### The outcome (R89) -/

/-- The step charges of one member (R490, R494). -/
def State.chargeMember (s : State) (m : Member) : State :=
  if m.cancelled then s.countFor m.tenant 4 (m.carried + m.drawn)
  else if !m.applied then s
  else
    let s := (s.countFor m.tenant 0 m.carried).countFor m.tenant 1 m.drawn
    let s := (s.countFor m.tenant 2 m.drafts).countFor m.tenant 3 ((m.out.map MemberOut.accepted).getD 0)
    s.countFor m.tenant 5 m.attnBytes

/-- POSTED_S0 or POSTED_S1 of every row (R500). -/
def State.markPosted (s : State) (s1 : Bool) (n : Nat) : State :=
  { s with tenants := s.tenants.map fun p =>
      (p.1, if s1 then { p.2 with posted1 := n, snapPt := s.now } else { p.2 with posted0 := n, snapPt := s.now }) }

/-- A stream is free to form its next step, after the pacing delay where one is imposed (R367). -/
def State.endRun (s : State) (s1 : Bool) : State :=
  let x := s.stream s1
  s.putStream s1 { x with
    run := none, paceUntil := if s.power.pacing then s.now + s.power.pacingUs * 1000 else 0 }

/-- Outcomes of every table SD have reached the active management island (R89, R491): the step is posted, with an S0
step the other charges stamped at or before its seal, and the cut's ledger is taken (R348). -/
def State.stepOutcome (s : State) (s1 : Bool) : State :=
  match (s.stream s1).run with
  | none => s
  | some r =>
    match r.sealPt with
    | none => s
    | some pt =>
      if !r.live.isEmpty then s
      else
        let s := r.members.foldl State.chargeMember s
        let s := s.splitEnergy r
        let s := if s1 then s else s.postCharges pt
        let s := s.markPosted s1 r.number
        let s := s.putStepRecord s1 ((s.stream s1).head - 1) (r.record s1 false pt)
        let s := if s1 then s else s.cutLedger
        s.endRun s1

/-! ### Abandonment (R86) -/

/-- A step in flight without a seal is abandoned: its members roll back to READY, the commands that waited are applied,
the record says so, the energy goes to the device (R493). -/
def State.abandon (s : State) (s1 : Bool) : State :=
  match (s.stream s1).run with
  | none => s
  | some r =>
    if r.sealPt.isSome then s
    else
      let ms := r.live
      let s := ms.foldl (fun s m => s.rollMember s1 m) s
      let (e, s) := s.takeEnergy
      let s := s.countFor 0 15 e
      let s := s.newStepRecord s1 ({ r with energy := e }.record s1 true s.now)
      let s := (s.endRun s1).setFlag fAbandoned 0
      ms.foldl (fun s m => s.drainSession m.slot) s

/-! ### The 1 ms tick (R150, R491, R493, R496) -/

/-- The referencing tenants of a page, and the tenant that takes the remainder (R150). -/
def State.payers (s : State) (page : Nat) (l : Leaf) : List Nat × Nat :=
  match s.refOf page l with
  | some r =>
    if r.count ≤ 1 then (((r.referrers.filterMap id).map fun i => (s.entry i).tenant) ++ (if r.tree then [l.tenant] else []), l.tenant)
    else
      let dom := agetD s.domains r.domain []
      let named := (r.members.zipIdx.filter fun p => p.1 != 0).map fun p =>
        if r.domain ≥ 0x1000 then r.domain - 0x1000 else dom.getD p.2 0
      ((named ++ (if r.tree then [l.tenant] else [])).dedup, l.tenant)
  | none => ([(l.owner.map fun i => (s.entry i).tenant).getD l.tenant], l.tenant)

/-- A page's charge of one tick in one tier. -/
def State.chargePageTier (s : State) (tier use : Nat) (who : List Nat × Nat) : State :=
  let a := use / 128
  let n := max who.1.length 1
  let s := who.1.foldl (fun s t => if t = 0 then s else s.charge t (6 + tier) (a / n)) s
  if who.2 = 0 then s else s.charge who.2 (6 + tier) (a - who.1.length * (a / n))

/-- A page's page-time of one tick, in each tier in which it is counted (R115, R150): a page in a cage counts in both. -/
def State.chargePage (s : State) (p : Nat × Leaf) : State :=
  let (page, l) := p
  if l.tenant = 0 then s
  else
    let who := s.payers page l
    let use := pageUse l.sizeClass l.scaleBytes
    let s := s.chargePageTier l.tier use who
    match s.cages.find? fun c => c.2.usa == page with
    | none => s
    | some (_, c) => s.chargePageTier (if c.c7.isSome then c.oldTier else c.tier) use who

/-- A token bucket gains BUCKET_RATE thousandths (R496). -/
def Tenant.fill (t : Tenant) : Tenant :=
  if t.bucketRate = 0 then t else { t with bucket := min (1000 * t.bucketDepth) (t.bucket + t.bucketRate) }

/-- The 1 ms accounting tick. -/
def State.tick (s : State) : State :=
  let s := s.leaves.foldl State.chargePage s
  let live := s.sessions.filter fun p =>
    p.2.cur.entry.state != .free && p.2.cur.entry.state != .away && p.2.cur.entry.residence != .dormant
  let s := live.foldl (fun s p => s.charge p.2.cur.entry.tenant 9 1) s
  let s := { s with tenants := s.tenants.map fun (p : Nat × Tenant) => (p.1, p.2.fill) }
  let s := if s.models.isEmpty then s.postCharges s.now else s
  if s.s0.run.isNone && s.s1.run.isNone then
    let (e, s) := s.takeEnergy
    s.countFor 0 15 e
  else s

/-! ### The meanings -/

/-- STEP_FORM (R67, R72 to R77). -/
def execStepForm (s1 : Bool) (t : Nat) (s : State) : Host.Outcome State Fault Refusal := .next (((s.stamp t).stepForm s1).endShifts s1)

/-- STEP_PACING_EXPIRE (R367): the next step of the stream may form. -/
def execStepPacingExpire (s1 : Bool) (t : Nat) (s : State) : Host.Outcome State Fault Refusal :=
  let s := s.stamp t
  let x := s.stream s1
  .next (if x.paceUntil ≤ s.now then s.putStream s1 { x with paceUntil := 0 } else s)

/-- S1_SUSPEND (R82, R83) at a layer boundary. -/
def execS1Suspend (layer t : Nat) (s : State) : Host.Outcome State Fault Refusal := .next ((s.stamp t).s1Suspend layer)

/-- S1_RESUME (R82). -/
def execS1Resume (t : Nat) (s : State) : Host.Outcome State Fault Refusal := .next (s.stamp t).s1Resume

/-- A member is removed (R84); one that has produced its outputs is not, and the loss of its home SD or of a tier waits for the seal
(R85). -/
def State.memberRemove (s : State) (s1 : Bool) (slot : Nat) (why : RemoveCause) : State :=
  match s.member s1 slot with
  | none => s
  | some m =>
    if m.out.isSome || ((s.stream s1).run.any fun r => r.sealPt.isSome) then
      match why with
      | .dieLost => s.updMember s1 slot fun q => { q with lateFence := some .dieLost }
      | .tierLost => s.updMember s1 slot fun q => { q with lateFence := some .tierLost }
      | _ => s
    else s.loseMember s1 slot why

/-- MEMBER_REMOVE (R84). -/
def execMemberRemove (s1 : Bool) (slot : Nat) (why : RemoveCause) (t : Nat) (s : State) : Host.Outcome State Fault Refusal :=
  .next ((s.stamp t).memberRemove s1 slot why)

/-- STEP_OUTCOME (R89). -/
def execStepOutcome (s1 : Bool) (t : Nat) (s : State) : Host.Outcome State Fault Refusal :=
  .next ((s.stamp t).stepOutcome s1)

/-- STEP_ABANDON (R86). -/
def execStepAbandon (s1 : Bool) (t : Nat) (s : State) : Host.Outcome State Fault Refusal := .next ((s.stamp t).abandon s1)

/-- TICK_1MS (R150, R491, R493, R496). -/
def execTick1ms (t : Nat) (s : State) : Host.Outcome State Fault Refusal := .next (s.stamp t).tick

end Sys2Proof.Machine
end

