-- ==== Sys2Proof/Machine/Journal.lean ====
section
/-! DEFINITION. The protected dirty set, the drain journal and the drain (R379 to R394), and what a stop of the package
leaves (R539). -/

namespace Sys2Proof.Machine

/-! ### Energy ports: what the limit needs of them (R372, R377, R380) -/

/-- An energy port: 0 on EIDA, 1 on EIDB. -/
def State.eport (s : State) (n : Nat) : EnergyPort := agetD s.energyPorts n EnergyPort.reset

/-- Replace an energy port. -/
def State.putEport (s : State) (n : Nat) (p : EnergyPort) : State := { s with energyPorts := aset s.energyPorts n p }

/-- Fields of EID_CFG. -/
def State.eidCfg (s : State) (n : Nat) : Nat := s.reg (pcs 0x16 n 0)
def cfgProfile (c : Nat) : Nat := fld c 1 0
def cfgCells (c : Nat) : Nat := fld c 6 2
def cfgRating (c : Nat) : Nat := fld c 23 8
def cfgCharge (c : Nat) : Nat := fld c 35 24
def cfgMin (c : Nat) : Nat := fld c 47 36
def cfgEff (c : Nat) : Nat := fld c 55 48

/-- The hottest and the coldest NTC in 0.1 °C. -/
def EnergyPort.hottest (p : EnergyPort) : Int := p.ntcs.foldl max (p.ntcs.headD 0)
def EnergyPort.coldest (p : EnergyPort) : Int := p.ntcs.foldl min (p.ntcs.headD 0)

/-- CHARGE_MV after derating (R372): an EDLC store loses 10 mV per °C above 45 °C. -/
def EnergyPort.chargeMv (p : EnergyPort) (cfg : Nat) : Nat :=
  if cfgProfile cfg = 1 then cfgCharge cfg - (p.hottest - 450).toNat else cfgCharge cfg

/-- Temperature derating is in force (R372). -/
def EnergyPort.derating (p : EnergyPort) (cfg : Nat) : Bool :=
  if cfgProfile cfg = 1 then p.hottest > 450
  else cfgProfile cfg = 2 && (p.coldest < 0 || p.hottest > 500)

/-- Usable energy in J (R372), rounded down (log entry 32). -/
def EnergyPort.usable (p : EnergyPort) (cfg : Nat) : Nat :=
  let vs := 10 * p.storeV
  let vm := cfgCells cfg * cfgMin cfg
  let e := if cfgProfile cfg = 1 then p.rating * (vs ^ 2 - vm ^ 2) * cfgEff cfg / (2 * cfgCells cfg * 100 * 1000000)
    else if cfgProfile cfg = 2 then
      36 * p.rating * p.soc * cfgCells cfg * (p.chargeMv cfg + cfgMin cfg) * cfgEff cfg / 2000000
    else 0
  min e 0x1ffffff

/-- A port counts toward hold-up (R373). -/
def EnergyPort.counts (p : EnergyPort) : Bool := p.phase == .ready && p.healthy

/-! ### The journal's space (R391) -/

/-- The uncompressed payload of a page record: its header of 32 bytes, page and scale block, padded to 64 (R349). -/
def PageRecord.stored (r : PageRecord) : Nat := ceilDiv (32 + r.size) 64 * 64

/-- Space that an entry is reserved: header block, payload padded to 4 KiB, commit block. -/
def JournalEntry.space (e : JournalEntry) : Nat := 8192 + ceilDiv e.raw 4096 * 4096

/-- Journal space that is not free, in bytes. -/
def Power.journalUsed (p : Power) : Nat := sumBy JournalEntry.space p.journal + sumBy (fun w => w.entry.space) p.writes

/-- Free journal space in bytes (PWR_JRNL.FREE_MIB). -/
def Power.journalFree (p : Power) : Nat := p.journalTotal * 2 ^ 20 - p.journalUsed

/-- A live CLASS_D session carries the handle: its entries are kept (R391). -/
def State.journalled (s : State) (h : Nat) : Bool :=
  s.sessions.any fun x =>
    x.2.cur.entry.handle == h && x.2.cur.entry.classD && x.2.cur.entry.state != .free && x.2.cur.entry.state != .away

/-- JSEQ of the newest committed BASE of a session. -/
def Power.newestBase (p : Power) (h : Nat) : Nat :=
  p.journal.foldl (fun b e => if e.handle = h ∧ e.kind = .base ∧ e.committed then max b e.seq else b) 0

/-- Whether an entry is free (R391): older than its session's newest BASE, of a closed session, or of no session and of
an earlier boot. -/
def State.entryFree (s : State) (e : JournalEntry) : Bool :=
  if e.handle = 0 then e.boot != s.power.boot
  else !s.journalled e.handle || e.seq < s.power.newestBase e.handle

/-- The log is reclaimed from its tail. -/
def State.reclaim (s : State) : State :=
  { s with power := { s.power with journal := s.power.journal.dropWhile fun e => s.entryFree e } }

/-! ### The limit and STORE_OK (R380, R381, R382) -/

/-- B_d in MB/s: the lowest of the test write and the last 16 bursts. -/
def Power.drainBw (p : Power) : Nat := p.bursts.foldl min p.testBw

/-- CLASS_DEGRADED in every CLASS_D entry (R43). -/
def State.degradeAll (s : State) (v : Bool) : State :=
  { s with sessions := s.sessions.map fun (p : Nat × Session) =>
      let x := p.2
      let mark := fun (c : SessionCore) => { c with entry := { c.entry with degraded := c.entry.classD && v } }
      (p.1, if x.cur.entry.state = .free then x else { x with cur := mark x.cur, shadow := mark x.shadow }) }

/-- STORE_OK and pressure as the set, the limit and the journal now stand. -/
def State.checkStore (s : State) : State :=
  let p := s.power
  let l := p.limitMib * 2 ^ 20
  let set := s.durableSet
  let ok := p.drainEnabled && set ≤ l && l ≤ p.journalFree && 513 ≤ p.limitMib
  let pct := s.regFld 0x15 0 0x18 47 41
  let press := if p.pressure then decide ((pct - 10) * l < 100 * set) else decide (pct * l < 100 * set)
  let s := { s with power := { p with storeOk := ok, pressure := press } }
  if p.storeOk && !ok then (s.degradeAll true).setFlag fStoreLost 0
  else if !p.storeOk && ok then s.degradeAll false
  else s

/-- E, T and L (R380), and STORE_OK. -/
def State.recompute (s : State) : State :=
  let s := [0, 1].foldl (fun s n =>
    let p := s.eport n
    if (aget s.energyPorts n).isSome then s.putEport n { p with energy := p.usable (s.eidCfg n) } else s) s
  let e := sumBy (fun p => if p.2.counts then p.2.energy else 0) s.energyPorts
  let us := 750000 * e / s.regFld 0x15 0 0x18 31 20
  let cap := s.regFld 0x15 0 0x18 40 32 * 1024
  let l := if us ≤ 50000 then 0 else min cap (s.power.drainBw * (us - 50000) / 2 ^ 20)
  { s with power := { s.power with energyJ := min e 0xffffffff, budgetMs := us / 1000, limitMib := l } }.checkStore

/-- A port changes state: the limit is recomputed (R377, R380). -/
def State.setPort (s : State) (n : Nat) (p : EnergyPort) (ph : PortPhase) : State :=
  (s.putEport n { p with phase := ph }).recompute

/-- A port enters SAFE: both PWM pairs off, contactor open (R373). -/
def State.portSafe (s : State) (n : Nat) : State :=
  s.setPort n { s.eport n with contactor := false, duty := (0, 0), swapSince := none } .safe

/-! ### Journal entries -/

/-- Bytes of a CLASS_D session's changed state (R382, R389): DIRTY_DUR pages, and where the metadata page is dirty the
text block and input pages. -/
def State.changedBytes (s : State) (slot : Nat) : Nat :=
  let x := s.sess slot
  let dirty := fun u => (s.leaf u).any (·.dirtyDur)
  let pages := sumBy (fun u => match s.leaf u with
    | some l => if l.dirtyDur then pageUse l.sizeClass l.scaleBytes else 0
    | none => 0) x.cur.pages
  pages + if dirty x.cur.entry.metaUsa then 4096 * x.textHeld else 0

/-- A CLASS_D session whose state a drain writes: it is live, no AWAY stub, and its state is in the package. -/
def Session.durable (x : Session) : Bool :=
  x.cur.entry.classD && x.cur.entry.state != .free && x.cur.entry.state != .away && x.cur.entry.residence != .dormant

/-- The pages of a session that an entry records: all of them in a BASE, else those with DIRTY_DUR. -/
def State.entryPages (s : State) (x : Session) (base : Bool) : List Nat :=
  (x.cur.pages.dedup).filter fun u => base || (s.leaf u).any (·.dirtyDur)

/-- A journal entry is opened: JSEQ rises, its space is reserved. -/
def State.openEntry (s : State) (kind : JournalKind) (slot : Nat) (pages : List Nat) (records : List PageRecord) : State :=
  let p := s.power
  let none_ := kind = .table ∨ kind = .ledger ∨ kind = .drainEnd
  let x := s.sess slot
  let h := if none_ then 0 else x.cur.entry.handle
  let rec_ := s.recordOf slot x
  let size := fun u => ((s.leaf u).map fun l => ceilDiv (32 + pageUse l.sizeClass l.scaleBytes) 64 * 64).getD 0
  let raw := match kind with
    | .table => 2 ^ 29
    | .ledger => 2 ^ 20
    | .drainEnd => 0
    | _ => 128 + sumBy size pages + sumBy PageRecord.stored records
  let prev := (p.journal.filter fun e => e.handle = h ∧ h ≠ 0 ∧ e.committed).foldl (fun b e => max b e.seq) 0
  let ses := match kind with
    | .table => s.sessions.filterMap fun q => s.recordOf q.1 q.2
    | _ => if none_ then [] else rec_.toList
  let led := if kind = .ledger then
      s.tenants.map fun t => (t.1, t.2.counters ++ [t.2.tokensUsed, t.2.bucket, t.2.posted0, t.2.posted1])
    else []
  let e : JournalEntry := {
    kind := kind, seq := p.jseq + 1, boot := p.boot, handle := h
    lastSeal := if none_ then 0 else ((rec_.map fun r => r.session.cur.entry.lastSeal).getD 0)
    raw := raw, prev := if kind = .base then 0 else prev, sessions := ses, ledger := led, records := records
    committed := false }
  { s with power := { p with jseq := p.jseq + 1
                             writes := p.writes ++ [⟨e, slot, pages, false⟩] } }

/-- The write in progress with a JSEQ. -/
def State.journalWrite (s : State) (seq : Nat) : Option JournalWrite := s.power.writes.find? fun w => w.entry.seq == seq

/-- An entry fails to commit (R385): DIRTY_DUR is set again on every page that it captured. -/
def State.entryFails (s : State) (w : JournalWrite) : State :=
  let s := w.entry.records.foldl (fun s r => s.updLeaf r.usa fun l => { l with dirtyDur := true }) s
  { s with power := { s.power with writes := s.power.writes.filter fun v => v.entry.seq != w.entry.seq } }

/-- Bytes captured in entries not committed. -/
def Power.captured (p : Power) : Nat := sumBy (fun w => sumBy PageRecord.size w.entry.records) p.writes

/-- Whether pressure calls for an entry of a session (R382): its changed bytes are the most, the lowest slot of equals,
among the sessions that no entry is being written for. -/
def State.pressureTurn (s : State) (slot : Nat) : Bool :=
  let cand := (s.sessions.filter fun p => p.2.durable && !s.power.writes.any fun w => w.slot == p.1).map (·.1)
  let most := cand.foldl (fun m i => max m (s.changedBytes i)) 0
  s.power.pressure && 0 < most && cand.find? (fun i => s.changedBytes i == most) == some slot

/-- Whether the log calls for a fresh BASE of a session (R391): it is 75% full, and the session's entry is the oldest
live one. -/
def State.reclaimTurn (s : State) (slot : Nat) : Bool :=
  3 * s.power.journalTotal * 2 ^ 20 ≤ 4 * s.power.journalUsed
    && (s.power.journal.find? fun e => e.handle != 0 && !s.entryFree e).any fun e => e.handle == (s.entry slot).handle

/-- JOURNAL_ENTRY_START (R382, R384, R391). -/
def State.journalStart (s : State) (slot : Nat) : State :=
  let x := s.sess slot
  let old := s.reclaimTurn slot
  let parked := x.cur.entry.residence = .parked ∧ 0 < s.changedBytes slot
  if !s.power.drainEnabled || s.power.drain.isSome || !x.durable || s.power.writes.any (fun w => w.slot == slot) then s
  else if !(old || s.pressureTurn slot || parked) then s
  else
    let first := !s.power.journal.any fun e => e.handle == x.cur.entry.handle && e.committed
    let base := old || first
    let pages := s.entryPages x base
    let s' := s.openEntry (if base then .base else .pages) slot pages []
    if s'.power.journalTotal * 2 ^ 20 < s'.power.journalUsed then s else s'

/-- JOURNAL_CAPTURE (R385): a page's record is taken and its DIRTY_DUR clears. Not more than 1 GiB is captured and
uncommitted at any instant (R382). -/
def State.journalCapture (s : State) (seq page : Nat) : State :=
  match s.journalWrite seq with
  | none => s
  | some w =>
    if !w.toCapture.contains page then s
    else
      let put := fun (s : State) (w : JournalWrite) =>
        { s with power := { s.power with writes := s.power.writes.map fun v => if v.entry.seq = seq then w else v } }
      let left := w.toCapture.filter (· != page)
      match s.leaf page with
      | none => put s { w with toCapture := left }
      | some l =>
        if 2 ^ 30 < s.power.captured + pageUse l.sizeClass l.scaleBytes then s
        else
          let r := s.pageRecord page l
          let fresh := (s.recordOf w.slot (s.sess w.slot)).toList
          let lastSeal := (fresh.map fun r => r.session.cur.entry.lastSeal).headD w.entry.lastSeal
          let e := { w.entry with records := w.entry.records ++ [r], sessions := fresh, lastSeal := lastSeal }
          (put s { w with toCapture := left, entry := e }).updLeaf page fun l => { l with dirtyDur := false }

/-! ### The drain (R386 to R389) -/

/-- FINAL entries in their order: sessions in WAITING, then the others, each by changed bytes, ties to the lower slot. -/
def State.finals (s : State) : List (JournalKind × Nat) :=
  let d := (s.sessions.filter fun p => p.2.durable).map (·.1)
  let waiting := d.filter fun i => (s.entry i).state == .waiting
  let others := d.filter fun i => (s.entry i).state != .waiting
  (sortBy s.changedBytes waiting ++ sortBy s.changedBytes others).map fun i => (JournalKind.final, i)

/-- The next entry of the drain opens once none is being written. -/
def State.drainNext (s : State) : State :=
  match s.power.drain with
  | none => s
  | some d =>
    match d.todo with
    | [] => s
    | (k, slot) :: r =>
      if !s.power.writes.isEmpty then s
      else
        let s := { s with power := { s.power with drain := some { d with todo := r } } }
        let pages := if k = .final then s.entryPages (s.sess slot) false else []
        let recs := pages.filterMap fun u => (s.leaf u).map fun l => s.pageRecord u l
        s.openEntry k slot [] recs

/-- Drain mode (R388): host, Gallery and Ethernet ports go to electrical idle. -/
def State.idlePorts (s : State) : State :=
  { s with
    gallery := { s.gallery with ports := s.gallery.ports.map fun (p : Nat × GalPort) => (p.1, { p.2 with state := .down }) }
    eths := s.eths.map fun (p : Nat × EthPort) => (p.1, { p.2 with link := false })
    fns := s.fns.map fun (p : Nat × HostFn) => (p.1, { p.2 with state := .absent }) }

/-- The seals already issued are applied everywhere and posted; every other step in flight is abandoned (R387). -/
def State.settleSteps (s : State) : State :=
  [false, true].foldl (fun s s1 =>
    if (s.stream s1).run.any fun r => r.sealPt.isSome then
      ((List.range 12).foldl (fun s sd => s.sealApply s1 sd) s).stepOutcome s1
    else s.abandon s1) s

/-- A drain starts (R387 to R389), after a power loss or an over-temperature (R369); one in progress goes on. -/
def State.startDrain (s : State) (thermal : Bool) : State :=
  if s.power.drain.isSome then s
  else
    let s := s.settleSteps.epochFail
    let s := (s.power.writes.filter fun w => !w.toCapture.isEmpty).foldl State.entryFails s
    let todo := if s.power.drainEnabled then [(JournalKind.table, 0), (JournalKind.ledger, 0)] ++ s.finals else []
    let s := { s with
      power := { s.power with drain := some { thermal := thermal, start := s.now, todo := todo } }
      boot := { s.boot with pfAlertN := false } }
    s.idlePorts.drainNext

/-- DRAIN_START (R386, R387): the first detection stands; both ports discharge. -/
def State.drainStart (s : State) : State :=
  if s.power.drain.isSome || !s.energyPorts.any (fun p => p.2.detected.isSome) then s
  else
    let s := [0, 1].foldl (fun s n =>
      let p := s.eport n
      if p.phase = .ready then s.putEport n { p with phase := .discharging } else s) s
    s.startDrain false

/-! ### What a stop leaves (R539 to R543) -/

/-- Fuses and flash of the security state; what it held in SRAM is lost. -/
def Security.kept (x : Security) : Security :=
  { Security.reset with fuseSvn := x.fuseSvn, positions := x.positions, active := x.active, next := x.next
                        hybridRequired := x.hybridRequired
                        owners := x.owners, conf := x.conf, confNext := x.confNext
                        ownerCert := x.ownerCert }

/-- Boot flash, fused defects and pins survive. -/
def Boot.kept (x : Boot) : Boot :=
  { Boot.reset with pwrgd := x.pwrgd, resetN := x.resetN, thermtripN := x.thermtripN, pfAlertN := x.pfAlertN, vinOut := x.vinOut
                    causes := x.causes, stage1Copy := x.stage1Copy, bundleCopy := x.bundleCopy, headframe := x.headframe
                    defects := x.defects.filter fun d => d.cause == 0, firmware := x.firmware }

/-- Every island stops (R539): what remains is the error log, the fuses, the boot flash, the BOOT count, the drain
journal and the checkpoint store, and PT (log entry 33). -/
def State.stopped (s : State) : State :=
  { State.reset with
    pending := s.pending, pt := s.pt, now := s.now, draws := s.draws, out := s.out, errLog := s.errLog
    regs := s.regs.filter fun r => r.1 == pcs 0 0 8
    sds := (s.sds.filter fun d => !d.2.retired.isEmpty).map fun d => (d.1, { StateDie.reset d.1 with retired := d.2.retired })
    power := { Power.reset with
      boot := s.power.boot, jseq := s.power.jseq, journal := s.power.journal, journalTotal := s.power.journalTotal
      lastDrainMs := s.power.lastDrainMs, lastDrainW := s.power.lastDrainW }
    checkpoint := { Checkpoint.reset with images := s.checkpoint.images }
    drives := s.drives.map fun (d : Nat × Drive) => (d.1, { d.2 with state := 0 })
    security := s.security.kept, boot := s.boot.kept }

/-- DRAIN_END (R389, R394, R541): the last entry is committed, DRAIN_END is written, the package halts; a RESET_N or
PWRGD change that was held leaves nothing more to stop (R540). -/
def State.drainEnd (s : State) (watts : Nat) : State :=
  match s.power.drain with
  | none => s
  | some d =>
    if !(d.todo.isEmpty && s.power.writes.isEmpty) then s
    else
      let s := if s.power.drainEnabled then s.openEntry .drainEnd 0 [] [] else s
      let done := s.power.writes.map fun w => { w.entry with committed := true }
      let s := s.flagIf (s.regFld 0x15 0 0x18 31 20 < watts) fDrainOverW 0
      let s := { s with power := { s.power with
        journal := s.power.journal ++ done, writes := [], lastDrainMs := (s.now - d.start) / 1000000, lastDrainW := watts } }
      let flags := s.regs.filter fun r => r.1 == pcs 0x15 0 0x40 || r.1 == pcs 0x15 0 0x48
      let s := done.foldl (fun s e => (s.emit (.journal e.seq 0)).emit (.journal e.seq 1)) s
      let s := s.stopped
      let stands := s.boot.resetN && s.boot.pwrgd
      { s with regs := if stands then flags.foldl (fun l r => aset l r.1 r.2) s.regs else s.regs
               boot := { s.boot with halted := true, pkgPgood := false } }

/-- The payload write of an entry ends, and its commit block is written (R391). A failed write fails the entry. -/
def State.payloadDone (s : State) (seq mbps : Nat) (ok : Bool) : State :=
  match s.journalWrite seq with
  | none => s
  | some w =>
    if !w.toCapture.isEmpty || w.payloadDone then s
    else if !ok then ((s.entryFails w).setFlag fJournalErr 0).drainNext.checkStore
    else
      let p := s.power
      let bursts := if 2 ^ 28 ≤ w.entry.raw then (mbps :: p.bursts).take 16 else p.bursts
      let writes := p.writes.map fun (v : JournalWrite) => if v.entry.seq = seq then { v with payloadDone := true } else v
      let s := { s with power := { p with bursts := bursts, writes := writes } }
      s.emit (.journal seq 0)

/-- The commit block of an entry is written: the entry is committed (R392). Its bytes are charged where no drain runs
(R490); the log is reclaimed. -/
def State.journalCommit (s : State) (seq : Nat) (ok : Bool) : State :=
  match s.journalWrite seq with
  | none => s
  | some w =>
    if !w.payloadDone then s
    else if !ok then ((s.entryFails w).setFlag fJournalErr 0).drainNext.checkStore
    else
      let p := s.power
      let s := { s with power := { p with
        journal := p.journal ++ [{ w.entry with committed := true }]
        writes := p.writes.filter fun v => v.entry.seq != seq } }
      let s := s.emit (.journal seq 1)
      if s.power.drain.isSome then s.drainNext
      else
        let s := if w.entry.handle = 0 then s else s.charge (s.entry w.slot).tenant 12 w.entry.raw
        s.reclaim.checkStore

/-! ### The meanings -/

/-- A unit index of the two EIDs. -/
def onEid (eid : Nat) (s : State) : Host.Outcome State Fault Refusal := if eid < 2 then .next s else .fault .noSuchUnit

/-- UV_DETECT (R386, R533): the filter that the fall at `fell` started expires; a rise stamped in between, or now, has
cancelled it. -/
def execUvDetect (eid fell t : Nat) (s : State) : Host.Outcome State Fault Refusal :=
  let s := s.stamp t
  let p := s.eport eid
  let due := fell + 1000 * s.regFld 0x15 0 0x18 19 16 ≤ t
  onEid eid (if !p.supply || !due || (fell < p.rose && p.rose ≤ t) then s
    else (s.putEport eid { p with detected := some t }).setFlag fUvDetect eid)

/-- BUS_RECOVER (R386): a rise stamped before the filter expires, or at that stamp, cancels the detection; one that has
reached the active management island cannot be undone. -/
def execBusRecover (eid t : Nat) (s : State) : Host.Outcome State Fault Refusal :=
  let s := s.stamp t
  let p := s.eport eid
  let p := { p with rose := t }
  onEid eid (s.putEport eid (match p.detected with
    | some d => if t ≤ d && s.power.drain.isNone then { p with detected := none } else p
    | none => p))

/-- DRAIN_START (R387). -/
def execDrainStart (t : Nat) (s : State) : Host.Outcome State Fault Refusal := .next (s.stamp t).drainStart

/-- JOURNAL_ENTRY_START (R382). -/
def execJournalEntryStart (slot t : Nat) (s : State) : Host.Outcome State Fault Refusal := .next ((s.stamp t).journalStart slot)

/-- JOURNAL_CAPTURE (R385). -/
def execJournalCapture (seq page t : Nat) (s : State) : Host.Outcome State Fault Refusal :=
  .next ((s.stamp t).journalCapture seq page)

/-- JOURNAL_PAYLOAD_DONE (R391). -/
def execJournalPayloadDone (seq mbps : Nat) (ok : Bool) (t : Nat) (s : State) : Host.Outcome State Fault Refusal :=
  .next ((s.stamp t).payloadDone seq mbps ok)

/-- JOURNAL_COMMIT (R392). -/
def execJournalCommit (seq : Nat) (ok : Bool) (t : Nat) (s : State) : Host.Outcome State Fault Refusal :=
  .next ((s.stamp t).journalCommit seq ok)

/-- DRAIN_END (R389). -/
def execDrainEnd (watts t : Nat) (s : State) : Host.Outcome State Fault Refusal := .next ((s.stamp t).drainEnd watts)

/-- THERMAL_DRAIN (R369): an over-temperature that has persisted for 10 ms. -/
def execThermalDrain (junction dram t : Nat) (s : State) : Host.Outcome State Fault Refusal :=
  let s := s.stamp t
  .next (if s.power.drain.isSome || (junction < 110 && dram < 100) then s else (s.setFlag fThermDrain 0).startDrain true)

/-- THERMTRIP (R370, R543): every island stops at once, a drain ends, and the next bring-up logs an FE entry. -/
def execThermtrip (die t : Nat) (s : State) : Host.Outcome State Fault Refusal :=
  let s := s.stamp t
  let b := { s.boot with thermtripN := false, causes := s.boot.causes ++ [(0x0301, die)] }
  let s := { s with boot := b }.stopped
  .next { s with boot := { s.boot with halted := true } }

/-- EID_SUPPLY_LOSS (R533): the EID stops; PWM outputs and contactor enable turn off, and the port is in SAFE. -/
def execEidSupplyLoss (eid t : Nat) (s : State) : Host.Outcome State Fault Refusal :=
  let s := s.stamp t
  onEid eid ((s.putEport eid { s.eport eid with supply := false }).portSafe eid)

/-- EID_SUPPLY_RETURN (R533): the EID runs again; the port is reported SAFE. -/
def execEidSupplyReturn (eid t : Nat) (s : State) : Host.Outcome State Fault Refusal :=
  let s := s.stamp t
  onEid eid ((s.putEport eid { s.eport eid with supply := true }).portSafe eid)

end Sys2Proof.Machine
end

