-- ==== Sys2Proof/Machine/Devices.lean ====
section
/-! DEFINITION. T2 expanders (R416 to R418), drain drives (R390, R419, R420) and Ethernet (R421, R422). -/

namespace Sys2Proof.Machine

/-! ### Sessions that lose a page or their home (R44, R85, R418, R485) -/

/-- The fence reason of a loss. -/
def RemoveCause.fence : RemoveCause → FenceReason
  | .tierLost => .tierLost
  | .dieLost => .dieLost
  | _ => .poison

/-- A session loses a page's tier or its home SD (R44): a member leaves its step first (R84, R85); a migration aborts
(R296); the command that holds the lock completes with `status`. -/
def State.loseSession (s : State) (slot : Nat) (why : RemoveCause) (status : Nat) : State :=
  let e := s.entry slot
  if e.state = .free ∨ e.state = .away then s
  else if (s.member false slot).isSome then s.memberRemove false slot why
  else if (s.member true slot).isSome then s.memberRemove true slot why
  else
    let s := (s.sendAbort slot).abortMigration slot status
    let s := match (s.sess slot).owner with
      | some f => (s.complete f status).putSess slot { s.sess slot with owner := none }
      | none => s
    ((s.endPush slot).fenceReport slot why.fence).drainSession slot

/-- Pages that stand in a pool of a lower tier. -/
def State.poolPages (s : State) (tier pool : Nat) : List Nat :=
  (s.leaves.filter fun l => l.2.tier == tier && l.2.pool == pool).map (·.1)

/-- A pool is lost (R113, R418): cages to it and from it abort, its pages are gone (they are POISON until they are
dropped), and every session with a page in it is fenced. -/
def State.losePool (s : State) (tier pool : Nat) : State :=
  let hit := s.cages.filter fun c =>
    c.2.c7.isNone && ((c.2.tier == tier && c.2.pool == pool) || (c.2.oldTier == tier && c.2.oldPool == pool))
  let s := hit.foldl (fun s c => (s.dropCage c.1).setFlag fCageAborted (ownerSd c.2.usa)) s
  let pages := s.poolPages tier pool
  let slots := s.slotsWhere fun x => x.cur.entry.state != .free && (x.cur.pages ++ [x.cur.entry.metaUsa]).any pages.contains
  let s := pages.foldl (fun s u => s.updLeaf u fun l => { l with poison := true }) s
  slots.foldl (fun s i => s.loseSession i .tierLost stAccessFault) s

/-! ### Expanders -/

/-- An expander. -/
def State.expander (s : State) (i : Nat) : Expander := agetD s.expanders i { state := 0, width := 0, capacity := 0 }

/-- Put an expander into a state. -/
def State.setExpander (s : State) (i st : Nat) : State :=
  { s with expanders := aset s.expanders i { s.expander i with state := st } }

/-- Bytes that the PAGE section places in a T2 pool (R98, R466). -/
def State.poolDemand (s : State) (tier pool : Nat) : Nat :=
  sumBy (fun p => if p.1 / 256 % 4 = tier ∧ p.1 / 16 % 16 = pool then p.2.pool.total * pageSize (p.1 % 16) else 0) s.pools

/-- A device attaches (R416): it is in service where the PAGE section can place its pool, else unused. -/
def State.attachExpander (s : State) (i width gib : Nat) (interleaveOk : Bool) : State :=
  let need := s.poolDemand 2 i
  let fits := interleaveOk && 0 < need && need ≤ gib * 2 ^ 30
  let s := { s with expanders := aset s.expanders i { state := if fits then 1 else 4, width := width, capacity := gib } }
  if fits then s.deviceEvent 0x40 [(33, 1, i), (36, 4, gib)] else s

/-- A device is removed or lost (R418). -/
def State.removeExpander (s : State) (i : Nat) (surprise : Bool) : State :=
  let st := (s.expander i).state
  if st = 0 ∨ st = 5 then s
  else
    let s := (s.setExpander i (if surprise then 5 else 0)).losePool 2 i
    (s.setFlag fDeviceRemoved (i / 4)).deviceEvent 0x41 [(33, 1, i), (34, 1, bit surprise)]

/-- A pass of evacuation cages (R417): up to T0 for pages of a READY or RUNNING session, else to T1 or another T2 pool. -/
def State.evacuatePass (s : State) (i : Nat) : State :=
  (s.poolPages 2 i).foldl (fun s u =>
    let live := (s.referrersOf u).any fun x => (s.entry x).state == .ready || (s.entry x).state == .running
    let rest := fun (s : State) => (s.leaf u).any fun l => l.cage == .resident
    if !rest s then s
    else if live then s.requestCage u 0 none (.evacuate i)
    else
      let s := s.requestCage u 1 none (.evacuate i)
      if rest s then s.requestCage u 2 none (.evacuate i) else s) s

/-- EVACUATE starts (R417). -/
def State.evacuate (s : State) (i : Nat) : State :=
  if (s.expander i).state = 1 then (s.setExpander i 2).evacuatePass i else s

/-- A pass ends (R417): with no page left the device is EVACUATED; where nothing can move any more, evacuation stops. -/
def State.evacuatePassDone (s : State) (i : Nat) : State :=
  let busy := fun (s : State) => s.cages.any fun c =>
    (c.2.oldTier == 2 && c.2.oldPool == i) || ((s.leaf c.2.usa).any fun l => l.tier == 2 && l.pool == i)
  if (s.expander i).state != 2 || busy s then s
  else
    let left := (s.poolPages 2 i).length
    if left = 0 then (s.setExpander i 3).deviceEvent 0x42 [(33, 1, i)]
    else
      let s' := s.evacuatePass i
      if busy s' then s' else (s'.setFlag fEvacStopped (i / 4)).deviceEvent 0x43 [(33, 1, i), (36, 4, left)]

/-- CANCEL (R417): allocations resume. -/
def State.evacuateCancel (s : State) (i : Nat) : State :=
  if (s.expander i).state = 2 ∨ (s.expander i).state = 3 then s.setExpander i 1 else s

/-- Meaning of a command that names a T2 device. -/
def onDevice (i : Nat) (s : State) : Host.Outcome State Fault Refusal := if i < 8 then .next s else .fault .noSuchUnit

/-- EXPANDER_ATTACH (R416). -/
def execExpanderAttach (pool width gib : Nat) (interleaveOk : Bool) (t : Nat) (s : State) : Host.Outcome State Fault Refusal :=
  onDevice pool ((s.stamp t).attachExpander pool width gib interleaveOk)

/-- EXPANDER_REMOVAL (R418). -/
def execExpanderRemoval (pool : Nat) (surprise : Bool) (t : Nat) (s : State) : Host.Outcome State Fault Refusal :=
  onDevice pool ((s.stamp t).removeExpander pool surprise)

/-- XPN_EVACUATE (R417). -/
def execXpnEvacuate (pool t : Nat) (s : State) : Host.Outcome State Fault Refusal :=
  onDevice pool (((s.stamp t).setReg (pcs 0x18 (pool / 4) 0x10) 1).evacuate pool)

/-- XPN_CANCEL (R417). -/
def execXpnCancel (pool t : Nat) (s : State) : Host.Outcome State Fault Refusal :=
  onDevice pool (((s.stamp t).setReg (pcs 0x18 (pool / 4) 0x10) 2).evacuateCancel pool)

/-- EVACUATE_PASS_DONE (R417). -/
def execEvacuatePassDone (pool t : Nat) (s : State) : Host.Outcome State Fault Refusal :=
  onDevice pool ((s.stamp t).evacuatePassDone pool)

/-! ### Drain drives -/

/-- A drive. -/
def State.drive (s : State) (d : Nat) : Drive := agetD s.drives d { state := 0, nsid := 0, sizeMib := 0 }

/-- The drain is enabled while both drives are up (R390, R420); the journal is the drain namespace, twice the smaller
namespace, but for its superblock of 1 MiB. -/
def State.judgeDrives (s : State) : State :=
  let a := s.drive 0
  let b := s.drive 1
  let on := a.state == 1 && b.state == 1
  let total := if on then 2 * min a.sizeMib b.sizeMib - 1 else s.power.journalTotal
  { s with power := { s.power with drainEnabled := on, journalTotal := total } }.checkStore

/-- A drive goes down or is removed (R420). -/
def State.driveDown (s : State) (d : Nat) : State :=
  let s := { s with drives := aset s.drives d { s.drive d with state := 3 } }
  (s.deviceEvent 0x44 [(33, 1, d)]).judgeDrives

/-- A drive attaches and is checked by R390. -/
def State.driveAttach (s : State) (d nsid sizeMib : Nat) (fit : Bool) : State :=
  { s with drives := aset s.drives d { state := if fit then 1 else 2, nsid := nsid, sizeMib := sizeMib } }.judgeDrives

/-- DRIVE_DOWN (R420). -/
def execDriveDown (drive t : Nat) (s : State) : Host.Outcome State Fault Refusal :=
  if drive < 2 then .next ((s.stamp t).driveDown drive) else .fault .noSuchUnit

/-- DRIVE_ATTACH (R420): the namespace, and whether the drive has 4 KiB LBAs, an atomic write of one under power fail,
and FUA (R390). -/
def execDriveAttach (drive nsid sizeMib : Nat) (lba4k atomic fua : Bool) (t : Nat) (s : State) :
    Host.Outcome State Fault Refusal :=
  if drive < 2 then .next ((s.stamp t).driveAttach drive nsid sizeMib (lba4k && atomic && fua)) else .fault .noSuchUnit

/-! ### Ethernet -/

/-- An Ethernet port. -/
def State.eth (s : State) (p : Nat) : EthPort := agetD s.eths p EthPort.reset

/-- Replace an Ethernet port. -/
def State.putEth (s : State) (p : Nat) (e : EthPort) : State := { s with eths := aset s.eths p e }

/-- The big-endian number in `n` bytes of a frame. -/
def beAt (bs : List Byte) (off n : Nat) : Nat := leNat (bytesAt bs off n).reverse

/-- The low `n` bytes of a number, the highest first. -/
def beBytes (n v : Nat) : List Byte := (leBytes n v).reverse

/-- What a frame carries (R421, R422). -/
inductive EthKind where
  | arp | neighbour | rdma | ptp | other
deriving DecidableEq, Repr

/-- Whether a frame carries the port's VLAN tag: 4 bytes more before its type. -/
def EthPort.tagBytes (e : EthPort) (bs : List Byte) : Nat := if e.vlan != 0 && beAt bs 12 2 == 0x8100 then 4 else 0

/-- Classify a frame by the standards' fields (log entry 34): an ARP request or neighbour solicitation for the port's own
address, RoCEv2, IEEE 1588; a frame of another VLAN or protocol is none of these. -/
def EthPort.classify (e : EthPort) (bs : List Byte) : EthKind :=
  let o := e.tagBytes bs
  let ty := beAt bs (12 + o) 2
  let b := 14 + o
  if e.vlan != 0 && (o == 0 || beAt bs 14 2 % 4096 != e.vlan) then .other
  else if ty = 0x0806 then (if beAt bs (b + 6) 2 = 1 ∧ beAt bs (b + 24) 4 = e.ipv4 then .arp else .other)
  else if ty = 0x88f7 then .ptp
  else if ty = 0x0800 then
    let h := 4 * (beAt bs b 1 % 16)
    let port := beAt bs (b + h + 2) 2
    if beAt bs (b + 9) 1 != 17 then .other
    else if port = 4791 then .rdma
    else if port = 319 ∨ port = 320 then .ptp else .other
  else if ty = 0x86dd then
    let next := beAt bs (b + 6) 1
    let port := beAt bs (b + 42) 2
    if next = 58 then (if beAt bs (b + 40) 1 = 135 ∧ beAt bs (b + 48) 16 = e.ipv6 then .neighbour else .other)
    else if next != 17 then .other
    else if port = 4791 then .rdma
    else if port = 319 ∨ port = 320 then .ptp else .other
  else .other

/-- The answer to an ARP request for the port's address: the reply without FCS. -/
def EthPort.arpReply (e : EthPort) (bs : List Byte) : List Byte :=
  let b := 14 + e.tagBytes bs
  let who := beAt bs (b + 8) 6
  let ip := beAt bs (b + 14) 4
  beBytes 6 who ++ beBytes 6 e.mac ++ bytesAt bs 12 (b - 12) ++ beBytes 6 0x000108000604 ++ beBytes 2 2
    ++ beBytes 6 e.mac ++ beBytes 4 e.ipv4 ++ beBytes 6 who ++ beBytes 4 ip

/-- The one's complement sum of 16-bit words, complemented: the checksum of ICMPv6. -/
def checksum16 (bs : List Byte) : Nat :=
  let s := sumBy (fun i => beAt bs (2 * i) 2) (List.range (ceilDiv bs.length 2))
  let f := fun x => x % 65536 + x / 65536
  65535 - f (f (f s))

/-- The neighbour advertisement that answers a solicitation for the port's address, without FCS. -/
def EthPort.neighbourReply (e : EthPort) (bs : List Byte) : List Byte :=
  let b := 14 + e.tagBytes bs
  let src := beAt bs (b + 8) 16
  let body := fun c => beBytes 2 0x8800 ++ beBytes 2 c ++ beBytes 4 0x60000000 ++ beBytes 16 e.ipv6 ++ beBytes 2 0x0201 ++ beBytes 6 e.mac
  let pseudo := beBytes 16 e.ipv6 ++ beBytes 16 src ++ beBytes 4 32 ++ beBytes 4 58
  bytesAt bs 6 6 ++ beBytes 6 e.mac ++ bytesAt bs 12 (b - 12) ++ beBytes 4 0x60000000 ++ beBytes 2 32 ++ beBytes 2 0x3aff
    ++ beBytes 16 e.ipv6 ++ beBytes 16 src ++ body (checksum16 (pseudo ++ body 0))

/-- This package is the time root: the only one that follows IEEE 1588 (R333, R422). -/
def State.timeRoot (s : State) : Bool := s.regFld 0x12 0 0x08 45 32 == s.pkg

/-- A frame arrives (R421): runts, oversize frames and frames with a bad FCS are counted and discarded. -/
def State.ethReceive (s : State) (p : Nat) (bs : List Byte) (fcsOk : Bool) : State :=
  let e := s.eth p
  let n := bs.length
  if !e.link then s
  else if n < 64 then s.putEth p { e with runts := (e.runts + 1) % 2 ^ 24 }
  else if 9216 < n then s.putEth p { e with oversize := (e.oversize + 1) % 2 ^ 24 }
  else if !fcsOk then s.putEth p { e with badFcs := e.badFcs + 1 }
  else match e.classify bs with
    | .arp => s.emit (.ethernet p (e.arpReply bs))
    | .neighbour => s.emit (.ethernet p (e.neighbourReply bs))
    | .rdma => s.putEth p { e with rdma := e.rdma ++ [bs] }
    | .ptp => if s.timeRoot then s.putEth p { e with ptp := e.ptp ++ [bs] } else s
    | .other => s

/-- ETH_FRAME_RECEIVE (R421, R422): the bytes from the destination address to the FCS, and whether the FCS is good. -/
def execEthFrameReceive (port : Nat) (bytes : List Byte) (fcsOk : Bool) (t : Nat) (s : State) : Host.Outcome State Fault Refusal :=
  if port < 2 then .next ((s.stamp t).ethReceive port bytes fcsOk) else .fault .noSuchUnit

/-- ETH_LINK_CHANGE (R422): the link of a port comes up or goes down. -/
def execEthLinkChange (port : Nat) (up : Bool) (t : Nat) (s : State) : Host.Outcome State Fault Refusal :=
  let s := s.stamp t
  if port < 2 then .next (s.putEth port { s.eth port with link := up }) else .fault .noSuchUnit

end Sys2Proof.Machine
end

