-- ==== Sys2Proof/Machine/Host.lean ====
section
/-! DEFINITION. The host ports (chapter 15): doorbells, queue and ring control, fetching frames, completions and records,
interrupts, drains, resets of functions and links. -/

namespace Sys2Proof.Machine

/-- Whether a function number exists (R395). -/
def fnExists (fn : Nat) : Bool := fn < 128

/-- Whether a function number and a queue number exist (R395, R398). -/
def queueExists (fn q : Nat) : Bool := fn < 128 && q < 64

/-- Replace a dispatch queue. -/
def State.putDq (s : State) (fn q : Nat) (d : DispatchQueue) : State :=
  s.putFn fn { s.fn fn with dqs := aset (s.fn fn).dqs q d }

/-- Replace a result queue. -/
def State.putRq (s : State) (fn q : Nat) (r : ResultQueue) : State :=
  s.putFn fn { s.fn fn with rqs := aset (s.fn fn).rqs q r }

/-- HIF_CFG.DRAIN_TIMEOUT_MS in ns (R411). -/
def State.drainTimeout (s : State) : Nat := s.regFld 0x17 0 0x00 9 0 * 1000000

/-! ### Interrupts (R398, R406) -/

/-- Whether a vector is masked in the function's MSI-X table: bit 0 of its vector control word, set after reset as PCIe
has it (log entry 30). -/
def HostFn.masked (h : HostFn) (v : Nat) : Bool := bitOf (agetD h.msix (2 * v + 1) (2 ^ 32)) 32

/-- Raise a vector of a function: an MSI-X message, or its pending bit while it is masked. -/
def State.interrupt (s : State) (fn v : Nat) : State :=
  let h := s.fn fn
  if h.masked v then s.putFn fn { h with pendingVectors := if h.pendingVectors.contains v then h.pendingVectors else v :: h.pendingVectors }
  else s.emit (.interrupt fn v)

/-- Records of a result queue that software has not freed. -/
def ResultQueue.pendingRecords (r : ResultQueue) : Nat := (r.tail + 2 ^ r.log2 - r.head % 2 ^ r.log2) % 2 ^ r.log2

/-- MOD_US passes with records pending (R406). -/
def State.modExpire (s : State) (fn q : Nat) : State :=
  let r := (s.fn fn).rq q
  if r.since = 0 ∨ r.modUs = 0 ∨ r.pendingRecords = 0 ∨ s.now < r.since + r.modUs * 1000 then s
  else (s.putRq fn q { r with since := 0 }).interrupt fn r.vector

/-! ### Records (R405, R406, R410) -/

/-- Bytes free in a text ring. -/
def TextRing.room (t : TextRing) : Nat := 2 ^ t.log2 - 1 - (t.tail + 2 ^ t.log2 - t.head % 2 ^ t.log2) % 2 ^ t.log2

/-- Whether a record, with its text, can be written to a result queue now. -/
def HostFn.hasRoom (h : HostFn) (q : Nat) (r : Record) : Bool :=
  let rq := h.rq q
  rq.enabled && rq.pendingRecords + 1 < 2 ^ rq.log2 && (r.text.isEmpty || (h.text.enabled && r.text.length ≤ h.text.room))

/-- Write a record and its text (R405, R406): the text first; the queue interrupts at MOD_COUNT pending records, or at
once for NOTIFY. -/
def State.writeRecord (s : State) (fn q : Nat) (r : Record) (notify : Bool) : State :=
  let h := s.fn fn
  let rq := h.rq q
  let off := if r.text.isEmpty then 0 else h.text.tail
  let text := if r.text.isEmpty then h.text else { h.text with tail := (h.text.tail + r.text.length) % 2 ^ h.text.log2 }
  let next := (rq.tail + 1) % 2 ^ rq.log2
  let rq' := { rq with
    tail := next, phase := if next = 0 then !rq.phase else rq.phase
    since := if rq.pendingRecords = 0 then s.now else rq.since }
  let s := s.putFn fn { h with text := text, rqs := aset h.rqs q rq' }
  let s := s.emit (.record fn q rq.tail rq.phase off r)
  if notify || rq'.modCount ≤ rq'.pendingRecords then s.interrupt fn rq'.vector else s

/-- The oldest completion that waits for a result queue is written once there is room (R407). -/
def State.statusWrite (s : State) (fn q : Nat) : State :=
  let h := s.fn fn
  let rq := h.rq q
  match rq.waiting with
  | [] => s
  | (r, notify) :: rest =>
    if !h.hasRoom q r then s else (s.putRq fn q { rq with waiting := rest }).writeRecord fn q r notify

/-- The oldest outbox record of a session leaves (R62): its pool entry is freed. -/
def State.deliver (s : State) (slot : Nat) : State :=
  let x := s.sess slot
  let e := x.cur.entry
  match x.outbox with
  | [] => s
  | o :: rest =>
    if e.detached || !(s.fn e.function).hasRoom e.resultQueue o.record then s
    else
      let n := tableSd slot
      let d := s.sd n
      let s := s.putSd n { d with outbox := d.outbox.give o.pool }
      let s := s.putSess slot { x with outbox := rest }
      (s.writeRecord e.function e.resultQueue o.record false).wakeOutboxes n

/-! ### Queue and ring control (R398 to R400, R410 to R412) -/

/-- A queue is enabled: a function in its reset state is enabled with its first. -/
def State.fnEnabled (s : State) (fn : Nat) : State :=
  let h := s.fn fn
  if h.state = .reset then s.putFn fn { h with state := .enabled } else s

/-- A write of DQ_CTL (R398 to R400, R411). -/
def State.dqCtl (s : State) (fn q v : Nat) : State :=
  let d := (s.fn fn).dq q
  if d.enabled || d.fault then
    if bitOf v 16 then s
    else s.putDq fn q { d with
      enabled := false, fault := false, head := 0, tail := 0
      draining := if d.inFlight.isEmpty then none else some (s.now + s.drainTimeout) }
  else
    let d := { d with log2 := fld v 4 0, rq := fld v 13 8 }
    if bitOf v 16 && 6 ≤ d.log2 && d.log2 ≤ 16 then (s.putDq fn q { d with enabled := true }).fnEnabled fn
    else s.putDq fn q { d with head := 0, tail := 0 }

/-- The sessions that a function's result queue was to serve are attached again (R412). -/
def State.attachSessions (s : State) (fn q : Nat) : State :=
  { s with sessions := s.sessions.map fun (p : Nat × Session) =>
      let e := p.2.cur.entry
      if e.state != .free && e.detached && e.function == fn && e.resultQueue == q && s.bound e.tenant fn then
        (p.1, p.2.withEntry { e with detached := false })
      else p }

/-- A write of RQ_CTL. -/
def State.rqCtl (s : State) (fn q v : Nat) : State :=
  let r := (s.fn fn).rq q
  if r.enabled then
    if bitOf v 52 then s else s.putRq fn q { r with enabled := false, head := 0, tail := 0, phase := true, since := 0 }
  else
    let r := { r with log2 := fld v 4 0, vector := fld v 26 16, modCount := fld v 39 32, modUs := fld v 51 40 }
    if bitOf v 52 && 6 ≤ r.log2 && r.log2 ≤ 16 && 1 ≤ r.modCount && r.vector < (s.fn fn).vectors then
      ((s.putRq fn q { r with enabled := true }).fnEnabled fn).attachSessions fn q
    else s.putRq fn q { r with head := 0, tail := 0, phase := true, since := 0 }

/-- A write of TEXT_CTL. -/
def State.textCtl (s : State) (fn v : Nat) : State :=
  let h := s.fn fn
  if h.text.enabled then
    if bitOf v 16 then s else s.putFn fn { h with text := { h.text with enabled := false, head := 0, tail := 0 } }
  else
    let n := fld v 4 0
    s.putFn fn { h with text := { h.text with
      log2 := n, enabled := bitOf v 16 && decide (16 ≤ n ∧ n ≤ 30), head := 0, tail := 0 } }

/-- A write that would change a CTL field other than ENABLE of a queue or ring that takes configuration writes. -/
def State.ctlChanges (s : State) (fn : Nat) (ring : Ring) (v : Nat) : Bool :=
  match ring with
  | .dispatch q =>
    let d := (s.fn fn).dq q
    !d.enabled && !d.fault && (d.log2 != fld v 4 0 || d.rq != fld v 13 8)
  | .result q =>
    let r := (s.fn fn).rq q
    !r.enabled && (r.log2 != fld v 4 0 || r.vector != fld v 26 16 || r.modCount != fld v 39 32 || r.modUs != fld v 51 40)
  | .text => !(s.fn fn).text.enabled && (s.fn fn).text.log2 != fld v 4 0

/-- A write of a queue's or ring's control register. -/
def State.ringCtl (s : State) (fn : Nat) (ring : Ring) (v : Nat) : State :=
  match ring with
  | .dispatch q => s.dqCtl fn q v
  | .result q => s.rqCtl fn q v
  | .text => s.textCtl fn v

/-- Whether the ring that a write names exists. -/
def Ring.exists_ : Ring → Bool
  | .dispatch q => q < 64
  | .result q => q < 64
  | .text => true

/-! ### Fetching frames (R399 to R403, R445) -/

/-- TIMED frames that a port holds (R403). -/
def State.timedHeld (s : State) (port : Nat) : Nat :=
  sumBy (fun (p : Nat × HostFn) => if p.1 / 64 = port then sumBy (fun (q : Nat × DispatchQueue) => countBy InFlight.timed q.2.inFlight) p.2.dqs else 0) s.fns

/-- An active IDE stream covers a function (R445). -/
def State.ideCovers (s : State) (fn : Nat) : Bool := s.security.ideStreams.any fun p => p.2.2 && p.2.1.contains fn

/-- The queue stops (R400): FAULT, a QUEUE_FAULT record, HIF_FLAGS.QUEUE_FAULT. -/
def State.queueFault (s : State) (fn q : Nat) : State :=
  let d := (s.fn fn).dq q
  let s := s.putDq fn q { d with fault := true, enabled := false }
  let rq := (s.fn fn).rq d.rq
  let r : Record := { type := 0x04, status := stQueueFault, opcode := 0, handle := 0, tag := 0, body := recordBody [], text := [] }
  (s.putRq fn d.rq { rq with waiting := rq.waiting ++ [(r, false)] }).setFlag fQueueFault (fn / 64)

/-- The slots of a frame are consumed: the head moves and is written to DQ_HEAD_ADDR (R399). -/
def State.consume (s : State) (fn q slots : Nat) : State :=
  let d := (s.fn fn).dq q
  let head := (d.head + slots) % 2 ^ d.log2
  (s.putDq fn q { d with head := head, fetched := d.fetched + 1 }).emit (.hostWrite fn d.headAddr (leBytes 8 head))

/-- The port fetches the next frame of a queue (R399, R400, R403, R445, R449): `bs` are its bytes as they stand in the
ring. Every frame completes with DISABLED until READY. A frame whose opcode this port forwards stays in flight until its
command completes. -/
def State.fetch (s : State) (fn q : Nat) (bs : List Byte) : State :=
  let h := s.fn fn
  let d := h.dq q
  let avail := (d.tail + 2 ^ d.log2 - d.head % 2 ^ d.log2) % 2 ^ d.log2
  if !d.enabled || d.fault || h.state != .enabled || 256 ≤ d.inFlight.length || avail == 0 then s
  else
    let f := parseFrame fn q d.fetched bs
    match headerCheck (2 ^ d.log2) (leAt bs 0 4) f with
    | .stop => s.queueFault fn q
    | .refuse st slots =>
      if avail < slots then s else (s.consume fn q slots).complete f (if s.boot.ready then st else stDisabled)
    | .pass slots =>
      if avail < slots then s
      else
        let s := s.consume fn q slots
        let d := (s.fn fn).dq q
        let hold := f.timed && f.opcode != 0x0102 && f.opcode != 0x0501 && s.now < f.param
        if !s.boot.ready then s.complete f stDisabled
        else if s.security.conf && f.opcode != 0x0601 && !s.ideCovers fn then s.complete f stConfidential
        else if hold && 4096 ≤ s.timedHeld (fn / 64) then s.complete f stResourceFloor
        else s.putDq fn q { d with inFlight := d.inFlight ++ [⟨f, s.now, hold⟩] }

/-- A TIMED frame held at the port is forwarded once NOT_BEFORE has come (R403). -/
def State.timedFrame (s : State) (fn q seq : Nat) : State :=
  let d := (s.fn fn).dq q
  s.putDq fn q { d with inFlight := d.inFlight.map fun x =>
    if x.frame.seq = seq ∧ x.timed ∧ x.frame.param ≤ s.now then { x with timed := false, stamp := s.now } else x }

/-! ### Drain and abort (R411 to R414) -/

/-- A frame whose completion is given up: it completes nothing any more. -/
def deviceFrame (p : Frame → Bool) (f : Frame) : Frame := if p f then { f with queue := deviceQueue } else f

/-- Locks that frames hold break (R61); the frames that wait at sessions go. -/
def State.abortSessions (s : State) (p : Frame → Bool) : State :=
  (s.sessions.map (·.1)).foldl (fun s i =>
    let x := s.sess i
    let s := s.putSess i { x with waiting := x.waiting.filter fun w => !p w.frame
                                  timed := x.timed.filter fun w => !p w.frame
                                  inputs := x.inputs.filter fun i => !i.waits.any p }
    match x.owner, x.cur.entry.holder with
    | some f, .host _ _ =>
      if p f && x.cur.entry.state != .closing then ((s.endPush i).breakLock i stDisabled).drainSession i else s
    | _, _ => s) s

/-- Frames that other work holds complete no more. -/
def State.detachFrames (s : State) (p : Frame → Bool) : State :=
  let g := deviceFrame p
  let t := s.tables
  { s with
    sessions := s.sessions.map fun (q : Nat × Session) => (q.1, { q.2 with owner := q.2.owner.map g })
    migrations := s.migrations.map fun (q : Nat × Migration) => (q.1, { q.2 with frame := q.2.frame.map g })
    tables := { t with
      loads := t.loads.filter fun (q : Nat × AdapterLoad) => !p q.2.frame
      lookups := t.lookups.filter fun (q : Nat × LookupWait) => !p q.2.frame
      queries := t.queries.filter fun (q : Nat × QueryWait) => !p q.2.frame
      inserts := t.inserts.map fun (q : Nat × InsertWait) => (q.1, { q.2 with frame := g q.2.frame })
      tables := t.tables.map fun (q : Nat × RowTable) => (q.1, { q.2 with
        pending := q.2.pending.map fun w => { w with frame := g w.frame }
        updates := q.2.updates.map fun u => { u with frame := u.frame.map g } }) }
    checkpoint := { s.checkpoint with
      run := s.checkpoint.run.map fun r => { r with frame := g r.frame }
      restores := s.checkpoint.restores.map fun (q : Nat × RestoreRun) => (q.1, { q.2 with frame := g q.2.frame }) } }

/-- Frames in flight of a function that satisfy a test. -/
def HostFn.flying (h : HostFn) (p : Frame → Bool) : List Frame :=
  h.dqs.flatMap fun q => (q.2.inFlight.map InFlight.frame).filter p

/-- The commands of a function that satisfy a test are aborted (R411): their locks break, the rest complete with
DISABLED, and DRAIN_ABORT says so. -/
def State.abortFrames (s : State) (fn : Nat) (p : Frame → Bool) : State :=
  let any := !((s.fn fn).flying p).isEmpty
  let s := (s.abortSessions p).detachFrames p
  let s := ((s.fn fn).flying p).foldl (fun s f => s.complete f stDisabled) s
  s.flagIf any fDrainAbort (fn / 64)

/-- A member of a step in flight finishes, where its seal has been issued, or leaves its step (R413). -/
def State.quitStep (s : State) (slot : Nat) : State :=
  [false, true].foldl (fun s s1 =>
    match s.member s1 slot, (s.stream s1).run with
    | some m, some r => if r.sealPt.isSome then s.sealMember s1 r.number m else (s.rollMember s1 m).drainSession slot
    | _, _ => s) s

/-- The sessions of a function are detached (R413): READY and RUNNING ones become HELD with PRIOR_STATE READY. -/
def State.detachSessions (s : State) (fn : Nat) : State :=
  let mine := s.slotsWhere fun x => x.cur.entry.state != .free && x.cur.entry.state != .away && x.cur.entry.function == fn
  let s := mine.foldl State.quitStep s
  mine.foldl (fun s i =>
    let x := s.sess i
    let e : Entry := { x.cur.entry with detached := true }
    if e.state = .ready then s.putSess i { x.withEntry { e with state := .held, prior := .ready } with since := s.now }
    else if e.state = .free then s else s.putSess i (x.withEntry e)) s

/-- The transactions that a function owns are aborted (R480). -/
def State.ctAutoAbort (s : State) (fn : Nat) : State :=
  let hit := fun (x : CtTxn) => x.owner == fn && (x.state == 1 || x.state == 2)
  if s.txns.any hit then
    ({ s with txns := s.txns.map fun x => if hit x then { x with state := 5, shadows := [], items := [], images := [], full := false, loading := false } else x }).setFlag
      fAutoAbort 0
  else s

/-- A snapshot armed by a physical function that resets ends with DISABLED (R512). -/
def State.snapAbort (s : State) (fn : Nat) : State :=
  match s.obs.snap with
  | some n => if n.fn = fn ∧ n.mark.isNone then
      { s with obs := { s.obs with snap := none, snapDone := true, snapStatus := stDisabled } }.setFlag fSnapFault 0 else s
  | none => s

/-- A function reset starts (R413): fetching stops and the drain runs, at most 80 ms; its transactions abort. -/
def State.startReset (s : State) (fn : Nat) (gone : Bool) : State :=
  let h := s.fn fn
  if h.state = .absent then s
  else
    let end_ := s.now + min s.drainTimeout 80000000
    let s := s.putFn fn { h with state := .resetting, drainEnd := end_, gone := gone || h.gone }
    (s.ctAutoAbort fn).snapAbort fn

/-- The drain of a function reset ends (R413): its commands are aborted, its sessions detached, and it is in its reset
state, frame completions discarded. -/
def State.endReset (s : State) (fn : Nat) : State :=
  let s := s.abortFrames fn fun f => f.function == fn
  let s := s.detachSessions fn
  let h := s.fn fn
  s.putFn fn { HostFn.absent with state := if h.gone then .absent else .reset, vectors := h.vectors }

/-- Members of steps that satisfy a test leave their step, rolled back (R411). -/
def State.quitMembers (s : State) (p : Member → Bool) : State :=
  [false, true].foldl (fun s s1 =>
    (((s.stream s1).run.map StepRun.live).getD []).foldl (fun s m =>
      if p m && ((s.stream s1).run.all fun r => r.sealPt.isNone) then (s.rollMember s1 m).drainSession m.slot else s) s) s

/-- A drain ends (R411): what still runs is aborted, rolled back and completed with DISABLED. -/
def State.drainEnds (s : State) (u : DrainUnit) : State :=
  match u with
  | .function fn =>
    let h := s.fn fn
    if h.state = .absent ∨ h.state = .reset ∨ s.now < h.drainEnd then s
    else if h.state = .resetting then s.endReset fn
    else s.abortFrames fn fun f => f.function == fn
  | .queue fn q =>
    match ((s.fn fn).dq q).draining with
    | none => s
    | some t =>
      if s.now < t then s
      else
        let s := s.abortFrames fn fun f => f.function == fn && f.queue == q
        s.putDq fn q { (s.fn fn).dq q with draining := none }
  | .cluster l => s.quitMembers fun m => m.cluster == l
  | .nsa unit => s.quitMembers fun m => m.attention.any fun w => w.output.isNone && w.units.any fun x => x.2 == unit
  | .galleryPort p =>
    match aget s.gallery.ports p with
    | none => s
    | some g =>
      match g.draining with
      | none => s
      | some t =>
        if s.now < t then s
        else
          let lost := sumBy (fun (q : Nat × List Queued) => q.2.length) g.queues
          let s := { s with gallery := { s.gallery with ports := aset s.gallery.ports p { g with queues := [], draining := none, state := .down } } }
          (List.range lost).foldl (fun s _ => s.addRegFld 0x12 (p % 2) 0x58 31 16 1) (s.flagIf (0 < lost) ⟨0x12, 0x60, 2⟩ (p % 2))
  | .recall sd =>
    let hit := s.tables.queries.filter fun (q : Nat × QueryWait) => q.2.open_.contains sd
    let s := { s with tables := { s.tables with queries := s.tables.queries.filter fun (q : Nat × QueryWait) => !q.2.open_.contains sd } }
    (hit.foldl (fun s q => s.complete q.2.frame stDisabled) s).drainInserts

/-- Whether the unit of a drain exists. -/
def DrainUnit.exists_ : DrainUnit → Bool
  | .function fn => fn < 128
  | .queue fn q => queueExists fn q
  | .cluster l => l < 64
  | .nsa u => u < 12 || u == 16 || u == 17
  | .galleryPort p => p < 16
  | .recall sd => sd < 12

/-! ### TDIs (R441) -/

/-- The configuration of a VF is frozen: its TDI is in CONFIG_LOCKED or RUN. -/
def State.tdiLocked (s : State) (fn : Nat) : Bool :=
  (aget s.security.tdis fn).any fun x => x == .locked || x == .run

/-- A TDI moves to ERROR: its function is reset under R413. -/
def State.tdiError (s : State) (fn : Nat) : State :=
  let s := { s with security := { s.security with tdis := aset s.security.tdis fn .error } }
  (s.setFlag fTdiError 0).startReset fn false

/-- A write of a control register, where the TDI of the function does not refuse it. -/
def State.ringWrite (s : State) (fn : Nat) (ring : Ring) (v : Nat) : State :=
  if s.tdiLocked fn && s.ctlChanges fn ring v then s.tdiError fn else s.ringCtl fn ring v

/-! ### The meanings -/

/-- DQ_TAIL_WRITE (R398, R399): a doorbell takes bits [31:0]. -/
def execDqTailWrite (fn q v t : Nat) (s : State) : Host.Outcome State Fault Refusal :=
  if !queueExists fn q then .fault .noSuchUnit
  else
    let s := s.stamp t
    let d := (s.fn fn).dq q
    .next (if d.enabled then s.putDq fn q { d with tail := v % 2 ^ 32 % 2 ^ d.log2 } else s)

/-- RQ_HEAD_WRITE (R406): records are freed, and the MOD_US count starts again where records stay pending. -/
def execRqHeadWrite (fn q v t : Nat) (s : State) : Host.Outcome State Fault Refusal :=
  if !queueExists fn q then .fault .noSuchUnit
  else
    let s := s.stamp t
    let r := (s.fn fn).rq q
    let r' := { r with head := v % 2 ^ 32 % 2 ^ r.log2 }
    .next (if r.enabled then s.putRq fn q { r' with since := if r'.pendingRecords = 0 then 0 else s.now } else s)

/-- TEXT_HEAD_WRITE (R410). -/
def execTextHeadWrite (fn v t : Nat) (s : State) : Host.Outcome State Fault Refusal :=
  if !fnExists fn then .fault .noSuchUnit
  else
    let s := s.stamp t
    let h := s.fn fn
    .next (if h.text.enabled then s.putFn fn { h with text := { h.text with head := v % 2 ^ 32 % 2 ^ h.text.log2 } } else s)

/-- DQ_CTL_ENABLE_WRITE (R398 to R400, R411, R412): a write of DQ_CTL, RQ_CTL or TEXT_CTL. -/
def execDqCtlEnableWrite (fn : Nat) (ring : Ring) (v t : Nat) (s : State) : Host.Outcome State Fault Refusal :=
  if !(fnExists fn && ring.exists_) then .fault .noSuchUnit else .next ((s.stamp t).ringWrite fn ring v)

/-- FRAME_FETCH (R399, R400, R402, R403). -/
def execFrameFetch (fn q : Nat) (bytes : List Byte) (t : Nat) (s : State) : Host.Outcome State Fault Refusal :=
  if !queueExists fn q then .fault .noSuchUnit else .next ((s.stamp t).fetch fn q bytes)

/-- TIMED_FRAME_RELEASE (R403). -/
def execTimedFrameRelease (fn q seq t : Nat) (s : State) : Host.Outcome State Fault Refusal :=
  if !queueExists fn q then .fault .noSuchUnit else .next ((s.stamp t).timedFrame fn q seq)

/-- STATUS_RECORD_WRITE (R406, R407). -/
def execStatusRecordWrite (fn q t : Nat) (s : State) : Host.Outcome State Fault Refusal :=
  if !queueExists fn q then .fault .noSuchUnit else .next ((s.stamp t).statusWrite fn q)

/-- RECORD_DELIVER (R62). -/
def execRecordDeliver (slot t : Nat) (s : State) : Host.Outcome State Fault Refusal := .next ((s.stamp t).deliver slot)

/-- MOD_US_EXPIRE (R406). -/
def execModUsExpire (fn q t : Nat) (s : State) : Host.Outcome State Fault Refusal :=
  if !queueExists fn q then .fault .noSuchUnit else .next ((s.stamp t).modExpire fn q)

/-- FUNCTION_LEVEL_RESET (R413). -/
def execFunctionLevelReset (fn t : Nat) (s : State) : Host.Outcome State Fault Refusal :=
  if !fnExists fn then .fault .noSuchUnit else .next ((s.stamp t).startReset fn false)

/-- VF_DISABLE (R413): functions 1 to 63 of a port are virtual. -/
def execVfDisable (fn t : Nat) (s : State) : Host.Outcome State Fault Refusal :=
  if !fnExists fn || fn % 64 == 0 then .fault .noSuchUnit else .next ((s.stamp t).startReset fn true)

/-- SURPRISE_DOWN (R414): the link of a port is lost. -/
def execSurpriseDown (port t : Nat) (s : State) : Host.Outcome State Fault Refusal :=
  if 2 ≤ port then .fault .noSuchUnit
  else
    let s := (s.stamp t).setFlag fSurpriseDown port
    .next ((List.range 64).foldl (fun s v => s.startReset (64 * port + v) true) s)

/-- HOST_ATTACH (R414): the physical function and `vfs` virtual functions start in their reset state. -/
def execHostAttach (port vfs t : Nat) (s : State) : Host.Outcome State Fault Refusal :=
  if 2 ≤ port || 64 ≤ vfs then .fault .noSuchUnit
  else .next ((List.range (vfs + 1)).foldl (fun s v =>
    s.putFn (64 * port + v) { HostFn.absent with state := .reset, vectors := (s.fn (64 * port + v)).vectors }) (s.stamp t))

/-- DRAIN_TIMEOUT (R411). -/
def execDrainTimeout (unit : DrainUnit) (t : Nat) (s : State) : Host.Outcome State Fault Refusal :=
  if !unit.exists_ then .fault .noSuchUnit else .next ((s.stamp t).drainEnds unit)

/-- IDE_STREAM_STOP (R445): no active stream covers the function; in confidential mode what it has accepted drains
(R411). -/
def execIdeStreamStop (fn t : Nat) (s : State) : Host.Outcome State Fault Refusal :=
  if !fnExists fn then .fault .noSuchUnit
  else
    let s := s.stamp t
    let streams := s.security.ideStreams.map fun (p : Nat × List Nat × Bool) => if p.2.1.contains fn then (p.1, p.2.1, false) else p
    let s := { s with security := { s.security with ideStreams := streams } }
    let h := s.fn fn
    .next (if s.security.conf && h.state == .enabled then s.putFn fn { h with drainEnd := s.now + s.drainTimeout } else s)

/-- HIF_REBIND_GO (R412) by a write of HIF_REBIND: the sessions of the tenant move to another function and queue and are
attached again; REFUSED where the tenant is not bound there. -/
def State.rebind (s : State) (v : Nat) : State :=
  let (tenant, src, dst, q) := (fld v 11 0, fld v 22 16, fld v 30 24, fld v 37 32)
  let a := pcs 0x17 0 0x18
  let keep := v &&& 0x3f7f7f0fff
  if !bitOf v 63 then s.setReg a (setFld (keep + s.reg a / 2 ^ 62 * 2 ^ 62) 63 63 0)
  else if !s.bound tenant dst then s.setReg a (keep + 2 ^ 62 + 2 ^ 63)
  else
    let s := s.setReg a (keep + 2 ^ 63)
    { s with sessions := s.sessions.map fun (p : Nat × Session) =>
        let e := p.2.cur.entry
        if e.state != .free && e.tenant == tenant && e.function == src then
          (p.1, p.2.withEntry { e with function := dst, resultQueue := q, detached := false })
        else p }

/-- HIF_REBIND_GO (R412). -/
def execHifRebindGo (fn v t : Nat) (s : State) : Host.Outcome State Fault Refusal :=
  if !fnExists fn then .fault .noSuchUnit else .next ((s.stamp t).rebind v)

end Sys2Proof.Machine
end

