-- ==== Sys2Proof/Machine/Fence.lean ====
section
/-! DEFINITION. Dies and units that leave service (R457, R484 to R487), the active management complex (R17) and the
containment of hardware errors (R517 to R522). -/

namespace Sys2Proof.Machine

/-! ### The active management complex (R17, R30, R376) -/

def fKernelStopped : FlagId := ⟨0x0a, 0x28, 1⟩

/-- The Alias certificate of the active complex (R425): it changes with stage-1 and with the IOD. -/
def State.newAlias (s : State) : State :=
  { s with security := { s.security with
      aliasCert := Config.sha384 [agetD s.security.measurements 2 0, s.boot.leader.getD 0] } }

/-- The standby complex becomes active (R17): its IOD leads, SWAPS rises, slot 0 has its Alias certificate (R425), and
the energy ports hold their last duty while the loops move (R376). -/
def State.mgmtSwap (s : State) : State :=
  let next := 1 - s.boot.leader.getD 0
  let n := s.regFld 0x00 0 0x18 15 8
  let s := { s with boot := { s.boot with leader := some next } }
  let s := s.setRegFld 0x00 0 0x18 15 8 (min 255 (n + 1))
  let s := { s with energyPorts := s.energyPorts.map fun (p : Nat × EnergyPort) =>
    (p.1, if p.2.phase = PortPhase.safe ∨ p.2.phase = PortPhase.absent then p.2 else { p.2 with swapSince := some s.now }) }
  s.newAlias

/-- The package stops on a fatal error (R518): the log, which survives, holds its entry. -/
def State.fatal (s : State) (die code detail : Nat) : State :=
  let s := (s.logError 3 die 0x1e 0 code detail).stopped
  { s with boot := { s.boot with halted := true, pkgPgood := false } }

/-- The active complex fails (R17, R86): steps without a seal are abandoned, and the standby takes over; with no standby
the package stops (R519). -/
def State.mgmtFail (s : State) : State :=
  let old := s.boot.leader.getD 0
  if !s.boot.standbyOk then s.fatal (28 + old) 0x0303 0
  else
    let s := ((s.abandon false).abandon true).mgmtSwap
    { s with boot := { s.boot with standbyOk := false } }

/-! ### Table slices (R486) -/

/-- The SDs that serve and mirror a slice. -/
def State.slice (s : State) (n : Nat) : Nat × Nat := agetD s.boot.slices n (n, (n + 1) % 12)

/-- The next SD of a list after SD `n`, in rotation. -/
def nextOf (live : List Nat) (n : Nat) : Option Nat := ((List.range 11).map fun i => (n + 1 + i) % 12).find? fun k => live.contains k

/-- The slices once SD `k` has left service and `live` remain: the mirror serves, and a new mirror follows it; `none`
where a stack would hold more than four slices, or a slice has no second stack. -/
def State.slicesWithout (s : State) (live : List Nat) (k : Nat) : Option (List (Nat × Nat × Nat)) :=
  let move := fun n =>
    let (a, b) := s.slice n
    let a' := if a = k then b else a
    if a = k ∨ b = k then (nextOf (live.filter (· != a')) a').map fun b' => (n, a', b') else some (n, a, b)
  match (List.range 12).mapM move with
  | none => none
  | some l =>
    let held := fun j => countBy (fun (x : Nat × Nat × Nat) => x.2.1 == j || x.2.2 == j) l
    if live.all fun j => held j ≤ 4 then some l else none

/-- State dies in service. -/
def State.liveSds (s : State) : List Nat := (List.range 12).filter fun n => !s.boot.diesOut.contains (16 + n)

/-! ### Shards and BLOBs move (R469, R485) -/

/-- A shard's read is issued to its storage target. -/
def State.readShard (s : State) (h : Shard) : State := s.emit (.storeRead h.target h.nsid h.offset h.bytes)

/-- Weight shards and device BLOBs of a lost stack are reloaded into other stacks, the next in service. -/
def State.moveShards (s : State) (k : Nat) : State :=
  let next := (nextOf s.liveSds k).getD k
  let lost := s.boot.shards.filter fun h => h.sd == k
  let moved := s.boot.shards.map fun h => if h.sd = k then { h with sd := next, errors := 0, loaded := false } else h
  let blobs := s.boot.blobs.map fun (b : Nat × Nat × List Byte) => if b.2.1 = k then (b.1, next, b.2.2) else b
  lost.foldl (fun s h => s.readShard { h with sd := next }) { s with boot := { s.boot with shards := moved, blobs := blobs } }

/-! ### Dies (R484, R485) -/

/-- A cluster of a set serves the step in flight of a stream: a member runs on it, or it is an EXPERT cluster and a
member's model has routed experts. -/
def State.serves (s : State) (s1 : Bool) (hit : Nat → Bool) : Bool :=
  (s.stream s1).run.any fun r => r.live.any fun m =>
    hit m.cluster || (((s.modelOf m.slot).any fun d => d.experts != 0) && (s.clustersOf 4).any hit)

/-- Steps in flight that satisfy a test are abandoned (R86). -/
def State.abandonWhere (s : State) (p : State → Bool → Bool) : State :=
  [false, true].foldl (fun s s1 => if p s s1 then s.abandon s1 else s) s

/-- A die is out of service (BRU_DIES). -/
def State.dieOut (s : State) (d : Nat) : State := { s with boot := { s.boot with diesOut := s.boot.diesOut ++ [d] } }

/-- A CD is fenced: its clusters leave service, and what their cores held is gone. -/
def State.fenceCd (s : State) (d : Nat) : State :=
  let s := s.abandonWhere fun s s1 => s.serves s1 fun l => l / 4 == d
  { s with cores := s.cores.filter fun (c : Nat × Core) => c.1 / 32 != d
           clusterSram := s.clusterSram.filter fun (c : Nat × List Host.Cell) => c.1 / 4 != d }

/-- The pages of a lost stack: those of sessions are freed, row pages and adapter images are POISON (log entry 38). -/
def State.dropStack (s : State) (k : Nat) : State :=
  let keep := fun (p : Nat × Leaf) => (p.2.pinned && p.2.tenant != 0) || s.adapters.any fun a => a.2.pages.contains p.1
  let mine := s.leaves.filter fun p => ownerSd p.1 == k
  let s := mine.foldl (fun s p => if keep p then s.updLeaf p.1 fun l => { l with poison := true } else s.freePage p.1) s
  { s with kvShards := s.kvShards.filter fun (q : Nat × KvShard) => q.2.sd != k }

/-- An SD is fenced: its sessions are FENCED/DIE_LOST, an epoch that froze pages there fails (R352), its slices move,
its weight shards and BLOBs are reloaded. -/
def State.fenceSd (s : State) (k : Nat) : State :=
  let s := if s.leaves.any fun p => ownerSd p.1 == k && p.2.frozen then s.epochFail else s
  let slices := (s.slicesWithout (s.liveSds.filter (· != k)) k).getD s.boot.slices
  let homed := s.slotsWhere fun x => x.cur.entry.state != .free && x.cur.entry.state != .away && x.cur.entry.homeSd == k
  let s := homed.foldl (fun s i => s.loseSession i .dieLost stDisabled) s
  let s := ((s.incoming.filter fun (q : Nat × Incoming) => q.2.homeSd == k).map (·.1)).foldl State.freeIncoming s
  let s := (List.range 32).foldl (fun s c => s.channelReset k c) s
  let s := s.dropStack k
  let s := s.putSd k { s.sd k with inService := false, refs := [], nodes := [], domainKeys := [], hot := [], cold := [], cageWaiting := [] }
  let s := { s.dieOut (16 + k) with boot := { (s.dieOut (16 + k)).boot with slices := slices } }
  s.moveShards k

/-- The host port of an IOD is lost (R414). -/
def State.hostLost (s : State) (port : Nat) : State :=
  let s := s.setFlag fSurpriseDown port
  (List.range 64).foldl (fun s v => s.startReset (64 * port + v) true) s

/-- An IOD is fenced: its T1 pool, Gallery ports, host port, expansion port, drive and Ethernet port are lost; the
standby takes over where it was active. -/
def State.fenceIod (s : State) (i : Nat) : State :=
  let active := s.boot.leader == some i
  let s := s.abandonWhere fun s s1 => active || (s.stream s1).run.any fun r => r.live.any fun m =>
    m.attention.any fun w => w.output.isNone && w.units.any fun u => u.2 == 16 + i
  let s := if active then s.mgmtSwap else s
  let s := { s with boot := { s.boot with standbyOk := false, diesOut := s.boot.diesOut ++ [28 + i] } }
  let s := s.losePool 1 i
  let s := (List.range 16).foldl (fun s c => s.channelReset (16 + i) c) s
  let s := ((List.range 16).filter fun p => p % 2 == i).foldl State.portDown s
  let s := s.hostLost i
  let s := (List.range 4).foldl (fun s d => s.removeExpander (4 * i + d) true) s
  let s := if (s.drive i).state = 1 then s.driveDown i else s
  s.putEth i { s.eth i with link := false }

/-- Whether a fence is refused (R487): the die is fenced already, the only IOD, or an SD whose slices have no place. -/
def State.fenceRefused (s : State) (d : Nat) : Bool :=
  s.boot.diesOut.contains d
    || (16 ≤ d && d < 28 && (s.slicesWithout (s.liveSds.filter (· != d - 16)) (d - 16)).isNone)
    || (d == 28 && s.boot.diesOut.contains 29) || (d == 29 && s.boot.diesOut.contains 28)

/-- A die is fenced online (R484, R485): BRU_DIES, the defect map and BRU_FLAGS.FENCED record it. -/
def State.fenceDie (s : State) (d : Nat) : State :=
  let s :=
    if d < 16 then (s.fenceCd d).dieOut d
    else if d < 28 then s.fenceSd (d - 16)
    else if d < 30 then s.fenceIod (d - 28)
    else (s.portSafe (d - 30)).dieOut d
  ({ s with boot := { s.boot with defects := s.boot.defects ++ [(⟨d, 5, 0, 3⟩ : Defect)] } }).setFlag fFenced 0

/-! ### Units named by DEFECT items (R461, R472, R484) -/

/-- A cluster leaves service; the steps it serves are abandoned. -/
def State.fenceCluster (s : State) (l : Nat) : State :=
  if !s.clusterIn l then s
  else
    let s := s.abandonWhere fun s s1 => s.serves s1 fun x => x == l
    { s with boot := { s.boot with clustersOut := s.boot.clustersOut ++ [l] } }

/-- The logical cluster of a physical one, where it is in service. -/
def State.logicalCluster (s : State) (die c : Nat) : Option Nat :=
  match indexOf? (· == die) s.boot.cdMap with
  | none => none
  | some d => (indexOf? (· == c) (agetD s.boot.clusterMap d [])).map fun k => 4 * d + k

/-- A unit named by a DEFECT item after bring-up goes out of service as a fence does: a core in use takes its cluster
out, for no map is programmed again before a reset (R457); with a fifth pseudo-channel a stack's SD leaves (R454). -/
def State.fenceUnit (s : State) (die kind index : Nat) : State :=
  let s := { s with boot := { s.boot with defects := s.boot.defects ++ [(⟨die, kind, index, 2⟩ : Defect)] } }
  if kind = 0 then
    match s.logicalCluster die (index / 9) with
    | some l => if (agetD s.boot.coreMap l []).contains (index % 9) then s.fenceCluster l else s
    | none => s
  else if kind = 1 then
    match s.logicalCluster die index with
    | some l => s.fenceCluster l
    | none => s
  else if kind = 2 then
    let n := countBy (fun (x : Defect) => x.die == die && x.kind == 2) s.boot.defects
    if 4 < n ∧ !s.fenceRefused die then s.fenceDie die else s
  else if kind = 3 then (s.portDown index).putPort index { (s.portDown index).port index with state := .down }
  else { s with boot := { s.boot with ddrUnused := s.boot.ddrUnused ++ [8 * (die - 28) + index] } }

/-! ### A kernel that faults (R218) -/

/-- The clusters that run a model instance's members. -/
def State.modelClusters (s : State) (mi : Nat) : List Nat :=
  ([false, true].flatMap fun s1 => ((s.stream s1).run.map fun r =>
    (r.members.filter fun m => (s.entry m.slot).model == mi).map Member.cluster).getD []).dedup

/-- Clusters become IDLE (R71). -/
def State.idleClusters (s : State) (ls : List Nat) : State :=
  ls.foldl (fun s l => s.setRegFld 0x03 0 (0x10 + 8 * (l / 16)) (4 * (l % 16) + 3) (4 * (l % 16)) 0) s

/-- A kernel of a model instance is stopped (R218). -/
def State.stopKernel (s : State) (mi : Nat) (clusters : List Nat) (die : Nat) : State :=
  ((s.idleClusters clusters).setFlag fKernelStopped (die % 16)).logError 1 die 0x0a (die % 16) 0x0102 mi

/-! ### Errors that hardware detects (R518) -/

/-- An error is detected, contained and logged (R518): a DE reaches its page or its kernel; a UE fences its die, and is
fatal where the fence is refused; an FE stops the package. -/
def State.detect (s : State) (cls die blk inst code detail : Nat) : State :=
  if cls = 1 ∧ code = 0x0101 ∧ (s.leaf detail).any (fun l => !l.poison) then s.poisonPage detail
  else if cls = 1 ∧ code = 0x0102 then s.stopKernel detail (s.modelClusters detail) die
  else if cls = 0 ∨ cls = 1 then s.logError cls die blk inst code detail
  else if cls = 2 then
    let s := s.logError 2 die blk inst code detail
    if s.boot.diesOut.contains die then s
    else if s.fenceRefused die then s.fatal die (if die = 28 ∨ die = 29 then 0x0302 else code) detail
    else s.fenceDie die
  else s.fatal die code detail

/-! ### The meanings -/

/-- MGMT_FAILOVER (R17, R86). -/
def execMgmtFailover (t : Nat) (s : State) : Host.Outcome State Fault Refusal := .next (s.stamp t).mgmtFail

/-- BRU_FENCE (R484, R487): a write of BRU_FENCE with GO set. -/
def execBruFence (v t : Nat) (s : State) : Host.Outcome State Fault Refusal :=
  let s := (s.stamp t).setReg (pcs 0x1a 0 0x20) (setFld (v % 32) 63 63 (v / 2 ^ 63))
  let d := v % 32
  .next (if !bitOf v 63 then s else if s.fenceRefused d then s.setFlag fFenceRefused 0 else s.fenceDie d)

/-- ERROR_DETECT (R518, R520, R522). -/
def execErrorDetect (cls die blk inst code detail t : Nat) (s : State) : Host.Outcome State Fault Refusal :=
  if cls < 4 ∧ die < 32 then .next ((s.stamp t).detect cls die blk inst code detail) else .fault .noSuchUnit

end Sys2Proof.Machine
end

