-- ==== Sys2Proof/Machine/Energy.lean ====
section
/-! DEFINITION. The power and energy controller: supplies, the power cap, thermal control, the loops of the energy ports,
store health and replacement (R363 to R378, R380). -/

namespace Sys2Proof.Machine

/-! ### Converters and the cap (R364, R366, R367) -/

/-- A poll of the converters (R364): for each, its PMBus address, whether it answered, whether it reports a fault. -/
def State.pollConverter (s : State) (c : Nat × Bool × Bool) : State :=
  let (addr, answered, bad) := c
  let n := if answered then 0 else agetD s.power.missed addr 0 + 1
  let s := { s with power := { s.power with missed := aset s.power.missed addr n } }
  if (answered && bad) || n == 3 then (s.setFlag fConvFault 0).logError 0 28 0x15 0 0x0006 addr else s

/-- The AVSBus setpoint (R364): the lowest of 5.6 V to 6.4 V in 10 mV steps that keeps 0.3 V above what the regulators
need. -/
def avsSetpoint (needMv : Nat) : Nat := max 5600 (min 6400 (ceilDiv (needMv + 300) 10 * 10))

/-- The TDP of the part (PKG_PART.TDP_W). -/
def State.tdp (s : State) : Nat := s.regFld 0 0 0x08 47 32

/-- PWR_CAP.CAP_W, clamped to 600 W to TDP_W (R366). -/
def State.writeCap (s : State) (v : Nat) : State := s.setReg (pcs 0x15 0 0) (max 600 (min s.tdp (fld v 10 0)))

/-- The highest frequency of a cluster in MHz, and the lowest (R20). -/
def freqMax : Nat := 2000
def freqMin : Nat := 600

/-- A frequency limit as the controller can set it: steps of 25 MHz down to 0.6 GHz (R367). -/
def clampFreq (f : Nat) : Nat := max freqMin (min freqMax f / 25 * 25)

/-- Something is limited: a cluster below its highest frequency, or step pacing. -/
def Power.limiting (p : Power) : Bool := p.pacing || p.freqCd.any fun f => f.2 < freqMax

/-- FREQ_LIMIT_MHZ: the highest cluster frequency now allowed. -/
def highestFreq (l : List (Nat × Nat)) : Nat := l.foldl (fun m f => max m f.2) 0

/-- A run of the thermal and cap loop (R368, R374): what the sensors read, and its result words, the frequency limit of
each CD and the pacing delay. -/
def State.thermalLoop (s : State) (junc dram die watts mj : Nat) (freqs : List Nat) (pacing : Nat) : State :=
  let fs := (List.range (min 16 freqs.length)).map fun i => (i, clampFreq (freqs.getD i freqMax))
  let p := { s.power with
    powerW := watts, energyMj := (s.power.energyMj + mj) % 2 ^ 64, hotJunc := junc, hotDram := dram, hotDie := die
    freqCd := fs, freqMhz := highestFreq fs, pacing := pacing != 0, pacingUs := min pacing 10000 }
  let cap := s.regFld 0x15 0 0x00 10 0
  let p := { p with
    capLimit := p.limiting && (s.power.capLimit || cap < watts)
    thermLimit := p.limiting && (s.power.thermLimit || 105 ≤ junc || 95 ≤ dram) }
  { s with power := p }

/-- A faulted run of the loop (R375): every cluster at 0.6 GHz, pacing as it stands, until a firmware update. -/
def State.thermalLoopFault (s : State) : State :=
  let fs := (List.range 16).map fun i => (i, freqMin)
  { s with power := { s.power with freqCd := fs, freqMhz := freqMin, loopStopped := true } }

/-- Limiting is undone in reverse order (R367): pacing first, then the frequency by one step of 25 MHz. -/
def State.capRelax (s : State) (watts : Nat) : State :=
  let p := s.power
  if 97 * s.regFld 0x15 0 0x00 10 0 ≤ 100 * watts || p.loopStopped then s
  else if p.pacing then { s with power := { p with pacing := false, pacingUs := 0 } }
  else
    let fs := p.freqCd.map fun (f : Nat × Nat) => (f.1, clampFreq (f.2 + 25))
    let p := { p with freqCd := fs, freqMhz := highestFreq fs }
    { s with power := { p with capLimit := p.capLimit && p.limiting } }

/-! ### Store health (R372) -/

/-- Taps of the store's cells. -/
def EnergyPort.cellTaps (p : EnergyPort) (cfg : Nat) : List Nat := p.taps.take (cfgCells cfg)

/-- A tap lies at most 100 mV outside MIN_MV to CHARGE_MV (R372). -/
def EnergyPort.tapOk (p : EnergyPort) (cfg tap : Nat) : Bool := cfgMin cfg ≤ tap + 100 && tap ≤ p.chargeMv cfg + 100

/-- No condition of R372 makes the port unhealthy. -/
def EnergyPort.sound (p : EnergyPort) (cfg : Nat) : Bool :=
  cfgProfile cfg != 0 && 70 * cfgRating cfg ≤ 100 * p.rating && p.esr ≤ 2 * p.firstEsr
    && (p.cellTaps cfg).all (p.tapOk cfg)

/-- HEALTHY, DERATED and their flags as the sensors now read. -/
def State.judgePort (s : State) (n : Nat) (p : EnergyPort) : State :=
  let cfg := s.eidCfg n
  let ok := p.sound cfg
  let old := s.eport n
  let left := (old.cellTaps cfg).all (old.tapOk cfg) && !(p.cellTaps cfg).all (p.tapOk cfg)
  let s := s.putEport n { p with healthy := ok, derated := p.derating cfg }
  (s.flagIf (old.healthy && !ok) fUnhealthy n).flagIf left fCellLimit n

/-- The NTCs lie in the range of the profile (R372). -/
def EnergyPort.ntcOk (p : EnergyPort) (cfg : Nat) : Bool :=
  p.ntcs.all fun c => -200 ≤ c && c ≤ if cfgProfile cfg = 1 then 650 else 550

/-- ADMIT's check of taps and NTCs (R378). -/
def EnergyPort.admissible (p : EnergyPort) (cfg : Nat) : Bool :=
  cfgProfile cfg != 0 && countBy (fun v => decide (500 < v)) p.taps == cfgCells cfg
    && (p.cellTaps cfg).all (p.tapOk cfg) && p.ntcOk cfg

/-! ### The loops (R374, R375, R376) -/

/-- A run of a current loop (R374): what the EID senses, and the result words. -/
def State.currentLoop (s : State) (n busV storeV : Nat) (current : Int) (d1 d2 request : Nat) : State :=
  let p := { s.eport n with busV := busV, storeV := storeV, current := current, request := request, swapSince := none }
  let off := p.phase == .absent || p.phase == .removable || p.phase == .safe
  s.putEport n { p with duty := if off then (0, 0) else (d1 % 65536, d2 % 65536) }

/-- A run of the voltage loop (R374): the taps and NTCs of a port, its setpoint and health word. -/
def State.voltagePort (s : State) (n : Nat) (taps : List Nat) (ntcs : List Int) (setpoint : Int) (health : Nat) : State :=
  let p := { s.eport n with
    taps := taps, ntcs := ntcs, setpoint := setpoint, rating := fld health 15 0, esr := fld health 31 16, soc := fld health 63 57 }
  s.judgePort n p

/-- A pulse test of a store (R374): rating and ESR; the first ESR measured is kept (R372). -/
def State.healthTest (s : State) (n rating esr : Nat) : State :=
  let p := s.eport n
  if p.phase != .ready && p.phase != .charging then s
  else
    let p := { p with rating := rating, esr := esr, firstEsr := if p.firstEsr = 0 then esr else p.firstEsr }
    let s := s.judgePort n p
    s.putEport n { s.eport n with testPassed := (s.eport n).healthy }

/-- RETIRE (R378): the other port must be READY and HEALTHY. -/
def State.retire (s : State) (n : Nat) : State :=
  let o := s.eport (1 - n)
  let p := s.eport n
  if p.phase = .ready ∧ o.counts then s.setPort n p .retiring else s.setFlag fCmdRefused n

/-- ADMIT (R378), in ABSENT, REMOVABLE or SAFE. -/
def State.admitPort (s : State) (n : Nat) : State :=
  let p := s.eport n
  let open_ := p.phase == .absent || p.phase == .removable || p.phase == .safe
  if open_ && p.supply && p.admissible (s.eidCfg n) then
    s.setPort n { p with firstEsr := 0, esr := 0, testPassed := false } .precharge
  else s.setFlag fCmdRefused n

/-- A faulted run of a current loop (R375). -/
def State.currentLoopFault (s : State) (n : Nat) : State :=
  let healthy := (s.eport n).healthy
  (((s.putEport n { s.eport n with healthy := false }).portSafe n).flagIf healthy fUnhealthy n).setFlag fLoopFault n

/-- A faulted run of the voltage loop (R375): the setpoints hold for one second. -/
def State.voltageLoopFault (s : State) : State :=
  let s := { s with power := { s.power with holdSince := s.power.holdSince.orElse fun _ => some s.now } }
  (s.setFlag fLoopFault 0).setFlag fLoopFault 1

/-! ### The meanings -/

/-- CURRENT_LOOP_RUN (R374); a faulted run puts the port into SAFE (R375). -/
def execCurrentLoopRun (eid busV storeV : Nat) (current : Int) (duty1 duty2 request : Nat) (fault : Bool) (t : Nat) (s : State) :
    Host.Outcome State Fault Refusal :=
  let s := s.stamp t
  onEid eid (if !(s.eport eid).supply then s
    else if fault then s.currentLoopFault eid
    else s.currentLoop eid busV storeV current duty1 duty2 request)

/-- VOLTAGE_LOOP_RUN (R374): taps, NTCs, setpoint and health word of both ports, and the port flags; a faulted run holds
the setpoints (R375). -/
def execVoltageLoopRun (tapsA tapsB : List Nat) (ntcsA ntcsB : List Int) (setA setB : Int) (healthA healthB flags : Nat)
    (fault : Bool) (t : Nat) (s : State) : Host.Outcome State Fault Refusal :=
  let s := s.stamp t
  .next (if fault then s.voltageLoopFault
    else if s.power.holdSince.isSome then s
    else
      let s := (s.voltagePort 0 tapsA ntcsA setA healthA).voltagePort 1 tapsB ntcsB setB healthB
      { s with power := { s.power with portFlags := flags } })

/-- THERMAL_LOOP_RUN (R368, R374, R375). -/
def execThermalLoopRun (junc dram die watts mj : Nat) (freqs : List Nat) (pacing : Nat) (fault : Bool) (t : Nat) (s : State) :
    Host.Outcome State Fault Refusal :=
  let s := s.stamp t
  .next (if s.power.loopStopped then s
    else if fault then s.thermalLoopFault
    else s.thermalLoop junc dram die watts mj freqs pacing)

/-- HEALTH_TEST (R374). -/
def execHealthTest (eid rating esr t : Nat) (s : State) : Host.Outcome State Fault Refusal :=
  onEid eid ((s.stamp t).healthTest eid rating esr)

/-- ENERGY_RECOMPUTE (R377, R380, R381). -/
def execEnergyRecompute (t : Nat) (s : State) : Host.Outcome State Fault Refusal := .next (s.stamp t).recompute

/-- PMBUS_POLL (R364). -/
def execPmbusPoll (converters : List (Nat × Bool × Bool)) (needMv t : Nat) (s : State) : Host.Outcome State Fault Refusal :=
  let s := converters.foldl State.pollConverter (s.stamp t)
  .next { s with power := { s.power with avsMv := avsSetpoint needMv } }

/-- CAP_RELAX (R367). -/
def execCapRelax (watts t : Nat) (s : State) : Host.Outcome State Fault Refusal := .next ((s.stamp t).capRelax watts)

/-- LOOP_FAULT_HOLD_EXPIRE (R375): one second after a voltage-loop fault both ports enter SAFE. -/
def execLoopFaultHoldExpire (t : Nat) (s : State) : Host.Outcome State Fault Refusal :=
  let s := s.stamp t
  .next (match s.power.holdSince with
    | some h =>
      if h + 1000000000 ≤ s.now then
        let s := (s.portSafe 0).portSafe 1
        { s with power := { s.power with holdSince := none } }
      else s
    | none => s)

/-- LOOP_SWAP_TIMEOUT (R376): an EID that has had no new duty for 200 µs enters SAFE. -/
def execLoopSwapTimeout (eid t : Nat) (s : State) : Host.Outcome State Fault Refusal :=
  let s := s.stamp t
  onEid eid (match (s.eport eid).swapSince with
    | some h => if h + 200000 ≤ s.now then s.portSafe eid else s
    | none => s)

/-- PRECHARGE_DONE (R373): the converter's store node is within 1 V of the store; the contactor closes. -/
def execPrechargeDone (eid nodeV t : Nat) (s : State) : Host.Outcome State Fault Refusal :=
  let s := s.stamp t
  let p := s.eport eid
  onEid eid (if p.phase = .precharge ∧ nodeV ≤ p.storeV + 100 ∧ p.storeV ≤ nodeV + 100 then
    s.setPort eid { p with contactor := true } .charging else s)

/-- CHARGE_DONE (R373): the store is at CHARGE_MV with a passed health test. -/
def execChargeDone (eid t : Nat) (s : State) : Host.Outcome State Fault Refusal :=
  let s := s.stamp t
  let p := s.eport eid
  let cfg := s.eidCfg eid
  onEid eid (if p.phase = .charging ∧ p.testPassed ∧ cfgCells cfg * p.chargeMv cfg ≤ 10 * p.storeV then
    s.setPort eid p .ready else s)

/-- CONTACTOR_OPEN (R373): a RETIRING port's current has fallen to 0.5 A. -/
def execContactorOpen (eid t : Nat) (s : State) : Host.Outcome State Fault Refusal :=
  let s := s.stamp t
  let p := s.eport eid
  onEid eid (if p.phase = .retiring ∧ p.current.natAbs ≤ 500 then
    s.setPort eid { p with contactor := false, duty := (0, 0) } .removable else s)

/-- PWR_CAP_WRITE (R366). -/
def execPwrCapWrite (v t : Nat) (s : State) : Host.Outcome State Fault Refusal := .next ((s.stamp t).writeCap v)

/-- EID_RETIRE (R378). -/
def execEidRetire (eid t : Nat) (s : State) : Host.Outcome State Fault Refusal := onEid eid (((s.stamp t).setReg (pcs 0x16 eid 0x30) 1).retire eid)

/-- EID_ADMIT (R378). -/
def execEidAdmit (eid t : Nat) (s : State) : Host.Outcome State Fault Refusal := onEid eid (((s.stamp t).setReg (pcs 0x16 eid 0x30) 2).admitPort eid)

end Sys2Proof.Machine
end

