-- ==== Sys2Proof/Machine/Security.lean ====
section
/-! DEFINITION. Security (chapter 16): signed images, anti-rollback, attestation, key installation, TDISP, debug; and the
management transports (R423). -/

namespace Sys2Proof.Machine

/-! ### Signed images (R426 to R431) -/

/-- Replace the security state. -/
def State.putSec (s : State) (x : Security) : State := { s with security := x }

/-- A vendor key position. -/
def Security.position (x : Security) (i : Nat) : KeyPosition := agetD x.positions i { hash := 0, keyId := 0, revoked := false }

/-- The position whose key checks an image of a KEY_ID (R426): that of the slot, ACTIVE or NEXT, that bears it. -/
def Security.positionFor (x : Security) (keyId : Nat) : Option KeyPosition :=
  if (x.position x.active).keyId = keyId then some (x.position x.active)
  else if (x.position x.next).keyId = keyId then some (x.position x.next)
  else none

/-- An owner key is enrolled (R428). -/
def Security.owned (x : Security) : Bool := x.owners.any fun o => !o.2.2

/-- Whether the root of trust admits an image (R426 to R430). -/
def Security.admits (x : Security) (g : ImageSig) : Bool :=
  (x.positionFor g.keyId).any (fun p => !p.revoked) && g.vendorOk
    && (!(g.mldsa || x.hybridRequired) || (g.mldsa && g.mldsaOk))
    && (!x.owned || g.ownerOk) && x.fuseSvn ≤ g.svn && g.svn ≤ 64

/-- An image is admitted, or refused with IMAGE_REJECT. -/
def State.checkImage (s : State) (g : ImageSig) : Bool × State :=
  if s.security.admits g then (true, s) else (false, s.setFlag fImageReject 0)

/-- A firmware class (R458); class 4 stands for stage-1. -/
def State.fw (s : State) (c : Nat) : FwClass := agetD s.boot.firmware c FwClass.none

/-- Replace a firmware class. -/
def State.putFw (s : State) (c : Nat) (x : FwClass) : State := { s with boot := { s.boot with firmware := aset s.boot.firmware c x } }

/-- The lowest SVN among the images running in every firmware class (SEC_SVN.RUN_SVN). -/
def State.runSvn (s : State) : Nat := [1, 2, 3].foldl (fun m c => min m (s.fw c).runSvn) (s.fw 0).runSvn

/-- A class without its staged image. -/
def FwClass.unstage (x : FwClass) : FwClass :=
  { x with stagedVersion := 0, stagedSvn := 0, stagedKey := 0, stagedHash := 0, armed := false }

/-- Staged images that satisfy a test become unloadable. -/
def State.dropStaged (s : State) (p : FwClass → Bool) : State :=
  { s with boot := { s.boot with firmware := s.boot.firmware.map fun (f : Nat × FwClass) => if p f.2 then (f.1, f.2.unstage) else f } }

/-- SEC_SVN.COMMIT (R431). -/
def State.svnCommit (s : State) : State :=
  let n := max s.security.fuseSvn (min 64 s.runSvn)
  (s.putSec { s.security with fuseSvn := n }).dropStaged fun f => f.stagedSvn < n

/-- Key rotation (R429): the ACTIVE position is revoked, NEXT becomes ACTIVE, and a new NEXT is named. -/
def State.rotateKeys (s : State) (position : Nat) (signed : Bool) : State :=
  let x := s.security
  if !signed || position ≥ 4 || (x.position position).revoked || position == x.active then s.setFlag fImageReject 0
  else
    let old := x.position x.active
    let s := s.putSec { x with
      positions := aset x.positions x.active { old with revoked := true }, active := x.next, next := position }
    s.dropStaged fun f => f.stagedVersion != 0 && f.stagedKey == old.keyId

/-- A firmware image is staged (R482): it replaces any image staged earlier. -/
def State.fwStage (s : State) (cls version hash : Nat) (g : ImageSig) : State :=
  let (ok, s) := s.checkImage g
  if !ok then s.emit (.response 0 [stAuthFail])
  else
    let s := s.putFw cls { s.fw cls with
      stagedVersion := version, stagedSvn := g.svn, stagedKey := g.keyId, stagedHash := hash, armed := false }
    s.emit (.response 0 [stOk])

/-! ### Attestation (R432 to R434): codes of SPDM 1.3 (log entry 35) -/

/-- SPDM error codes; R436's ResourceUnavailable has no code in the standard. -/
def spdmInvalidRequest : Nat := 0x01
def spdmInvalidSession : Nat := 0x02
def spdmBusy : Nat := 0x03
def spdmUnexpected : Nat := 0x04
def spdmDecrypt : Nat := 0x06
def spdmUnavailable : Nat := 0x100

/-- An SPDM ERROR response. -/
def State.spdmError (s : State) (code : Nat) : State := s.emit (.response 0x7f [code])

/-- A raw number of bits. -/
def packBits (bs : List Bool) : Nat := leNat (bs.map fun b => BitVec.ofNat 8 (bit b))

/-- The chain in an SPDM certificate slot, as its digest's number: slot 0 ends in the Alias certificate of the active
complex (R425), slot 1 holds the owner's chain. -/
def State.chain (s : State) (slot : Nat) : Option Nat :=
  if slot = 0 then some s.security.aliasCert else if slot = 1 then s.security.ownerCert else none

/-- Digest of a firmware class's running image. -/
def State.fwHash (s : State) (c : Nat) : Nat := (s.fw c).runHash

/-- A defect as numbers. -/
def Defect.nums (d : Defect) : List Nat := [d.die, d.kind, d.index, d.cause]

/-- A measurement (R433). -/
def State.measurement (s : State) (i : Nat) : Nat :=
  let x := s.security
  if i = 3 then s.fwHash 3
  else if i = 4 then s.fwHash 1
  else if i = 5 then s.fwHash 0
  else if i = 7 then s.boot.hfHash
  else if i = 8 then Config.sha384 ((s.boot.blobs.filter fun b => b.1 / 65536 == 5).flatMap fun b => b.2.2.map BitVec.toNat)
  else if i = 9 then packBits [x.conf, x.debugUnlocked, x.hybridRequired]
  else if i = 10 then
    let rev := sumBy (fun i => if (x.position i).revoked then 2 ^ i else 0) [0, 1, 2, 3]
    let own := sumBy (fun o => 2 ^ o.1) x.owners
    let key := ((x.owners.find? fun o => !o.2.2).map fun o => o.2.1).getD 0
    x.fuseSvn + 2 ^ 8 * (x.position x.active).keyId + 2 ^ 16 * (x.position x.next).keyId + 2 ^ 24 * rev + 2 ^ 32 * own
      + 2 ^ 64 * (key % 2 ^ 64)
  else if i = 11 then Config.sha384 (s.boot.defects.flatMap Defect.nums)
  else agetD x.measurements i 0

/-- A signature of the Alias key: no rule computes with its bits. -/
def State.sign (s : State) : Nat × State :=
  let (d, s) := s.draw
  (Config.random d, s)

/-- The connection is negotiated: the requests that need it are answered with an error before. -/
def State.negotiated (s : State) (k : State → State) : State :=
  if s.security.spdm = .algorithms then k s else s.spdmError spdmUnexpected

/-- A secure session that FINISH has completed. -/
def State.secure (s : State) (id : Nat) (k : SpdmSession → State → State) : State :=
  match s.security.sessions.find? fun x => x.id == id && x.finished with
  | some x => k x s
  | none => s.spdmError spdmInvalidSession

/-- GET_VERSION starts the connection again. -/
def State.getVersion (s : State) : State := (s.putSec { s.security with spdm := .version }).emit (.response 0x04 [0x13])

/-- GET_CAPABILITIES after GET_VERSION. -/
def State.getCapabilities (s : State) : State :=
  if s.security.spdm = .version then (s.putSec { s.security with spdm := .capabilities }).emit (.response 0x61 [])
  else s.spdmError spdmUnexpected

/-- NEGOTIATE_ALGORITHMS after GET_CAPABILITIES: ECDSA and ECDHE P-384, SHA-384, AES-256-GCM. -/
def State.negotiate (s : State) (offered : Bool) : State :=
  if s.security.spdm != .capabilities then s.spdmError spdmUnexpected
  else if !offered then s.spdmError spdmInvalidRequest
  else (s.putSec { s.security with spdm := .algorithms }).emit (.response 0x63 [])

/-- GET_DIGESTS: the slots that hold a chain, and the digest of each. -/
def State.getDigests (s : State) : State :=
  s.negotiated fun s =>
    let ds := (s.chain 0).toList ++ (s.chain 1).toList
    s.emit (.response 0x01 ((if (s.chain 1).isSome then 3 else 1) :: ds.map fun d => Config.sha384 [d]))

/-- GET_CERTIFICATE of slot 0 or 1. -/
def State.getCertificate (s : State) (slot : Nat) : State :=
  s.negotiated fun s => match s.chain slot with
    | some c => s.emit (.response 0x02 [slot, c])
    | none => s.spdmError spdmInvalidRequest

/-- CHALLENGE: the chain's digest, a nonce and a signature. -/
def State.challenge (s : State) (slot : Nat) : State :=
  s.negotiated fun s => match s.chain slot with
    | some c =>
      let (n, s) := s.sign
      let (g, s) := s.sign
      s.emit (.response 0x03 [slot, Config.sha384 [c], n, g])
    | none => s.spdmError spdmInvalidRequest

/-- GET_MEASUREMENTS (R434): 0 asks how many there are, 0xFF for all; signed on request. -/
def State.getMeasurements (s : State) (index : Nat) (signed : Bool) : State :=
  s.negotiated fun s =>
    if index ≠ 0xff ∧ 11 < index then s.spdmError spdmInvalidRequest
    else
      let vs := if index = 0 then [11]
        else if index = 0xff then (List.range 11).map fun i => s.measurement (i + 1) else [s.measurement index]
      if signed then
        let (n, s) := s.sign
        let (g, s) := s.sign
        s.emit (.response 0x60 (vs ++ [n, g]))
      else s.emit (.response 0x60 vs)

/-- KEY_EXCHANGE: a fifth session is refused with Busy. The session's ID joins the requester's half and the package's. -/
def State.keyExchange (s : State) (reqId : Nat) : State :=
  s.negotiated fun s =>
    let x := s.security
    if 4 ≤ x.sessions.length then s.spdmError spdmBusy
    else
      let id := reqId % 65536 * 65536 + x.nextSession % 65536
      let s := s.putSec { x with
        sessions := x.sessions ++ [{ id := id, finished := false, updates := 0, ownerAuth := false }]
        nextSession := x.nextSession + 1 }
      let (g, s) := s.sign
      s.emit (.response 0x64 [id, g])

/-- A session ends. -/
def State.dropSession (s : State) (id : Nat) : State :=
  s.putSec { s.security with sessions := s.security.sessions.filter fun x => x.id != id }

/-- FINISH: the handshake's verdict, and whether the requester's chain ends in the owner key, which an enrolled owner
requires. -/
def State.finish (s : State) (id : Nat) (ok ownerAuth : Bool) : State :=
  match s.security.sessions.find? fun x => x.id == id && !x.finished with
  | none => s.spdmError spdmInvalidSession
  | some x =>
    if !ok || (s.security.owned && !ownerAuth) then (s.dropSession id).spdmError spdmDecrypt
    else
      let put := fun (y : SpdmSession) => if y.id = x.id then { y with finished := true, ownerAuth := ownerAuth } else y
      (s.putSec { s.security with sessions := s.security.sessions.map put }).emit (.response 0x65 [])

/-! ### Keys (R435, R436) -/

/-- The key slot of a phase. -/
def JobSlot.slot (j : JobSlot) (phase : Nat) : KeySlot := if phase = 0 then j.p0 else j.p1

/-- Replace the key slot of a phase. -/
def JobSlot.put (j : JobSlot) (phase : Nat) (k : KeySlot) : JobSlot := if phase = 0 then { j with p0 := k } else { j with p1 := k }

/-- The slot of a job, or the lowest free one: slot 0 is the management job's. -/
def Security.slotFor (x : Security) (job : Nat) : Option Nat :=
  if job = 0 then some 0
  else match x.jobs.find? fun p => p.1 != 0 && p.2.job == job with
    | some p => some p.1
    | none => ((List.range 63).map (· + 1)).find? fun i => (agetD x.jobs i JobSlot.free).job == 0

/-- The SEQ spaces of a job's key and phase start from 0 again (R312, R436). -/
def Security.resetSeq (x : Security) (job phase : Nat) : Security :=
  let hit := fun k => k / 2 ^ 19 == job * 2 + phase
  { x with seqs := x.seqs.filter fun q => !hit q.1, spent := x.spent.filter fun k => !hit k }

/-- SET_JOB_KEY (R436). -/
def State.setJobKey (s : State) (job phase key : Nat) : State :=
  let x := s.security
  match x.slotFor job with
  | none => s.spdmError spdmUnavailable
  | some i =>
    let j := agetD x.jobs i JobSlot.free
    if 1 < phase ∨ (phase = j.txPhase ∧ (j.slot phase).state = .loaded) then s.spdmError spdmInvalidRequest
    else
      let j := { j.put phase { state := .loaded, key := key } with job := job }
      (s.putSec ({ x with jobs := aset x.jobs i j }.resetSeq job phase)).emit (.response 0x7e [])

/-- CLEAR_JOB_KEY (R436). -/
def State.clearJobKey (s : State) (job phase : Nat) : State :=
  let x := s.security
  let found := if job = 0 then some 0 else (x.jobs.find? fun p => p.1 != 0 && p.2.job == job).map (·.1)
  match found with
  | none => s.spdmError spdmInvalidRequest
  | some i =>
    let j := (agetD x.jobs i JobSlot.free).put phase KeySlot.none
    let j := if j.p0.state = .empty ∧ j.p1.state = .empty ∧ i ≠ 0 then JobSlot.free else j
    if 1 < phase then s.spdmError spdmInvalidRequest
    else (s.putSec { x with jobs := aset x.jobs i j }).emit (.response 0x7e [])

/-- OWNER_ENROL (R428): the first free position; enrolling the second revokes the first. -/
def State.ownerEnrol (s : State) (hash : Nat) (signed : Bool) : State :=
  let x := s.security
  if !signed || 2 ≤ x.owners.length then s.spdmError spdmInvalidRequest
  else
    let old := x.owners.map fun (o : Nat × Nat × Bool) => (o.1, o.2.1, true)
    (s.putSec { x with owners := aset old x.owners.length (hash, false) }).emit (.response 0x7e [])

/-! ### IDE, TDISP, debug (R441, R446) -/

/-- IDE_KM sets the keys of a stream, or stops it: one link stream (0) and 8 selective ones a port. -/
def State.ideKm (s : State) (port stream : Nat) (fns : List Nat) (active : Bool) : State :=
  s.putSec { s.security with ideStreams := aset s.security.ideStreams (16 * port + stream) (fns, active) }

/-- State of a TDI. -/
def State.tdi (s : State) (fn : Nat) : TdiState := agetD s.security.tdis fn .unlocked

/-- A TDISP request on a VF (log entry 35): 0 report the state, 1 LOCK_INTERFACE, 2 START_INTERFACE, 3 STOP_INTERFACE. -/
def State.tdisp (s : State) (fn op : Nat) : State :=
  let st := s.tdi fn
  let go := fun (x : TdiState) => (s.putSec { s.security with tdis := aset s.security.tdis fn x }).emit (.response 0x7e [op])
  if fn % 64 = 0 then s.spdmError spdmInvalidRequest
  else if op = 0 then s.emit (.response 0x7e [op, match st with
    | .unlocked => 0 | .locked => 1 | .run => 2 | .error => 3])
  else if op = 1 ∧ st = .unlocked then go .locked
  else if op = 2 ∧ st = .locked then go .run
  else if op = 3 then go .unlocked
  else s.spdmError spdmInvalidRequest

/-- A debug unlock (R446): by a requester authenticated to slot 1, or to slot 0 where no owner is enrolled; refused in
confidential mode. -/
def State.debugUnlock (s : State) (slot : Nat) (authenticated : Bool) : State :=
  let who := slot = 1 ∨ (slot = 0 ∧ !s.security.owned)
  if authenticated && decide who && !s.security.conf then s.putSec { s.security with debugUnlocked := true }
  else s.spdmError spdmInvalidRequest

/-! ### PLDM sensors (R423; numbers of log entry 36) -/

/-- The reading of a sensor: 0 junction, 1 DRAM, 2 and 3 store temperatures (0.1 °C), 4 VIN_PKG power, 5 and 6
energy-port states, 7 STORE_OK. -/
def State.sensor (s : State) (n : Nat) : Option Nat :=
  let p := s.power
  match n with
  | 0 => some p.hotJunc
  | 1 => some p.hotDram
  | 2 => some (toMod 16 (s.eport 0).hottest)
  | 3 => some (toMod 16 (s.eport 1).hottest)
  | 4 => some p.powerW
  | 5 => some (s.eport 0).phase.code
  | 6 => some (s.eport 1).phase.code
  | 7 => some (bit p.storeOk)
  | _ => none

/-! ### The meanings -/

/-- GET_VERSION (R432). -/
def execGetVersion (t : Nat) (s : State) : Host.Outcome State Fault Refusal := .next (s.stamp t).getVersion

/-- GET_CAPABILITIES (R432). -/
def execGetCapabilities (t : Nat) (s : State) : Host.Outcome State Fault Refusal := .next (s.stamp t).getCapabilities

/-- NEGOTIATE_ALGORITHMS (R432): whether the request offers the algorithms of R432. -/
def execNegotiateAlgorithms (offered : Bool) (t : Nat) (s : State) : Host.Outcome State Fault Refusal :=
  .next ((s.stamp t).negotiate offered)

/-- GET_DIGESTS (R432). -/
def execGetDigests (t : Nat) (s : State) : Host.Outcome State Fault Refusal := .next (s.stamp t).getDigests

/-- GET_CERTIFICATE (R432). -/
def execGetCertificate (slot t : Nat) (s : State) : Host.Outcome State Fault Refusal := .next ((s.stamp t).getCertificate slot)

/-- CHALLENGE (R432). -/
def execChallenge (slot t : Nat) (s : State) : Host.Outcome State Fault Refusal := .next ((s.stamp t).challenge slot)

/-- GET_MEASUREMENTS (R434). -/
def execGetMeasurements (index : Nat) (signed : Bool) (t : Nat) (s : State) : Host.Outcome State Fault Refusal :=
  .next ((s.stamp t).getMeasurements index signed)

/-- KEY_EXCHANGE (R432). -/
def execKeyExchange (reqId t : Nat) (s : State) : Host.Outcome State Fault Refusal := .next ((s.stamp t).keyExchange reqId)

/-- FINISH (R432). -/
def execFinish (session : Nat) (ok ownerAuth : Bool) (t : Nat) (s : State) : Host.Outcome State Fault Refusal :=
  .next ((s.stamp t).finish session ok ownerAuth)

/-- END_SESSION (R432). -/
def execEndSession (session t : Nat) (s : State) : Host.Outcome State Fault Refusal :=
  .next ((s.stamp t).secure session fun x s => (s.dropSession x.id).emit (.response 0x6c []))

/-- HEARTBEAT (R432). -/
def execHeartbeat (session t : Nat) (s : State) : Host.Outcome State Fault Refusal :=
  .next ((s.stamp t).secure session fun _ s => s.emit (.response 0x68 []))

/-- KEY_UPDATE (R432). -/
def execKeyUpdate (session t : Nat) (s : State) : Host.Outcome State Fault Refusal :=
  .next ((s.stamp t).secure session fun x s =>
    let put := fun (y : SpdmSession) => if y.id = x.id then { y with updates := y.updates + 1 } else y
    (s.putSec { s.security with sessions := s.security.sessions.map put }).emit (.response 0x69 []))

/-- SET_JOB_KEY (R436), inside a secure session. -/
def execSetJobKey (session job phase key t : Nat) (s : State) : Host.Outcome State Fault Refusal :=
  .next ((s.stamp t).secure session fun _ s => s.setJobKey job phase key)

/-- CLEAR_JOB_KEY (R436). -/
def execClearJobKey (session job phase t : Nat) (s : State) : Host.Outcome State Fault Refusal :=
  .next ((s.stamp t).secure session fun _ s => s.clearJobKey job phase)

/-- SET_CKP_KEY (R436). -/
def execSetCkpKey (session key t : Nat) (s : State) : Host.Outcome State Fault Refusal :=
  .next ((s.stamp t).secure session fun _ s => (s.putSec { s.security with ckpKey := some key }).emit (.response 0x7e []))

/-- OWNER_ENROL (R428). -/
def execOwnerEnrol (session hash : Nat) (signed : Bool) (t : Nat) (s : State) : Host.Outcome State Fault Refusal :=
  .next ((s.stamp t).secure session fun _ s => s.ownerEnrol hash signed)

/-- KEY_MANIFEST (R429). -/
def execKeyManifest (position : Nat) (signed : Bool) (t : Nat) (s : State) : Host.Outcome State Fault Refusal :=
  .next ((s.stamp t).rotateKeys position signed)

/-- IDE_KM (R441), inside a secure session. -/
def execIdeKm (session port stream : Nat) (fns : List Nat) (active : Bool) (t : Nat) (s : State) : Host.Outcome State Fault Refusal :=
  if port < 2 ∧ stream ≤ 8 then .next ((s.stamp t).secure session fun _ s => s.ideKm port stream fns active)
  else .fault .noSuchUnit

/-- TDISP_REQUEST (R441). -/
def execTdispRequest (fn op t : Nat) (s : State) : Host.Outcome State Fault Refusal :=
  if fn < 128 then .next ((s.stamp t).tdisp fn op) else .fault .noSuchUnit

/-- FW_STAGE (R482): a firmware class, or 4 for stage-1. -/
def execFwStage (cls version hash : Nat) (sig : ImageSig) (t : Nat) (s : State) : Host.Outcome State Fault Refusal :=
  if cls < 5 then .next ((s.stamp t).fwStage cls version hash sig) else .fault .noSuchUnit

/-- PLDM_PMC_REQUEST (R423). -/
def execPldmPmcRequest (sensor t : Nat) (s : State) : Host.Outcome State Fault Refusal :=
  let s := s.stamp t
  .next (match s.sensor sensor with
    | some v => s.emit (.response 0 [sensor, v])
    | none => s.emit (.response 0x80 [sensor]))

/-- SEC_SVN_COMMIT (R431). -/
def execSecSvnCommit (t : Nat) (s : State) : Host.Outcome State Fault Refusal := .next ((s.stamp t).setReg (pcs 0x19 0 0x08) (2 ^ 63)).svnCommit

/-- DEBUG_UNLOCK (R446). -/
def execDebugUnlock (slot : Nat) (authenticated : Bool) (t : Nat) (s : State) : Host.Outcome State Fault Refusal :=
  .next ((s.stamp t).debugUnlock slot authenticated)

end Sys2Proof.Machine
end

