-- ==== Sys2Proof/Machine/Headframe.lean ====
section
/-! DEFINITION. The headframe image (R460 to R468): framing, items and their contents, and the model instances they
build. -/

namespace Sys2Proof.Machine

/-! ### Framing (R460, R461) -/

/-- What an image parses to: the offset of its first framing error, or its kind, BASE_HASH and items. -/
inductive Parsed where
  | bad (offset : Nat)
  | ok (full : Bool) (baseHash : Nat) (items : List HfItem)
deriving DecidableEq, Repr

/-- The items of a section from byte `off` to `fin`; `fuel` bounds their number. -/
def parseItems (bs : List Byte) (sec fin : Nat) : Nat → Nat → Except Nat (List HfItem)
  | 0, off => if off = fin then .ok [] else .error off
  | fuel + 1, off =>
    if off = fin then .ok []
    else
      let len := leAt bs (off + 4) 4
      let next := off + 8 + ceilDiv len 8 * 8
      let ty := leAt bs off 2
      if fin < next ∨ ty = 0 ∨ 5 < ty ∨ leAt bs (off + 2) 2 ≠ 0 then .error off
      else match parseItems bs sec fin fuel next with
        | .ok r => .ok ({ section_ := sec, offset := off, item := ty, body := bytesAt bs (off + 8) len } :: r)
        | .error e => .error e

/-- A section-table entry: type, bytes, offset. -/
def sectionEntry (bs : List Byte) (i : Nat) : Nat × Nat × Nat :=
  (leAt bs (128 + 16 * i) 1, leAt bs (132 + 16 * i) 4, leAt bs (136 + 16 * i) 8)

/-- A section-table entry is well framed: its type, place and reserved bytes; no earlier entry has its type or overlaps
it. -/
def sectionOk (bs : List Byte) (n sig i : Nat) : Bool :=
  let (ty, len, off) := sectionEntry bs i
  1 ≤ ty && ty ≤ 9 && leAt bs (129 + 16 * i) 3 == 0 && off % 8 == 0 && 128 + 16 * n ≤ off && off + len ≤ sig
    && (List.range i).all fun j =>
      let (t2, l2, o2) := sectionEntry bs j
      t2 != ty && (off + len ≤ o2 || o2 + l2 ≤ off)

/-- The items of the sections, in the order of the table. -/
def parseSections (bs : List Byte) : List Nat → Except Nat (List HfItem)
  | [] => .ok []
  | i :: r =>
    let (ty, len, off) := sectionEntry bs i
    match parseItems bs ty (off + len) (len / 8) off with
    | .error e => .error e
    | .ok a => match parseSections bs r with
      | .error e => .error e
      | .ok b => .ok (a ++ b)

/-- Parse an image (R460, R461, R462): the first failing field's offset, or its items. -/
def parseImage (bs : List Byte) : Parsed :=
  let size := bs.length
  let kind := leAt bs 6 1
  let n := leAt bs 16 4
  let sig := leAt bs 20 4
  let base := leAt bs 32 48
  if leAt bs 0 4 ≠ 0x4d524648 then .bad 0
  else if leAt bs 4 2 ≠ 1 then .bad 4
  else if 1 < kind then .bad 6
  else if leAt bs 7 1 ≠ 0 then .bad 7
  else if leAt bs 8 8 ≠ size then .bad 8
  else if n = 0 ∨ 9 < n then .bad 16
  else if sig % 8 ≠ 0 ∨ size ≠ sig + 4832 ∨ sig < 128 + 16 * n then .bad 20
  else if leAt bs 24 8 ≠ 0 then .bad 24
  else if kind = 0 ∧ base ≠ 0 then .bad 32
  else if leAt bs 80 48 ≠ 0 then .bad 80
  else match (List.range n).find? fun i => !sectionOk bs n sig i with
    | some i => .bad (128 + 16 * i)
    | none => match parseSections bs (List.range n) with
      | .error e => .bad e
      | .ok items => .ok (kind == 0) base items

/-! ### Items -/

def HfItem.pid (i : HfItem) : Nat := leAt i.body 0 2
def HfItem.instance_ (i : HfItem) : Nat := leAt i.body 2 2
def HfItem.index (i : HfItem) : Nat := leAt i.body 4 4
/-- A PARAM's value from byte 8. -/
def HfItem.value (i : HfItem) : Nat := leNat (i.body.drop 8)
/-- A REG item's address and value. -/
def HfItem.addr (i : HfItem) : Nat := leAt i.body 0 4
def HfItem.regValue (i : HfItem) : Nat := leAt i.body 8 8
/-- A BLOB's kind, SD, ID and content. -/
def HfItem.kind (i : HfItem) : Nat := leAt i.body 0 1
def HfItem.blobSd (i : HfItem) : Nat := leAt i.body 1 1
def HfItem.blobId (i : HfItem) : Nat := leAt i.body 2 2
def HfItem.content (i : HfItem) : List Byte := i.body.drop 8

/-- The key of a committed PARAM. -/
def paramKey (sec pid inst idx : Nat) : Nat := ((sec * 2 ^ 16 + pid) * 2 ^ 16 + inst) * 2 ^ 32 + idx

/-- A committed PARAM (R465, R466, R489). -/
def State.param (s : State) (sec pid inst idx : Nat) : Option Nat := aget s.boot.params (paramKey sec pid inst idx)

/-- A committed BLOB. -/
def State.blob (s : State) (kind id : Nat) : Option (Nat × List Byte) := aget s.boot.blobs (kind * 65536 + id)

/-- Whether a MODEL PARAM's value is in its range (R152, R464, R465). -/
def modelRange (pid v : Nat) : Bool :=
  match pid with
  | 0x01 => 1 ≤ v && v ≤ 256
  | 0x02 => v % 32 == 0 && 1 ≤ v && v ≤ 32768
  | 0x03 => 1 ≤ v && v ≤ 256
  | 0x04 => 1 ≤ v && v ≤ 64
  | 0x05 => v == 64 || v == 128 || v == 256
  | 0x06 => v ≤ 4096
  | 0x07 => v ≤ 16
  | 0x08 => v ≤ 4
  | 0x09 => v % 32 == 0 && v ≤ 2 ^ 24
  | 0x0a => 1 ≤ v && v ≤ 2097152
  | 0x0c => 0 < v && v < 0x7f800000
  | 0x10 => v ≤ 3
  | 0x11 => v ≤ 9
  | 0x12 => v == 1 || v == 2 || v == 4 || v == 8 || v == 16 || v == 32 || v == 64
  | 0x13 => v == 1 || v == 2 || v == 4 || v == 8 || v == 16 || v == 32 || v == 64
  | 0x14 => v % 2 == 0 && 2 ≤ v && v ≤ 256
  | 0x15 => v ≤ 1
  | 0x16 => v < 2 ^ 32
  | 0x17 => let e := signed 8 v; decide (-15 ≤ e ∧ e ≤ 15)
  | 0x18 => v < 0x7f800000
  | 0x20 => v ≤ 1
  | 0x21 => !fmtReserved v
  | 0x22 => !fmtReserved v && !isMx v
  | 0x24 => v ≤ 2
  | _ => true

/-- Whether a TENANT PARAM's value is in its range (R489). -/
def tenantRange (pid idx v : Nat) : Bool :=
  match pid with
  | 0x01 | 0x02 | 0x03 => v < 2 ^ 40
  | 0x04 => v ≤ 4194304
  | 0x05 => v ≤ 16384
  | 0x06 => 1 ≤ v && v ≤ 65535
  | 0x07 => v < 2 ^ 64
  | 0x08 => v < 2 ^ 32
  | 0x09 => 1 ≤ v && v ≤ 2 ^ 22
  | 0x0b => idx < 128
  | 0x0c => 1 ≤ v && v ≤ 255 && idx < 8
  | _ => true

/-- Whether a PAGE PARAM names a pool and class that exist (R96, R100, R466). -/
def pageRange (pid inst idx : Nat) : Bool :=
  (inst < 12 || inst == 0xffff)
    && (pid != 1 || (idx / 256 ≤ 2 && idx % 16 ≤ 9
        && (idx / 16 % 16 < if idx / 256 = 0 then 12 else if idx / 256 = 1 then 2 else 8)))

/-! ### Contents of BLOBs -/

/-- A vocabulary image (R228, R229). -/
def parseVocab (bs : List Byte) : Option Vocab :=
  let n := leAt bs 4 4
  let base := leAt bs 12 4
  let off := leAt bs 24 8
  let piece := fun i =>
    let e := leAt bs (off + 8 * i) 8
    (⟨signed 32 (fld e 31 0), bytesAt bs (off + 8 * n + fld e 55 32) (fld e 61 56 + 1), bitOf e 62⟩ : Piece)
  let ps := (List.range n).map piece
  let v : Vocab := { pieces := ps, maxPiece := leAt bs 8 1, byteBase := base, byteScore := signed 32 (leAt bs 16 4) }
  let ok := leAt bs 0 4 == 0x42434f56 && 257 ≤ n && n ≤ 1048576 && base + 256 ≤ n && leAt bs 40 8 == bs.length
    && 1 ≤ v.maxPiece && v.maxPiece ≤ 64 && leAt bs 9 3 == 0 && leAt bs 20 4 == 0 && leAt bs 48 16 == 0
    && off + 8 * n ≤ bs.length && ps.all (fun p => p.bytes.length ≤ v.maxPiece)
    && (List.range 256).all (fun b => (ps[base + b]?).any fun p => p.bytes == [BitVec.ofNat 8 b])
    && (List.range n).all (fun i => !bitOf (leAt bs (off + 8 * i) 8) 63)
    && decide (((ps.take base ++ ps.drop (base + 256)).map Piece.bytes).Nodup)
  if ok then some v else none

/-- The entries of a sequence list (R243). -/
def parseEntries (bs : List Byte) (needB : Bool) : Nat → Nat → Option (List SeqEntry)
  | 0, _ => some []
  | n + 1, off =>
    let a := leAt bs off 1
    let b := leAt bs (off + 1) 1
    let at_ := fun i => leAt bs (off + 4 + 4 * i) 4
    if a = 0 ∨ 64 < a ∨ 64 < b ∨ (b = 0) = needB ∨ leAt bs (off + 2) 2 ≠ 0 ∨ bs.length < off + 4 + 4 * (a + b) then none
    else (parseEntries bs needB n (off + 4 + 4 * (a + b))).map fun r =>
      ⟨(List.range a).map at_, (List.range b).map fun i => at_ (a + i)⟩ :: r

/-- A sequence-list image (R242, R243). -/
def parseSeqList (id : Nat) (bs : List Byte) : Option SeqList :=
  let kind := leAt bs 4 1
  let n := leAt bs 8 4
  let ok := leAt bs 0 4 == 0x4c514553 && kind ≤ 3 && leAt bs 5 1 == 0 && leAt bs 6 2 == id && 1 ≤ id && id ≤ 0xfffe
    && 1 ≤ n && n ≤ 65536 && leAt bs 20 4 == 0 && leAt bs 40 8 == bs.length && leAt bs 48 16 == 0
  if !ok then none
  else (parseEntries bs (kind == 1 || kind == 2) n (leAt bs 24 8)).map fun es =>
    { kind := kind, vocabPieces := leAt bs 16 4, entries := es }

/-- An FP32 code is finite and not negative; above 0; at most 1.0. -/
def fpNonNeg (c : Nat) : Bool := c < 0x7f800000 || c == 0x80000000
def fpPos (c : Nat) : Bool := 0 < c && c < 0x7f800000
def fpUnit (c : Nat) : Bool := c ≤ 0x3f800000 || c == 0x80000000

/-- A sampler profile (R249). -/
def parseProfile (b : List Byte) : Option Profile :=
  let p : Profile := {
    temperature := leAt b 0 4, topP := leAt b 4 4, minP := leAt b 8 4, repPenalty := leAt b 12 4, presence := leAt b 16 4
    frequency := leAt b 20 4, topK := leAt b 24 2, penaltyWindow := leAt b 26 2, hookId := leAt b 28 2, drafts := leAt b 30 1
    maxNew := leAt b 32 4, hookArgs := (List.range 8).map fun i => leAt b (64 + 4 * i) 4 }
  let ok := fpNonNeg p.temperature && fpPos p.topP && fpUnit p.topP && fpUnit p.minP && fpPos p.repPenalty
    && p.presence % 2 ^ 31 < 0x7f800000 && p.frequency % 2 ^ 31 < 0x7f800000 && 1 ≤ p.topK && p.topK ≤ 1024
    && p.penaltyWindow ≤ 1024 && p.drafts ≤ 8 && leAt b 31 1 == 0 && 1 ≤ p.maxNew && p.maxNew ≤ 2097152
    && leAt b 36 28 == 0 && leAt b 96 32 == 0
  if ok then some p else none

/-- A profile table: whole profiles of 128 bytes. -/
def parseProfiles (bs : List Byte) : Option (List Profile) :=
  if bs.length % 128 ≠ 0 ∨ 65536 * 128 < bs.length then none
  else (List.range (bs.length / 128)).mapM fun i => parseProfile (bytesAt bs (128 * i) 128)

/-- Opcodes of R222. -/
def zmDefined (op : Nat) : Bool :=
  (1 ≤ op && op ≤ 0x18) || (0x20 ≤ op && op ≤ 0x24) || (0x28 ≤ op && op ≤ 0x2a) || op == 0x2c || op == 0x2d
    || (0x30 ≤ op && op ≤ 0x38) || op == 0x3e || op == 0x3f

/-- A code word is well formed: a defined opcode, and a B or J target inside the code (R226). -/
def zmWordOk (words i w : Nat) : Bool :=
  let op := fld w 31 26
  let dest := if 0x30 ≤ op ∧ op ≤ 0x35 then (i : Int) + signed 18 w else if op = 0x36 then (i : Int) + signed 26 w else i
  zmDefined op && decide (0 ≤ dest ∧ dest < words)

/-- A Zynut-M image (R225, R226). -/
def parseZm (id : Nat) (bs : List Byte) : Option ZmImage :=
  let place := leAt bs 4 1
  let n := leAt bs 8 4
  let limit := leAt bs 16 4
  let scr := leAt bs 20 4
  let code := (List.range (n / 4)).map fun i => leAt bs (32 + 4 * i) 4
  let ok := leAt bs 0 4 == 0x504d595a && place ≤ 4 && leAt bs 5 1 == 0 && leAt bs 6 2 == id && 1 ≤ id && n % 4 == 0
    && 4 ≤ n && n ≤ 16384 && leAt bs 12 4 < n / 4 && 1 ≤ limit && limit ≤ 2 ^ 24 && scr ≤ 4096 && leAt bs 24 8 == 0
    && (place != 3 || limit ≤ 65536) && 32 + n + scr ≤ bs.length
    && (code.zipIdx.all fun p => zmWordOk (n / 4) p.2 p.1)
  if !ok then none
  else
    let words := (List.range (ceilDiv scr 4)).map fun i => (i, leNat ((bs.drop (32 + n + 4 * i)).take (min 4 (scr - 4 * i))))
    some { place := if place = 0 then .tierPolicy else if place = 1 then .hoist else if place = 2 then .wakeFilter
                    else if place = 3 then .logitHook else .powerLoop
           code := code, entry := leAt bs 12 4, limit := limit, scratch := words.filter fun w => w.2 != 0 }

/-- A recall codebook of M × 256 centroids of D / M FP16 elements (R268): the rows, subspace × 256 + code. -/
def parseCodebook (m d : Nat) (bs : List Byte) : Option (List (List Nat)) :=
  if m = 0 ∨ bs.length ≠ 512 * d then none
  else some ((List.range (256 * m)).map fun r => (List.range (d / m)).map fun i => leAt bs (2 * (r * (d / m) + i)) 2)

/-! ### Model instances (R152, R153, R464, R465) -/

/-- A MODEL PARAM of an instance. -/
def State.mparam (s : State) (inst pid idx : Nat) : Option Nat := s.param 2 pid inst idx

/-- The PARAMs that every model instance states. -/
def modelParams : List Nat :=
  [0x01, 0x02, 0x03, 0x04, 0x05, 0x06, 0x07, 0x08, 0x09, 0x0a, 0x0b, 0x0c, 0x10, 0x11, 0x12, 0x13, 0x14, 0x15, 0x18,
   0x20, 0x21, 0x22, 0x23, 0x24, 0x28, 0x29]

/-- The model instance that the committed PARAMs and BLOBs describe, where none is missing. Remote layer-groups and
experts, and default lists, are PARAMs of the model's own numbers (log entry 7). -/
def State.buildModel (s : State) (i : Nat) : Option Model :=
  let p := fun pid => (s.mparam i pid 0).getD 0
  let all := modelParams.all fun pid => (s.mparam i pid 0).isSome
  let turns := (List.range (p 0x14 / 2)).map fun k => s.mparam i 0x16 k
  let smooth := (List.range (p 0x01 * p 0x05)).map fun k => s.mparam i 0x17 k
  let window := (List.range (p 0x01)).map fun k => s.mparam i 0x19 k
  let full := (turns ++ smooth ++ window).all Option.isSome
  let remote := fun pid n => (List.range n).filterMap fun k => (s.mparam i pid k).map fun v => (k, v)
  match (s.blob 1 (p 0x0b)).bind fun b => parseVocab b.2 with
  | none => none
  | some v =>
    if !(all && full) then none
    else some {
      layers := p 0x01, dModel := p 0x02, qHeads := p 0x03, kvHeads := p 0x04, headDim := p 0x05, contextLimit := p 0x0a
      kvFormat := p 0x10, kvPageClass := p 0x11, groupHeads := p 0x12, spanPages := p 0x13, rotaryDims := p 0x14
      ropePairing := p 0x15, ropeTurns := turns.map fun x => x.getD 0
      smoothExp := smooth.map fun x => x.getD 0, softmaxScale := p 0x18, window := window.map fun x => x.getD 0
      exact := p 0x20, formats := [p 0x21, p 0x22], draftHead := p 0x28 != 0, experts := p 0x06, topK := p 0x07
      sharedExperts := p 0x08, vocab := v, defaultLists := (List.range 4).map fun k => (s.param 8 1 i k).getD 0
      remoteGroups := remote 0x30 (p 0x01 * (p 0x04 / max (p 0x12) 1)), remoteExperts := remote 0x31 (p 0x06)
      params := [0x09, 0x0b, 0x0c, 0x23, 0x24, 0x28, 0x29].map fun k => (k, p k) }

/-- A model instance lies within the profile (R1, R153, R464, R465). -/
def Model.fits (m : Model) : Bool :=
  (m.headDim == 64 || m.headDim == 128 || m.headDim == 256) && m.qHeads % m.kvHeads == 0 && m.kvHeads % m.groupHeads == 0
    && (2 ≤ m.kvFormat || 512 ≤ m.headDim * kvBits m.kvFormat) && 16 ≤ m.pageTokens && m.layers * m.groups ≤ 16384
    && m.rotaryDims ≤ m.headDim && (if m.experts = 0 then m.topK == 0 && 1 ≤ m.sharedExperts else 1 ≤ m.topK && m.topK ≤ m.experts)

/-- The model instances that MODEL PARAMs name. -/
def State.modelIds (s : State) : List Nat :=
  ((s.boot.params.filter fun p => p.1 / 2 ^ 64 == 2).map fun p => p.1 / 2 ^ 32 % 2 ^ 16).dedup

end Sys2Proof.Machine
end

