-- ==== Sys2Proof/Machine/Apply.lean ====
section
/-! DEFINITION. What a committed headframe or configuration transaction makes of the state (R463 to R472, R477): the
effect of every staged item and register, the rules of the chapters that own them, and the state that follows. An error is
the failing address of R467. -/

namespace Sys2Proof.Machine

/-- Bit 63 of CT_FAIL_ADDR: the address is an image byte offset (R467). -/
def imageBit : Nat := 2 ^ 63

/-- Logical compute dies of the part, and bytes of each DRAM stack (R3, R6). -/
def State.cds (s : State) : Nat := s.regFld 0 0 0x08 23 16
def State.stackBytes (s : State) : Nat := s.regFld 0 0 0x08 31 24 * 2 ^ 30

/-- The failing address of a value: the first item that satisfies a test, else the register, by the item that staged it
where one did. -/
def CtTxn.failAt (x : CtTxn) (p : HfItem → Bool) (addr : Nat) : Nat :=
  match x.items.find? p with
  | some i => imageBit + i.offset
  | none => match aget x.shadows addr with
    | some (_, some o) => imageBit + o
    | _ => addr

/-- The failing address of a staged register. -/
def CtTxn.failReg (x : CtTxn) (addr : Nat) : Nat := x.failAt (fun _ => false) addr

/-- Sessions that are not FREE and satisfy a test. -/
def State.anySession (s : State) (p : Entry → Bool) : Bool :=
  s.sessions.any fun q => q.2.cur.entry.state != .free && p q.2.cur.entry

/-! ### Tenants (R488, R489, R496) -/

/-- The per-tenant registers (R125, R473, R503). -/
def tenantRegs : List Nat := [pcs 4 0 0x48, pcs 4 0 0x50, pcs 4 0 0x58, pcs 0x1c 0 0x20, pcs 0x1c 0 0x28, pcs 0x1c 0 0x38]

/-- A tenant with a PARAM's value (R489). -/
def Tenant.setParam (t : Tenant) (pid idx v : Nat) : Tenant :=
  let put := fun (l : List Nat) => if v = 0 then l.filter (· != idx) else if l.contains idx then l else l ++ [idx]
  let t := { t with declared := true }
  match pid with
  | 0x01 => { t with quota := { t.quota with t0 := v } }
  | 0x02 => { t with quota := { t.quota with t1 := v } }
  | 0x03 => { t with quota := { t.quota with t2 := v } }
  | 0x04 => { t with maxSessions := v }
  | 0x05 => { t with maxRunning := v }
  | 0x06 => { t with weight := v }
  | 0x07 => { t with tokenLimit := v }
  | 0x08 => { t with bucketRate := v }
  | 0x09 => { t with bucketDepth := v }
  | 0x0a => { t with models := put t.models }
  | 0x0b => { t with functions := put t.functions }
  | _ => t

/-- A tenant with a per-tenant register's value (R125, R503). -/
def Tenant.setReg (t : Tenant) (addr v : Nat) : Tenant :=
  let t := { t with declared := true }
  if addr = pcs 4 0 0x48 then t.setParam 1 0 v
  else if addr = pcs 4 0 0x50 then t.setParam 2 0 v
  else if addr = pcs 4 0 0x58 then t.setParam 3 0 v
  else if addr = pcs 0x1c 0 0x20 then { t with maxSessions := fld v 22 0, maxRunning := fld v 38 24, weight := fld v 55 40 }
  else if addr = pcs 0x1c 0 0x28 then { t with tokenLimit := v }
  else { t with bucketRate := fld v 31 0, bucketDepth := fld v 54 32 }

/-- A tenant that a FULL image does not name: undeclared, its counters and use kept (R488, R489). -/
def Tenant.cleared (t : Tenant) : Tenant :=
  { Tenant.undeclared with
    used := t.used, counters := t.counters, tokensUsed := t.tokensUsed, reserved := t.reserved, bucket := t.bucket
    overQuota := t.overQuota, posted0 := t.posted0, posted1 := t.posted1, snapPt := t.snapPt, finish0 := t.finish0
    finish1 := t.finish1, charges := t.charges, bucketRate := t.bucketRate }

/-- The bucket after a commit (R496): it starts full where it is turned on. -/
def Tenant.rebucket (old t : Tenant) : Tenant :=
  if t.bucketRate = 0 then t
  else if old.bucketRate = 0 ∨ !old.declared then { t with bucket := 1000 * t.bucketDepth }
  else { t with bucket := min t.bucket (1000 * t.bucketDepth) }

/-! ### Items (R461 to R466) -/

/-- An item stands in a section that holds such items (R463). -/
def HfItem.placed (i : HfItem) : Bool :=
  match i.item with
  | 1 => i.section_ ≤ 9 && i.body.length == 16 && leAt i.body 4 4 == 0
  | 2 => (i.section_ == 2 || i.section_ == 3 || (5 ≤ i.section_ && i.section_ ≤ 8)) && 8 ≤ i.body.length
  | 3 => 8 ≤ i.body.length && leAt i.body 4 4 == 0
      && (match i.kind with
          | 1 | 5 => i.section_ == 2
          | 2 | 3 => i.section_ == 8
          | 4 => i.section_ == 4
          | 6 => i.section_ == 7
          | 7 => true
          | _ => false)
  | 4 => i.section_ == 2 && i.body.length == 32
  | 5 => i.section_ == 9 && 4 ≤ i.body.length
  | _ => false

/-- A PARAM's ID exists in its section and its value is in range (R465, R466, R489; log entry 7 for the IDs that the spec
leaves without a number). -/
def HfItem.paramOk (i : HfItem) : Bool :=
  let pid := i.pid
  let v := i.value
  match i.section_ with
  | 2 => (modelParams.contains pid || [0x16, 0x17, 0x19, 0x30, 0x31, 0x40].contains pid) && modelRange pid v
  | 3 => 1 ≤ pid && pid ≤ 0x0b && pageRange pid i.instance_ i.index && v < 2 ^ 32 && (pid != 3 || v ≤ 16777215)
  | 5 => 1 ≤ pid && pid ≤ 6
  | 6 => 1 ≤ pid && pid ≤ 3
  | 7 => ((1 ≤ pid && pid ≤ 0x0c && i.instance_ != 0) || pid == 0x40 || pid == 0x41) && i.instance_ < 4096
      && tenantRange pid i.index v
  | 8 => pid == 1 && i.index < 4
  | _ => false

/-- Where a domain PARAM puts its tenant: shared domain `v`, member index `idx` (R137, R489). -/
def State.putMember (s : State) (dom idx t : Nat) : State :=
  let l := agetD s.domains dom [0, 0, 0, 0, 0, 0, 0, 0]
  { s with domains := aset s.domains dom (l.set idx t) }

/-- A PARAM item (R465, R466, R472, R489): a PARAM of a committed model instance changes only while no session of it is
live. -/
def State.applyParam (s0 s : State) (i : HfItem) : Except Nat State :=
  let key := paramKey i.section_ i.pid i.instance_ i.index
  let v := i.value
  let live := i.section_ = 2 ∧ (aget s0.models i.instance_).isSome ∧ aget s0.boot.params key ≠ some v
    ∧ s0.anySession fun e => e.model == i.instance_
  if !i.paramOk ∨ live then .error (imageBit + i.offset)
  else
    let s := { s with boot := { s.boot with params := aset s.boot.params key v } }
    if i.section_ = 7 ∧ i.pid ≤ 0x0c then
      let s := s.putTenant i.instance_ ((s.tenant i.instance_).setParam i.pid i.index v)
      .ok (if i.pid = 0x0c then s.putMember v i.index i.instance_ else s)
    else if i.section_ = 5 ∧ i.pid = 2 then
      .ok { s with gallery := { s.gallery with routes := aset s.gallery.routes i.index (v % 65536) } }
    else .ok s

/-- Whether a BLOB's content may be committed (R226, R228, R241, R242, R249, R472): a sequence list is never replaced, and
removed only while no live session names it; a profile that a live session names stays. -/
def State.blobOk (s0 : State) (i : HfItem) : Bool :=
  let c := i.content
  match i.kind with
  | 1 => c.isEmpty || (parseVocab c).isSome
  | 2 =>
    if c.isEmpty then !s0.anySession fun e => e.seqLists.contains i.blobId
    else (parseSeqList i.blobId c).isSome && ((s0.blob 2 i.blobId).all fun b => b.2 == c)
  | 3 =>
    if c.isEmpty then !s0.anySession fun _ => true
    else match parseProfiles c with
      | none => false
      | some ps => !s0.anySession fun e => ps.length ≤ e.profile
  | 4 => c.isEmpty || (parseZm i.blobId c).any fun z => z.place != .powerLoop
  | _ => true

/-- A BLOB item (R461, R472): it adds its ID, replaces its content, or deletes it. -/
def State.applyBlob (s0 s : State) (i : HfItem) : Except Nat State :=
  let key := i.kind * 65536 + i.blobId
  if !s0.blobOk i ∨ (12 ≤ i.blobSd ∧ i.blobSd ≠ 255) then .error (imageBit + i.offset)
  else
    let bl := if i.content.isEmpty then adel s.boot.blobs key else aset s.boot.blobs key (i.blobSd, i.content)
    .ok { s with boot := { s.boot with blobs := bl } }

/-- A WEIGHTS item (R469): a new or moved shard is read from its storage target. -/
def State.applyWeights (s : State) (i : HfItem) : Except Nat State :=
  let b := i.body
  let h : Shard := { model := leAt b 0 2, shard := leAt b 2 4, sd := leAt b 6 1, target := leAt b 7 1, nsid := leAt b 8 4
                     offset := leAt b 16 8, bytes := leAt b 24 8, errors := 0, loaded := false }
  if 12 ≤ h.sd ∨ 16 ≤ h.target ∨ s.boot.diesOut.contains (16 + h.sd) then .error (imageBit + i.offset)
  else
    let same := fun (q : Shard) => q.model == h.model && q.shard == h.shard
    if s.boot.shards.any fun q => { q with errors := 0, loaded := false } == h then .ok s
    else
      let l := s.boot.shards.filter (fun q => !same q) ++ [h]
      .ok ({ s with boot := { s.boot with shards := l } }.readShard h)

/-- A DEFECT item (R461, R472): the unit goes out of service, where it is not out already. -/
def State.applyDefect (s : State) (i : HfItem) : Except Nat State :=
  let die := leAt i.body 0 1
  let kind := leAt i.body 1 1
  let n := leAt i.body 2 2
  let ok := if kind = 0 then die < 16 && n < 36 else if kind = 1 then die < 16 && n < 4
    else if kind = 2 then 16 ≤ die && die < 28 && n < 68
    else if kind = 3 then (die == 28 || die == 29) && n < 16 && n % 2 == die - 28
    else kind == 4 && (die == 28 || die == 29) && n < 8
  if !ok then .error (imageBit + i.offset)
  else .ok (if s.boot.defects.any fun d => d.die == die && d.kind == kind && d.index == n then s else s.fenceUnit die kind n)

/-- One staged item. -/
def State.applyItem (s0 s : State) (i : HfItem) : Except Nat State :=
  if !i.placed then .error (imageBit + i.offset)
  else match i.item with
    | 2 => s0.applyParam s i
    | 3 => s0.applyBlob s i
    | 4 => s.applyWeights i
    | 5 => s.applyDefect i
    | _ => .error (imageBit + i.offset)

/-- Every staged item, in order, up to the first that fails. -/
def State.applyItems (s0 : State) (s : State) : List HfItem → Except Nat State
  | [] => .ok s
  | i :: r => match s0.applyItem s i with
    | .error e => .error e
    | .ok s => s0.applyItems s r

/-! ### Staged registers -/

/-- A staged register takes its value (R12, R477): through its selector where it has one (R151, R335, R397, R447), for
tenant `n` where it is a per-tenant register. -/
def State.applyReg (s : State) (n : Nat) (key v : Nat) : State :=
  let addr := key % 2 ^ 28
  let sel := key / 2 ^ 28
  let blk := addr / 2 ^ 22
  let inst := addr / 2 ^ 16 % 64
  let off := addr % 2 ^ 16
  if tenantRegs.contains addr then s.putTenant n ((s.tenant n).setReg addr v)
  else if blk = 0x12 ∧ off = 0x48 then
    { s with gallery := { s.gallery with routes := aset s.gallery.routes sel (v % 65536) } }
  else if blk = 0x17 ∧ off = 0x10 then
    let t := s.tenant (sel / 65536 % 4096)
    let f := sel % 128
    let bound := if v % 2 = 0 then t.functions.filter (· != f)
      else if t.functions.contains f then t.functions else t.functions ++ [f]
    s.putTenant (sel / 65536 % 4096) { t with functions := bound }
  else if blk = 0x17 ∧ off = 0x30 then
    s.putFn (64 * inst + sel % 64) { s.fn (64 * inst + sel % 64) with vectors := v % 4096 }
  else if blk = 6 ∧ (off = 0x40 ∨ off = 0x48) then
    let base := if off = 0x40 then 0 else 4
    (List.range 4).foldl (fun s j => s.putMember (sel % 256) (base + j) (fld v (12 * j + 11) (12 * j))) s
  else if blk = 0x19 ∧ off = 0x20 then
    let j := agetD s.security.jobs (sel % 64) JobSlot.free
    { s with security := { s.security with jobs := aset s.security.jobs (sel % 64) { j with txPhase := fld v 20 20 } } }
  else s.setReg addr (if blk = 0x13 ∧ off = 0 then setFld v 49 48 3 else v)

/-- A register's range holds a field. -/
def within (lo hi v : Nat) : Bool := lo ≤ v && v ≤ hi

/-- An EID_CFG within the ranges of R372. -/
def eidCfgOk (c : Nat) : Bool :=
  within 80 99 (cfgEff c) && (match cfgProfile c with
    | 0 => true
    | 1 => within 16 24 (cfgCells c) && within 2000 2700 (cfgCharge c) && within 500 1500 (cfgMin c)
        && cfgCells c * cfgCharge c ≤ 60000
    | 2 => within 18 22 (cfgCells c) && within 2400 2800 (cfgCharge c) && within 1600 2200 (cfgMin c)
        && cfgCells c * cfgCharge c ≤ 60000
    | _ => false)

/-- A member index that sessions still refer through (PFX_DOMAIN.MEMBER_BUSY, R137). -/
def State.memberBusy (s : State) (dom idx : Nat) : Bool :=
  s.sds.any fun d => d.2.refs.any fun r => r.2.domain == dom && r.2.members.getD idx 0 != 0

/-- The members of a shared domain may stand as staged (R137, R138, R488). -/
def State.domainOk (s0 s : State) (dom : Nat) : Bool :=
  let ms := agetD s.domains dom []
  let real := ms.filter (· != 0)
  let old := agetD s0.domains dom []
  1 ≤ dom && dom ≤ 255 && decide real.Nodup && real.all (fun t => (s.tenant t).declared)
    && real.all (fun t => s.domains.all fun d => d.1 == dom || !d.2.contains t)
    && (List.range 8).all (fun j => !s0.memberBusy dom j || ms.getD j 0 == old.getD j 0)
    && (!s.security.conf || real.length ≤ 1)

/-- The rules that the owning chapters give a staged register (R65, R93, R125, R137, R181, R305, R330, R334, R336, R362,
R372, R397, R424, R447, R503 and the tables of fields): `s0` is the state before the transaction, `s` with it applied. -/
def State.regOk (s0 s : State) (full : Bool) (key v : Nat) : Bool :=
  let addr := key % 2 ^ 28
  let sel := key / 2 ^ 28
  let f := fun hi lo => fld v hi lo
  match addr / 2 ^ 22, addr % 2 ^ 16 with
  | 0x02, 0x00 => within 16 4096 (f 12 0) && within 1 1000 (f 25 16) && within 1 10000 (f 45 32)
  | 0x03, 0x00 => within 128 32768 (f 15 0) && f 18 16 ≤ 4 && f 23 20 ≤ 8 && 1 ≤ f 31 24 && 128 ≤ f 47 32 && within 1 16384 (f 63 48)
  | 0x03, 0x60 | 0x03, 0x68 => within 6 20 (f 52 48) && f 47 0 % 4096 == 0
  | 0x04, 0x18 => 100 ≤ f 15 0 && 1 ≤ f 23 16 && 1 ≤ f 31 24 && f 54 48 ≤ 50
  | 0x05, 0x20 => within 1 32 (f 5 0) && within 1 16 (f 12 8) && f 12 8 ≤ f 5 0
  | 0x06, 0x00 => 1 ≤ f 31 16
  | 0x06, 0x40 | 0x06, 0x48 => s0.domainOk s (sel % 256)
  | 0x08, 0x00 => within 10 1000000 (f 19 0)
  | 0x0a, 0x20 => 100 ≤ f 23 0 && 1 ≤ f 31 24
  | 0x0d, 0x18 => 1 ≤ f 15 0
  | 0x11, 0x00 => within 100 1000000 (f 19 0) && 1 ≤ f 39 32 && 1 ≤ f 47 40
  | 0x11, 0x08 => f 14 14 == 0 || f 13 0 != s.pkg
  | 0x12, 0x00 => within 10 10000 (f 15 0) && within 10 10000 (f 31 16) && 10 ≤ f 47 32
  | 0x12, 0x08 => s.pkg == s0.pkg || !s0.anySession fun _ => true
  | 0x12, 0x10 => full || v == (s0.reg addr + 1) % 2 ^ 64
  | 0x13, 0x00 => (List.range 6).all fun j => 1 ≤ f (8 * j + 7) (8 * j)
  | 0x13, 0x08 => within 1 50 (f 6 0) && 65 ≤ f 31 16
  | 0x14, 0x00 => 1 ≤ f 7 0 && within 1 180 (f 15 8) && 10 ≤ f 31 16
  | 0x14, 0x10 => s.reg addr == s0.reg addr || s0.checkpoint.run.isNone
  | 0x15, 0x18 => within 36000 48000 (f 15 0) && within 1 4 (f 19 16) && within 400 2000 (f 31 20) && within 1 256 (f 40 32)
      && within 50 95 (f 47 41)
  | 0x16, 0x00 =>
    let p := (s0.eport (addr / 2 ^ 16 % 64)).phase
    eidCfgOk v && (s.reg addr == s0.reg addr || p == .absent || p == .removable || p == .safe)
  | 0x17, 0x00 => within 1 1000 (f 9 0)
  | 0x17, 0x10 => v % 2 == 0 || (s.tenant (sel / 65536 % 4096)).declared
  | 0x17, 0x30 => within 1 2048 (f 11 0)
      && sumBy (fun i => (s.fn (64 * (addr / 2 ^ 16 % 64) + i)).vectors) (List.range 64) ≤ 2048
  | 0x19, 0x20 => ((agetD s.security.jobs (sel % 64) JobSlot.free).key (f 20 20)).state == .loaded
  | 0x1c, 0x20 => 1 ≤ f 55 40 && f 22 0 ≤ 4194304 && f 38 24 ≤ 16384
  | 0x1c, 0x38 => within 1 (2 ^ 22) (f 54 32)
  | 0x1c, 0x40 => f 6 0 ≤ 100
  | 0x1e, 0x30 => 1 ≤ f 15 0
  | _, _ => true

/-- The registers of a transaction take their values; every register without a selector keeps the bits that are not of
type CT. -/
def State.applyRegs (s : State) (x : CtTxn) : State :=
  let n := match x.scope with
    | .tenant n => n
    | _ => 0
  x.shadows.foldl (fun s k => s.applyReg n k.1 k.2.1) s

/-- The first staged register that breaks a rule. -/
def State.badReg (s0 s : State) (x : CtTxn) : Option Nat :=
  (x.shadows.find? fun k => !s0.regOk s x.full k.1 k.2.1).map fun k =>
    match k.2.2 with
    | some o => imageBit + o
    | none => k.1 % 2 ^ 28

/-! ### Pools and device areas (R96 to R101, R466) -/

/-- A PAGE PARAM for an SD: its own, else the one for every SD. -/
def State.pageParam (s : State) (sd pid idx : Nat) : Nat :=
  ((s.param 3 pid sd idx).orElse fun _ => s.param 3 pid 0xffff idx).getD 0

/-- Frames of a class pool of an SD; an item for every SD that names T0 pool 0 stands for each SD's own T0 pool (log
entry 39). -/
def State.classFrames (s : State) (sd tier pool cls : Nat) : Nat :=
  if tier = 0 then
    let own := s.pageParam sd 1 (16 * pool + cls)
    if own = 0 then (s.param 3 1 0xffff cls).getD 0 else own
  else s.pageParam sd 1 (256 * tier + 16 * pool + cls)

/-- 4 KiB units of an SD's share of a pool of a lower tier (R98). -/
def State.shareUnits (s : State) (tier pool : Nat) : Nat :=
  if tier = 1 then agetD s.boot.t1Mib pool 0 * 256 / 12 else (agetD s.expanders pool { state := 0, width := 0, capacity := 0 }).capacity * 262144 / 12

/-- The class pools of one pool of an SD: (class, base, frames), the largest class first, so that every base is aligned
to its class. -/
def State.divide (s : State) (sd tier pool : Nat) : List (Nat × Nat × Nat) :=
  let start := if tier = 0 then 49152 else ceilDiv (sd * s.shareUnits tier pool) 512 * 512
  ((List.range 10).reverse.foldl (fun (acc : Nat × List (Nat × Nat × Nat)) c =>
    let n := s.classFrames sd tier pool c
    (acc.1 + n * 2 ^ c, acc.2 ++ [(c, acc.1, n)])) (start, [])).2

/-- A class pool at a place: an unchanged one keeps its free list; a new one holds every frame in ascending order, but
for those that pages in use keep (R98, R101). -/
def State.newPool (s : State) (sd tier pool cls base n : Nat) : ClassPool :=
  let old := s.pool (poolKey sd tier pool cls)
  if old.base = base ∧ old.pool.total = n then old
  else
    let used := s.leaves.filterMap fun l =>
      if ownerSd l.1 = sd ∧ l.2.tier = tier ∧ l.2.pool = pool then some (l.2.frame, l.2.frame + 2 ^ l.2.sizeClass) else none
    if used.isEmpty then { base := base, pool := Pool.new n }
    else
      let free := (List.range n).filter fun i =>
        let a := base + i * 2 ^ cls
        !used.any fun u => u.1 < a + 2 ^ cls && a < u.2
      { base := base, pool := { total := n, front := free, fresh := n, freed := [], withdrawn := [] } }

/-- The pools of each tier. -/
def poolsOf (sd tier : Nat) : List Nat := if tier = 0 then [sd] else if tier = 1 then [0, 1] else List.range 8

/-- The scale pool of an SD (R101). -/
def State.newScalePool (s : State) (sd : Nat) : ClassPool :=
  let n := s.pageParam sd 2 0
  let old := s.pool (scalePool sd)
  if old.pool.total = n then old
  else
    let used := s.leaves.filterMap fun l => if ownerSd l.1 = sd then l.2.scale else none
    if used.isEmpty then { base := 0, pool := Pool.new n }
    else { base := 0, pool := { total := n, front := (List.range n).filter fun i => !used.contains i, fresh := n, freed := [], withdrawn := [] } }

/-- Resize a pool of entries: what is in use stays. -/
def Pool.resize (p : Pool) (n : Nat) : Pool :=
  if p.total = n then p
  else { p with total := n, front := p.front.filter (· < n), freed := p.freed.filter (· < n), fresh := min p.fresh n }

/-- The class pools and device areas of one SD as the PAGE section sizes them (R62, R127, R141, R164, R236, R294). -/
def State.sizeSd (s : State) (sd : Nat) : State :=
  let ps := [0, 1, 2].flatMap fun tier => (poolsOf sd tier).flatMap fun p => (s.divide sd tier p).map fun c => (tier, p, c)
  let pools := ps.foldl (fun l (q : Nat × Nat × Nat × Nat × Nat) =>
    let key := poolKey sd q.1 q.2.1 q.2.2.1
    if q.2.2.2.2 = 0 ∧ (aget s.pools key).isNone then l else aset l key (s.newPool sd q.1 q.2.1 q.2.2.1 q.2.2.2.1 q.2.2.2.2)) s.pools
  let pools := if s.pageParam sd 2 0 = 0 ∧ (aget s.pools (scalePool sd)).isNone then pools else aset pools (scalePool sd) (s.newScalePool sd)
  let d := s.sd sd
  let grow := fun free total n => n - (total - free)
  let g := fun pid => s.pageParam sd pid 0
  let refs := if d.refPool.total = 0 ∧ g 3 ≠ 0 then { Pool.new (g 3 + 1) with fresh := 1 } else d.refPool.resize (if g 3 = 0 then 0 else g 3 + 1)
  { s with pools := pools }.putSd sd { d with
    refPool := refs, buckets := g 4, mapFree := grow d.mapFree d.mapTotal (g 5), mapTotal := g 5
    textFree := grow d.textFree d.textTotal (g 6), textTotal := g 6, outbox := d.outbox.resize (g 7), guestTotal := g 8
    dirFree := grow d.dirFree d.dirTotal (g 0xb), dirTotal := g 0xb }

/-- Every SD in service, and the staging of the checkpoint engine: STAGE_MIB for each T1 pool (R342). -/
def State.sizeAll (s : State) : State :=
  let s := s.liveSds.foldl State.sizeSd s
  let c := s.checkpoint
  let n := countBy (fun i => !s.boot.diesOut.contains (28 + i)) [0, 1]
  let total := n * s.pageParam ((s.liveSds.head?).getD 0) 9 0 * 2 ^ 20
  { s with checkpoint := { c with stageTotal := total, stageFree := total - (c.stageTotal - c.stageFree) } }

/-- Bytes of T0 that an SD must hold (R5, R466): the reserved 192 MiB, class pools, scale pool, device areas, weights. -/
def State.t0Demand (s : State) (sd : Nat) : Nat :=
  let g := fun pid => s.pageParam sd pid 0
  let block := (s.models.map fun m => m.2.scaleBytes).foldl max 0
  192 * 2 ^ 20 + sumBy (fun c => s.classFrames sd 0 sd c * pageSize c) (List.range 10) + g 2 * block + 64 * g 3 + 512 * g 4
    + 256 * g 5 + 4096 * g 6 + 64 * g 7 + 16 * g 8 + g 0xa * 2 ^ 20 + 4096 * g 0xb
    + sumBy (fun h => if h.sd = sd then h.bytes else 0) s.boot.shards

/-! ### Rules over the whole (R5, R70, R98, R120, R153, R193) -/

/-- The address of the first role register whose assignment R70 refuses. -/
def State.badRole (s : State) (x : CtTxn) : Option Nat :=
  let reg := fun l => x.failReg (pcs 3 0 (0x10 + 8 * (l / 16)))
  match (List.range 64).find? fun l => 4 < s.role l || (s.role l != 0 && !s.clusterIn l) with
  | some l => some (reg l)
  | none => if !s.models.isEmpty ∧ (s.clustersOf 2).isEmpty ∧ (s.clustersOf 3).isEmpty then
      some (x.failAt (fun i => i.section_ == 1) (pcs 3 0 0x10)) else none

/-- The address of the first model instance that does not build or fit. -/
def State.badModel (s : State) (x : CtTxn) : Option Nat :=
  (s.modelIds.find? fun i => !((s.buildModel i).any Model.fits)).map fun i =>
    x.failAt (fun q => q.section_ == 2 && q.item == 2 && q.instance_ == i) (x.failAt (fun q => q.section_ == 2) 0)

/-- Frames of a SD's T0 pools hold MIN_POOL of a model instance (R120). -/
def State.holdsMin (s : State) (sd : Nat) (m : Model) : Bool :=
  let n := m.layerGroups * (ceilDiv 128 m.pageTokens + 1)
  let f := fun c => s.classFrames sd 0 sd c
  (if m.kvPageClass = 0 then n + 1 ≤ f 0 else n ≤ f m.kvPageClass && 1 ≤ f 0)
    && (m.scaleBytes == 0 || n ≤ s.pageParam sd 2 0)

/-- The address of the first quota or pool that breaks R120, or of an SD's demand that breaks R5 or R98. -/
def State.badPool (s : State) (x : CtTxn) : Option Nat :=
  let allowed := fun (t : Tenant) => s.models.filter fun m => t.models.contains m.1
  match s.tenants.find? fun t => t.2.declared && (allowed t.2).any fun m => t.2.quota.t0 * 1024 < m.2.minPool with
  | some t => some (x.failAt (fun i => i.section_ == 7 && i.item == 2 && i.pid == 1 && i.instance_ == t.1) (pcs 4 0 0x48))
  | none =>
    let used := s.models.filter fun m => s.tenants.any fun t => t.2.declared && t.2.models.contains m.1
    let page := fun sd => x.failAt (fun i => i.section_ == 3 && (i.instance_ == sd || i.instance_ == 0xffff)) (x.failAt (fun i => i.section_ == 2) (pcs 4 0 8))
    match s.liveSds.find? fun sd => (used.any fun m => !s.holdsMin sd m.2) || s.stackBytes < s.t0Demand sd
        || [0, 1].any fun p => (agetD s.boot.t1Mib p 0 != 0)
            && s.shareUnits 1 p < sumBy (fun c => s.classFrames sd 1 p c * 2 ^ c) (List.range 10) with
    | some sd => some (page sd)
    | none => none

/-! ### Row tables and recall indexes (R255, R256, R268) -/

/-- A row table as its PARAM declares it (log entry 7): KIND, FORMAT, ROW_BYTES, ROWS, LOG2_BLOCK, tier, pool, and from
byte 12 the SD and the package of each block. -/
def tableDecl (tenant v : Nat) : RowTable :=
  let t : RowTable := {
    tenant := tenant, numeric := fld v 7 0 == 1, format := fld v 15 8, rowBytes := fld v 31 16, rowCount := fld v 63 32
    log2Block := fld v 71 64, map := 0, version := 1, blocks := [], pending := none, retiring := [], updates := [], hotAddr := 0
    hotCount := 0, reading := [], copies := [], lookedUp := [], lookups := [], queueHwm := [] }
  { t with blocks := (List.range t.blockCount).map fun j => ⟨fld v (127 + 32 * j) (112 + 32 * j), fld v (103 + 32 * j) (96 + 32 * j), 0⟩ }

/-- A declaration follows R255 and R256. -/
def RowTable.declOk (t : RowTable) (v : Nat) : Bool :=
  let unit := if t.format ≤ 2 then 4 * (4 + 2 * t.format) + 1 else if t.format = 11 then 4 else 2
  fld v 7 0 ≤ 1 && within 16 8192 t.rowBytes && 1 ≤ t.rowCount && t.log2Block ≤ 20
    && (!t.numeric || ((t.format ≤ 2 || within 9 11 t.format) && t.rowBytes % unit == 0)) && t.blocks.all fun b => b.sd < 12

/-- A pinned page of a table, in a tier's pool. -/
def State.tablePage (s : State) (usa tier pool cls tenant : Nat) : Option State :=
  let n := ownerSd usa
  if !s.quotaFits tenant tier (pageSize cls) then none
  else match s.takeFrame n tier pool cls with
    | none => none
    | some (fr, s) =>
      let l : Leaf := { tier := tier, sizeClass := cls, pinned := true, cage := .resident, dirtyCkp := true, dirtyDur := false,
                        poison := false, frozen := false, pool := pool, frame := fr, tenant := tenant, refIndex := 0, access := 0
                        cageId := 0, scale := none, scaleBytes := 0, touched := false, pins := 0, orphan := false, owner := none }
      some ((s.addUse tenant tier (pageSize cls)).putLeaf usa l)

/-- Pages of a class at rising USAs. -/
def State.tablePages (s : State) (usa tier pool cls tenant : Nat) : Nat → Option State
  | 0 => some s
  | k + 1 => match s.tablePage usa tier pool cls tenant with
    | none => none
    | some s => s.tablePages (usa + pageSize cls) tier pool cls tenant k

/-- Place `bytes` bytes of a table on an SD, at one free range of USAs. -/
def State.placeBytes (s : State) (sd tier pool bytes tenant : Nat) : Option (Nat × State) :=
  let cls := ((List.range 10).find? fun c => bytes ≤ pageSize c).getD 9
  let k := ceilDiv bytes (pageSize cls)
  let (d, s) := s.draw
  let n := k * pageSize cls
  let u := freeRange s.leaves n (s.leaves.length + 1) (sd * 2 ^ 44 + Config.freeUsa d % (2 ^ 43 / max n 1) * n)
  (s.tablePages u tier (if tier = 0 then sd else pool) cls tenant k).map fun s => (u, s)

/-- Place the blocks of this package, in order. -/
def State.placeBlocks (s : State) (t : RowTable) (tier pool : Nat) : List RowBlock → Option (List RowBlock × State)
  | [] => some ([], s)
  | b :: r =>
    if b.pkg != s.pkg then (s.placeBlocks t tier pool r).map fun q => (b :: q.1, q.2)
    else match s.placeBytes b.sd tier pool t.blockBytes t.tenant with
      | none => none
      | some (u, s) => (s.placeBlocks t tier pool r).map fun q => ({ b with usa := u } :: q.1, q.2)

/-- The bytes of a block map (R255). -/
def mapBytes (bs : List RowBlock) : List Byte := bs.flatMap fun b => leBytes 16 (b.usa + b.sd * 2 ^ 48 + b.pkg * 2 ^ 64)

/-- Declare a row table: its rows are zero (R256), its block map stands on the SD of its first block of this package. -/
def State.declareTable (s : State) (id tenant v : Nat) : Option State :=
  let t := tableDecl tenant v
  if !t.declOk v ∨ id = 0 ∨ 4095 < id then none
  else match s.placeBlocks t (fld v 79 72) (fld v 87 80) t.blocks with
    | none => none
    | some (bs, s) =>
      let home := (bs.find? fun b => b.pkg == s.pkg).map RowBlock.sd
      match home with
      | none => some (s.putTable id { t with blocks := bs })
      | some sd => (s.placeBytes sd 0 sd (16 * bs.length) tenant).map fun q =>
          { q.2 with mem := memWrite q.2.mem q.1 (mapBytes bs) }.putTable id { t with blocks := bs, map := q.1 }

/-- The pages of a table's blocks on this package, and of its map. -/
def State.tableLeaves (s : State) (t : RowTable) : List Nat :=
  let at_ := fun a n => (s.leaves.filter fun l => a ≤ l.1 && l.1 < a + n).map (·.1)
  (t.blocks.filter fun b => b.pkg == s.pkg).flatMap (fun b => at_ b.usa t.blockBytes) ++ at_ t.map (max (16 * t.blocks.length) 1)

/-- A declared index (R268; log entry 7): D, M, metric, tier, codebook ID, capacity, mask of SDs. -/
def indexDecl (tenant v : Nat) (book : List (List Nat)) : RecallIndex :=
  { tenant := tenant, dim := fld v 15 0, subspaces := fld v 31 16, innerProduct := fld v 39 32 == 1
    sds := (List.range 12).filter fun i => bitOf v (96 + i), capacity := fld v 95 64, codebook := book, shards := [], queries := []
    scanned := [] }

/-- Declare an index; its pages count against the tenant's quota (R269). -/
def State.declareIndex (s : State) (id tenant v : Nat) : Option State :=
  let d := fld v 15 0
  let m := fld v 31 16
  match (s.blob 6 (fld v 63 48)).bind fun b => parseCodebook m d b.2 with
  | none => none
  | some book =>
    let i := indexDecl tenant v book
    let tier := fld v 47 40
    let use := i.sds.length * i.capacity * (16 + m)
    if id = 0 ∨ 4095 < id ∨ d = 0 ∨ 4096 < d ∨ m < 8 ∨ 128 < m ∨ d % m ≠ 0 ∨ 1 < fld v 39 32 ∨ 1 < tier ∨ i.sds.isEmpty then none
    else match aget s.tables.indexes id with
      | some old => some (s.putTables { s.tables with indexes := aset s.tables.indexes id { old with codebook := book } })
      | none =>
        if !s.quotaFits tenant tier use then none
        else some ((s.addUse tenant tier use).putTables { s.tables with indexes := aset s.tables.indexes id i })

/-- Committed PARAMs of an ID in the MODEL and TENANT sections: section, tenant, index, value. -/
def State.decls (s : State) (pid : Nat) : List (Nat × Nat × Nat × Nat) :=
  (s.boot.params.filter fun p => p.1 / 2 ^ 48 % 2 ^ 16 == pid && (p.1 / 2 ^ 64 == 2 || p.1 / 2 ^ 64 == 7)).map fun p =>
    (p.1 / 2 ^ 64, if p.1 / 2 ^ 64 = 2 then 0 else p.1 / 2 ^ 32 % 2 ^ 16, p.1 % 2 ^ 32, p.2)

/-- Tables and indexes as the committed PARAMs declare them: one whose declaration stands keeps its rows. -/
def State.declareAll (s0 s : State) (x : CtTxn) : Except Nat State :=
  let now := s.decls 0x40
  let was := s0.decls 0x40
  let stays := fun (id : Nat) => (s0.tables.tables.any fun t => t.1 == id) && now.any fun d => d.2.2.1 == id && was.contains d
  let gone := s.tables.tables.filter fun t => !stays t.1
  let s := gone.foldl (fun s t => (s.tableLeaves t.2).foldl State.freePage s) s
  let s := s.putTables { s.tables with
    tables := s.tables.tables.filter fun t => stays t.1
    indexes := s.tables.indexes.filter fun t => (s.decls 0x41).any fun d => d.2.2.1 == t.1 }
  let bad := fun pid (d : Nat × Nat × Nat × Nat) =>
    x.failAt (fun i => i.item == 2 && i.pid == pid && i.section_ == d.1 && i.index == d.2.2.1) 0
  let r := (now.filter fun d => !stays d.2.2.1).foldl (fun (r : Except Nat State) d => match r with
    | .error e => .error e
    | .ok s => match s.declareTable d.2.2.1 d.2.1 d.2.2.2 with
      | none => .error (bad 0x40 d)
      | some s => .ok s) (.ok s)
  (s.decls 0x41).foldl (fun (r : Except Nat State) d => match r with
    | .error e => .error e
    | .ok s => match s.declareIndex d.2.2.1 d.2.1 d.2.2.2 with
      | none => .error (bad 0x41 d)
      | some s => .ok s) r

/-! ### What follows from a commit -/

/-- Model instances, lists, profiles and programs as the committed items give them. -/
def State.rebuild (s : State) : State :=
  let blobs := fun k => s.boot.blobs.filter fun b => b.1 / 65536 == k
  let profs := ((blobs 3).head?.bind fun b => parseProfiles b.2.2).getD []
  { s with
    models := s.modelIds.filterMap fun i => (s.buildModel i).map fun m => (i, m)
    seqLists := (blobs 2).filterMap fun b => (parseSeqList (b.1 % 65536) b.2.2).map fun l => (b.1 % 65536, l)
    profiles := profs.zipIdx.map fun p => (p.2, p.1)
    programs := (blobs 4).filterMap fun b => (parseZm (b.1 % 65536) b.2.2).map fun z => (b.1 % 65536, z) }

/-- The fabric's tables as the FABRIC PARAMs give them (log entry 7). -/
def State.rebuildFabric (s : State) : State :=
  let of := fun pid => (s.boot.params.filter fun p => p.1 / 2 ^ 48 == 5 * 2 ^ 16 + pid).map fun p => (p.1 % 2 ^ 32, p.2)
  let eth := fun p k => (s.param 5 6 0 (4 * p + k)).getD 0
  let s := { s with gallery := { s.gallery with
    members := (of 1).map (·.2), boardPeers := of 3, asymmetry := (of 4).map fun q => (q.1, signed 64 q.2) } }
  if (of 6).isEmpty then s
  else [0, 1].foldl (fun s p => s.putEth p { s.eth p with mac := eth p 0, ipv4 := eth p 1, ipv6 := eth p 2, vlan := eth p 3 }) s

/-- A tenant's shared domain (R136). -/
def State.rebuildDomains (s : State) : State :=
  { s with tenants := s.tenants.map fun (t : Nat × Tenant) =>
      (t.1, { t.2 with domain := ((s.domains.find? fun d => t.1 != 0 && d.2.contains t.1).map (·.1)).getD 0 }) }

/-- Buckets, OVER_QUOTA and waits after a change of limits (R495, R496, R498). -/
def State.settleTenants (s0 s : State) : State :=
  let s := { s with tenants := s.tenants.map fun (t : Nat × Tenant) => (t.1, (s0.tenant t.1).rebucket t.2) }
  let s := s.tenants.foldl (fun s t =>
    let now := t.2.overNow
    let s := s.putTenant t.1 { s.tenant t.1 with overQuota := now }
    s.flagIf (now && !t.2.overQuota) fOverQuota 0) s
  let broke := s.slotsWhere fun x => x.cur.entry.state == .waiting && x.cur.entry.waitReason == .budget
  let s := broke.foldl (fun s i => if 0 < (s.tenant (s.entry i).tenant).remaining then s.setState i .ready else s) s
  (s.tenants.map (·.1)).foldl State.wakeQuota s

/-- Sessions of a tenant unbound from their function are detached (R397). -/
def State.unbind (s0 s : State) : State :=
  { s with sessions := s.sessions.map fun (p : Nat × Session) =>
      let e := p.2.cur.entry
      if e.state != .free && (s0.tenant e.tenant).functions.contains e.function
          && !(s.tenant e.tenant).functions.contains e.function then
        (p.1, p.2.withEntry { e with detached := true })
      else p }

/-- Role shifts start (R71): the first commit changes no role, since no cluster had one (log entry 100), and a cluster set
to IDLE has no first work. -/
def State.startShifts (s0 s : State) : State :=
  let moved := (List.range 64).filter fun l => s0.boot.ready && s0.role l != s.role l && s.role l != 0
  let old := s.shifts.filter fun h => s.role h.cluster == h.toRole
  { s with shifts := old.filter (fun h => !moved.contains h.cluster)
                      ++ moved.map fun l => { cluster := l, fromRole := s0.role l, toRole := s.role l, start := s.now } }

/-- Ports that the commit disables drain (R309, R411). -/
def State.drainPorts (s0 s : State) : State :=
  ((List.range 16).filter fun p => s0.portEnabled p && !s.portEnabled p && (s.port p).state != .down).foldl
    (fun s p => s.putPort p { s.port p with draining := some (s.now + s.drainTimeout) }) s

/-- Ports that the commit enables train (R309). -/
def State.trainPorts (s0 s : State) : State :=
  ((List.range 16).filter fun p => !s0.portEnabled p && s.portEnabled p).foldl
    (fun s p => if (s.port p).state = .down then s.putPort p { s.port p with state := .training, draining := none } else s) s

/-- Whether a session has a KV shard on a package (R177). -/
def State.shardOn (s : State) (slot pkg : Nat) : Bool :=
  (s.sess slot).cur.kvMap.any (fun g => g.2.remote == some pkg)
    || (s.modelOf slot).any fun m => m.remoteGroups.any fun g => g.2 == pkg

/-- The group changes epoch (R330, R331, R352, R360): members before and after, an epoch in progress fails, and sessions
with a KV shard on a package that has left are fenced. -/
def State.epochSwitch (s0 s : State) : State :=
  let lost := s0.gallery.members.filter fun p => !s.gallery.members.contains p
  let s := { s with gallery := { s.gallery with
    membersBefore := s0.gallery.members, epochSwitch := s.now, lost := (s.gallery.lost ++ lost).dedup } }
  let s := s.epochFail
  let hit := s.slotsWhere fun x => x.cur.entry.state != .free && x.cur.entry.state != .away
  hit.foldl (fun s i => if lost.any fun p => s.shardOn i p then s.loseSession i .tierLost stAccessFault else s) s

/-- The group forms no step while a model instance names a package that has left it (R360). -/
def State.judgeShrink (s : State) : State :=
  let names := fun p => s.models.any fun m => m.2.remoteGroups.any (fun g => g.2 == p) || m.2.remoteExperts.any fun g => g.2 == p
  { s with gallery := { s.gallery with shrinking := s.gallery.lost.any fun p => !s.gallery.members.contains p && names p } }

/-- HF_HASH after the images of a transaction (R468). -/
def hashAfter (hf : Nat) (full : Bool) : List (Nat × Nat) → Nat
  | [] => hf
  | (h, _) :: r => hashAfter (if full then h else Config.sha384 [hf, h]) false r

/-- A patch whose BASE_HASH is not the HF_HASH it meets (R468). -/
def baseBad (hf : Nat) : List (Nat × Nat) → Bool
  | [] => false
  | (h, b) :: r => b != hf || baseBad (Config.sha384 [hf, h]) r

/-- The headframe is cleared for a FULL image (R471): every CT register at its reset value, no PARAM, BLOB or shard, no
tenant declared. -/
def State.clearHeadframe (s : State) : State :=
  let regs := s.regs.map fun (r : Nat × Nat) => match regAt s.cds r.1 with
    | some d => (r.1, maskIn r.2 d.reset d.ct)
    | none => r
  { s with
    regs := regs, tenants := s.tenants.map fun (t : Nat × Tenant) => (t.1, t.2.cleared), domains := []
    fns := s.fns.map fun (f : Nat × HostFn) => (f.1, { f.2 with vectors := 32 })
    gallery := { s.gallery with routes := [] }
    boot := { s.boot with params := [], blobs := [], shards := [] } }

/-- The first rule that the state with the transaction applied breaks: its failing address. -/
def State.badWhole (s0 s : State) (x : CtTxn) : Option Nat :=
  let undeclared := s0.tenants.any fun t => t.2.declared && !(s.tenant t.1).declared
    && ((s0.anySession fun e => e.tenant == t.1) || 0 < t.2.used.t0 + t.2.used.t1 + t.2.used.t2)
  let dom := s.domains.find? fun d => !s0.domainOk s d.1 && d.2 != [0, 0, 0, 0, 0, 0, 0, 0]
  if undeclared then some (pcs 0x1c 0 0x20)
  else match s0.badReg s x with
    | some a => some a
    | none => match dom with
      | some _ => some (x.failAt (fun i => i.section_ == 7 && i.item == 2 && i.pid == 0x0c) (pcs 6 0 0x40))
      | none => match s.badModel x with
        | some a => some a
        | none => match s.badRole x with
          | some a => some a
          | none => if 256 < s.programs.length then some (x.failAt (fun i => i.item == 3 && i.kind == 4) 0) else s.badPool x

/-- The state with a transaction applied (R472, R477), or the address of what fails (R467). -/
def State.ctBuild (s0 : State) (x : CtTxn) : Except Nat State :=
  if x.overflow then .error x.overflowAddr
  else if x.full ∧ (!s0.models.isEmpty ∨ s0.anySession fun _ => true) then .error imageBit
  else if !x.full ∧ baseBad s0.boot.hfHash x.images then .error (imageBit + 32)
  else
    let s := if x.full then s0.clearHeadframe else s0
    match s0.applyItems s x.items with
    | .error e => .error e
    | .ok s =>
      let s := ((s.applyRegs x).rebuild.rebuildFabric).rebuildDomains
      match s0.badWhole s x with
      | some a => .error a
      | none =>
        let s := if s0.boot.params = s.boot.params ∧ s0.boot.shards = s.boot.shards then s else s.sizeAll
        match s0.declareAll s x with
        | .error e => .error e
        | .ok s =>
          let s := s0.trainPorts (s0.drainPorts (s0.startShifts (s0.unbind (s0.settleTenants s))))
          let s := if s.epoch = s0.epoch then s else s0.epochSwitch s
          let s := if s.programs = s0.programs then s
            else { s with sds := s.sds.map fun (d : Nat × StateDie) => (d.1, { d.2 with policyFaulted := false }) }
          let b := { s.boot with hfHash := hashAfter s0.boot.hfHash x.full x.images, hf := if x.full then 1 else s.boot.hf }
          .ok ({ s with boot := b }.judgeShrink)

end Sys2Proof.Machine
end

