-- ==== Sys2Proof/Machine/Transact.lean ====
section
/-! DEFINITION. Configuration transactions (R473 to R481): opening, staging, committing, applying and aborting. -/

namespace Sys2Proof.Machine

/-! ### Scopes (R473) -/

/-- The scope of a register of access type CT; `none` for a per-tenant register, whose write names no tenant (R475). -/
def regScope (addr : Nat) : Option CtScope :=
  let blk := addr / 2 ^ 22
  let off := addr % 2 ^ 16
  if tenantRegs.contains addr then none
  else if blk = 3 ∧ 0x10 ≤ off ∧ off ≤ 0x28 then some .role
  else if blk = 0x12 ∨ blk = 0x13 then some .fabric
  else some .package

/-- The scope that a CT_CMD or CT_SEL names. -/
def scopeOf (v : Nat) : CtScope :=
  match fld v 5 4 with
  | 0 => .package
  | 1 => .tenant (fld v 27 16)
  | 2 => .role
  | _ => .fabric

/-- The transaction of a scope. -/
def State.txn (s : State) (sc : CtScope) : Option CtTxn := s.txns.find? fun x => x.scope == sc

/-- Replace the transaction of a scope. -/
def State.putTxn (s : State) (x : CtTxn) : State := { s with txns := s.txns.filter (fun y => y.scope != x.scope) ++ [x] }

/-- A transaction that is open or committing. -/
def CtTxn.busy (x : CtTxn) : Bool := x.state == 1 || x.state == 2

/-- Values staged (CT_STATUS.STAGED): registers, PARAM and BLOB items. -/
def CtTxn.staged (x : CtTxn) : Nat := x.shadows.length + countBy (fun i => i.item == 2 || i.item == 3) x.items

/-- A transaction without its shadows. -/
def CtTxn.drop (x : CtTxn) (state : Nat) : CtTxn :=
  { x with state := state, shadows := [], items := [], images := [], full := false, loading := false }

/-- A SEL register of the physical function of a port (R550). -/
def State.selOf (s : State) (port addr : Nat) : Nat := agetD s.sels (port * 2 ^ 28 + addr) 0

/-- The staging key of a register for a writer of a port: its address, with the selector where it has one (R151, R335, R397,
R447). -/
def State.stageKey (s : State) (port addr : Nat) : Nat :=
  let blk := addr / 2 ^ 22
  let inst := addr / 2 ^ 16 % 64
  let off := addr % 2 ^ 16
  let sel :=
    if blk = 0x12 ∧ off = 0x48 then s.selOf port (pcs 0x12 0 0x40) % 2 ^ 14
    else if blk = 0x17 ∧ off = 0x10 then s.selOf port (pcs 0x17 inst 0x08)
    else if blk = 0x17 ∧ off = 0x30 then s.selOf port (pcs 0x17 inst 0x20) % 64
    else if blk = 6 ∧ (off = 0x40 ∨ off = 0x48) then s.selOf port (pcs 6 0 0x30) % 256
    else if blk = 0x19 ∧ off = 0x20 then s.selOf port (pcs 0x19 0 0x18) % 64
    else 0
  addr + 2 ^ 28 * sel

/-! ### Staging (R475, R481) -/

/-- A further value of a transaction that is full is discarded (R475). -/
def CtTxn.overflowed (x : CtTxn) (addr : Nat) : CtTxn :=
  if x.overflow then x else { x with overflow := true, overflowAddr := addr }

/-- Stage a register value; a second one for an address replaces the first. -/
def CtTxn.stageReg (x : CtTxn) (key v : Nat) (item : Option Nat) : CtTxn :=
  if (aget x.shadows key).isNone ∧ 65536 ≤ x.staged then
    x.overflowed (match item with
      | some o => imageBit + o
      | none => key % 2 ^ 28)
  else { x with shadows := aset x.shadows key (v, item) }

/-- Stage an item of an image. -/
def State.stageItem (s : State) (port : Nat) (x : CtTxn) (i : HfItem) : CtTxn :=
  if i.item = 1 then
    match regAt s.cds i.addr with
    | some d => x.stageReg (s.stageKey port i.addr) (maskIn (s.reg i.addr) i.regValue d.ct) (some i.offset)
    | none => x
  else if i.item ≤ 3 ∧ 65536 ≤ x.staged then x.overflowed (imageBit + i.offset)
  else { x with items := x.items ++ [i] }

/-- Whether an item belongs to the scope of a transaction (R463, R473, R489). -/
def HfItem.inScope (i : HfItem) (sc : CtScope) : Bool :=
  let own := fun n => if n = 0 then CtScope.package else CtScope.tenant n
  match i.item with
  | 1 => match regScope i.addr with
    | some q => q == sc
    | none => (match sc with
      | .tenant _ => true
      | _ => false)
  | 2 =>
    if i.section_ = 5 then sc == .fabric
    else if i.section_ = 7 then (if i.pid = 0x0b ∨ i.pid = 0x0c then sc == .package else own i.instance_ == sc)
    else sc == .package
  | 3 => if i.section_ = 7 then (match sc with
      | .tenant _ | .package => true
      | _ => false) else sc == .package
  | _ => sc == .package

/-- A REG item names a register of access type CT. -/
def State.regItemOk (s : State) (i : HfItem) : Bool := i.item != 1 || (regAt s.cds i.addr).any fun d => d.ct != 0

/-- The first MODEL PARAM that an image names twice (R465). -/
def duplicateParam : List HfItem → Option Nat
  | [] => none
  | i :: r =>
    match if i.section_ = 2 ∧ i.item = 2 then r.find? fun j => j.section_ == 2 && j.item == 2 && j.body.take 8 == i.body.take 8
      else none with
    | some j => some j.offset
    | none => duplicateParam r

/-- The offset at which an image cannot be staged into a transaction: an item of another scope (R473), no CT register, a
duplicated PARAM; a FULL image belongs to PACKAGE and holds items of every scope but per-tenant registers (R470, R471). -/
def State.stageBad (s : State) (sc : CtScope) (full : Bool) (items : List HfItem) : Option Nat :=
  let fits := fun (i : HfItem) =>
    if full then sc == .package && (i.item != 1 || (regScope i.addr).isSome) else i.inScope sc
  match items.find? fun i => !fits i || !s.regItemOk i with
  | some i => some i.offset
  | none => if full ∧ sc ≠ .package then some 6 else duplicateParam items

/-- The bytes of a patch have arrived (R467, R481): framing, signature and scope are checked; it is staged whole or not
at all. The status, and the transaction. -/
def State.loadImage (s : State) (x : CtTxn) (bs : List Byte) (sigOk : Bool) : Nat × CtTxn :=
  match parseImage bs with
  | .bad o => (stCtInvalid, { x with failAddr := imageBit + o })
  | .ok full base items =>
    if !sigOk then (stAuthFail, x)
    else match s.stageBad x.scope full items with
      | some o => (stCtInvalid, { x with failAddr := imageBit + o })
      | none =>
        let x := if full then { x with full := true, images := [], items := [], shadows := [] } else x
        let x := items.foldl (fun x i => s.stageItem (x.owner / 64) x i) x
        (stOk, { x with images := x.images ++ [(Config.sha384 (bs.map BitVec.toNat), base)] })

/-! ### Application (R477, R478) -/

/-- A transaction applies: it is validated again; a failure applies nothing. -/
def State.ctApply (s : State) (x : CtTxn) : State :=
  match s.ctBuild x with
  | .error a => ((s.putTxn { x.drop 4 with status := stCtInvalid, failAddr := a })).setFlag fApplyFail 0
  | .ok s' =>
    let steps := fun (y : Stream) => (y.run.map StepRun.number).getD y.step
    s'.putTxn { x.drop 3 with status := stOk, stepS0 := steps s.s0, stepS1 := steps s.s1 }

/-- A committing transaction is due at an instant. -/
def CtTxn.due (x : CtTxn) (pt : Nat) : Bool := x.state == 2 && x.applyPt.all (· ≤ pt)

/-- The due transactions apply one at a time, by the stamps of their COMMITs (R478). -/
def State.ctApplyDue (s : State) (pt : Nat) : State :=
  (sortBy CtTxn.stamp (s.txns.filter fun x => x.due pt)).foldl (fun s x => s.ctApply x) s

/-- The boundary of a step carries a commit (R92): it is due at the seal. -/
def State.ctDue (s : State) (pt : Nat) : Bool := s.txns.any fun x => x.due pt

/-! ### CT_CMD (R474, R477, R479) -/

/-- CT_RESULT of a function: status, owner with CT_BUSY, and one more CT_CMD write. -/
def State.ctResult (s : State) (fn status owner : Nat) : State :=
  let n := (agetD s.ctResults fn (0, 0, 0)).2.2
  { s with ctResults := aset s.ctResults fn (status, owner, (n + 1) % 2 ^ 32) }

/-- A new transaction. -/
def CtTxn.begin (sc : CtScope) (fn : Nat) : CtTxn :=
  { scope := sc, owner := fn, state := 1, shadows := [], items := [], full := false, images := [], loading := false
    overflow := false, overflowAddr := 0, status := 0, failAddr := 0, stepS0 := 0, stepS1 := 0, stamp := 0, applyPt := none }

/-- A write of CT_CMD: a command before READY completes with DISABLED (R449); then `act` on the transaction of the scope,
for its owner alone. -/
def State.ctCommand (s : State) (fn v : Nat) (act : CtTxn → State → State) : State :=
  let s := s.setReg (pcs 0x1b 0 0) (v &&& 0x10fff0037)
  if !s.boot.ready then s.ctResult fn stDisabled 0
  else match (s.txn (scopeOf v)).filter CtTxn.busy with
    | none => s.ctResult fn stCtNotOpen 0
    | some x => if x.owner ≠ fn then s.ctResult fn stCtBusy x.owner else act x s

/-- BEGIN: a tenant scope names a tenant. -/
def State.ctBegin (s : State) (fn v : Nat) : State :=
  let s := s.setReg (pcs 0x1b 0 0) (v &&& 0x10fff0037)
  let sc := scopeOf v
  if !s.boot.ready then s.ctResult fn stDisabled 0
  else if sc = .tenant 0 then s.ctResult fn stFrameField 0
  else match (s.txn sc).filter CtTxn.busy with
    | some x => s.ctResult fn stCtBusy x.owner
    | none => (s.putTxn (CtTxn.begin sc fn)).ctResult fn stOk 0

/-- The state against which a COMMIT for `pt` is accepted: a tenant that a transaction committed before it declares at the
same boundary counts as declared (R488; log entry 103). -/
def State.ctAhead (s : State) (pt : Option Nat) : State :=
  s.txns.foldl (fun s y => match y.scope with
    | .tenant n =>
      if y.state = 2 ∧ (y.applyPt = none ∨ y.applyPt = pt) ∧ (y.shadows.any fun k => tenantRegs.contains (k.1 % 2 ^ 28)) then
        s.putTenant n { s.tenant n with declared := true }
      else s
    | _ => s) s

/-- COMMIT: validated now, applied at its boundary or instant; with no S0 stream it applies at acceptance or at CT_PT. -/
def State.ctCommit (s : State) (fn v : Nat) : State :=
  s.ctCommand fn v fun x s =>
    if x.state = 2 ∨ x.loading then s.ctResult fn stCtBusy x.owner
    else
      let pt := if bitOf v 32 then some (s.reg (pcs 0x1b 0 0x08)) else none
      match (s.ctAhead pt).ctBuild x with
      | .error a => (s.putTxn { x with status := stCtInvalid, failAddr := a }).ctResult fn stCtInvalid 0
      | .ok _ =>
        let s := (s.putTxn { x with state := 2, status := stOk, stamp := s.now, applyPt := pt }).ctResult fn stOk 0
        if s.hasS0 then s else s.ctApplyDue s.now

/-- ABORT. -/
def State.ctAbort (s : State) (fn v : Nat) : State := s.ctCommand fn v fun x s => (s.putTxn (x.drop 5)).ctResult fn stOk 0

/-- LOAD_PATCH: the image lies in one window of the owner; its read starts (R481). -/
def State.ctLoadPatch (s : State) (fn v : Nat) : State :=
  s.ctCommand fn v fun x s =>
    let a := s.reg (pcs 0x1b 0 0x40)
    let n := fld (s.reg (pcs 0x1b 0 0x48)) 31 0
    if x.state = 2 ∨ x.loading then s.ctResult fn stCtBusy x.owner
    else if a % 64 ≠ 0 ∨ ((s.fn fn).windowOf a n).isNone then s.ctResult fn stAccessFault 0
    else (s.putTxn { x with loading := true }).ctResult fn stOk 0

/-- A patch has been read, or its read has failed: CT_RESULT.STATUS of the owner is its outcome. -/
def State.patchRead (s : State) (fn : Nat) (bs : List Byte) (sig : ImageSig) (ok : Bool) : State :=
  match s.txns.find? fun x => x.owner == fn && x.loading with
  | none => s
  | some x =>
    let sigOk := s.security.admits sig
    let (st, y) := if ok then s.loadImage x bs sigOk else (stPoison, x)
    let s := s.flagIf (st == stAuthFail) fImageReject 0
    let (_, owner, n) := agetD s.ctResults fn (0, 0, 0)
    { s.putTxn { y with loading := false } with ctResults := aset s.ctResults fn (st, owner, n) }

/-! ### A write to a CT register (R475) -/

/-- The transaction into which a function's write to a register is staged. -/
def State.stageInto (s : State) (fn addr : Nat) : Option CtTxn :=
  let mine := s.txns.filter fun x => x.owner == fn && x.state == 1
  match regScope addr with
  | some sc => mine.find? fun x => x.scope == sc
  | none =>
    match mine.filter fun x => (match x.scope with
      | .tenant _ => true
      | _ => false) with
    | [x] => some x
    | l =>
      let sel := s.selOf (fn / 64) (pcs 0x1b 0 0x18)
      l.find? fun x => fld sel 1 0 == 1 && x.scope == .tenant (fld sel 27 16)

/-- A write to a CT register stages a value, or is discarded as stray; before READY BAR0 serves no such register (R449). -/
def State.stageWrite (s : State) (fn addr v : Nat) (d : RegDesc) : State :=
  if !s.boot.ready then s
  else match s.stageInto fn addr with
    | none => s.setFlag fStray 0
    | some x => s.putTxn (x.stageReg (s.stageKey (fn / 64) addr) (maskIn (s.reg addr) v d.ct) none)

/-! ### The meanings -/

/-- A physical function, through whose BAR0 PCS is reached. -/
def isPf (fn : Nat) : Bool := fn == 0 || fn == 64

/-- CT_BEGIN (R474). -/
def execCtBegin (fn v t : Nat) (s : State) : Host.Outcome State Fault Refusal :=
  if isPf fn && v % 8 == 1 then .next ((s.stamp t).ctBegin fn v) else .fault .noSuchUnit

/-- CT_COMMIT (R477). -/
def execCtCommit (fn v t : Nat) (s : State) : Host.Outcome State Fault Refusal :=
  if isPf fn && v % 8 == 2 then .next ((s.stamp t).ctCommit fn v) else .fault .noSuchUnit

/-- CT_ABORT (R479). -/
def execCtAbort (fn v t : Nat) (s : State) : Host.Outcome State Fault Refusal :=
  if isPf fn && v % 8 == 3 then .next ((s.stamp t).ctAbort fn v) else .fault .noSuchUnit

/-- CT_LOAD_PATCH (R481). -/
def execCtLoadPatch (fn v t : Nat) (s : State) : Host.Outcome State Fault Refusal :=
  if isPf fn && v % 8 == 4 then .next ((s.stamp t).ctLoadPatch fn v) else .fault .noSuchUnit

/-- CT_CMD_INVALID_OP (R474). -/
def execCtCmdInvalidOp (fn v t : Nat) (s : State) : Host.Outcome State Fault Refusal :=
  let s := s.stamp t
  if isPf fn && (v % 8 == 0 || 5 ≤ v % 8) then
    .next ((s.setReg (pcs 0x1b 0 0) (v &&& 0x10fff0037)).ctResult fn (if s.boot.ready then stFrameField else stDisabled) 0)
  else .fault .noSuchUnit

/-- PATCH_READ_DONE (R481). -/
def execPatchReadDone (fn : Nat) (bytes : List Byte) (sig : ImageSig) (ok : Bool) (t : Nat) (s : State) :
    Host.Outcome State Fault Refusal :=
  if isPf fn then .next ((s.stamp t).patchRead fn bytes sig ok) else .fault .noSuchUnit

/-- CT_STAGE_WRITE (R475). -/
def execCtStageWrite (fn addr v t : Nat) (s : State) : Host.Outcome State Fault Refusal :=
  match regAt s.cds addr with
  | some d => if isPf fn && d.ct != 0 then .next ((s.stamp t).stageWrite fn addr v d) else .fault .noSuchUnit
  | none => .fault .noSuchUnit

/-- CT_APPLY_AT_PT (R477). -/
def execCtApplyAtPt (t : Nat) (s : State) : Host.Outcome State Fault Refusal :=
  let s := s.stamp t
  .next (if s.hasS0 then s else s.ctApplyDue s.now)

end Sys2Proof.Machine
end

