-- ==== Sys2Proof/Machine/Bringup.lean ====
section
/-! DEFINITION. Bring-up from PWRGD to READY (R448 to R459, R469, R470), recovery from the journal (R393), hitless
firmware switches (R483), resets and losses of supply (R521, R538 to R543). -/

namespace Sys2Proof.Machine

/-- Bring-up's own record. -/
def State.putBoot (s : State) (b : Boot) : State := { s with boot := b }

/-- An event of a phase: outside it nothing happens. -/
def State.inPhase (s : State) (p : Nat) (act : State → State) : State :=
  if s.boot.phase = p ∧ !s.boot.halted ∧ s.boot.pwrgd ∧ s.boot.resetN then act s else s

/-- A drain is in progress, from its detection to DRAIN_END (R540). -/
def State.draining (s : State) : Bool := s.power.drain.isSome || s.energyPorts.any fun p => p.2.detected.isSome

/-! ### Supplies and resets (R538 to R543) -/

/-- Every island stops, and PKG_PGOOD falls (R539, R541). -/
def State.resetNow (s : State) : State :=
  let s := s.stopped
  s.putBoot { s.boot with halted := true, pkgPgood := false }

/-- THERMTRIP_N rises once VIN_PKG has been removed and RESET_N asserted (R543). -/
def State.thermRelease (s : State) : State :=
  if s.boot.vinOut && !s.boot.resetN then s.putBoot { s.boot with thermtripN := true } else s

/-- RESET_N has been low for 1 ms (R539), or is held to the end of the drain (R540). -/
def State.resetLow (s : State) : State :=
  let s := s.putBoot { s.boot with resetN := false }
  if s.draining then s else s.resetNow.thermRelease

/-- PWRGD falls. -/
def State.pwrgdLow (s : State) : State :=
  let s := s.putBoot { s.boot with pwrgd := false }
  if s.draining then s else s.resetNow

/-- VIN_PKG falls below 5.2 V: the outcome is that of R539. -/
def State.vinLoss (s : State) : State :=
  let s := s.resetNow
  (s.putBoot { s.boot with vinOut := true }).thermRelease

/-- The scrub of a change of mode (R442): the drain namespace is deallocated; SRAM and pages were lost with the stop. -/
def State.scrub (s : State) : State :=
  if s.security.conf = s.security.confNext then s
  else { s with security := { s.security with conf := s.security.confNext }, power := { s.power with journal := [] } }

/-- PWRGD and RESET_N are both high (R538): PT starts (R14), the BOOT count rises, the cause of the stop is logged (R521);
with a rail out of range, or THERMTRIP_N low, the package holds in P0. -/
def State.pwrgdHigh (s : State) (railsOk : Bool) : State :=
  if s.boot.pwrgd && s.boot.resetN then s
  else
    let s := s.putBoot { s.boot with pwrgd := true, resetN := true }
    if s.draining then s
    else
      let b := { s.boot with pfAlertN := true, vinOut := false, causes := [], phase := 0, halted := !railsOk || !s.boot.thermtripN
                             uart := if railsOk then 0 else 0xe0, pkgPgood := false }
      let causes := s.boot.causes
      let s := { s with pt := 0, now := 0, boot := b, power := { s.power with boot := (s.power.boot + 1) % 2 ^ 32 } }
      let s := causes.foldl (fun s c => s.logError 3 c.2 0x1e 0 c.1 c.2) s
      (if railsOk then s else s.emit (.uart 0xe0)).scrub

/-! ### P0 to P2 -/

/-- P0 ends: PKG_PGOOD rises (R541); BOARD_POS has been sampled (R536). -/
def State.p0Done (s : State) (pos : Nat) : State :=
  s.inPhase 0 fun s => (s.putBoot { s.boot with phase := 1, pkgPgood := true }).setRegFld 0x12 0 0x08 17 16 pos

/-- An IOD leads. -/
def State.elect (s : State) (iod : Nat) : State := s.putBoot { s.boot with leader := some iod, phase := 2 }

/-- A boot ROM passes its self-test (R452): IOD0 claims within 25 ms; IOD1 within 50 ms, once IOD0's window is over. -/
def State.romPass (s : State) (iod rom : Nat) : State :=
  let s := s.putBoot { s.boot with romPassed := (s.boot.romPassed ++ [iod]).dedup }
  s.inPhase 1 fun s =>
    let late := if iod = 0 then 25000000 else 50000000
    let s := { s with security := { s.security with measurements := aset s.security.measurements 1 rom } }
    if s.boot.leader.isSome ∨ late < s.now ∨ (iod = 1 ∧ s.now ≤ 25000000) then s else s.elect iod

/-- A window of the election has passed: IOD1 claims after 25 ms if it has passed; after 50 ms with no leader the package
halts with code 0xE1. -/
def State.electionOver (s : State) : State :=
  s.inPhase 1 fun s =>
    if s.boot.leader.isSome ∨ s.now ≤ 25000000 then s
    else if s.boot.romPassed.contains 1 then s.elect 1
    else if s.now ≤ 50000000 then s
    else (s.putBoot { s.boot with halted := true, uart := 0xe1, pkgPgood := false }).emit (.uart 0xe1)

/-- Stage-1 runs: its measurement, the Alias certificate (R425), the standby complex. -/
def State.runStage1 (s : State) (hash : Nat) (standby : Bool) : State :=
  let other := 1 - s.boot.leader.getD 0
  let s := { s with security := { s.security with measurements := aset s.security.measurements 2 hash } }
  (s.putBoot { s.boot with phase := 3, standbyOk := standby && s.boot.romPassed.contains other }).newAlias

/-- The current copy of stage-1 is verified, then the other, which becomes current; with both failed the package is in
RECOVERY (R453). -/
def State.stage1 (s : State) (a b : ImageSig × Nat) (standby : Bool) : State :=
  s.inPhase 2 fun s =>
    let cur := if s.boot.stage1Copy then b else a
    let alt := if s.boot.stage1Copy then a else b
    let (ok, s) := s.checkImage cur.1
    if ok then s.runStage1 cur.2 standby
    else
      let (ok, s) := s.checkImage alt.1
      if ok then (s.putBoot { s.boot with stage1Copy := !s.boot.stage1Copy }).runStage1 alt.2 standby
      else s.putBoot { s.boot with phase := 15 }

/-- A recovery image is verified and written to copy A; bring-up continues from P2. -/
def State.recoveryImage (s : State) (g : ImageSig) : State :=
  s.inPhase 15 fun s =>
    let (ok, s) := s.checkImage g
    if ok then s.putBoot { s.boot with stage1Copy := false, phase := 2 } else s.emit (.response 0 [stAuthFail])

/-! ### P3 and P4: the assay and the maps (R454 to R457) -/

/-- A defect joins the merged map, unless the unit is in it. -/
def addDefect (l : List Defect) (d : Defect) : List Defect :=
  if l.any fun x => x.die == d.die && x.kind == d.kind && x.index == d.index then l else l ++ [d]

/-- The assay ends: failed units, and what trained of T1. -/
def State.assay (s : State) (failed : List (Nat × Nat × Nat)) (dimms : List Nat) : State :=
  s.inPhase 3 fun s =>
    let ddr := ((List.range 16).filter fun c => dimms.getD c 0 == 0).map fun c => (28 + c / 8, 4, c % 8)
    let ds := (failed ++ ddr).foldl (fun l f => addDefect l ⟨f.1, f.2.1, f.2.2, 1⟩) s.boot.defects
    s.putBoot { s.boot with defects := ds, dimms := dimms, phase := 4 }

/-- A unit is in the merged map. -/
def Boot.isOut (b : Boot) (die kind index : Nat) : Bool :=
  b.defects.any fun d => d.die == die && d.kind == kind && d.index == index

/-- Physical cores of a cluster in service. -/
def Boot.goodCores (b : Boot) (die c : Nat) : List Nat := (List.range 9).filter fun k => !b.isOut die 0 (9 * c + k)

/-- Physical clusters of a CD in service: each has 8 cores (R19). -/
def Boot.goodClusters (b : Boot) (die : Nat) : List Nat :=
  if b.isOut die 5 0 then [] else (List.range 4).filter fun c => !b.isOut die 1 c && 8 ≤ (b.goodCores die c).length

/-- The maps of cores, clusters and CDs (R456): logical numbers in ascending physical order. -/
def State.programMaps (s : State) : State :=
  let b := s.boot
  let cds := ((List.range 16).filter fun d => !(b.goodClusters d).isEmpty).take s.cds
  let clusters := cds.zipIdx.map fun d => (d.2, b.goodClusters d.1)
  let cores := clusters.flatMap fun d => d.2.zipIdx.map fun c => (4 * d.1 + c.2, (b.goodCores (cds.getD d.1 0) c.1).take 8)
  let missing := (List.range s.cds).filter fun d => cds.length ≤ d
  let out := b.diesOut.filter (16 ≤ ·)
  s.putBoot { b with cdMap := cds, clusterMap := clusters, coreMap := cores, diesOut := missing ++ out }

/-- The channels of an IOD that its T1 pool uses, and its capacity in MiB (R97, R455). -/
def Boot.t1Set (b : Boot) (i : Nat) : List Nat × Nat :=
  let ok := (List.range 8).filter fun c => !b.isOut (28 + i) 4 c && b.dimms.getD (8 * i + c) 0 != 0
  let use := ok.take (if ok.isEmpty then 0 else 2 ^ Nat.log2 ok.length)
  let size := (minBy id (ok.map fun c => b.dimms.getD (8 * i + c) 0)).getD 0
  (use, use.length * size)

/-- The T1 pool of an IOD; a surplus or an unused channel is reported (R97, R519). -/
def State.programT1 (s : State) (i : Nat) : State :=
  let b := s.boot
  let (use, cap) := b.t1Set i
  let size := cap / max 1 use.length
  let rest := (List.range 8).filter fun c => !use.contains c
  let odd := (List.range 8).filter fun c => let n := b.dimms.getD (8 * i + c) 0; n != 0 && (!use.contains c || size < n)
  let s := s.putBoot { b with ddrUnused := b.ddrUnused ++ rest.map (8 * i + ·), t1Mib := aset b.t1Mib i cap }
  if odd.isEmpty then s else s.logError 1 (28 + i) 0x1a 0 0x0104 (sumBy (fun c => 2 ^ (8 * i + c)) odd)

/-- An SD is out of service at bring-up: its die, its SRAM or more than 4 pseudo-channels have failed (R454). -/
def Boot.sdOut (b : Boot) (n : Nat) : Bool :=
  b.isOut (16 + n) 5 0 || 4 < countBy (fun (d : Defect) => d.die == 16 + n && d.kind == 2) b.defects

/-- The defect map is merged, every map programmed; slices of lost SDs are served by the next ones (R486); the keys of
confidential mode are drawn (R443). -/
def State.mapProgram (s : State) (map : List (Nat × Nat × Nat)) : State :=
  s.inPhase 4 fun s =>
    let ds := map.foldl (fun l f => addDefect l ⟨f.1, f.2.1, f.2.2, 2⟩) s.boot.defects
    let s := s.putBoot { s.boot with defects := ds }
    let sds := (List.range 12).filter s.boot.sdOut
    let iods := [0, 1].filter fun i => s.boot.isOut (28 + i) 5 0
    let s := s.putBoot { s.boot with diesOut := sds.map (16 + ·) ++ iods.map (28 + ·) }
    let s := ([0, 1].filter fun i => !iods.contains i).foldl State.programT1 s.programMaps
    let live := s.liveSds
    let next := fun n => if live.contains n then n else (nextOf live n).getD n
    let slices := (List.range 12).map fun n => (n, next n, (nextOf (live.filter (· != next n)) (next n)).getD (next n))
    let s := live.foldl (fun s n => s.putSd n { s.sd n with inService := true }) s
    let s := if s.security.conf then (List.range 10).foldl (fun s p =>
        let (d, s) := s.draw
        { s with security := { s.security with poolKeys := aset s.security.poolKeys p (Config.random d) } }) s else s
    s.putBoot { s.boot with slices := slices, phase := 5, standbyOk := s.boot.standbyOk && iods.isEmpty }

/-! ### P5: firmware (R458, R459) -/

/-- A bundle as the leader reads it: its signature, versions and digests of the classes, the digest of the power-loop
images. -/
def State.runBundle (s : State) (g : ImageSig) (images : List (Nat × Nat)) (loops : Nat) : State :=
  let s := [0, 1, 2, 3].foldl (fun s c =>
    let (v, h) := images.getD c (0, 0)
    s.putFw c { s.fw c with runVersion := v, runSvn := g.svn, runHash := h, armed := false }) s
  { s with security := { s.security with measurements := aset s.security.measurements 6 loops } }

/-- The bundle is verified and broadcast; if the current copy fails, the other is served. With neither, P5 does not
end. -/
def State.broadcast (s : State) (a b : ImageSig × List (Nat × Nat)) (loops : Nat) : State :=
  s.inPhase 5 fun s =>
    let cur := if s.boot.bundleCopy then b else a
    let alt := if s.boot.bundleCopy then a else b
    let (ok, s) := s.checkImage cur.1
    let s' := if ok then s.runBundle cur.1 cur.2 loops else s
    if ok then s'.putBoot { s'.boot with phase := 6 }
    else
      let (ok, s) := s.checkImage alt.1
      if !ok then s
      else
        let s := s.runBundle alt.1 alt.2 loops
        s.putBoot { s.boot with bundleCopy := !s.boot.bundleCopy, phase := 6 }

/-- A recipient fetches its image; the third failure takes it out of service: a core as a failed core, an SD or an IOD by
a fence (R459, R484, R519). -/
def State.fetchFirmware (s : State) (die unit : Nat) (ok : Bool) : State :=
  let key := 64 * die + unit
  let n := agetD s.boot.fetches key 0 + 1
  if ok ∨ 3 < n ∨ (s.boot.phase ≠ 5 ∧ s.boot.phase ≠ 6) then s
  else
    let s := s.putBoot { s.boot with fetches := aset s.boot.fetches key n }
    if n < 3 then s
    else if die < 16 then
      let s := s.logError 2 die 0x1a 0 0x0202 unit
      (s.putBoot { s.boot with defects := addDefect s.boot.defects ⟨die, 0, unit, 1⟩ }).programMaps
    else s.detect 2 die 0x1a 0 0x0202 unit

/-! ### P6: recovery from the journal (R393) -/

/-- Committed entries of a kind of a boot. -/
def Power.committedOf (p : Power) (kind : JournalKind) (boot : Nat) : List JournalEntry :=
  p.journal.filter fun e => e.committed && e.kind == kind && e.boot == boot

/-- Whether a session of the table has its drain image: a FINAL entry of the boot at its LAST_SEAL; or it was DORMANT with
an image, whose FINAL entry of an earlier boot stands. -/
def Power.hasImage (p : Power) (boot : Nat) (r : Recorded) : Bool :=
  let e := r.session.cur.entry
  e.classD && p.journal.any fun j => j.committed && j.kind == .final && j.handle == e.handle && j.lastSeal == e.lastSeal
    && (j.boot == boot || e.residence == .dormant)

/-- The newest durable epoch that records a session. -/
def State.epochOf (s : State) (h : Nat) : RestoreSource :=
  let l := s.checkpoint.images.filter fun i => i.sessions.any fun r => r.session.cur.entry.handle == h
  match l.getLast? with
  | some i => .epoch i.epoch i.nsid
  | none => .epoch 0 0

/-- One session of the table is DORMANT with its restore source. -/
def State.recoverSession (s : State) (boot : Nat) (r : Recorded) : State :=
  let e := r.session.cur.entry
  if e.state = .away then s.loadRecorded .image r
  else if s.power.hasImage boot r then s.loadRecorded .image r
  else (s.loadRecorded (s.epochOf e.handle) r).logError 1 (16 + tableSd r.slot) 0x14 0 0x0103 e.handle

/-- P6 ends: the test write gives the drain bandwidth (R380); the TABLE and LEDGER of the previous boot are loaded. -/
def State.recover (s : State) (mbps : Nat) : State :=
  s.inPhase 6 fun s =>
    let s := { s with power := { s.power with testBw := mbps } }
    let prev := s.power.boot - 1
    let s := match s.power.drainEnabled, (s.power.committedOf .table prev).getLast? with
      | true, some e =>
        let s := e.sessions.foldl (fun (s : State) r => s.recoverSession prev r) s
        let ledger := ((s.power.committedOf .ledger prev).getLast?.map JournalEntry.ledger).getD []
        let s := ledger.foldl (fun (s : State) (l : Nat × List Nat) => s.putTenant l.1 { s.tenant l.1 with counters := l.2 }) s
        (List.range 12).foldl State.rebuildSlots s
      | _, _ => s
    (s.putBoot { s.boot with phase := 7 }).recompute

/-! ### P7: the headframe (R470) -/

/-- The transaction that an image in flash makes. -/
def State.flashTxn (s : State) (bs : List Byte) (g : ImageSig) : Option CtTxn :=
  match parseImage bs with
  | .bad _ => none
  | .ok full base items =>
    if !full || !s.security.admits g || (s.stageBad .package true items).isSome then none
    else
      let x := { CtTxn.begin .package 0 with full := true, images := [(Config.sha384 (bs.map BitVec.toNat), base)] }
      some (items.foldl (fun x i => s.stageItem 0 x i) x)

/-- The state with a transaction of flash applied; sessions that recovery has placed do not stand against it. -/
def State.commitFlash (s : State) (x : CtTxn) : Option State :=
  match { s with sessions := [] }.ctBuild x with
  | .ok s' => some { s' with sessions := s.sessions }
  | .error _ => none

/-- P7 ends: the headframe of the directory is committed, has failed, or there is none; the package is serving-ready
(R449). -/
def State.headframe (s : State) (image : List Byte) (g : ImageSig) : State :=
  s.inPhase 7 fun s =>
    let s := s.putBoot { s.boot with headframe := image }
    let s := s.flagIf (!image.isEmpty && !s.security.admits g) fImageReject 0
    let s := match (if image.isEmpty then none else s.flashTxn image g).bind s.commitFlash with
      | some s' => s'
      | none => s.putBoot { s.boot with hf := if image.isEmpty then 0 else 2 }
    s.putBoot { s.boot with phase := 8, ready := true, readyMs := s.now / 1000000 % 2 ^ 32 }

/-- A shard's read ends (R469): retried 3 times, then the shard stays pending. -/
def State.shardRead (s : State) (model shard : Nat) (ok : Bool) : State :=
  match s.boot.shards.find? fun h => h.model == model && h.shard == shard && !h.loaded && h.errors ≤ 3 with
  | none => s
  | some h =>
    let h' := if ok then { h with loaded := true } else { h with errors := h.errors + 1 }
    let s := s.putBoot { s.boot with shards := s.boot.shards.map fun q => if q = h then h' else q }
    if ok then s else if h.errors < 3 then s.readShard h else s.setFlag fWeightErr 0

/-! ### Firmware switches (R483) -/

/-- A class starts its staged image; the replaced one becomes the previous image, and the directory makes the new copy
current. The management class changes complexes (R17), and its new thermal loop runs again (R375). -/
def State.fwSwitch (s : State) (c : Nat) : State :=
  let f := s.fw c
  if !f.armed then s
  else
    let s := if c = 3 then s.mgmtSwap else s
    let s := if c = 3 then { s with power := { s.power with loopStopped := false } } else s
    let s := s.putFw c { f.unstage with
      runVersion := f.stagedVersion, runSvn := f.stagedSvn, runHash := f.stagedHash
      prevVersion := f.runVersion, prevSvn := f.runSvn, prevHash := f.runHash }
    s.putBoot { s.boot with bundleCopy := !s.boot.bundleCopy }

/-- The switches that are armed, at an S0 boundary. -/
def State.fwSwitches (s : State) : State := [0, 1, 2, 3].foldl State.fwSwitch s

/-- A write of BRU_FW_CMD: SWITCH arms the staged image, else the previous one while its SVN is not below FUSE_SVN; it is
refused with neither, and for the management class with no standby. With no S0 stream the switch is made at once. -/
def State.fwCmd (s : State) (v : Nat) : State :=
  let s := s.setReg (pcs 0x1a 0 0x40) (v &&& 0x103)
  let c := fld v 1 0
  let f := s.fw c
  if !bitOf v 8 then s
  else
    let back := { f with stagedVersion := f.prevVersion, stagedSvn := f.prevSvn, stagedHash := f.prevHash }
    let g := if f.stagedVersion ≠ 0 then some f
      else if f.prevVersion ≠ 0 ∧ s.security.fuseSvn ≤ f.prevSvn then some back else none
    match g with
    | none => s.setFlag fFwRefused 0
    | some g =>
      if c = 3 ∧ !s.boot.standbyOk then s.setFlag fFwRefused 0
      else
        let s := s.putFw c { g with armed := true }
        if s.hasS0 then s else s.fwSwitch c

/-! ### The meanings -/

/-- PWRGD_ASSERT (R538). -/
def execPwrgdAssert (railsOk : Bool) (s : State) : Host.Outcome State Fault Refusal := .next (s.pwrgdHigh railsOk)

/-- RESET_N_ASSERT (R539, R540). -/
def execResetNAssert (t : Nat) (s : State) : Host.Outcome State Fault Refusal := .next (s.stamp t).resetLow

/-- PWRGD_FALL (R539, R540). -/
def execPwrgdFall (t : Nat) (s : State) : Host.Outcome State Fault Refusal := .next (s.stamp t).pwrgdLow

/-- VIN_PKG_LOSS (R542). -/
def execVinPkgLoss (t : Nat) (s : State) : Host.Outcome State Fault Refusal := .next (s.stamp t).vinLoss

/-- VAUX_LOSS (R521): the error log is cleared; VAUX is the last rail to go. -/
def execVauxLoss (t : Nat) (s : State) : Host.Outcome State Fault Refusal :=
  .next { (s.stamp t).resetNow with errLog := ErrLog.empty }

/-- P0_DONE (R448). -/
def execP0Done (pos t : Nat) (s : State) : Host.Outcome State Fault Refusal :=
  if pos < 4 then .next ((s.stamp t).p0Done pos) else .fault .noSuchUnit

/-- ROM_SELFTEST_DONE (R452). -/
def execRomSelftestDone (iod rom t : Nat) (s : State) : Host.Outcome State Fault Refusal :=
  if iod < 2 then .next ((s.stamp t).romPass iod rom) else .fault .noSuchUnit

/-- ELECTION_TIMEOUT (R452). -/
def execElectionTimeout (t : Nat) (s : State) : Host.Outcome State Fault Refusal := .next (s.stamp t).electionOver

/-- STAGE1_VERIFY (R453). -/
def execStage1Verify (a : ImageSig) (hashA : Nat) (b : ImageSig) (hashB : Nat) (standby : Bool) (t : Nat) (s : State) :
    Host.Outcome State Fault Refusal :=
  .next ((s.stamp t).stage1 (a, hashA) (b, hashB) standby)

/-- RECOVERY_IMAGE (R453). -/
def execRecoveryImage (sig : ImageSig) (t : Nat) (s : State) : Host.Outcome State Fault Refusal :=
  .next ((s.stamp t).recoveryImage sig)

/-- ASSAY_DONE (R454). -/
def execAssayDone (failed : List (Nat × Nat × Nat)) (dimms : List Nat) (t : Nat) (s : State) :
    Host.Outcome State Fault Refusal :=
  .next ((s.stamp t).assay failed dimms)

/-- MAP_PROGRAM (R456, R457). -/
def execMapProgram (map : List (Nat × Nat × Nat)) (t : Nat) (s : State) : Host.Outcome State Fault Refusal :=
  .next ((s.stamp t).mapProgram map)

/-- FIRMWARE_BROADCAST (R458). -/
def execFirmwareBroadcast (a : ImageSig) (imagesA : List (Nat × Nat)) (b : ImageSig) (imagesB : List (Nat × Nat)) (loops t : Nat)
    (s : State) : Host.Outcome State Fault Refusal :=
  .next ((s.stamp t).broadcast (a, imagesA) (b, imagesB) loops)

/-- FIRMWARE_FETCH (R459). -/
def execFirmwareFetch (die unit : Nat) (ok : Bool) (t : Nat) (s : State) : Host.Outcome State Fault Refusal :=
  if die < 30 ∧ unit < 64 ∧ (16 ≤ die ∨ unit < 36) then .next ((s.stamp t).fetchFirmware die unit ok) else .fault .noSuchUnit

/-- JOURNAL_RECOVERY (R393). -/
def execJournalRecovery (mbps t : Nat) (s : State) : Host.Outcome State Fault Refusal := .next ((s.stamp t).recover mbps)

/-- HEADFRAME_COMMIT (R470). -/
def execHeadframeCommit (image : List Byte) (sig : ImageSig) (t : Nat) (s : State) : Host.Outcome State Fault Refusal :=
  .next ((s.stamp t).headframe image sig)

/-- WEIGHT_SHARD_READ_DONE (R469). -/
def execWeightShardReadDone (model shard : Nat) (ok : Bool) (t : Nat) (s : State) : Host.Outcome State Fault Refusal :=
  .next ((s.stamp t).shardRead model shard ok)

/-- BRU_FW_SWITCH (R483): a write of BRU_FW_CMD. -/
def execBruFwSwitch (v t : Nat) (s : State) : Host.Outcome State Fault Refusal := .next ((s.stamp t).fwCmd v)

end Sys2Proof.Machine
end

