-- ==== Sys2Proof/Machine/Readback.lean ====
section
/-! DEFINITION. What a read of a PCS register returns (R9 to R12, R22, R476, R501, R547 to R550): the registers that mirror
state kept elsewhere, the shadow of a staged value, the selection of the reading function. -/

namespace Sys2Proof.Machine

/-- A register's value from its fields: high bit, low bit, value. -/
def pack (l : List (Nat × Nat × Nat)) : Nat := l.foldl (fun v f => setFld v f.1 f.2.1 f.2.2) 0

/-- Fields put over the value that is stored. -/
def packOver (base : Nat) (l : List (Nat × Nat × Nat)) : Nat := l.foldl (fun v f => setFld v f.1 f.2.1 f.2.2) base

/-- A sum of bits by index. -/
def bitMask (p : Nat → Bool) (n : Nat) : Nat := sumBy (fun i => 2 ^ i) ((List.range n).filter p)

/-! ### PKG, ISL, SES, STP (R6, R17, R20, R22, R37, R67) -/

/-- An island of a die: class code, and whether it is fenced; `none` where there is no such island. -/
def State.island (s : State) (die i : Nat) : Option (Nat × Bool) :=
  let out := s.boot.diesOut.contains die
  if die < 16 then
    if s.cds ≤ die ∨ 4 ≤ i ∨ (s.boot.cdMap.length ≤ die ∧ !out) ∨ (die < s.boot.cdMap.length ∧ (agetD s.boot.clusterMap die []).length ≤ i)
    then none else some (0, !s.clusterIn (4 * die + i))
  else if die < 28 then if i = 0 then some (1, out) else none
  else if die < 30 then if i = 0 then some (2, out) else if i = 1 then some (3, out) else none
  else if i = 0 then some (3, out) else none

/-- ISL_STATUS of an island. The offset of its PT lies within 2 ns (R14) and is open (log entry 40). -/
def State.readIsl (s : State) (sel : Nat) : Nat :=
  let die := fld sel 4 0
  match s.island die (fld sel 10 8) with
  | none => pack [(21, 20, 3)]
  | some (c, out) =>
    let up := s.boot.pkgPgood && (die < 30 || (s.eport (die - 30)).supply)
    let freq := if c = 0 then agetD s.power.freqCd die s.power.freqMhz else if c = 1 then 1600 else if c = 2 then 1800 else 1200
    if !up then pack [(18, 16, c)]
    else if out then pack [(18, 16, c), (21, 20, 2)]
    else pack [(15, 0, freq), (18, 16, c), (21, 20, 1), (31, 24, 254 + Config.freeValue s.draws % 5)]

/-- PKG_MGMT. -/
def State.readMgmt (s : State) : Nat :=
  let a := s.boot.leader.getD 0
  packOver (s.reg (pcs 0 0 0x18))
    [(0, 0, a), (1, 1, bit s.boot.standbyOk), (2, 2, bit (s.boot.leader.isSome && s.boot.diesOut.contains (29 - a)))]

/-- Slots of a table SD that satisfy a test. -/
def State.slotsOf (s : State) (n : Nat) (p : Session → Bool) : Nat := countBy (fun (x : Nat × Session) => tableSd x.1 == n && p x.2) s.sessions

/-- SES registers of a table SD. -/
def State.readSes (s : State) (n off : Nat) : Option Nat :=
  let st := fun x (x' : Session) => x'.cur.entry.state == x
  if off = 0x08 then some (pack [(23, 0, s.slotsOf n fun x => x.cur.entry.state != .free), (47, 24, s.slotsOf n (st .waiting)), (63, 48, s.slotsOf n (st .running))])
  else if off = 0x28 then some (packOver (s.reg (pcs 2 n 0x28)) [(23, 0, (s.sd n).outboxFree)])
  else if off = 0x30 then some (packOver (s.reg (pcs 2 n 0x30)) [(23, 0, s.slotsOf n fun x => x.timer.isSome)])
  else none

/-- A stream's phase. -/
def Stream.phase (x : Stream) : Nat :=
  match x.run with
  | none => 0
  | some r => if r.suspended then 4 else if r.sealPt.isSome then 3 else 2

/-- STP registers. -/
def State.readStp (s : State) (off : Nat) : Option Nat :=
  let n := fun (x : Stream) => (x.run.map fun r => (r.members.filter fun m => !m.removed).length).getD 0
  if off = 0x40 then some s.s0.step
  else if off = 0x48 then some s.s1.step
  else if off = 0x50 then some (pack [(2, 0, s.s0.phase), (5, 3, s.s1.phase), (22, 8, n s.s0), (38, 24, n s.s1),
    (47, 40, (s.s1.run.map StepRun.suspensions).getD 0)])
  else if off = 0x70 then some (pack [(31, 0, s.s0.head), (63, 32, s.s1.head)])
  else none

/-! ### MEM, CAGE, PFX, KV (chapters 04 to 06) -/

/-- MEM_POOL_STAT of a selection. -/
def State.readPool (s : State) (n sel : Nat) : Nat :=
  let tier := fld sel 1 0
  let p := s.pool (if fld sel 9 6 = 0xa then scalePool n else poolKey n tier (fld sel 5 2) (fld sel 9 6))
  pack [(31, 0, p.pool.total), (63, 32, p.pool.free)]

/-- MEM registers of an SD. -/
def State.readMem (s : State) (port n off : Nat) : Option Nat :=
  let t := s.tenant (fld (s.selOf port (pcs 4 0 0x40)) 11 0)
  if off = 0x00 then some (s.sd n).ptRoot
  else if off = 0x10 then some (s.readPool n (s.selOf port (pcs 4 n 0x08)))
  else if off = 0x48 then some t.quota.t0
  else if off = 0x50 then some t.quota.t1
  else if off = 0x58 then some t.quota.t2
  else if off = 0x60 then some (t.used.t0 / 1024)
  else if off = 0x68 then some (t.used.t1 / 1024)
  else if off = 0x70 then some (t.used.t2 / 1024)
  else none

/-- CAGE_STAT of an SD. -/
def State.readCage (s : State) (n off : Nat) : Option Nat :=
  let held := ((s.heldWrites.map fun h => h.1).filter fun p => ownerSd p == n).dedup
  if off = 0 then some (pack [(15, 0, s.activeCages n), (31, 16, (s.sd n).cageWaiting.length), (47, 32, held.length)]) else none

/-- PFX registers of an SD, and of the selected domain. -/
def State.readPfx (s : State) (port n off : Nat) : Option Nat :=
  let d := s.sd n
  let dom := fld (s.selOf port (pcs 6 0 0x30)) 7 0
  let ms := agetD s.domains dom [0, 0, 0, 0, 0, 0, 0, 0]
  let m := fun base => pack ((List.range 4).map fun j => (12 * j + 11, 12 * j, ms.getD (base + j) 0))
  if off = 0x08 then some (pack [(23, 0, d.buckets), (55, 32, d.refPool.total - 1)])
  else if off = 0x10 then some (pack [(31, 0, d.nodes.length), (55, 32, d.refs.length)])
  else if off = 0x38 then some (pack [(7, 0, bitMask (fun i => ms.getD i 0 != 0) 8), (15, 8, bitMask (fun i => s.memberBusy dom i) 8)])
  else if off = 0x40 then some (m 0)
  else if off = 0x48 then some (m 4)
  else none

/-- KV_GEOM of a model instance. -/
def Model.geom (m : Model) : Nat :=
  pack [(1, 0, m.kvFormat), (5, 2, m.kvPageClass), (9, 6, Nat.log2 m.pageTokens), (16, 10, m.groupHeads), (23, 17, m.groups),
    (26, 24, Nat.log2 m.spanPages), (28, 27, if m.headDim = 64 then 0 else if m.headDim = 128 then 1 else 2), (29, 29, m.ropePairing),
    (39, 32, m.rotaryDims / 2)]

/-- KV registers. -/
def State.readKv (s : State) (port n off : Nat) : Option Nat :=
  let d := s.sd n
  if off = 0x08 then some (((aget s.models (fld (s.selOf port (pcs 7 0 0)) 15 0)).map Model.geom).getD 0)
  else if off = 0x18 then some (pack [(23, 0, d.mapFree), (47, 24, d.mapTotal), (63, 48, d.dirFree)])
  else none

/-! ### ENG, CORE, TXT, SMP (chapters 07 to 09) -/

/-- ENG_MODEL. -/
def State.readEng (s : State) (port off : Nat) : Option Nat :=
  if off = 0x08 then some (((aget s.models (fld (s.selOf port (pcs 9 0 0)) 15 0)).map fun m =>
    pack [(0, 0, m.exact), (7, 4, m.formats.getD 0 0), (11, 8, m.formats.getD 1 0), (31, 16, agetD m.params 0x23 0)]).getD 0)
  else none

/-- A core. -/
def State.core (s : State) (i : Nat) : Core := agetD s.cores i Core.reset

/-- CORE registers of the selected core. -/
def State.readCore (s : State) (port n off : Nat) : Option Nat :=
  let sel := s.selOf port (pcs 0x0a n 0)
  let l := 4 * n + fld sel 1 0
  let c := s.core (8 * l + fld sel 4 2)
  let st := match c.state with
    | .idle => 0
    | .running => 1
    | .stopped => 2
  if off = 0x08 then some (if s.clusterIn l then st else 3)
  else if off = 0x10 then some (pack [(7, 0, c.exc), (15, 8, c.excSlot), (63, 16, c.excPc / 65536)])
  else if off = 0x18 then some (pack [(15, 0, c.excPc), (63, 16, c.excStep)])
  else none

/-- TXT registers: the lookups that the vocabulary cache serves are open (log entry 40). -/
def State.readTxt (s : State) (n off : Nat) : Option Nat :=
  if off = 0x10 then some (Config.freeValue s.draws % 2 ^ 64)
  else if off = 0x18 then some (pack [(23, 0, (s.sd n).textFree), (47, 24, (s.sd n).textTotal)])
  else none

/-- SMP registers. -/
def State.readSmp (s : State) (port n off : Nat) : Option Nat :=
  let c := s.sampler (4 * n + fld (s.selOf port (pcs 0x0c n 0)) 1 0)
  if off = 0x08 then some (pack [(31, 0, c.drawn), (63, 32, c.forced)])
  else if off = 0x10 then some (pack [(31, 0, c.proposed), (63, 32, c.accepted)])
  else if off = 0x28 then some (pack [(16, 0, s.profiles.length), (47, 32, s.seqLists.length)])
  else none

/-! ### ROW, RCL, HOI, MIG (chapters 10 and 11) -/

/-- Rows of a table that an SD of this package owns. -/
def State.rowsHeld (s : State) (t : RowTable) (n : Nat) : Nat :=
  sumBy (fun (b : RowBlock × Nat) => if b.1.pkg = s.pkg ∧ b.1.sd = n then min t.perBlock (t.rowCount - b.2 * t.perBlock) else 0) t.blocks.zipIdx

/-- ROW_ADAPTER of a selection. -/
def State.readAdapter (s : State) (sel : Nat) : Nat :=
  let key := fld sel 15 0 * 65536 + fld sel 31 16
  match aget s.adapters key with
  | some a => pack [(1, 0, 2), (2, 2, bit a.current), (31, 8, s.adapterPins key), (40, 32, a.rank), (59, 48, a.tenant)]
  | none => if s.tables.loads.any fun l => l.2.key == key then 1 else 0

/-- ROW registers. -/
def State.readRowReg (s : State) (port n off : Nat) : Option Nat :=
  if off = 0x58 then some (s.readAdapter (s.selOf port (pcs 0x0d 0 0x50)))
  else
    let t := aget s.tables.tables (fld (s.selOf port (pcs 0x0d 0 0)) 11 0)
    let get := fun (f : RowTable → Nat) => some ((t.map f).getD 0)
    if off = 0x08 then get fun t => pack [(13, 0, t.rowBytes), (14, 14, bit t.numeric), (18, 15, t.format), (30, 19, t.tenant),
      (31, 31, bit t.pending.isSome), (63, 32, t.version)]
    else if off = 0x10 then get fun t => pack [(31, 0, t.rowCount), (36, 32, t.log2Block)]
    else if off = 0x20 then get RowTable.hotAddr
    else if off = 0x28 then get RowTable.hotCount
    else if off = 0x30 then get fun t => pack [(31, 0, agetD t.lookups n 0), (63, 32, s.rowsHeld t n)]
    else if off = 0x38 then get fun t => pack [(15, 0, agetD t.queueHwm n 0)]
    else none

/-- RCL registers. -/
def State.readRcl (s : State) (port n off : Nat) : Option Nat :=
  let t := aget s.tables.indexes (fld (s.selOf port (pcs 0x0e 0 0)) 11 0)
  let get := fun (f : RecallIndex → Nat) => some ((t.map f).getD 0)
  if off = 0x08 then get fun i => pack [(12, 0, i.dim), (20, 13, i.subspaces), (21, 21, bit i.innerProduct), (33, 22, i.tenant),
    (45, 34, bitMask (fun k => i.sds.contains k) 12)]
  else if off = 0x10 then get fun i => pack [(31, 0, agetD i.queries n 0), (63, 32, countBy (fun r => !r.dead) (agetD i.shards n []))]
  else if off = 0x18 then get fun i => agetD i.scanned n 0
  else none

/-- HOI registers of the selected channel. -/
def State.readHoi (s : State) (port n off : Nat) : Option Nat :=
  let ch := fld (s.selOf port (pcs 0x0f n 0)) 4 0
  let c := s.chan n ch
  if off = 0x08 then some (pack [(2, 0, c.state), (3, 3, bit (s.urgentChan n ch)), (31, 16, c.status), (63, 32, c.nextSeg)])
  else if off = 0x10 then some ((c.desc.map Descriptor.usa).getD 0)
  else if off = 0x18 then some c.faultAddr
  else if off = 0x20 then
    some (packOver (s.reg (pcs 0x0f n 0x20)) [(5, 0, countBy (fun (x : Nat × Channel) => x.1 / 64 == n && x.2.busy) s.channels)])
  else if off = 0x28 then some c.done
  else none

/-- MIG_STAT. -/
def State.readMig (s : State) (off : Nat) : Option Nat :=
  if off = 0x10 then some (packOver (s.reg (pcs 0x11 0 0x10)) [(7, 0, s.migrationsOut), (15, 8, s.incoming.length)]) else none

/-! ### GAL, TFQ (chapter 12) -/

/-- The code of a port's state. -/
def PortState.code : PortState → Nat
  | .down => 0 | .training => 1 | .rollCall => 2 | .up => 3 | .fenced => 4

/-- GAL registers of an IOD: the port selected must be one that it carries. -/
def State.readGal (s : State) (port n off : Nat) : Option Nat :=
  let p := fld (s.selOf port (pcs 0x12 n 0x18)) 3 0
  let g := s.port p
  let mine := fun v => some (if p % 2 = n then v else 0)
  if off = 0x20 then
    some (if p % 2 ≠ n then 7 else pack [(2, 0, g.state.code), (6, 3, g.lanes), (31, 16, g.trainings), (63, 32, fld g.upSince 51 20)])
  else if off = 0x28 then mine (pack [(31, 0, g.corrected), (63, 32, g.replays)])
  else if off = 0x30 then mine (pack [(13, 0, g.peerPkg), (15, 14, g.peerPos), (19, 16, g.peerPort), (20, 20, bit g.hashMatch), (21, 21, bit g.epochMatch)])
  else if off = 0x38 then mine g.peerSerial
  else if off = 0x48 then some (agetD s.gallery.routes (fld (s.selOf port (pcs 0x12 0 0x40)) 13 0) 0)
  else if off = 0x50 then some (packOver (s.reg (pcs 0x12 0 0x50)) [(19, 16, s.upstream.getD 0)])
  else none

/-- TFQ registers of the selected port and class. -/
def State.readTfq (s : State) (port n off : Nat) : Option Nat :=
  let sel := s.selOf port (pcs 0x13 n 0x10)
  let g := s.port (fld sel 3 0)
  let q := g.queue (fld sel 6 4)
  if off = 0x18 then some (pack [(15, 0, agetD g.occHwm (fld sel 6 4) 0), (63, 32, agetD g.resHwm (fld sel 6 4) 0)])
  else if off = 0x20 then some (pack [(15, 0, q.length), (63, 32, sumBy (fun (x : Queued) => x.packet.flits) q)])
  else if off = 0x28 then some g.vtime
  else none

/-! ### CKP, PWR, EID (chapters 13 and 14) -/

/-- The phase of the epoch in progress. -/
def EpochRun.phase (r : EpochRun) : Nat :=
  if r.cut.isNone then 1 else if !r.frozen.isEmpty then 2 else if !r.staged.isEmpty then 3 else 4

/-- CKP registers. -/
def State.readCkp (s : State) (off : Nat) : Option Nat :=
  let c := s.checkpoint
  let r := c.run
  let frozen := sumBy (fun u => ((s.leaf u).map fun l => pageSize l.sizeClass + l.scaleBytes).getD 0) ((r.map EpochRun.frozen).getD [])
  if off = 0x08 then some (pack [(31, 0, c.stageTotal / 2 ^ 20), (63, 32, c.stageFree / 2 ^ 20)])
  else if off = 0x18 then some c.lastDurable
  else if off = 0x20 then some ((r.map EpochRun.epoch).getD 0)
  else if off = 0x28 then
    some (pack [(2, 0, (r.map EpochRun.phase).getD 0), (3, 3, bit (r.any EpochRun.full)), (63, 16, ((r.bind EpochRun.cut).map (·.2)).getD 0)])
  else if off = 0x30 then some (pack [(31, 0, frozen / 2 ^ 20), (63, 32, (r.map EpochRun.drained).getD 0 / 2 ^ 20)])
  else if off = 0x38 then some (packOver (s.reg (pcs 0x14 0 0x38)) [(63, 32, c.maxStall)])
  else none

/-- PWR registers. -/
def State.readPwr (s : State) (off : Nat) : Option Nat :=
  let p := s.power
  if off = 0x08 then some (pack [(15, 0, p.powerW), (31, 16, p.freqMhz), (32, 32, bit p.capLimit), (33, 33, bit p.thermLimit),
    (34, 34, bit p.pacing), (47, 40, p.hotJunc), (55, 48, p.hotDram), (60, 56, p.hotDie)])
  else if off = 0x10 then some (p.energyMj % 2 ^ 64)
  else if off = 0x20 then some (pack [(23, 0, p.limitMib), (47, 24, s.durableSet / 2 ^ 20), (48, 48, bit p.storeOk), (49, 49, bit p.pressure)])
  else if off = 0x28 then some (pack [(15, 0, p.budgetMs), (31, 16, min 65535 p.drainBw), (63, 32, p.energyJ)])
  else if off = 0x30 then some (pack [(31, 0, p.journalFree / 2 ^ 20), (63, 32, p.journalTotal)])
  else if off = 0x38 then some (pack [(31, 0, p.lastDrainMs), (47, 32, p.lastDrainW)])
  else none

/-- EID registers of a port. -/
def State.readEid (s : State) (port n off : Nat) : Option Nat :=
  let p := s.eport n
  let tap := fld (s.selOf port (pcs 0x16 n 0x10)) 4 0
  if off = 0x08 then some (pack [(15, 0, p.busV), (31, 16, p.storeV), (63, 32, toMod 32 p.current)])
  else if off = 0x18 then some (if tap < 24 then p.taps.getD tap 0 % 65536 else toMod 16 (p.ntcs.getD (tap - 24) 0))
  else if off = 0x20 then some (pack [(15, 0, p.rating), (31, 16, p.esr), (56, 32, min p.energy 0x1ffffff), (63, 57, p.soc)])
  else if off = 0x28 then some (pack [(2, 0, p.phase.code), (3, 3, bit p.healthy), (4, 4, bit p.contactor), (5, 5, bit p.derated)])
  else none

/-! ### HIF, XPN, SEC (chapters 15 and 16) -/

/-- The code of a function's state. -/
def FnState.code : FnState → Nat
  | .reset => 0 | .enabled => 1 | .draining => 2 | .resetting => 3 | .absent => 4

/-- HIF registers of a host port. -/
def State.readHif (s : State) (port n off : Nat) : Option Nat :=
  let b := s.selOf port (pcs 0x17 n 0x08)
  let f := 64 * n + fld (s.selOf port (pcs 0x17 n 0x20)) 5 0
  let h := s.fn f
  if off = 0x10 then some (bit ((s.tenant (fld b 27 16)).functions.contains (fld b 6 0)))
  else if off = 0x28 then some (pack [(2, 0, h.state.code), (15, 8, countBy (fun (q : Nat × DispatchQueue) => q.2.enabled) h.dqs),
    (39, 16, (s.slotsWhere fun x => x.cur.entry.state != .free && x.cur.entry.function == f && x.cur.entry.detached).length)])
  else if off = 0x30 then some h.vectors
  else if off = 0x48 then some (pack [(1, 0, (s.drive n).state), (39, 8, (s.drive n).nsid)])
  else if off = 0x50 then some (pack [(0, 0, bit (s.eth n).link), (39, 16, (s.eth n).runts), (63, 40, (s.eth n).oversize)])
  else none

/-- XPN registers of the selected device. -/
def State.readXpn (s : State) (port n off : Nat) : Option Nat :=
  let i := 4 * n + fld (s.selOf port (pcs 0x18 n 0)) 1 0
  let e := agetD s.expanders i { state := 0, width := 0, capacity := 0 }
  if off = 0x08 then some (pack [(2, 0, e.state), (4, 3, e.width), (63, 32, e.capacity)])
  else if off = 0x18 then some (countBy (fun (l : Nat × Leaf) => l.2.tier == 2 && l.2.pool == i) s.leaves)
  else none

/-- The code of a key slot's state. -/
def KeyState.code : KeyState → Nat
  | .empty => 0 | .loaded => 1 | .exhausted => 2

/-- SEC registers. -/
def State.readSec (s : State) (port off : Nat) : Option Nat :=
  let x := s.security
  let slot := fld (s.selOf port (pcs 0x19 0 0x18)) 5 0
  let j := agetD x.jobs slot JobSlot.free
  let top := (x.seqs.filter fun q => (x.jobs.any fun k => k.1 == slot) && q.1 / 2 ^ 20 == 2 * slot + j.txPhase).foldl (fun m q => max m q.2) 0
  if off = 0x00 then some (pack [(0, 0, bit x.conf), (1, 1, bit x.confNext), (2, 2, bit x.debugUnlocked), (3, 3, bit x.hybridRequired)])
  else if off = 0x08 then some (packOver (s.reg (pcs 0x19 0 0x08)) [(6, 0, x.fuseSvn), (14, 8, s.runSvn)])
  else if off = 0x10 then some (pack [(7, 0, (x.position x.active).keyId), (15, 8, (x.position x.next).keyId),
    (19, 16, bitMask (fun i => (x.position i).revoked) 4), (21, 20, bitMask (fun i => x.owners.any fun o => o.1 == i) 2)])
  else if off = 0x20 then some (pack [(15, 0, j.job), (17, 16, j.p0.state.code), (19, 18, j.p1.state.code), (20, 20, j.txPhase)])
  else if off = 0x28 then some top
  else none

/-! ### BRU, CT, LED, OBS, ERR, ZYM (chapters 17 to 19 and 08) -/

/-- BRU_DMAP of a die. -/
def Boot.dmap (b : Boot) (die : Nat) : Nat :=
  if die < 16 then pack [(35, 0, bitMask (fun i => b.isOut die 0 i) 36), (39, 36, bitMask (fun c => !(b.goodClusters die).contains c) 4)]
  else if die < 28 then pack [(3, 0, countBy (fun (d : Defect) => d.die == die && d.kind == 2) b.defects), (4, 4, bit (b.diesOut.contains die))]
  else 0

/-- BRU registers. -/
def State.readBru (s : State) (port off : Nat) : Option Nat :=
  let b := s.boot
  let f := s.fw (fld (s.selOf port (pcs 0x1a 0 0x30)) 1 0)
  let lost := sumBy (fun d => 4 - (b.goodClusters d).length) (List.range 16) + b.clustersOut.length
  let spared := sumBy (fun n => if b.diesOut.contains (16 + n) then 0 else countBy (fun (d : Defect) => d.die == 16 + n && d.kind == 2) b.defects) (List.range 12)
  if off = 0x00 then some (pack [(3, 0, b.phase), (4, 4, bit b.ready), (6, 5, b.hf), (31, 16, countBy (fun h => !h.loaded) b.shards), (63, 32, b.readyMs)])
  else if off = 0x08 then some (pack [(9, 0, countBy (fun (c : Nat × List Nat) => c.2.contains 8) b.coreMap), (15, 10, lost), (23, 16, spared),
    (27, 24, countBy (fun d => 16 ≤ d && d < 28) b.diesOut), (47, 32, bitMask (fun c => b.ddrUnused.contains c) 16)])
  else if off = 0x18 then some (b.dmap (fld (s.selOf port (pcs 0x1a 0 0x10)) 4 0))
  else if off = 0x28 then some (bitMask (fun d => b.diesOut.contains d) 32)
  else if off = 0x38 then some (pack [(31, 0, f.runVersion), (63, 32, f.stagedVersion)])
  else none

/-- CT registers, for a reading function. -/
def State.readCt (s : State) (port off : Nat) : Option Nat :=
  let (st, owner, n) := agetD s.ctResults (64 * port) (0, 0, 0)
  let sel := s.selOf port (pcs 0x1b 0 0x18)
  let x := s.txn (scopeOf (fld sel 1 0 * 16 + fld sel 27 16 * 65536))
  let get := fun (f : CtTxn → Nat) => some ((x.map f).getD 0)
  if off = 0x10 then some (pack [(15, 0, st), (22, 16, owner), (63, 32, n)])
  else if off = 0x20 then get fun x => pack [(2, 0, x.state), (3, 3, bit x.overflow), (10, 4, x.owner), (31, 16, x.status), (48, 32, x.staged)]
  else if off = 0x28 then get CtTxn.failAddr
  else if off = 0x30 then get CtTxn.stepS0
  else if off = 0x38 then get CtTxn.stepS1
  else none

/-- Slots of a tenant that are not FREE (R497), and its members in steps in flight. -/
def State.tenantRunning (s : State) (t : Nat) : Nat :=
  sumBy (fun s1 => ((s.stream s1).run.map fun r => countBy (fun m => m.tenant == t) r.live).getD 0) [false, true]

/-- LED_ROW's word of a tenant. -/
def State.ledRow (s : State) (t : Nat) : Nat :=
  let x := s.tenant t
  let frac := fun i => x.counters.getD i 0 % 8
  pack [(0, 0, bit x.declared), (1, 1, bit x.overQuota), (2, 2, bit (x.remaining == 0)), (30, 8, s.tenantSlots t),
    (46, 32, s.tenantRunning t), (55, 47, frac 6 + 8 * frac 7 + 64 * frac 8)]

/-- A counter as it is read: counters 6 to 8 are held in eighths (R150). -/
def Tenant.counter (x : Tenant) (i : Nat) : Nat := if 6 ≤ i ∧ i ≤ 8 then x.counters.getD i 0 / 8 else x.counters.getD i 0

/-- The row of a tenant as LED_TSEL latches it: LED_ROW, POSTED_S0, POSTED_S1, LED_USED, the counters. -/
def State.latchRow (s : State) (t : Nat) : List Nat :=
  let x := s.tenant t
  [s.ledRow t, x.posted0, x.posted1, x.tokensUsed] ++ (List.range 16).map x.counter

/-- LED registers. -/
def State.readLed (s : State) (port off : Nat) : Option Nat :=
  let row := (agetD s.obs.latched (64 * port) (0, [])).2
  let t := s.tenant (fld (s.selOf port (pcs 0x1c 0 0)) 11 0)
  if off = 0x08 then some (row.getD 0 0)
  else if off = 0x10 then some (row.getD 1 0)
  else if off = 0x18 then some (row.getD 2 0)
  else if off = 0x20 then some (pack [(22, 0, t.maxSessions), (38, 24, t.maxRunning), (55, 40, t.weight)])
  else if off = 0x28 then some t.tokenLimit
  else if off = 0x30 then some (row.getD 3 0)
  else if off = 0x38 then some (pack [(31, 0, t.bucketRate), (54, 32, t.bucketDepth)])
  else if off = 0x50 then some (packOver (s.reg (pcs 0x1c 0 0x50)) [(1, 1, bit s.obs.dumpDone), (31, 16, s.obs.dumpStatus)])
  else if 0x100 ≤ off ∧ off < 0x200 ∧ off % 8 = 0 then
    let c := row.getD (4 + (off - 0x100) / 16) 0
    some (if off % 16 = 0 then c % 2 ^ 64 else c / 2 ^ 64)
  else none

/-- OBS registers. -/
def State.readObs (s : State) (port off : Nat) : Option Nat :=
  let (cleared, count, st) := agetD s.obs.cic (64 * port) (false, 0, 0)
  if off = 0x20 then some (packOver (s.reg (pcs 0x1d 0 0x20)) [(9, 9, bit s.obs.snapDone), (31, 16, s.obs.snapStatus)])
  else if off = 0x28 then some s.obs.snapStep
  else if off = 0x40 then
    some (pack [(0, 0, bit (aget s.obs.cic (64 * port)).isSome), (1, 1, bit cleared), (15, 8, count), (31, 16, st)])
  else none

/-- The four words of a log entry (R517). -/
def ErrEntry.words (e : ErrEntry) : List Nat :=
  [e.pt, pack [(31, 0, e.seq), (39, 32, e.cls), (47, 40, e.die), (55, 48, e.blk), (63, 56, e.inst)],
    pack [(15, 0, e.code), (31, 16, e.repeats)], e.detail]

/-- ERR registers. -/
def State.readErr (s : State) (port off : Nat) : Option Nat :=
  if off = 0x00 then some s.errLog.count
  else if 0x10 ≤ off ∧ off ≤ 0x28 then some ((((aget s.errLog.latches port).map ErrEntry.words).getD []).getD ((off - 0x10) / 8) 0)
  else none

/-- A sequencer. -/
def State.seqr (s : State) (i : Nat) : Sequencer := agetD s.sequencers i Sequencer.reset

/-- ZYM registers of the selected sequencer. -/
def State.readZym (s : State) (port n off : Nat) : Option Nat :=
  let q := s.seqr (16 * n + fld (s.selOf port (pcs 0x1f n 0)) 3 0)
  if off = 0x08 then some (pack [(15, 0, q.prog), (17, 16, if q.running then 1 else if q.prog = 0 then 2 else 0), (63, 32, q.runs)])
  else if off = 0x10 then some (pack [(7, 0, q.faultCode), (15, 8, q.trapCode), (27, 16, q.faultPc), (63, 32, q.faultRun)])
  else none

/-! ### A read -/

/-- The registers that a physical function holds for itself (R476, R550). -/
def isSel (blk off : Nat) : Bool :=
  [(0x01, 0x00), (0x04, 0x08), (0x04, 0x40), (0x06, 0x30), (0x07, 0x00), (0x09, 0x00), (0x0a, 0x00), (0x0c, 0x00), (0x0d, 0x00),
   (0x0d, 0x50), (0x0e, 0x00), (0x0f, 0x00), (0x12, 0x18), (0x12, 0x40), (0x13, 0x10), (0x16, 0x10), (0x17, 0x08), (0x17, 0x20),
   (0x18, 0x00), (0x19, 0x18), (0x1a, 0x10), (0x1a, 0x30), (0x1b, 0x18), (0x1b, 0x50), (0x1c, 0x00), (0x1e, 0x08), (0x1f, 0x00)].contains
    (blk, off)

/-- A register that mirrors state kept elsewhere. -/
def State.mirror (s : State) (port blk n off : Nat) : Option Nat :=
  match blk with
  | 0x00 => if off = 0x10 then some s.pt else if off = 0x18 then some s.readMgmt else none
  | 0x01 => if off = 0x08 then some (s.readIsl (s.selOf port (pcs 1 0 0))) else none
  | 0x02 => s.readSes n off
  | 0x03 => s.readStp off
  | 0x04 => s.readMem port n off
  | 0x05 => s.readCage n off
  | 0x06 => s.readPfx port n off
  | 0x07 => s.readKv port n off
  | 0x09 => s.readEng port off
  | 0x0a => s.readCore port n off
  | 0x0b => s.readTxt n off
  | 0x0c => s.readSmp port n off
  | 0x0d => s.readRowReg port n off
  | 0x0e => s.readRcl port n off
  | 0x0f => s.readHoi port n off
  | 0x11 => s.readMig off
  | 0x12 => s.readGal port n off
  | 0x13 => s.readTfq port n off
  | 0x14 => s.readCkp off
  | 0x15 => s.readPwr off
  | 0x16 => s.readEid port n off
  | 0x17 => s.readHif port n off
  | 0x18 => s.readXpn port n off
  | 0x19 => s.readSec port off
  | 0x1a => s.readBru port off
  | 0x1b => s.readCt port off
  | 0x1c => s.readLed port off
  | 0x1d => s.readObs port off
  | 0x1e => s.readErr port off
  | 0x1f => s.readZym port n off
  | _ => none

/-- The live value of a register, for the physical function of a port. -/
def State.live (s : State) (port addr : Nat) : Nat :=
  let blk := addr / 2 ^ 22
  let off := addr % 2 ^ 16
  if isSel blk off then s.selOf port addr else (s.mirror port blk (addr / 2 ^ 16 % 64) off).getD (s.reg addr)

/-- The transaction whose shadow a read of a register shows: of its scope; for a per-tenant register, of the tenant that
MEM_TSEL or LED_TSEL selects (R125, R503). -/
def State.readScope (s : State) (port addr : Nat) : CtScope :=
  match regScope addr with
  | some sc => sc
  | none => .tenant (fld (s.selOf port (if addr / 2 ^ 22 = 4 then pcs 4 0 0x40 else pcs 0x1c 0 0)) 11 0)

/-- The staged value of a register (R476): an open or committing transaction of its scope has one. -/
def State.shadow (s : State) (port addr : Nat) : Option Nat :=
  ((s.txn (s.readScope port addr)).filter CtTxn.busy).bind fun x => (aget x.shadows (s.stageKey port addr)).map (·.1)

/-- A read of a register through BAR0 of a physical function (R11, R449, R476): 0 where there is none, or before READY
outside the BRU block and PKG_PART; the shadow unless CT_VIEW.LIVE. -/
def State.pcsRead (s : State) (port addr : Nat) : Nat :=
  match regAt s.cds addr with
  | none => 0
  | some d =>
    if !s.boot.ready && d.blk != 0x1a && addr != pcs 0 0 8 then 0
    else if d.ct != 0 && !bitOf (s.selOf port (pcs 0x1b 0 0x50)) 0 then (s.shadow port addr).getD (s.live port addr)
    else s.live port addr

end Sys2Proof.Machine
end

