-- ==== Sys2Proof/Machine/Probe.lean ====
section
/-! DEFINITION. PROBE (R505 to R509): the images of table entries, the checks of a probe frame, and the atomic copy. -/

namespace Sys2Proof.Machine

/-! ### Images of entries -/

/-- Bytes 0x40 to 0x47 of an entry: HOLDER_KIND and HOLDER_ID. -/
def Holder.word : Holder → Nat
  | .none => 0
  | .stepFormer s1 => pack [(1, 0, 1), (8, 8, bit s1)]
  | .hoist die chan => pack [(1, 0, 2), (12, 8, hoiDie die), (18, 13, chan)]
  | .host fn q => pack [(1, 0, 3), (14, 8, fn), (20, 15, q)]

/-- STATE to INPUT_OPEN of an entry (R37). -/
def Entry.stateWord (e : Entry) : Nat :=
  pack [(3, 0, e.state.code), (5, 4, e.residence.code), (6, 6, bit e.classD), (7, 7, bit e.degraded), (11, 8, e.waitReason.code),
    (15, 12, e.fenceReason.code), (27, 16, e.tenant), (31, 28, e.homeSd), (34, 32, e.priority), (35, 35, bit e.timeoutFence),
    (39, 36, e.prior.code), (46, 40, e.function), (47, 47, bit e.detached), (53, 48, e.resultQueue), (54, 54, bit e.timedOut),
    (55, 55, bit e.lockReport), (56, 56, bit e.lastS1), (57, 57, bit e.inputOpen)]

/-- The 128 bytes of a session table entry (R37). -/
def Session.image (x : Session) : List Byte :=
  let e := x.cur.entry
  let pool := fun (o : Option OutEntry) => (o.map OutEntry.pool).getD 0
  let words : List Nat :=
    [e.handle, e.stateWord,
      pack [(15, 0, e.model), (31, 16, e.adapter), (47, 32, e.adapterVersion), (48, 48, bit e.adapterFollow)],
      pack [(31, 0, e.committed), (63, 32, x.pending.length)], e.seed, fld e.metaUsa 47 0, e.deadline, e.peer, e.holder.word,
      e.leaseEnd, e.lastSeal,
      pack [(12, 0, x.outbox.length), (39, 16, pool x.outbox.head?), (63, 40, pool x.outbox.getLast?)],
      pack [(15, 0, e.seqLists.getD 0 0), (31, 16, e.seqLists.getD 1 0), (47, 32, e.seqLists.getD 2 0), (63, 48, e.seqLists.getD 3 0)],
      e.parent,
      pack [(21, 0, e.firstWaiter.getD 0), (22, 22, bit e.firstWaiter.isSome), (45, 24, e.nextWaiter.getD 0),
        (46, 46, bit e.nextWaiter.isSome), (54, 48, e.height)],
      pack [(31, 0, e.profile), (63, 32, e.callId)]]
  words.flatMap (leBytes 8)

/-- The code of the CAGE field. -/
def CageState.code : CageState → Nat
  | .resident => 0 | .up => 1 | .down => 2

/-- The 16 bytes of a leaf (R104). -/
def Leaf.image (l : Leaf) : List Byte :=
  leBytes 8 (pack [(0, 0, 1), (4, 3, l.tier), (8, 5, l.sizeClass), (9, 9, bit l.pinned), (11, 10, l.cage.code), (12, 12, bit l.dirtyCkp),
      (13, 13, bit l.dirtyDur), (14, 14, bit l.poison), (15, 15, bit l.frozen), (19, 16, l.pool), (51, 20, l.frame), (63, 52, l.tenant)])
    ++ leBytes 8 (pack [(23, 0, l.refIndex), (31, 24, l.access), (43, 32, l.cageId)])

/-- The 64 bytes of a reference entry (R127); where its first referrer block lies is open (log entry 41). -/
def RefEntry.image (r : RefEntry) (list : Nat) : List Byte :=
  leBytes 8 (pack [(23, 0, r.count), (24, 24, bit r.tree), (47, 32, r.domain)]) ++ leBytes 8 (fld r.usa 47 0)
    ++ leBytes 8 (fld list 47 0) ++ (List.range 8).flatMap (fun i => leBytes 3 (r.members.getD i 0)) ++ leBytes 16 0

/-- The phase of a cage, as the last instant of R110 that has begun. -/
def Cage.phase (c : Cage) : Nat :=
  if c.c7.isSome then (if c.pins = 0 then 8 else 7) else if c.c5.isSome then (if c.marked.isEmpty then 5 else 6) else 4

/-- The 32 bytes of CAGE (R509). How many segments a copy in progress has moved is open (log entry 41). -/
def cageImage (usa : Nat) (l : Leaf) (c : Option (Nat × Cage)) (free : Nat) : List Byte :=
  match c with
  | none => leBytes 6 usa ++ leBytes 26 0
  | some (id, c) =>
    let segs := pageSize l.sizeClass / 4096
    let src := if c.c7.isSome then (c.oldTier, c.oldPool) else (l.tier, l.pool)
    leBytes 6 usa ++ leBytes 1 (bit (!c.up)) ++ leBytes 1 c.phase ++ leBytes 2 (id % 4096)
      ++ leBytes 1 (src.1 + 4 * src.2) ++ leBytes 1 (c.tier + 4 * c.pool) ++ leBytes 4 c.frame
      ++ leBytes 4 (if c.c5.isSome || c.c7.isSome then segs else free % (segs + 1)) ++ leBytes 4 c.marked.length ++ leBytes 8 c.start

/-- The 32 bytes of LOCK (R509). -/
def Session.lockImage (x : Session) : List Byte :=
  let e := x.cur.entry
  leBytes 8 e.holder.word ++ leBytes 8 e.leaseEnd ++ leBytes 8 (if e.holder = .none then 0 else x.lockStamp)
    ++ leBytes 2 x.waiting.length ++ leBytes 1 (bit e.lockReport) ++ leBytes 5 0

/-- The 32 bytes of TIMER (R509), with TIMER_GUARD in ns. -/
def Session.timerImage (x : Session) (guard : Nat) : List Byte :=
  let e := x.cur.entry
  let d := x.staged.getD e.deadline
  let kind := match x.timer with
    | none => 0
    | some .notBefore => 3
    | some .deadline => if e.waitReason = .peer then 2 else 1
  if x.timer.isNone then leBytes 1 0 ++ leBytes 1 2 ++ leBytes 30 0
  else leBytes 1 kind ++ leBytes 1 (bit x.staged.isSome) ++ leBytes 6 0 ++ leBytes 8 d
    ++ leBytes 8 (if kind = 3 then d else d + guard) ++ leBytes 8 x.fired

/-- A run entry (R165). -/
def KvRun.image (r : KvRun) : List Byte :=
  leBytes 8 (pack [(31, 0, r.firstToken), (47, 32, r.pages), (51, 48, r.sizeClass)]) ++ leBytes 8 (fld r.usa 47 0)

/-- The directory entry of a layer-group and its first map block (R164, R165); the USAs of map blocks are open (log entry
41). -/
def LayerGroup.image (g : LayerGroup) (block next : Nat) : List Byte :=
  let some_ := !g.runs.isEmpty
  leBytes 8 (pack [(47, 0, if some_ then block else 0), (61, 48, g.remote.getD 0), (63, 63, bit g.remote.isSome)])
    ++ (if some_ then
      leBytes 8 (if 15 < g.runs.length then fld next 47 0 else 0) ++ leBytes 1 (min g.runs.length 15) ++ leBytes 7 0
        ++ bytesAt ((g.runs.take 15).flatMap KvRun.image) 0 240
    else [])

/-- The 64 bytes of a descriptor (R278). -/
def Descriptor.image (d : Descriptor) : List Byte :=
  leBytes 8 (fld d.next 47 0) ++ leBytes 8 d.src ++ leBytes 8 d.dst ++ leBytes 4 d.len ++ leBytes 1 (d.srcSpace % 16 + 16 * (d.dstSpace % 16))
    ++ leBytes 1 d.op ++ leBytes 1 (bit d.urgent + 2 * bit d.mark + 4 * bit d.notify) ++ leBytes 1 0 ++ leBytes 2 (d.tenant % 4096)
    ++ leBytes 2 (d.remotePkg % 2 ^ 14) ++ leBytes 1 (d.remoteDie % 32 + 32 * (d.tc % 8)) ++ leBytes 1 0 ++ leBytes 2 d.prog
    ++ leBytes 8 d.handle ++ leBytes 8 d.tag ++ leBytes 8 0

/-- The 96 bytes of HOIST (R509). -/
def State.hoistImage (s : State) (n chan : Nat) : List Byte :=
  let c := s.chan n chan
  leBytes 8 ((c.desc.map fun d => fld d.usa 47 0).getD 0) ++ leBytes 4 c.done ++ leBytes 4 c.nextSeg ++ leBytes 1 c.state
    ++ leBytes 1 (bit (s.urgentChan n chan)) ++ leBytes 2 c.status ++ leBytes 4 0 ++ leBytes 8 c.faultAddr
    ++ ((c.desc.map Descriptor.image).getD (leBytes 64 0))

/-- The 16 bytes of WFQ_STEP (R509). -/
def State.wfqStepImage (s : State) (stream tenant : Nat) : List Byte :=
  let x := s.tenant tenant
  if stream = 0 then leBytes 8 s.s0.vtime ++ leBytes 8 x.finish0 else leBytes 8 s.s1.vtime ++ leBytes 8 x.finish1

/-- The 24 bytes of WFQ_GAL (R509). -/
def State.wfqGalImage (s : State) (port index : Nat) : List Byte :=
  let g := s.port port
  let q := (g.queue (index / 256)).filter fun x => x.packet.flowQueue == index
  leBytes 8 g.vtime ++ leBytes 8 (agetD g.finish index 0) ++ leBytes 4 q.length ++ leBytes 4 (sumBy (fun (x : Queued) => x.packet.flits) q)

/-- A state in which a port's selections name a tenant: a per-tenant register read there is that tenant's (R125, R503). -/
def State.selTenant (s : State) (port n : Nat) : State :=
  { s with sels := aset (aset s.sels (port * 2 ^ 28 + pcs 4 0 0x40) n) (port * 2 ^ 28 + pcs 0x1c 0 0) n }

/-- The 24 bytes of CT_SHADOW (R509). -/
def State.shadowImage (s : State) (port code tenant addr : Nat) : List Byte :=
  let sc := scopeOf (16 * code + 65536 * tenant)
  let live := (s.selTenant port tenant).live port addr
  let x := s.txn sc
  let staged := if (regScope addr).all (· == sc) then (x.filter CtTxn.busy).bind fun x => aget x.shadows (s.stageKey port addr) else none
  leBytes 8 live ++ leBytes 8 ((staged.map (·.1)).getD live) ++ leBytes 1 (bit staged.isSome) ++ leBytes 1 ((x.map CtTxn.state).getD 0)
    ++ leBytes 6 0

/-- The HISTORY region of a text block (R239): position `t` at (t mod 1,024) × 4. -/
def TextBlock.historyImage (x : TextBlock) (committed : Nat) : List Byte :=
  let n := x.history.length
  (List.range 1024).flatMap fun k =>
    -- the place k holds the newest position p < committed with p mod 1,024 = k
    let back := (committed + 1023 - k) % 1024
    leBytes 4 (if back < n then x.history.getD (n - 1 - back) 0 else 0)

/-- 4,096 bytes of a text block (R239); the layout of STATE is open (log entry 41). -/
def Session.textImage (x : Session) (off free : Nat) : List Byte :=
  let t := x.cur.text
  if off = 0 then t.historyImage x.cur.entry.committed
  else if off = 0x1000 then (List.range 4096).map fun i => BitVec.ofNat 8 (Config.freeValue free / 256 ^ i)
  else bytesAt t.call (off - 0x2000) 4096

/-! ### The frame (R505, R506) -/

/-- Fields of a PROBE frame. -/
def Frame.target (f : Frame) : Nat := f.field 32 1
def Frame.pInst (f : Frame) : Nat := f.field 34 2
def Frame.pIndex (f : Frame) : Nat := f.field 36 4
def Frame.pKey (f : Frame) : Nat := f.field 40 8
def Frame.pOffset (f : Frame) : Nat := f.field 48 4

/-- Targets keyed by a session's handle. -/
def sessionTarget (t : Nat) : Bool := [0x01, 0x05, 0x06, 0x07, 0x11].contains t

/-- The fields of a probe (R505): reserved bytes, HANDLE where no handle keys the target, fields out of range; a field that
the target does not use is 0 (log entry 42). -/
def Frame.probeOk (f : Frame) : Bool :=
  let plain := f.pInst == 0 && f.pIndex == 0 && f.pKey == 0 && f.pOffset == 0
  let page := f.pInst == 0 && f.pIndex == 0 && decide (f.pKey < 2 ^ 48)
  f.paramOk && f.zeros 33 33 && f.zeros 52 63 && (sessionTarget f.target || f.handle == 0) &&
    match f.target with
    | 0x01 | 0x05 | 0x06 => plain
    | 0x02 | 0x03 | 0x04 => page && f.pOffset == 0
    | 0x07 => f.pInst == 0 && decide (f.pIndex < 16384) && f.pKey == 0 && f.pOffset == 0
    | 0x08 =>
      decide (16 ≤ f.pInst) && chanExists (if f.pInst < 28 then f.pInst - 16 else f.pInst - 12) f.pIndex && f.pKey == 0 && f.pOffset == 0
    | 0x09 => decide (f.pInst ≤ 1 ∧ f.pIndex < 4096) && f.pKey == 0 && f.pOffset == 0
    | 0x0a => decide (f.pInst < 16 ∧ f.pIndex < 2048) && f.pKey == 0 && f.pOffset == 0
    | 0x0b => decide (f.pInst < 4 ∧ f.pIndex < 4096 ∧ f.pKey < 2 ^ 28) && f.pOffset == 0
    | 0x10 => page && f.pOffset % 4096 == 0
    | 0x11 => f.pInst == 0 && f.pIndex == 0 && f.pKey == 0 && f.pOffset % 4096 == 0 && decide (f.pOffset < 16384)
    | _ => false

/-- What a probe answers: its status, its copy, the die of the owning island, whether the session is a member of a step in
flight, whether the slice's mirror served it. -/
structure Probed where
  status : Nat
  data : List Byte
  die : Nat
  inStep : Bool
  mirror : Bool
deriving DecidableEq, Repr

/-- A probe that fails. -/
def Probed.fail (status : Nat) : Probed := { status := status, data := [], die := 0, inStep := false, mirror := false }

/-- A copy taken at an SD's slice. -/
def State.probedSd (s : State) (sd : Nat) (inStep : Bool) (data : List Byte) : Probed :=
  { status := stOk, data := data, die := 16 + (s.slice sd).1, inStep := inStep, mirror := (s.slice sd).1 != sd }

/-- A copy taken at the active management island. -/
def State.probedMgmt (s : State) (data : List Byte) : Probed :=
  { status := stOk, data := data, die := 28 + s.boot.leader.getD 0, inStep := false, mirror := false }

/-- A session is a member of a step in flight, its seal not yet applied. -/
def State.inStep (s : State) (slot : Nat) : Bool :=
  [s.s0, s.s1].any fun x => x.run.any fun r => r.members.any fun m => m.slot == slot && !m.removed && !m.applied

/-- Probes of a session (R506). `free` is a free value's index. -/
def State.probeSession (s : State) (f : Frame) (slot free : Nat) : Probed :=
  let x := s.sess slot
  let table := tableSd slot
  match f.target with
  | 0x01 => s.probedSd table (s.inStep slot) x.image
  | 0x05 => s.probedSd table false x.lockImage
  | 0x06 => s.probedSd table false (x.timerImage (s.regFld 0x02 0 0x00 25 16 * 1000))
  | 0x07 =>
    let g := (aget x.cur.kvMap f.pIndex).getD { remote := none, runs := [] }
    s.probedSd x.cur.entry.homeSd (s.inStep slot) (g.image (Config.freeValue free) (Config.freeValue (free + 1)))
  | _ => if s.security.conf then .fail stConfidential else s.probedSd x.cur.entry.homeSd false (x.textImage f.pOffset free)

/-- Probes of a page (R506). -/
def State.probePage (s : State) (f : Frame) (free : Nat) : Probed :=
  match s.pageOf f.pKey with
  | none => .fail stAccessFault
  | some (page, l) =>
    let sd := ownerSd page
    if !(if l.tenant = 0 then f.function % 64 == 0 else s.bound l.tenant f.function) then .fail stAccessFault
    else match f.target with
      | 0x02 => s.probedSd sd false l.image
      | 0x03 =>
        match aget (s.sd sd).refs l.refIndex with
        | some r => if l.refIndex = 0 then .fail stAccessFault else s.probedSd sd false (r.image (Config.freeValue free))
        | none => .fail stAccessFault
      | 0x04 => s.probedSd sd false (cageImage page l (s.cages.find? fun c => c.2.usa == page) (Config.freeValue free))
      | _ =>
        if pageSize l.sizeClass ≤ f.pOffset then .fail stAccessFault
        else if s.security.conf then .fail stConfidential
        else if l.poison then .fail stPoison
        else s.probedSd sd false (memRead s.mem (page + f.pOffset) 4096)

/-- Probes of the device (R506): from a PF, or WFQ_STEP of a bound tenant. -/
def State.probeDevice (s : State) (f : Frame) : Probed :=
  let pf := f.function % 64 == 0
  if !(pf || (f.target == 0x09 && s.bound f.pIndex f.function)) then .fail stAccessFault
  else match f.target with
    | 0x08 =>
      let n := if f.pInst < 28 then f.pInst - 16 else f.pInst - 12
      { status := stOk, data := s.hoistImage n f.pIndex, die := f.pInst, inStep := false, mirror := false }
    | 0x09 => s.probedMgmt (s.wfqStepImage f.pInst f.pIndex)
    | 0x0a => { status := stOk, data := s.wfqGalImage f.pInst f.pIndex, die := 28 + f.pInst % 2, inStep := false, mirror := false }
    | _ =>
      if (regAt s.cds f.pKey).any fun d => d.ct != 0 then s.probedMgmt (s.shadowImage (f.function / 64) f.pInst f.pIndex f.pKey)
      else .fail stAccessFault

/-- The atomic copy of one target (R505 to R507). -/
def State.probeCopy (s : State) (f : Frame) (free : Nat) : Probed :=
  if sessionTarget f.target then
    match s.findHandle f.handle with
    | none => .fail stNoSession
    | some slot =>
      if !s.bound (s.entry slot).tenant f.function then .fail stNoSession
      else if !f.probeOk then .fail stFrameField
      else s.probeSession f slot free
  else if !f.probeOk then .fail stFrameField
  else if [0x02, 0x03, 0x04, 0x10].contains f.target then s.probePage f free
  else s.probeDevice f

/-- The PROBE_DATA record of a copy (R508). -/
def Probed.record (p : Probed) (f : Frame) (now : Nat) : Record :=
  { type := 0x06, status := stOk, opcode := f.opcode, handle := f.handle, tag := f.tag
    body := recordBody [(32, 1, f.target), (33, 1, bit p.inStep + 2 * bit p.mirror), (34, 1, p.die), (40, 8, now)], text := p.data }

/-- PROBE (R505 to R508): the copy and its record, then the frame's STATUS. -/
def State.probe (s : State) (f : Frame) : State :=
  let (free, s) := s.draw
  let (_, s) := s.draw
  let p := s.probeCopy f free
  let rq := ((s.fn f.function).dq f.queue).rq
  let r := (s.fn f.function).rq rq
  let s := if p.status = stOk then s.putRq f.function rq { r with waiting := r.waiting ++ [(p.record f s.now, false)] } else s
  s.complete f p.status

/-- PROBE (R507). -/
def execProbe (f : Frame) (t : Nat) (s : State) : Host.Outcome State Fault Refusal := .next ((s.stamp t).probe f)

end Sys2Proof.Machine
end

