-- ==== Sys2Proof/Machine/Observe.lean ====
section
/-! DEFINITION. Snapshots, flags, marks and logs (chapter 19), the ledger readout (chapter 18), and writes of registers
without a behaviour of their own (R9 to R12, R398). -/

namespace Sys2Proof.Machine

/-! ### Snapshots (R510 to R512) -/

/-- The addresses of every register, at every instance, of the blocks of a mask, ascending. -/
def snapAddrs (cds blocks : Nat) : List Nat :=
  ((List.range 32).filter (bitOf blocks)).flatMap fun b =>
    ((List.range 64).filter (instExists cds b)).flatMap fun i =>
      (sortBy RegDesc.off (regTable.filter fun r => r.blk == b && (!r.only0 || i == 0))).map fun r => pcs b i r.off

/-- The bytes that a target's copy can take (R506). -/
def targetBytes (t : Nat) : Nat :=
  match t with
  | 0x01 => 128
  | 0x02 | 0x09 => 16
  | 0x03 => 64
  | 0x04 | 0x05 | 0x06 => 32
  | 0x07 => 264
  | 0x08 => 96
  | 0x0a | 0x0b => 24
  | _ => 4096

/-- `n` rounded up to 16. -/
def pad16 (n : Nat) : Nat := ceilDiv n 16 * 16

/-- TOTAL_BYTES as computed at GO (R511, R512). -/
def State.snapTotal (s : State) (blocks : Nat) (frames : List Frame) : Nat :=
  64 + 16 * (snapAddrs s.cds blocks).length + sumBy (fun f => 16 + pad16 (targetBytes (Frame.target f))) frames

/-- The probe frames of a list: 64 bytes each, issued by the writing PF. -/
def listFrames (fn : Nat) : List (List Byte) → List Frame
  | [] => []
  | bs :: r => parseFrame fn deviceQueue 0 bs :: listFrames fn r

/-- A listed frame breaks R505. -/
def Frame.listBad (f : Frame) : Bool := f.len != 64 || f.opcode != 0x0601 || 16 ≤ f.flags || f.more || !f.probeOk

/-- A probe result of a snapshot: 16-byte header, then data padded to 16 (R511). -/
def Probed.result (p : Probed) (f : Frame) (now : Nat) : List Byte :=
  let n := p.data.length
  leBytes 1 f.target ++ leBytes 1 0 ++ leBytes 2 p.status ++ leBytes 4 n ++ leBytes 8 now ++ p.data ++ leBytes (pad16 n - n) 0

/-- The state die that owns a register, where one does (R23). -/
def regSd (addr : Nat) : Option Nat :=
  let blk := addr / 2 ^ 22
  let n := addr / 2 ^ 16 % 64
  if [0x02, 0x04, 0x05, 0x06, 0x07, 0x08, 0x0b, 0x0d, 0x0e, 0x0f, 0x10, 0x1f].contains blk && decide (n < 12) then some n else none

/-- The state die that owns a probe's target, where one does (R506). -/
def State.probeSd (s : State) (f : Frame) : Option Nat :=
  if sessionTarget f.target then
    (s.findHandle f.handle).map fun i => if f.target = 0x07 ∨ f.target = 0x11 then (s.entry i).homeSd else tableSd i
  else if [0x02, 0x03, 0x04, 0x10].contains f.target && decide (ownerSd f.pKey < 12) then some (ownerSd f.pKey)
  else none

/-- A state die, or the rest of the package, copies its part of a snapshot (R510). -/
def State.snapPart (s : State) (sd : Option Nat) : State :=
  match s.obs.snap with
  | none => s
  | some n =>
    if n.mark.isNone || sd.any n.copied.contains then s
    else
      let mine := (snapAddrs s.cds n.blocks).filter fun a => regSd a == sd
      let regs := mine.foldl (fun r a => aset r a (s.pcsRead (n.fn / 64) a)) n.regs
      let frames := ((listFrames n.fn n.probes).zip n.owners).zipIdx.filter fun p => p.1.2 == sd
      let (d, s) := s.draw
      let (_, s) := s.draw
      let results := frames.foldl (fun r p => aset r p.2 ((s.probeCopy p.1.1 d).result p.1.1 s.now)) n.results
      { s with obs := { s.obs with snap := some { n with regs := regs, results := results, copied := n.copied ++ sd.toList } } }

/-- The snapshot mark goes out (R510): what the state dies own is copied as each applies the seal. -/
def State.snapMark (s : State) (step sealPt : Nat) : State :=
  match s.obs.snap with
  | some n =>
    if n.mark.isNone && n.atPt.all (· ≤ sealPt) then
      let owners := (listFrames n.fn n.probes).map s.probeSd
      { s with obs := { s.obs with snap := some { n with mark := some (step, sealPt), owners := owners } } }.snapPart none
    else s
  | none => s

/-- The whole snapshot is taken at once, on a package with no S0 stream. -/
def State.snapNow (s : State) : State := (List.range 12).foldl (fun s n => s.snapPart (some n)) (s.snapMark 0 s.now)

/-- The bytes of a snapshot (R511). -/
def State.snapBytes (s : State) (n : Snapshot) (step pt : Nat) : List Byte :=
  leBytes 4 0x50414e53 ++ leBytes 4 0 ++ leBytes 8 step ++ leBytes 8 pt ++ leBytes 4 n.regs.length ++ leBytes 4 n.probes.length
    ++ leBytes 4 n.blocks ++ leBytes 4 (s.snapTotal n.blocks (listFrames n.fn n.probes)) ++ leBytes 24 0
    ++ n.regs.flatMap (fun r => leBytes 4 r.1 ++ leBytes 4 0 ++ leBytes 8 r.2) ++ n.results.flatMap (·.2)

/-- A snapshot ends with a status. -/
def State.snapEnd (s : State) (status : Nat) : State :=
  let s := { s with obs := { s.obs with snap := none, snapDone := true, snapStatus := status } }
  s.flagIf (status != stOk) fSnapFault 0

/-- GO of OBS_SNAP_CTL (R510, R512): `list` holds the bytes of the list's frames. -/
def State.snapGo (s : State) (fn v : Nat) (list : List Byte) : State :=
  let s := s.setReg (pcs 0x1d 0 0x20) (v &&& 0x1ff)
  if !bitOf v 0 then s
  else if s.obs.snap.isSome then { s with obs := { s.obs with snapStatus := stCtBusy } }
  else
    let count := fld v 8 2
    let blocks := s.reg (pcs 0x1d 0 0)
    let (addr, len, la) := (s.reg (pcs 0x1d 0 0x08), s.reg (pcs 0x1d 0 0x10), s.reg (pcs 0x1d 0 0x18))
    let probes := (List.range count).map fun i => bytesAt list (64 * i) 64
    let frames := listFrames fn probes
    let h := s.fn fn
    if count ≠ 0 ∧ (h.windowOf la (64 * count)).isNone then s.snapEnd stAccessFault
    else if 64 < count ∨ frames.any Frame.listBad then s.snapEnd stFrameField
    else if len < s.snapTotal blocks frames then s.snapEnd stResourceFloor
    else if (h.windowOf addr len).isNone then s.snapEnd stAccessFault
    else
      let at_ := if bitOf v 1 then some (s.reg (pcs 0x1d 0 0x30)) else none
      let n : Snapshot := { fn := fn, blocks := blocks, addr := addr, len := len, probes := probes, atPt := at_, mark := none, owners := []
                            regs := [], results := [], copied := [] }
      let s := { s with obs := { s.obs with snapDone := false, snap := some n } }
      if s.hasS0 then s else s.snapNow

/-- OBS_SNAP_GO (R510): registers are written through BAR0 of a PF. -/
def execObsSnapGo (fn v : Nat) (list : List Byte) (t : Nat) (s : State) : Host.Outcome State Fault Refusal :=
  if !isPf fn then .fault .noSuchUnit else .next ((s.stamp t).snapGo fn v list)

/-- SNAPSHOT_AT_PT (R510): OBS_SNAP_PT comes on a package with no S0 stream. -/
def execSnapshotAtPt (t : Nat) (s : State) : Host.Outcome State Fault Refusal :=
  let s := s.stamp t
  .next (if s.hasS0 then s else s.snapNow)

/-- SNAPSHOT_WRITTEN (R510, R511): every part has been copied, and the whole is written. -/
def State.snapWritten (s : State) : State :=
  match s.obs.snap with
  | some n => match n.mark with
    | some (step, pt) =>
      if (List.range 12).all n.copied.contains then
        let s := (s.emit (.hostWrite n.fn n.addr (s.snapBytes n step pt))).snapEnd stOk
        { s with obs := { s.obs with snapStep := step } }
      else s
    | none => s
  | none => s

/-- SNAPSHOT_WRITTEN (R511). -/
def execSnapshotWritten (t : Nat) (s : State) : Host.Outcome State Fault Refusal := .next (s.stamp t).snapWritten

/-! ### Flags, marks, the error log (R513 to R521) -/

/-- Whether a register can be written now: before READY only the BRU block is served (R449). -/
def State.served (s : State) (blk : Nat) : Bool := s.boot.ready || blk == 0x1a

/-- A write to a W1C register clears the flags whose bit is 1 (R12, R514). -/
def State.writeFlags (s : State) (addr v : Nat) : State :=
  match regAt s.cds addr with
  | none => s
  | some d =>
    if !s.served d.blk then s
    else ((List.range 64).filter fun i => bitOf d.w1c i && bitOf v i).foldl (fun s i => s.clearFlag addr i) s

/-- W1C_CLEAR (R514). -/
def execW1cClear (addr v t : Nat) (s : State) : Host.Outcome State Fault Refusal := .next ((s.stamp t).writeFlags addr v)

/-- A CLEAR_IF_COUNT request at the owning island (R515). -/
def State.clearIfCount (s : State) (fn v : Nat) : State :=
  let s := s.setReg (pcs 0x1d 0 0x38) (v &&& 0x8000ff3f0fffffff)
  let (addr, i) := (fld v 27 0, fld v 37 32)
  if !bitOf v 63 then s
  else if !(regAt s.cds addr).any fun d => bitOf d.w1c i then
    { s with obs := { s.obs with cic := aset s.obs.cic fn (false, 0, stAccessFault) } }
  else
    let count := fld (s.reg (addr + 8)) (8 * i + 7) (8 * i)
    let hit := count == fld v 47 40
    let s := { s with obs := { s.obs with cic := aset s.obs.cic fn (hit, count, stOk) } }
    if !hit then s
    else
      let key := flagKey addr i
      let s := s.setReg addr (setFld (s.reg addr) i i 0)
      { s with flagClears := aset s.flagClears key (max s.now (agetD s.flagClears key 0)) }

/-- OBS_CIC (R515). -/
def execObsCic (fn v t : Nat) (s : State) : Host.Outcome State Fault Refusal :=
  if !isPf fn then .fault .noSuchUnit else .next ((s.stamp t).clearIfCount fn v)

/-- The marks of a register restart (R516): occupancy and depth from the present value, times from 0. -/
def State.hwmClear (s : State) (port v : Nat) : State :=
  let addr := fld v 27 0
  let s := s.setReg (pcs 0x1d 0 0x48) addr
  let n := addr / 2 ^ 16 % 64
  if (regAt s.cds addr).isNone then s.setFlag fHwmRefused 0
  else match addr / 2 ^ 22, addr % 2 ^ 16 with
    | 0x02, 0x30 => s.setRegFld 0x02 n 0x30 63 32 0
    | 0x03, 0x88 => s.setRegFld 0x03 0 0x88 63 32 0
    | 0x08, 0x18 => (s.setRegFld 0x08 n 0x18 31 16 (s.regFld 0x08 n 0x18 15 0)).setRegFld 0x08 n 0x18 63 32 0
    | 0x0d, 0x38 =>
      let t := fld (s.selOf port (pcs 0x0d 0 0)) 11 0
      { s with tables := { s.tables with tables := aupd s.tables.tables t fun x => { x with queueHwm := adel x.queueHwm n } } }
    | 0x11, 0x18 => s.setRegFld 0x11 0 0x18 63 32 0
    | 0x13, 0x18 =>
      let sel := s.selOf port (pcs 0x13 n 0x10)
      s.hwmRead (fld sel 3 0) (fld sel 6 4)
    | 0x14, 0x38 => { s with checkpoint := { s.checkpoint with maxStall := 0 } }
    | _, _ => s.setFlag fHwmRefused 0

/-- OBS_HWM_CLR (R516). -/
def execObsHwmClr (fn v t : Nat) (s : State) : Host.Outcome State Fault Refusal :=
  if !isPf fn then .fault .noSuchUnit else .next ((s.stamp t).hwmClear (fn / 64) v)

/-- A SEL register of a port's physical function (R550). -/
def State.setSel (s : State) (port addr v : Nat) : State := { s with sels := aset s.sels (port * 2 ^ 28 + addr) v }

/-- ERR_SEL_WRITE (R517): the entry at the index is latched. -/
def execErrSelWrite (port v t : Nat) (s : State) : Host.Outcome State Fault Refusal :=
  if 2 ≤ port then .fault .noSuchUnit
  else
    let s := (s.stamp t).setSel port (pcs 0x1e 0 0x08) (v % 4096)
    let l := s.errLog
    .next { s with errLog := { l with latches := match aget l.ring (v % 4096) with
      | some e => aset l.latches port e
      | none => adel l.latches port } }

/-- ERR_CLEAR (R521): GO empties the log. -/
def execErrClear (v t : Nat) (s : State) : Host.Outcome State Fault Refusal :=
  let s := (s.stamp t).setReg (pcs 0x1e 0 0x50) (v % 2)
  .next (if bitOf v 0 then { s with errLog := { s.errLog with count := 0, ring := [] } } else s)

/-! ### The ledger readout (R500 to R502) -/

/-- LED_TSEL_WRITE (R501): the tenant's row is latched. -/
def execLedTselWrite (port v t : Nat) (s : State) : Host.Outcome State Fault Refusal :=
  if 2 ≤ port then .fault .noSuchUnit
  else
    let s := (s.stamp t).setSel port (pcs 0x1c 0 0) (v % 4096)
    .next { s with obs := { s.obs with latched := aset s.obs.latched (64 * port) (v % 4096, s.latchRow (v % 4096)) } }

/-- The 256 bytes of a tenant's row (R500). -/
def State.ledgerRow (s : State) (t : Nat) : List Byte :=
  let x := s.tenant t
  let frac := fun i => x.counters.getD i 0 % 8
  leBytes 2 t ++ leBytes 1 (bit x.declared + 2 * bit x.overQuota + 4 * bit (x.remaining == 0)) ++ leBytes 1 0
    ++ leBytes 4 (s.tenantSlots t) ++ leBytes 8 x.tokenLimit ++ leBytes 8 x.tokensUsed ++ leBytes 8 x.bucket
    ++ leBytes 8 x.posted0 ++ leBytes 8 x.posted1 ++ leBytes 8 x.snapPt ++ leBytes 2 (frac 6 + 8 * frac 7 + 64 * frac 8) ++ leBytes 6 0
    ++ (List.range 16).flatMap fun i => leBytes 12 (x.counter i)

/-- The ledger readout: 4,096 rows (R500). -/
def State.ledgerBytes (s : State) : List Byte := (List.range 4096).flatMap s.ledgerRow

/-- A dump ends with a status (R502). -/
def State.dumpEnd (s : State) (status : Nat) : State :=
  let s := { s with obs := { s.obs with dump := none, dumpDone := true, dumpStatus := status } }
  s.flagIf (status != stOk) fDumpFault 0

/-- LED_DUMP.GO (R502): the rows as they stand now are written, where they fit in one window of the writing PF. -/
def State.ledgerDump (s : State) (fn v : Nat) : State :=
  let s := s.setReg (pcs 0x1c 0 0x50) (v % 2)
  let addr := s.reg (pcs 0x1c 0 0x48)
  if !bitOf v 0 then s
  else if s.obs.dump.isSome then { s with obs := { s.obs with dumpStatus := stCtBusy } }
  else if ((s.fn fn).windowOf addr (2 ^ 20)).isNone then s.dumpEnd stAccessFault
  else { s with obs := { s.obs with dumpDone := false, dump := some (fn, addr, s.ledgerBytes) } }

/-- LED_DUMP (R502). -/
def execLedDump (fn v t : Nat) (s : State) : Host.Outcome State Fault Refusal :=
  if !isPf fn then .fault .noSuchUnit else .next ((s.stamp t).ledgerDump fn v)

/-- LED_DUMP_WRITTEN (R502): `ok` is false where a host write ended with an error. -/
def execLedDumpWritten (ok : Bool) (t : Nat) (s : State) : Host.Outcome State Fault Refusal :=
  let s := s.stamp t
  .next <| match s.obs.dump with
    | some (fn, addr, bytes) => if ok then (s.emit (.hostWrite fn addr bytes)).dumpEnd stOk else s.dumpEnd stPoison
    | none => s

/-! ### Writes of other registers (R9 to R12, R398) -/

/-- Registers whose write is a command of its own: their writes are other rows of the table. -/
def ownRow (blk off : Nat) : Bool :=
  [(0x15, 0x00), (0x16, 0x30), (0x17, 0x18), (0x18, 0x10), (0x19, 0x08), (0x1a, 0x20), (0x1a, 0x40), (0x1b, 0x00), (0x1c, 0x00),
    (0x1c, 0x50), (0x1d, 0x20), (0x1d, 0x38), (0x1d, 0x48), (0x1e, 0x08), (0x1e, 0x50)].contains (blk, off)

/-- A write through BAR0 (R9 to R12, R449): its RW and WORB bits are stored; SEL registers hold one value for each port
(R550); SEC_MODE.CONF_NEXT is held over a reset (R442); a hot list belongs to the table selected (R260). -/
def State.pcsWrite (s : State) (port addr v : Nat) : State :=
  match regAt s.cds addr with
  | none => s
  | some d =>
    if !s.served d.blk || ownRow d.blk d.off then s
    else if isSel d.blk d.off then s.setSel port addr (v &&& d.rw)
    else if d.blk = 0x19 ∧ d.off = 0 then { s with security := { s.security with confNext := bitOf v 1 } }
    else if d.blk = 0x0d ∧ (d.off = 0x20 ∨ d.off = 0x28) then
      let t := fld (s.selOf port (pcs 0x0d 0 0)) 11 0
      { s with tables := { s.tables with tables := aupd s.tables.tables t fun x =>
        if d.off = 0x20 then { x with hotAddr := v % 2 ^ 64 / 64 * 64 } else { x with hotCount := fld v 16 0 } } }
    else if d.rw = 0 then s
    else s.setReg addr (maskIn (s.reg addr) v d.rw)

/-- The 64-bit value of a register after a write of 4 or 8 bytes at an address. -/
def half (old addr bytes v : Nat) : Nat :=
  if bytes = 8 then v % 2 ^ 64 else if addr % 8 = 0 then setFld old 31 0 v else setFld old 63 32 v

/-- A write of frozen configuration, where the TDI is locked (R441); else the write. -/
def State.orTdi (s : State) (fn : Nat) (changes : Bool) (act : State) : State :=
  if s.tdiLocked fn && changes then s.tdiError fn else act

/-- A write of a DMA window's base or length: held while a pinned descriptor uses the window (R404). -/
def State.writeWindow (s : State) (fn w : Nat) (isLen : Bool) (f : Nat → Nat) : State :=
  let h := s.fn fn
  let x := agetD h.windows w { base := 0, len := 0, pins := 0, held := none }
  let (b, n) := x.held.getD (x.base, x.len)
  let (b', n') := if isLen then (b, f n) else (f b, n)
  let x' := if x.pins = 0 then { x with base := b', len := n' } else { x with held := some (b', n') }
  s.orTdi fn ((b', n') != (b, n)) (s.putFn fn { h with windows := aset h.windows w x' })

/-- A write of the MSI-X table: a pending vector that it unmasks is sent. -/
def State.writeMsix (s : State) (fn k : Nat) (f : Nat → Nat) : State :=
  let h := s.fn fn
  let v := k / 2
  if h.vectors ≤ v then s
  else
    let old := agetD h.msix k (if k % 2 = 1 then 2 ^ 32 else 0)
    let h := { h with msix := aset h.msix k (f old) }
    if h.pendingVectors.contains v && !h.masked v then
      (s.putFn fn { h with pendingVectors := h.pendingVectors.filter (· != v) }).emit (.interrupt fn v)
    else s.putFn fn h

/-- A write through BAR2 of a function (R398): doorbells and CTL registers are rows of their own; configuration is written
while its queue or ring is disabled. -/
def State.bar2Write (s : State) (fn addr bytes v : Nat) : State :=
  let h := s.fn fn
  let a := addr / 8 * 8
  let f := fun old => half old addr bytes v
  if h.state = .absent then s
  else if 0x800 ≤ a ∧ a < 0x1000 then
    let q := (a - 0x800) / 32
    let d := h.dq q
    if d.enabled || d.fault then s
    else if a % 32 = 0 then s.orTdi fn (f d.base / 4096 * 4096 != d.base) (s.putDq fn q { d with base := f d.base / 4096 * 4096 })
    else if a % 32 = 16 then s.putDq fn q { d with headAddr := f d.headAddr }
    else s
  else if 0x1000 ≤ a ∧ a < 0x1800 then
    let q := (a - 0x1000) / 32
    let r := h.rq q
    if r.enabled || a % 32 ≠ 0 then s
    else s.orTdi fn (f r.base / 4096 * 4096 != r.base) (s.putRq fn q { r with base := f r.base / 4096 * 4096 })
  else if a = 0x1800 then
    if h.text.enabled then s
    else s.orTdi fn (f h.text.base / 4096 * 4096 != h.text.base)
      (s.putFn fn { h with text := { h.text with base := f h.text.base / 4096 * 4096 } })
  else if 0x1c00 ≤ a ∧ a < 0x2000 then s.writeWindow fn ((a - 0x1c00) / 16) (a % 16 == 8) f
  else if 0x8000 ≤ a ∧ a < 0x10000 then s.writeMsix fn ((a - 0x8000) / 8) f
  else s

/-- REGISTER_WRITE (R9, R398): BAR0 takes 8-byte accesses of a PF, BAR2 4- or 8-byte ones, each naturally aligned; any
other is discarded. -/
def execRegisterWrite (fn : Nat) (bar2 : Bool) (addr bytes v t : Nat) (s : State) : Host.Outcome State Fault Refusal :=
  let s := s.stamp t
  if !fnExists fn then .fault .noSuchUnit
  else if bar2 then .next (if (bytes = 4 ∨ bytes = 8) ∧ addr % bytes = 0 then s.bar2Write fn addr bytes v else s)
  else .next (if isPf fn ∧ bytes = 8 ∧ addr % 8 = 0 then s.pcsWrite (fn / 64) addr v else s)

end Sys2Proof.Machine
end

