-- ==== Sys2Proof/Machine/Boundary.lean ====
section
/-! DEFINITION. The seal of a step and the work of its boundary (R87, R90, R92, R259, R262, R267, R340, R477, R483, R493,
R510). -/

namespace Sys2Proof.Machine

/-- The seal's stamp (R87) and its step record (R92), with the energy since the last mark (R493). -/
def State.sealStamp (s : State) (s1 : Bool) (r : StepRun) : State :=
  let (e, s) := s.takeEnergy
  let r := { r with sealPt := some s.now, energy := e, commitAtSeal := !s1 && s.ctDue s.now }
  let s := s.putStream s1 { s.stream s1 with run := some r, lastSeal := s.now }
  s.newStepRecord s1 (r.record s1 false s.now)

/-- What the boundary of any step does: pending table switches become current (R259), FOLLOW sessions move to their
adapter's current version (R267), pages count their next step's first touch anew (R107). -/
def State.boundary (s : State) : State :=
  let s := s.switchTables.followAdapters s.now
  { s with leaves := s.leaves.map fun (p : Nat × Leaf) => (p.1, { p.2 with touched := false }) }

/-- What an S0 boundary does besides: row updates (R262, R264), the configuration due (R90, R477, R478), the cut (R340),
firmware switches (R483), the snapshot mark (R510). -/
def State.s0Boundary (s : State) (step : Nat) : State :=
  let s := s.updateBatches step s.now
  let s := s.ctApplyDue s.now
  let s := if s.checkpoint.run.any fun r => r.cut.isNone && r.cutPt ≤ s.now then s.checkpointCut step else s
  s.fwSwitches.snapMark step s.now

/-- A member has produced its outputs: its tokens where it samples, else the K and V of every layer (R75, R87). -/
def State.memberDone (s : State) (s1 : Bool) (m : Member) : Bool :=
  m.out.isSome || (s.modelOf m.slot).any fun md =>
    !m.samples s1 (s.sess m.slot) && m.layersDone md (m.inputs (s.sess m.slot))

/-- The seal of a step is issued once every member has produced its outputs or been removed (R87, R89); none is issued in
drain mode. -/
def State.sealIssue (s : State) (s1 : Bool) : State :=
  match (s.stream s1).run with
  | none => s
  | some r =>
    if r.sealPt.isSome || r.suspended || s.power.drain.isSome || !r.live.all (s.memberDone s1) then s
    else
      let s := (s.sealStamp s1 r).boundary
      if s1 then s.fwSwitch 3 else s.s0Boundary r.number

/-- SEAL_ISSUE (R87). -/
def execSealIssue (s1 : Bool) (t : Nat) (s : State) : Host.Outcome State Fault Refusal := .next ((s.stamp t).sealIssue s1)

/-- SEAL_APPLY (R88): a table SD applies the seal; HANDOVERs that the cut held go on (R346); it copies its part of a snapshot marked by
the seal (R510). -/
def execSealApply (s1 : Bool) (sd t : Nat) (s : State) : Host.Outcome State Fault Refusal :=
  let s := (s.stamp t).sealApply s1 sd
  unitExists (sd < 12) (if s1 then s else s.afterCut.snapPart (some sd))

end Sys2Proof.Machine
end

