-- ==== Sys2Proof/Machine/ZwCore.lean ====
section
/-! DEFINITION. The Zynut-W core (R206 to R211, R217, R218): registers, memories, exceptions, the matrix engines' queues,
and how a bundle begins and takes effect. Core numbers are 8 × logical cluster + logical core; the four control cores
follow from 512. -/

namespace Sys2Proof.Machine

/-! ### Registers (R206) -/

def fException : FlagId := ⟨0x0a, 0x28, 0⟩

/-- A core's new content. -/
def State.putCore (s : State) (i : Nat) (c : Core) : State := { s with cores := aset s.cores i c }

/-- Put a value of a register list, which lists no 0. -/
def putReg (l : List (Nat × Nat)) (r v : Nat) : List (Nat × Nat) := if v = 0 then adel l r else aset l r v

/-- A scalar register; s0 reads 0. -/
def WRegs.s (w : WRegs) (r : Nat) : Nat := if r = 0 then 0 else agetD w.scalar r 0

/-- A scalar register as a signed number. -/
def WRegs.ss (w : WRegs) (r : Nat) : Int := signed 64 (w.s r)

/-- A vector register. -/
def WRegs.v (w : WRegs) (r : Nat) : Nat := agetD w.vector r 0

/-- A predicate; p0 reads all ones. -/
def WRegs.p (w : WRegs) (r : Nat) : Nat := if r = 0 then 2 ^ 128 - 1 else agetD w.pred r 0

/-- A write of a bundle: scalar registers 0 to 31, vector registers from 32, predicates from 64. s0 and p0 discard it. -/
def WRegs.write (w : WRegs) (x : Nat × Nat) : WRegs :=
  if x.1 < 32 then (if x.1 = 0 then w else { w with scalar := putReg w.scalar x.1 (x.2 % 2 ^ 64) })
  else if x.1 < 64 then { w with vector := putReg w.vector (x.1 - 32) (x.2 % 2 ^ 2048) }
  else if x.1 = 64 then w else { w with pred := putReg w.pred (x.1 - 64) (x.2 % 2 ^ 128) }

/-- A tile no command has written. -/
def Tile.zero : Tile := { anchor := 0, elems := [], invalid := false }

/-- A tile. -/
def WRegs.t (w : WRegs) (r : Nat) : Tile := agetD w.tile r Tile.zero

/-! ### Memories (R207) -/

/-- The first byte of cluster SRAM. -/
def clusterBase : Nat := 0x40000000

/-- A range lies in core SRAM or, on a compute core, in cluster SRAM. -/
def zwRange (i a n : Nat) : Bool := a + n ≤ 0x400000 || (i < 512 && clusterBase ≤ a && a + n ≤ 0x42000000)

/-- Bytes of a core's memories. -/
def State.zwRead (s : State) (i a n : Nat) : List Byte :=
  if a < clusterBase then memRead (s.core i).sram a n else memRead (agetD s.clusterSram (i / 8) []) a n

/-- Bytes are stored into a core's memories. -/
def State.zwWrite (s : State) (i a : Nat) (bs : List Byte) : State :=
  if a < clusterBase then s.putCore i { s.core i with sram := memWrite (s.core i).sram a bs }
  else { s with clusterSram := aset s.clusterSram (i / 8) (memWrite (agetD s.clusterSram (i / 8) []) a bs) }

/-- A flag of ENG_FLAGS at the core's die; the block is of compute dies. -/
def State.engFlag (s : State) (i bit : Nat) : State := if i < 512 then s.setFlag ⟨0x09, 0x10, bit⟩ (i / 32) else s

/-- A core is in service. -/
def State.coreIn (s : State) (i : Nat) : Bool :=
  if i < 512 then s.clusterIn (i / 8) else !s.boot.diesOut.contains (28 + (i - 512) / 2)

/-! ### Exceptions (R217, R218) -/

/-- The steps in flight that a core's exception abandons: stream and number. -/
def State.coreSteps (s : State) (i : Nat) : List (Bool × Nat) :=
  if i < 512 then
    [false, true].filterMap fun s1 =>
      if s.serves s1 fun l => l == i / 8 then ((s.stream s1).run.bind fun r => if r.sealPt.isNone then some (s1, r.number) else none)
      else none
  else []

/-- A kernel's faults of one layer in consecutive steps of a stream (R218). -/
def State.countKernelFault (s : State) (model layer : Nat) (x : Bool × Nat) : State :=
  let k := 2 * model + bit x.1
  let n := match aget s.kernelFaults k with
    | some (l, last, n) => if l = layer ∧ (x.2 = last + 1 ∨ x.2 = last) then n + 1 else 1
    | none => 1
  { s with kernelFaults := aset s.kernelFaults k (layer, x.2, n) }

/-- A core stops on an exception (R217, R218): CORE_EXC is written, the bundle in hand has no effect, the steps that the
cluster serves are abandoned, and a kernel that has faulted in the same layer in FAULT_LIMIT consecutive steps stops its
model instance. -/
def State.zwException (s : State) (i code slots : Nat) : State :=
  let c := s.core i
  let steps := s.coreSteps i
  let s := s.putCore i { c with
    state := .stopped, bundle := none, barrier := none, matrix := [], deferred := [], loops := [], depth := 0
    exc := code, excSlot := slots, excPc := c.pc, excStep := ((steps.head?.map (·.2)).getD c.excStep) % 2 ^ 48 }
  if 512 ≤ i then s
  else
    let clusters := s.modelClusters c.model
    let s := s.setFlag fException (i / 32)
    let s := s.abandonWhere fun _ s1 => steps.any fun x => x.1 == s1
    let s := steps.foldl (fun (s : State) (x : Bool × Nat) => s.countKernelFault c.model c.layer x) s
    let limit := s.regFld 0x0a 0 0x20 31 24
    let full := steps.any fun x => (aget s.kernelFaults (2 * c.model + bit x.1)).any fun f => limit ≤ f.2.2
    if full then s.stopKernel c.model clusters (i / 32) else s

/-! ### Matrix engines (R192, R211, R214, R217) -/

/-- An accumulator of a tile: element 32 × row + column. -/
def Tile.acc (t : Tile) (j : Nat) : Acc :=
  let v := agetD t.elems j 0
  if v = 2 ^ 151 then none else some (sgn 152 v)

/-- The code of an accumulator (R197). -/
def accCode (a : Acc) : Nat := match a with
  | none => 2 ^ 151
  | some v => toMod 152 v

/-- A tile whose elements are given by index. -/
def Tile.of (anchor : Int) (f : Nat → Acc) : Tile :=
  { anchor := anchor, elems := ((List.range 1024).map fun j => (j, accCode (f j))).filter fun p => p.2 != 0, invalid := false }

/-- Bytes of a row of `k` elements: whole tiles in a block format (R184), plain elements else (log entry 50). -/
def rowBytes (fmt k : Nat) : Nat := if isBlockFmt fmt then ceilDiv k 1024 * tileBytes fmt else k * (fmtBits fmt / 8)

/-- The elements of a row. -/
def rowOpds (fmt k : Nat) (bs : List Byte) : List Opd := (List.range k).map (rowElem fmt bs)

/-- The 32 rows of an operand of MMA. -/
def State.operandRows (s : State) (i fmt k a : Nat) : List (List Opd) :=
  (List.range 32).map fun r => rowOpds fmt k (s.zwRead i (a + r * rowBytes fmt k) (rowBytes fmt k))

/-- An addend's bound exceeds what the anchor allows (R191, R214): |p| < 2^(anchor − 1) is not assured. -/
def overBound (anchor : Int) (x y : Opd) : Bool := match x.val, y.val with
  | .fin m _, .fin n _ => m != 0 && n != 0 && decide (anchor - 1 < x.u + y.u)
  | _, _ => false

/-- What a matrix command does: its tile, the bytes it stores, the flags it raises, or the code of its fault. -/
structure MatOut where
  tile : Option Tile
  store : Option (Nat × List Byte)
  flags : List Nat
  fault : Option Nat
deriving DecidableEq, Repr

/-- Nothing but a fault. -/
def MatOut.bad (code : Nat) : MatOut := ⟨none, none, [], some code⟩

/-- MMA (R214). -/
def State.mma (s : State) (i : Nat) (m : MatCmd) (t : Tile) : MatOut :=
  if m.k % 32 ≠ 0 ∨ 2 ^ 24 < m.k then .bad 5
  else if 11 ≤ m.fmtA ∨ 11 ≤ m.fmtB then .bad 3
  else if !zwRange i m.a (32 * rowBytes m.fmtA m.k) || !zwRange i m.b (32 * rowBytes m.fmtB m.k) then .bad 2
  else
    let ra := s.operandRows i m.fmtA m.k m.a
    let rb := s.operandRows i m.fmtB m.k m.b
    let pairs := fun (j : Nat) => (ra.getD (j / 32) []).zip (rb.getD (j % 32) [])
    if (List.range 1024).any fun j => (pairs j).any fun p => overBound t.anchor p.1 p.2 then .bad 4
    else
      let inf := (ra ++ rb).any fun r => r.any fun o => match o.val with
        | .inf _ => true
        | _ => false
      ⟨some (Tile.of t.anchor fun j => (pairs j).foldl (fun a p => Acc.add t.anchor a [p.1, p.2]) (t.acc j)), none,
        if inf then [0] else [], none⟩

/-- The FP32 or other scalar codes of a tile, row by row, rounded with the scale of their column (R195). -/
def Tile.rounded (t : Tile) (f : FpFmt) (scale : Nat → Val) : List (Nat × Bool) :=
  (List.range 1024).map fun j => roundAcc f t.anchor (t.acc j) (scale (j % 32))

/-- TOUT (R195, R196, R214): rows of 32 elements; in a facet format each row is one block of a tile (log entry 50). -/
def State.tout (s : State) (i : Nat) (m : MatCmd) (t : Tile) : MatOut :=
  let size := if isBlockFmt m.fmtA then tileBytes m.fmtA else 128 * fmtBits m.fmtA
  if fmtReserved m.fmtA || isMx m.fmtA then .bad 3
  else if !zwRange i m.a size || (!m.unscaled && !zwRange i m.b 128) then .bad 2
  else if t.invalid then ⟨none, some (m.a, leBytes size (Config.freeValue s.draws)), [], none⟩
  else
    let sc := s.zwRead i m.b 128
    let scale := fun (c : Nat) => if m.unscaled then Val.one else fmtFP32.decode (leAt sc (4 * c) 4)
    match fpFmt m.fmtA with
    | some f =>
      let out := t.rounded f scale
      ⟨none, some (m.a, out.flatMap fun p => leBytes (fmtBits m.fmtA / 8) p.1), if out.any (·.2) then [1] else [], none⟩
    | none =>
      let out := t.rounded fmtFP32 scale
      let b := fmtBits m.fmtA
      let blocks := (List.range 32).map fun r => facetBlock b (((out.drop (32 * r)).take 32).map (·.1))
      ⟨none, some (m.a, (blocks.flatMap fun x => packCodes b x.2.1) ++ blocks.map fun x => BitVec.ofNat 8 x.1),
        (if out.any (·.2) then [1] else []) ++ (if blocks.any fun x => x.2.2 then [2] else []), none⟩

/-- TIMG (R197, R214). -/
def State.timg (s : State) (i : Nat) (m : MatCmd) (t : Tile) : MatOut :=
  if !zwRange i m.a 19456 then .bad 2
  else if t.invalid then ⟨none, some (m.a, leBytes 19456 (Config.freeValue s.draws)), [], none⟩
  else ⟨none, some (m.a, (List.range 1024).flatMap fun j => accImage (t.acc j)), [], none⟩

/-- TADD (R194, R214). -/
def State.tadd (s : State) (i : Nat) (m : MatCmd) (t : Tile) : MatOut :=
  if !zwRange i m.a 19456 then .bad 2
  else
    let bs := s.zwRead i m.a 19456
    ⟨some (Tile.of t.anchor fun j => sumAcc [t.acc j, imageAcc (bytesAt bs (19 * j) 19)]), none, [], none⟩

/-- The bound exponent of a row (R190, R191): exponent bytes alone in a block format. A row without a bound has no value
the spec states. -/
def rowBound (fmt k : Nat) (bs : List Byte) : Option Int :=
  if isBlockFmt fmt then
    ((List.range (ceilDiv k 32)).filterMap fun j =>
      let x := leAt bs (j / 32 * tileBytes fmt + 128 * fmtBits fmt + j % 32) 1
      if x = 0xff then none else some (blockElem fmt x 0).u).max?
  else maxBound (rowOpds fmt k bs)

/-- TPRE (R190, R214). -/
def State.tpre (s : State) (i : Nat) (m : MatCmd) : MatOut :=
  if 11 ≤ m.fmtA then .bad 3
  else if !zwRange i m.a (rowBytes m.fmtA m.k) || !zwRange i m.b 2 then .bad 2
  else
    let v := match rowBound m.fmtA m.k (s.zwRead i m.a (rowBytes m.fmtA m.k)) with
      | some u => toMod 16 u
      | none => Config.freeValue s.draws % 65536
    ⟨none, some (m.b, leBytes 2 v), [], none⟩

/-- A matrix command completes (R211). A faulting one leaves the tile it was writing invalid, and its fault waits (R217);
an invalid tile stays so until TZERO. -/
def State.matExec (s : State) (i : Nat) (m : MatCmd) : State :=
  let c := s.core i
  let t := c.regs.t m.tile
  let r : MatOut := match m.op with
    | .tzero => ⟨some { anchor := signed 16 m.a, elems := [], invalid := false }, none, [], none⟩
    | .mma => s.mma i m t
    | .tout => s.tout i m t
    | .timg => s.timg i m t
    | .tadd => s.tadd i m t
    | .tpre => s.tpre i m
  let s := { s with draws := s.draws + 1 }
  let put := fun (s : State) (x : Tile) => s.putCore i { s.core i with regs := { (s.core i).regs with tile := aset (s.core i).regs.tile m.tile x } }
  let s := match r.tile with
    | some x => put s (if m.op != .tzero && t.invalid then { x with invalid := true } else x)
    | none => s
  let s := match r.store with
    | some (a, bs) => s.zwWrite i a bs
    | none => s
  let s := r.flags.foldl (fun (s : State) (b : Nat) => s.engFlag i b) s
  match r.fault with
  | some code =>
    let s := if m.op == .mma || m.op == .tadd then put s { t with invalid := true } else s
    s.putCore i { s.core i with deferred := (s.core i).deferred ++ [(m.engine, code)] }
  | none => s

/-- A command writes, or reads, its tile. -/
def MatCmd.writes (m : MatCmd) : Bool := m.op == .tzero || m.op == .mma || m.op == .tadd
def MatCmd.reads (m : MatCmd) : Bool := m.op == .mma || m.op == .tadd || m.op == .tout || m.op == .timg

/-- Of the commands of a core, newest first, those that must have completed before the engines named are idle: commands
of one engine complete in issue order, and one that reads a tile waits for its earlier writers (R211). The second part
stays. -/
def needed (engines tiles : List Nat) : List MatCmd → List MatCmd × List MatCmd
  | [] => ([], [])
  | m :: r =>
    if engines.contains m.engine || (m.writes && tiles.contains m.tile) then
      let x := needed (m.engine :: engines) (if m.reads then m.tile :: tiles else tiles) r
      (m :: x.1, x.2)
    else
      let x := needed engines tiles r
      (x.1, m :: x.2)

/-- The commands of some engines complete among a core's oldest `n`, in issue order. -/
def State.matComplete (s : State) (i n : Nat) (engines : List Nat) : State :=
  let c := s.core i
  let x := needed engines [] (c.matrix.take n).reverse
  let s := s.putCore i { c with matrix := x.2.reverse ++ c.matrix.drop n }
  x.1.reverse.foldl (fun (s : State) (m : MatCmd) => s.matExec i m) s

/-- Every command of some engines completes. -/
def State.matWait (s : State) (i : Nat) (engines : List Nat) : State := s.matComplete i (s.core i).matrix.length engines

/-! ### Bundles (R209, R210, R213) -/

/-- A kernel's part of a layer starts (R213). Its registers stand as they were (log entry 51). -/
def State.zwStart (s : State) (i : Nat) (b : ZwStart) : State :=
  s.putCore i { s.core i with
    state := .running, pc := b.pc / 64 * 64 % 2 ^ 64, loops := [], depth := 0, bundle := none, barrier := none
    model := b.model, layer := b.layer, layerStart := s.now }

/-- The issue logic takes a bundle (R209, R210, R217): a failed fetch, an illegal bundle, a deferred matrix fault of an
engine that WAIT names stop the core; else the bundle is open, to be skipped where its condition fails. -/
def State.zwBegin (s : State) (z : ZwIssue) : State :=
  let i := z.core
  if z.fetchBad then s.zwException i 6 0
  else match z.illegal with
    | some k => s.zwException i 1 (if k < 8 then 2 ^ k else 0)
    | none =>
      let engines := (List.range 4).filter fun e => bitOf z.wait e
      let s := s.matWait i engines
      match (s.core i).deferred.find? fun d => engines.contains d.1 with
      | some d => s.zwException i d.2 (2 ^ (2 + d.1))
      | none =>
        let skip := z.cond.any fun x => bitOf ((s.core i).regs.p x.1) 0 == x.2
        s.putCore i { s.core i with bundle := some { skip := skip, writes := [], acts := [] } }

/-- Where the bundle at `pc` leads where it does not branch (R213): back to the first bundle of a loop that it ends and
that has repetitions left. -/
def loopNext (pc : Nat) : List LoopFrame → Nat × List LoopFrame
  | [] => ((pc + 64) % 2 ^ 64, [])
  | f :: r =>
    if f.last = pc then (if 0 < f.left then (f.first, { f with left := f.left - 1 } :: r) else loopNext pc r)
    else ((pc + 64) % 2 ^ 64, f :: r)

/-- What a bundle does beyond its registers takes effect; its branch follows in State.zwAdvance. -/
def State.zwAct (i : Nat) (s : State) (a : ZwAct) : State :=
  match a with
  | .store addr bs => s.zwWrite i addr bs
  | .send j addr bs => s.zwWrite j addr bs
  | .matrix m => s.putCore i { s.core i with matrix := (s.core i).matrix ++ [m] }
  | .append aux bs => { s with appends := s.appends ++ [(i, aux, bs)] }
  | .gallery pkg die addr bs =>
    (List.range (ceilDiv bs.length 4096)).foldl (fun s k =>
      s.send pkg die 3 (if i < 512 then i / 32 else 28 + (i - 512) / 2) (i % 32) 0x37 [(24, 8, addr + 4096 * k)]
        ((bs.drop (4096 * k)).take 4096) []) s
  | .poison page =>
    let owners := s.referrersOf page
    if owners.isEmpty then s.poisonPage page
    else owners.foldl (fun s i => (s.loseMember false i .poison).loseMember true i .poison) s
  | .flag b => s.engFlag i b
  | .branch _ | .loop _ _ | .call _ | .ret _ | .bar _ | .halt => s

/-- The pc after a bundle (R213). A loop of no repetition, or of no bundle, runs none (log entry 52). -/
def State.zwAdvance (s : State) (i : Nat) (acts : List ZwAct) : State :=
  let c := s.core i
  let next := loopNext c.pc c.loops
  let plain := { c with pc := next.1, loops := next.2 }
  s.putCore i ((acts.findSome? fun a => match a with
    | .branch pc => some { c with pc := pc }
    | .call pc => some { c with pc := pc, depth := c.depth + 1 }
    | .ret pc => some { c with pc := pc, depth := c.depth - 1 }
    | .loop last n =>
      if last ≤ c.pc then none
      else if n = 0 then some { c with pc := (last + 64) % 2 ^ 64 }
      else some { c with pc := (c.pc + 64) % 2 ^ 64, loops := ⟨(c.pc + 64) % 2 ^ 64, last, n - 1⟩ :: c.loops }
    | _ => none).getD plain)

/-- A whole bundle takes effect. At HALT every matrix command completes, and a deferred fault is reported (R217). -/
def State.zwFinish (s : State) (i : Nat) : State :=
  match (s.core i).bundle with
  | none => s
  | some b =>
    let halt := b.acts.contains .halt
    let s := if halt then s.matWait i [0, 1, 2, 3] else s
    match if halt then (s.core i).deferred.head? else none with
    | some d => s.zwException i d.2 (2 ^ (2 + d.1))
    | none =>
      let c := s.core i
      let s := s.putCore i { c with regs := b.writes.foldl WRegs.write c.regs, bundle := none, barrier := none }
      let s := b.acts.foldl (State.zwAct i) s
      if halt then
        let s := s.matWait i [0, 1, 2, 3]
        match (s.core i).deferred.head? with
        | some d => s.zwException i d.2 (2 ^ (2 + d.1))
        | none => s.putCore i { s.core i with state := .idle, loops := [], depth := 0 }
      else s.zwAdvance i b.acts

/-- The barrier code of a bundle. -/
def Bundle.bar (b : Bundle) : Option Nat := b.acts.findSome? fun a => match a with
  | .bar k => some k
  | _ => none

/-- The last valid slot of a bundle has executed. A bundle with BAR waits for every logical core of its cluster at a BAR
with the same code (R213). A control core has no cluster. -/
def State.zwCommit (s : State) (i : Nat) : State :=
  let c := s.core i
  match c.bundle.bind Bundle.bar with
  | none => s.zwFinish i
  | some k =>
    if 512 ≤ i then s.zwFinish i
    else
      let s := s.putCore i { c with barrier := some (k, s.now) }
      let group := (List.range 8).map (8 * (i / 8) + ·)
      if group.all fun j => (s.core j).barrier.any fun b => b.1 == k then group.foldl State.zwFinish s else s

/-- How a slot executes: what it writes and does, and the free values it draws; or the exception it raises. -/
inductive ZwOut where
  | ok (writes : List (Nat × Nat)) (acts : List ZwAct) (draws : Nat)
  | fault (code : Nat)
deriving DecidableEq, Repr

/-- A slot of the open bundle executes: two writes of one register are illegal (R210); a fault is precise (R217). -/
def State.zwExec (s : State) (i slot : Nat) (last : Bool) (b : Bundle) (r : ZwOut) : State :=
  if b.skip then (if last then s.zwCommit i else s)
  else match r with
    | .fault code => s.zwException i code (2 ^ slot)
    | .ok writes acts n =>
      if writes.any fun w => b.writes.any fun v => v.1 == w.1 then s.zwException i 1 (2 ^ slot)
      else
        let s := { s.putCore i { s.core i with bundle := some { b with writes := b.writes ++ writes, acts := b.acts ++ acts } } with
          draws := s.draws + n }
        if last then s.zwCommit i else s

/-- A valid slot: the bundle begins with its first one. A core that is absent, idle, stopped or at a barrier executes
nothing. -/
def State.zwSlot (s : State) (z : ZwIssue) (t slot : Nat) (f : State → WRegs → ZwOut) : Host.Outcome State Fault Refusal :=
  if 516 ≤ z.core then .fault .noSuchUnit
  else
    let s := s.stamp t
    if !s.coreIn z.core then .next s
    else
      let s := match z.start with
        | some b => s.zwStart z.core b
        | none => s
      let c := s.core z.core
      if c.state != .running || c.barrier.isSome then .next s
      else
        let s := if c.bundle.isNone then s.zwBegin z else s
        .next (match (s.core z.core).bundle with
          | none => s
          | some b => s.zwExec z.core slot z.last b (f s (s.core z.core).regs))

end Sys2Proof.Machine
end

