-- ==== Sys2Proof/Machine/ZwExchange.lean ====
section
/-! DEFINITION. Zynut-W exchange slots (R216). -/

namespace Sys2Proof.Machine

def slotExchange : Nat := 7

/-- An exchange slot whose length, in bytes, must be a multiple of 64 (R216). -/
def State.zwExchange (s : State) (z : ZwIssue) (len t : Nat) (f : State → WRegs → (n : Nat) → ZwOut) :
    Host.Outcome State Fault Refusal :=
  s.zwSlot z t slotExchange fun s w => if w.s len % 64 ≠ 0 then .fault 2 else f s w (w.s len)

/-- ZW_XCOPY (R207, R216). -/
def execZwXcopy (z : ZwIssue) (dst src len t : Nat) (s : State) : Host.Outcome State Fault Refusal :=
  s.zwExchange z len t fun s w n =>
    if !zwRange z.core (w.s dst) n || !zwRange z.core (w.s src) n then .fault 2
    else .ok [] [.store (w.s dst) (s.zwRead z.core (w.s src) n)] 0

/-- ZW_XSEND (R216): to core SRAM of logical core s_aux[2:0] of this cluster. -/
def execZwXsend (z : ZwIssue) (dst src len aux t : Nat) (s : State) : Host.Outcome State Fault Refusal :=
  s.zwExchange z len t fun s w n =>
    if 512 ≤ z.core || !zwRange z.core (w.s src) n || 0x400000 < w.s dst + n then .fault 2
    else .ok [] [.send (8 * (z.core / 8) + w.s aux % 8) (w.s dst) (s.zwRead z.core (w.s src) n)] 0

/-- A KV page of a member of a step in flight whose session runs a model instance (R216). -/
def State.memberPage (s : State) (model page : Nat) : Bool :=
  [false, true].any fun s1 => (s.stream s1).run.any fun r => r.live.any fun m =>
    (s.entry m.slot).model == model && (s.referrersOf page).contains m.slot

/-- XSTREAM may read a page: a device page, or a KV page of a member of the current step. -/
def State.streamable (s : State) (model page : Nat) (l : Leaf) : Bool := (l.tenant == 0 && l.pinned) || s.memberPage model page

/-- ZW_XSTREAM (R84, R108, R216). `device` gives the model instance and the bytes where the range lies in weight pages,
whose contents the state does not hold. -/
def execZwXstream (z : ZwIssue) (dst src len : Nat) (device : Option (Nat × List Byte)) (t : Nat) (s : State) :
    Host.Outcome State Fault Refusal :=
  s.zwExchange z len t fun s w n =>
    let a := w.s src
    let c := s.core z.core
    if !zwRange z.core (w.s dst) n then .fault 2
    else match device with
      | some (model, bs) => if model = c.model then .ok [] [.store (w.s dst) (bytesAt bs 0 n)] 0 else .fault 2
      | none =>
        let pages := (placesOf a n).map fun p => s.pageOf (max p a)
        if pages.any fun p => !(p.any fun q => s.streamable c.model q.1 q.2) then .fault 2
        else match pages.findSome? fun p => p.bind fun q => if q.2.poison then some q.1 else none with
          | some page => .ok [] [.poison page] 0
          | none => .ok [] [.store (w.s dst) (memRead s.mem a n)] 0

/-- ZW_XAPPEND (R167, R216): K and V reach the KV append unit, for the member and position in s_aux. -/
def execZwXappend (z : ZwIssue) (src len aux t : Nat) (s : State) : Host.Outcome State Fault Refusal :=
  s.zwExchange z len t fun s w n =>
    if !zwRange z.core (w.s src) n then .fault 2
    else .ok [] [.append (w.s aux) (s.zwRead z.core (w.s src) n)] 0

/-- ZW_XGALLERY (R216, R316): KERNEL_DATA for a package and die; s_aux, whose layout the spec does not give, names them
(log entry 56). -/
def execZwXgallery (z : ZwIssue) (dst src len pkg die t : Nat) (s : State) : Host.Outcome State Fault Refusal :=
  s.zwExchange z len t fun s w n =>
    if !zwRange z.core (w.s src) n then .fault 2
    else .ok [] [.gallery pkg die (w.s dst) (s.zwRead z.core (w.s src) n)] 0

/-- ZW_XFENCE (R216): exchange commands complete as they issue, so nothing is left to wait for (log entry 57). -/
def execZwXfence (z : ZwIssue) (t : Nat) (s : State) : Host.Outcome State Fault Refusal :=
  s.zwSlot z t slotExchange fun _ _ => .ok [] [] 0

end Sys2Proof.Machine
end

