-- ==== Sys2Proof/Machine/ZwMatrix.lean ====
section
/-! DEFINITION. Zynut-W matrix slots (R214): a command is issued to its engine with what its scalar registers hold; what
it does when it completes is State.matExec. -/

namespace Sys2Proof.Machine

/-- A matrix slot of engine `e` issues a command. -/
def State.zwMatrix (s : State) (z : ZwIssue) (e t : Nat) (f : WRegs → MatCmd) : Host.Outcome State Fault Refusal :=
  if 4 ≤ e then .fault .noSuchUnit else s.zwSlot z t (2 + e) fun _ w => .ok [] [.matrix (f w)] 0

/-- ZW_TZERO (R214). -/
def execZwTzero (z : ZwIssue) (e tile sA t : Nat) (s : State) : Host.Outcome State Fault Refusal :=
  s.zwMatrix z e t fun w => ⟨e, .tzero, tile, 0, 0, w.s sA % 65536, 0, 0, true⟩

/-- ZW_MMA (R192, R214). -/
def execZwMma (z : ZwIssue) (e tile fmtA fmtB sA sB sK t : Nat) (s : State) : Host.Outcome State Fault Refusal :=
  s.zwMatrix z e t fun w => ⟨e, .mma, tile, fmtA, fmtB, w.s sA, w.s sB, w.s sK, true⟩

/-- ZW_TOUT (R195, R214): the scale is 1.0 when sB is s0. -/
def execZwTout (z : ZwIssue) (e tile fmtA sA sB t : Nat) (s : State) : Host.Outcome State Fault Refusal :=
  s.zwMatrix z e t fun w => ⟨e, .tout, tile, fmtA, 0, w.s sA, w.s sB, 0, sB == 0⟩

/-- ZW_TIMG (R197, R214). -/
def execZwTimg (z : ZwIssue) (e tile sA t : Nat) (s : State) : Host.Outcome State Fault Refusal :=
  s.zwMatrix z e t fun w => ⟨e, .timg, tile, 0, 0, w.s sA, 0, 0, true⟩

/-- ZW_TADD (R194, R214). -/
def execZwTadd (z : ZwIssue) (e tile sA t : Nat) (s : State) : Host.Outcome State Fault Refusal :=
  s.zwMatrix z e t fun w => ⟨e, .tadd, tile, 0, 0, w.s sA, 0, 0, true⟩

/-- ZW_TPRE (R190, R191, R214). -/
def execZwTpre (z : ZwIssue) (e fmtA sA sB sK t : Nat) (s : State) : Host.Outcome State Fault Refusal :=
  s.zwMatrix z e t fun w => ⟨e, .tpre, 0, fmtA, 0, w.s sA, w.s sB, w.s sK, true⟩

end Sys2Proof.Machine
end

