-- ==== Sys2Proof/Machine/ZwScalar.lean ====
section
/-! DEFINITION. Zynut-W scalar and branch/sync slots (R212, R213), the events of a core (R211, R217). -/

namespace Sys2Proof.Machine

/-- The number of the scalar slot in VALID order, and of the branch slot (R209). -/
def slotScalar : Nat := 0
def slotBranch : Nat := 1

/-- A scalar slot that computes rd from ra and rb. -/
def State.zwAlu (s : State) (z : ZwIssue) (t rd ra rb : Nat) (f : Nat → Nat → Nat) : Host.Outcome State Fault Refusal :=
  s.zwSlot z t slotScalar fun _ w => .ok [(rd, f (w.s ra) (w.s rb) % 2 ^ 64)] [] 0

/-- A scalar slot that compares into predicate rd[2:0] (R212). -/
def State.zwCmp (s : State) (z : ZwIssue) (t rd ra rb : Nat) (f : Nat → Nat → Bool) : Host.Outcome State Fault Refusal :=
  s.zwSlot z t slotScalar fun _ w => .ok [(64 + rd % 8, if f (w.s ra) (w.s rb) then 2 ^ 128 - 1 else 0)] [] 0

/-- A 64-bit value of an integer. -/
def w64 (v : Int) : Nat := toMod 64 v

/-- imm, sign-extended to 64 bits (R212). -/
def sx41 (imm : Nat) : Nat := w64 (signed 41 imm)

/-- The address ra + imm. -/
def WRegs.addr (w : WRegs) (ra imm : Nat) : Nat := (w.s ra + sx41 imm) % 2 ^ 64

/-- ZW_ADD (R212). -/
def execZwAdd (z : ZwIssue) (rd ra rb t : Nat) (s : State) : Host.Outcome State Fault Refusal :=
  s.zwAlu z t rd ra rb fun a b => a + b

/-- ZW_SUB (R212). -/
def execZwSub (z : ZwIssue) (rd ra rb t : Nat) (s : State) : Host.Outcome State Fault Refusal :=
  s.zwAlu z t rd ra rb fun a b => w64 (a - b)

/-- ZW_AND (R212). -/
def execZwAnd (z : ZwIssue) (rd ra rb t : Nat) (s : State) : Host.Outcome State Fault Refusal :=
  s.zwAlu z t rd ra rb fun a b => a &&& b

/-- ZW_OR (R212). -/
def execZwOr (z : ZwIssue) (rd ra rb t : Nat) (s : State) : Host.Outcome State Fault Refusal :=
  s.zwAlu z t rd ra rb fun a b => a ||| b

/-- ZW_XOR (R212). -/
def execZwXor (z : ZwIssue) (rd ra rb t : Nat) (s : State) : Host.Outcome State Fault Refusal :=
  s.zwAlu z t rd ra rb fun a b => a ^^^ b

/-- ZW_SHL (R212). -/
def execZwShl (z : ZwIssue) (rd ra rb t : Nat) (s : State) : Host.Outcome State Fault Refusal :=
  s.zwAlu z t rd ra rb fun a b => a * 2 ^ (b % 64)

/-- ZW_SHR (R212). -/
def execZwShr (z : ZwIssue) (rd ra rb t : Nat) (s : State) : Host.Outcome State Fault Refusal :=
  s.zwAlu z t rd ra rb fun a b => a / 2 ^ (b % 64)

/-- ZW_SAR (R212). -/
def execZwSar (z : ZwIssue) (rd ra rb t : Nat) (s : State) : Host.Outcome State Fault Refusal :=
  s.zwAlu z t rd ra rb fun a b => w64 (signed 64 a / (2 ^ (b % 64) : Int))

/-- ZW_MUL (R212). -/
def execZwMul (z : ZwIssue) (rd ra rb t : Nat) (s : State) : Host.Outcome State Fault Refusal :=
  s.zwAlu z t rd ra rb fun a b => a * b

/-- ZW_MIN (R212). -/
def execZwMin (z : ZwIssue) (rd ra rb t : Nat) (s : State) : Host.Outcome State Fault Refusal :=
  s.zwAlu z t rd ra rb fun a b => if signed 64 a ≤ signed 64 b then a else b

/-- ZW_MAX (R212). -/
def execZwMax (z : ZwIssue) (rd ra rb t : Nat) (s : State) : Host.Outcome State Fault Refusal :=
  s.zwAlu z t rd ra rb fun a b => if signed 64 a ≤ signed 64 b then b else a

/-- ZW_ADDI (R212). -/
def execZwAddi (z : ZwIssue) (rd ra imm t : Nat) (s : State) : Host.Outcome State Fault Refusal :=
  s.zwSlot z t slotScalar fun _ w => .ok [(rd, w.addr ra imm)] [] 0

/-- ZW_LI (R212). -/
def execZwLi (z : ZwIssue) (rd imm t : Nat) (s : State) : Host.Outcome State Fault Refusal :=
  s.zwSlot z t slotScalar fun _ _ => .ok [(rd, sx41 imm)] [] 0

/-- ZW_LD (R207, R212): misaligned or outside the memories raises SRAM_RANGE. -/
def execZwLd (z : ZwIssue) (rd ra imm t : Nat) (s : State) : Host.Outcome State Fault Refusal :=
  s.zwSlot z t slotScalar fun s w =>
    let a := w.addr ra imm
    if a % 8 ≠ 0 || !zwRange z.core a 8 then .fault 2 else .ok [(rd, leNat (s.zwRead z.core a 8))] [] 0

/-- ZW_ST (R207, R212). -/
def execZwSt (z : ZwIssue) (ra rb imm t : Nat) (s : State) : Host.Outcome State Fault Refusal :=
  s.zwSlot z t slotScalar fun _ w =>
    let a := w.addr ra imm
    if a % 8 ≠ 0 || !zwRange z.core a 8 then .fault 2 else .ok [] [.store a (leBytes 8 (w.s rb))] 0

/-- ZW_CMPEQ (R212). -/
def execZwCmpeq (z : ZwIssue) (rd ra rb t : Nat) (s : State) : Host.Outcome State Fault Refusal :=
  s.zwCmp z t rd ra rb fun a b => a == b

/-- ZW_CMPLT (R212). -/
def execZwCmplt (z : ZwIssue) (rd ra rb t : Nat) (s : State) : Host.Outcome State Fault Refusal :=
  s.zwCmp z t rd ra rb fun a b => decide (signed 64 a < signed 64 b)

/-- ZW_CMPLTU (R212). -/
def execZwCmpltu (z : ZwIssue) (rd ra rb t : Nat) (s : State) : Host.Outcome State Fault Refusal :=
  s.zwCmp z t rd ra rb fun a b => decide (a < b)

/-! ### Branch and synchronisation (R213) -/

/-- The bundle `off` bundles from the current one. -/
def bundleAt (pc off : Nat) : Nat := w64 (pc + 64 * signed 20 off)

/-- ZW_BR (R213). -/
def execZwBr (z : ZwIssue) (off t : Nat) (s : State) : Host.Outcome State Fault Refusal :=
  s.zwSlot z t slotBranch fun s _ => .ok [] [.branch (bundleAt (s.core z.core).pc off)] 0

/-- ZW_BRP (R213). -/
def execZwBrp (z : ZwIssue) (p off t : Nat) (s : State) : Host.Outcome State Fault Refusal :=
  s.zwSlot z t slotBranch fun s w =>
    .ok [] (if bitOf (w.p p) 0 then [.branch (bundleAt (s.core z.core).pc off)] else []) 0

/-- ZW_BRNP (R213). -/
def execZwBrnp (z : ZwIssue) (p off t : Nat) (s : State) : Host.Outcome State Fault Refusal :=
  s.zwSlot z t slotBranch fun s w =>
    .ok [] (if bitOf (w.p p) 0 then [] else [.branch (bundleAt (s.core z.core).pc off)]) 0

/-- ZW_LOOP (R213): the bundles after this one up to `off`, as often as the scalar register says; a fifth nested loop is
illegal. -/
def execZwLoop (z : ZwIssue) (sr off t : Nat) (s : State) : Host.Outcome State Fault Refusal :=
  s.zwSlot z t slotBranch fun s w =>
    let c := s.core z.core
    if 4 ≤ c.loops.length then .fault 1 else .ok [] [.loop (bundleAt c.pc off) (w.s sr)] 0

/-- ZW_CALL (R213): a seventeenth nested call is illegal. -/
def execZwCall (z : ZwIssue) (off t : Nat) (s : State) : Host.Outcome State Fault Refusal :=
  s.zwSlot z t slotBranch fun s _ =>
    let c := s.core z.core
    if 16 ≤ c.depth then .fault 1 else .ok [(31, w64 (c.pc + 64))] [.call (bundleAt c.pc off)] 0

/-- ZW_RET (R206, R213): pc is a multiple of 64. -/
def execZwRet (z : ZwIssue) (t : Nat) (s : State) : Host.Outcome State Fault Refusal :=
  s.zwSlot z t slotBranch fun _ w => .ok [] [.ret (w.s 31 / 64 * 64)] 0

/-- ZW_BAR (R213). -/
def execZwBar (z : ZwIssue) (off t : Nat) (s : State) : Host.Outcome State Fault Refusal :=
  s.zwSlot z t slotBranch fun _ _ => .ok [] [.bar (off % 16)] 0

/-- ZW_HALT (R213). -/
def execZwHalt (z : ZwIssue) (t : Nat) (s : State) : Host.Outcome State Fault Refusal :=
  s.zwSlot z t slotBranch fun _ _ => .ok [] [.halt] 0

/-! ### Events (R211, R217) -/

/-- An event of a core of the package. -/
def State.zwEvent (s : State) (core t : Nat) (f : State → State) : Host.Outcome State Fault Refusal :=
  if 516 ≤ core then .fault .noSuchUnit else .next (if (s.stamp t).coreIn core then f (s.stamp t) else s.stamp t)

/-- ZW_BARRIER_TIMEOUT (R217): a BAR has waited longer than 1 ms. -/
def execZwBarrierTimeout (core t : Nat) (s : State) : Host.Outcome State Fault Refusal :=
  s.zwEvent core t fun s => match (s.core core).barrier with
    | some b => if b.2 + 1000000 < s.now then s.zwException core 7 2 else s
    | none => s

/-- ZW_WATCHDOG (R217): a layer of a kernel has run longer than CORE_CFG.WATCHDOG_US. -/
def execZwWatchdog (core t : Nat) (s : State) : Host.Outcome State Fault Refusal :=
  s.zwEvent core t fun s =>
    let c := s.core core
    if c.state == .running && c.layerStart + 1000 * s.regFld 0x0a 0 0x20 23 0 < s.now then s.zwException core 8 0 else s

/-- ZW_MATRIX_DONE (R211, R217): the oldest command of an engine completes, with those it waits for; a fault it meets
waits for the next bundle whose WAIT names the engine. -/
def execZwMatrixDone (core engine t : Nat) (s : State) : Host.Outcome State Fault Refusal :=
  if 4 ≤ engine then .fault .noSuchUnit
  else s.zwEvent core t fun s => match indexOf? (fun (m : MatCmd) => m.engine == engine) (s.core core).matrix with
    | some k => s.matComplete core (k + 1) [engine]
    | none => s

end Sys2Proof.Machine
end

