-- ==== Sys2Proof/Machine/ZwVector.lean ====
section
/-! DEFINITION. Zynut-W vector slots (R215): lanes are 32-bit codes, lane 0 in the low bits. -/

namespace Sys2Proof.Machine

def slotVector : Nat := 6

/-- The lanes of a vector register. -/
def lanesOf (v : Nat) : List Nat := (List.range 64).map fun k => v / 2 ^ (32 * k) % 2 ^ 32

/-- A vector register of lanes, the first the lowest. -/
def ofLanes : List Nat → Nat
  | [] => 0
  | l :: r => l % 2 ^ 32 + 2 ^ 32 * ofLanes r

/-- The lanes of a register, or of the pair it begins (R206). -/
def WRegs.lanes (w : WRegs) (v : Nat) (pair : Bool) : List Nat := lanesOf (w.v v) ++ if pair then lanesOf (w.v (v + 1)) else []

/-- The writes of a register or pair. -/
def laneWrites (v : Nat) (pair : Bool) (l : List Nat) : List (Nat × Nat) :=
  (32 + v, ofLanes (l.take 64)) :: if pair then [(33 + v, ofLanes (l.drop 64))] else []

/-- Lanes whose bit in a predicate is 0 keep vd (R215). -/
def maskLanes (p : Nat) (old new : List Nat) : List Nat :=
  (old.zip new).zipIdx.map fun x => if bitOf p x.2 then x.1.2 else x.1.1

/-- PAIR = 1 with an odd register is illegal (R215, log entry 53). -/
def pairBad (pair : Bool) (rs : List Nat) : Bool := pair && rs.any fun r => r % 2 == 1

/-- A lane-wise operation on va, vb and vd. -/
def State.zwLanes (s : State) (z : ZwIssue) (t vd va vb p : Nat) (pair : Bool) (draws : Nat)
    (f : (k a b d : Nat) → Nat) : Host.Outcome State Fault Refusal :=
  s.zwSlot z t slotVector fun _ w =>
    if pairBad pair [vd, va, vb] then .fault 1
    else
      let d := w.lanes vd pair
      let new := ((w.lanes va pair).zip ((w.lanes vb pair).zip d)).zipIdx.map fun x => f x.2 x.1.1 x.1.2.1 x.1.2.2
      .ok (laneWrites vd pair (maskLanes (w.p p) d new)) [] draws

/-- A code is NaN. -/
def fp32IsNan (a : Nat) : Bool := fmtFP32.decode a == .nan

/-- The greater or the lesser of two codes. With a NaN, or between zeros of different sign, the spec does not say which
(log entry 54). -/
def fp32Pick (greater : Bool) (free a b : Nat) : Nat :=
  if fp32IsNan a || fp32IsNan b then free % 2 ^ 32
  else if a % 2 ^ 31 = 0 ∧ b % 2 ^ 31 = 0 ∧ a ≠ b then free % 2 * 2 ^ 31
  else if fp32Lt a b = greater then b else a

/-- ZW_VADD (R215). -/
def execZwVadd (z : ZwIssue) (vd va vb p : Nat) (pair : Bool) (t : Nat) (s : State) : Host.Outcome State Fault Refusal :=
  s.zwLanes z t vd va vb p pair 0 fun _ a b _ => fp32Add a b

/-- ZW_VSUB (R215). -/
def execZwVsub (z : ZwIssue) (vd va vb p : Nat) (pair : Bool) (t : Nat) (s : State) : Host.Outcome State Fault Refusal :=
  s.zwLanes z t vd va vb p pair 0 fun _ a b _ => fp32Sub a b

/-- ZW_VMUL (R215). -/
def execZwVmul (z : ZwIssue) (vd va vb p : Nat) (pair : Bool) (t : Nat) (s : State) : Host.Outcome State Fault Refusal :=
  s.zwLanes z t vd va vb p pair 0 fun _ a b _ => fp32Mul a b

/-- ZW_VMAX (R215). -/
def execZwVmax (z : ZwIssue) (vd va vb p : Nat) (pair : Bool) (t : Nat) (s : State) : Host.Outcome State Fault Refusal :=
  s.zwLanes z t vd va vb p pair 128 fun k a b _ => fp32Pick true (Config.freeValue (s.draws + k)) a b

/-- ZW_VMIN (R215). -/
def execZwVmin (z : ZwIssue) (vd va vb p : Nat) (pair : Bool) (t : Nat) (s : State) : Host.Outcome State Fault Refusal :=
  s.zwLanes z t vd va vb p pair 128 fun k a b _ => fp32Pick false (Config.freeValue (s.draws + k)) a b

/-- ZW_VFMA (R215). -/
def execZwVfma (z : ZwIssue) (vd va vb p : Nat) (pair : Bool) (t : Nat) (s : State) : Host.Outcome State Fault Refusal :=
  s.zwLanes z t vd va vb p pair 0 fun _ a b d => fp32Fma a b d

/-- Bytes of a vector access: 256, or 512 paired. -/
def vecBytes (pair : Bool) : Nat := if pair then 512 else 256

/-- ZW_VLD (R207, R215): the address must be a multiple of the size (log entry 53). -/
def execZwVld (z : ZwIssue) (vd p : Nat) (pair : Bool) (sr t : Nat) (s : State) : Host.Outcome State Fault Refusal :=
  s.zwSlot z t slotVector fun s w =>
    let a := w.s sr
    if pairBad pair [vd] then .fault 1
    else if a % vecBytes pair ≠ 0 || !zwRange z.core a (vecBytes pair) then .fault 2
    else
      let bs := s.zwRead z.core a (vecBytes pair)
      let d := w.lanes vd pair
      .ok (laneWrites vd pair (maskLanes (w.p p) d ((List.range d.length).map fun k => leAt bs (4 * k) 4))) [] 0

/-- ZW_VST (R207, R215): lanes of va whose bit in p is 1 are stored. -/
def execZwVst (z : ZwIssue) (va p : Nat) (pair : Bool) (sr t : Nat) (s : State) : Host.Outcome State Fault Refusal :=
  s.zwSlot z t slotVector fun _ w =>
    let a := w.s sr
    if pairBad pair [va] then .fault 1
    else if a % vecBytes pair ≠ 0 || !zwRange z.core a (vecBytes pair) then .fault 2
    else
      .ok [] ((w.lanes va pair).zipIdx.filterMap fun x =>
        if bitOf (w.p p) x.2 then some (.store (a + 4 * x.2) (leBytes 4 x.1)) else none) 0

/-- A lane in FP32 converted to a format (R195): the code and whether it overflowed. A block format has no code of a
lone element, and E4M3 none of an infinity (log entry 54). -/
def cvtTo (fmt free x : Nat) : Nat × Bool :=
  match fpFmt fmt with
  | none => (free % 2 ^ 32, false)
  | some f =>
    let sg := if fp32IsNeg x then f.sign else 0
    match fmtFP32.decode x with
    | .nan => (f.nan, false)
    | .inf _ => if f.fn then (free % 2 ^ 32, false) else (f.limit + sg, false)
    | .fin m e => if m = 0 then (sg, false) else f.round m e

/-- A lane in a format converted to FP32. -/
def cvtFrom (fmt free x : Nat) : Nat :=
  match fpFmt fmt with
  | none => free % 2 ^ 32
  | some f =>
    let sg := if x / f.sign % 2 = 1 then fmtFP32.sign else 0
    match f.decode x with
    | .nan => fmtFP32.nan
    | .inf _ => fmtFP32.limit + sg
    | .fin m e => if m = 0 then sg else rne32 m e

/-- ZW_VCVT (R195, R215): imm[0] = 1 converts to fmt; a lane of the other format is in the low bits. -/
def execZwVcvt (z : ZwIssue) (vd va p : Nat) (pair : Bool) (fmt imm t : Nat) (s : State) : Host.Outcome State Fault Refusal :=
  s.zwSlot z t slotVector fun s w =>
    if pairBad pair [vd, va] then .fault 1
    else if fmtReserved fmt then .fault 3
    else
      let d := w.lanes vd pair
      let out : List (Nat × Bool) := (w.lanes va pair).zipIdx.map fun x =>
        let free := Config.freeValue (s.draws + x.2)
        if imm % 2 = 1 then cvtTo fmt free x.1 else (cvtFrom fmt free x.1, false)
      let lost := out.zipIdx.any fun x => x.1.2 && bitOf (w.p p) x.2
      .ok (laneWrites vd pair (maskLanes (w.p p) d (out.map (·.1)))) (if lost then [.flag 1] else []) 128

/-- A special function of a lane (R200 to R202); RSQRT(−0) is not stated. -/
def sfu (k free x : Nat) : Nat :=
  if k = 0 then expE x else if k = 1 then recip32 x
  else if k = 2 then (if x = fmtFP32.sign then free % 2 ^ 32 else rsqrt32 x)
  else if k = 3 then sigmoid32 x else silu32 x

/-- ZW_VSFU (R200 to R202, R215): functions 5 to 7 are undefined. -/
def execZwVsfu (z : ZwIssue) (vd va p : Nat) (pair : Bool) (imm t : Nat) (s : State) : Host.Outcome State Fault Refusal :=
  s.zwSlot z t slotVector fun s w =>
    if pairBad pair [vd, va] || decide (4 < imm % 8) then .fault 1
    else
      let d := w.lanes vd pair
      let out := (w.lanes va pair).zipIdx.map fun x => sfu (imm % 8) (Config.freeValue (s.draws + x.2)) x.1
      .ok (laneWrites vd pair (maskLanes (w.p p) d out)) [] 128

/-- ZW_VQUANT (R196, R215): the mantissas of the blocks, then their exponent bytes (log entry 55). -/
def execZwVquant (z : ZwIssue) (va : Nat) (pair : Bool) (fmt sr t : Nat) (s : State) : Host.Outcome State Fault Refusal :=
  s.zwSlot z t slotVector fun _ w =>
    let n := if pair then 4 else 2
    let b := fmtBits fmt
    let a := w.s sr
    if pairBad pair [va] then .fault 1
    else if 2 < fmt then .fault 3
    else if !zwRange z.core a (n * (4 * b + 1)) then .fault 2
    else
      let blocks := (List.range n).map fun k => facetBlock b (((w.lanes va pair).drop (32 * k)).take 32)
      .ok [] (.store a ((blocks.flatMap fun x => packCodes b x.2.1) ++ blocks.map fun x => BitVec.ofNat 8 x.1)
        :: if blocks.any fun x => x.2.2 then [.flag 2] else []) 0

end Sys2Proof.Machine
end

