-- ==== Sys2Proof/Machine/ZynutM.lean ====
section
/-! DEFINITION. Zynut-M (R220 to R226): the sequencers, the places where their programs run, every instruction. -/

namespace Sys2Proof.Machine

/-! ### Sequencers and places (R224) -/

def fZymFault : FlagId := ⟨0x1f, 0x18, 0⟩
def fZymFull : FlagId := ⟨0x1f, 0x18, 1⟩

/-- A sequencer's new content. -/
def State.putSeqr (s : State) (i : Nat) (q : Sequencer) : State := { s with sequencers := aset s.sequencers i q }

/-- Whether a sequencer exists: 8 an SD, 16 an IOD, one hook sequencer a cluster (R224). -/
def seqrExists (cds i : Nat) : Bool :=
  instExists cds 0x1f (i / 16) && i % 16 < (if i / 16 < 12 then 8 else if i / 16 < 32 then 16 else 4)

/-- The place of a sequencer (R224). -/
def seqrPlace (i : Nat) : ZmPlace :=
  if i / 16 < 12 then (if i % 16 = 0 then .tierPolicy else if i % 16 = 1 then .wakeFilter else .hoist)
  else if i / 16 < 32 then (if i % 16 < 4 then .powerLoop else .hoist)
  else .logitHook

/-- The registrar (R54): the lowest-numbered SD in service. -/
def State.registrar (s : State) : Option Nat := (List.range 12).find? fun n => (s.sd n).inService

/-- A run may start on a sequencer: its unit is in service, and its place has something to run for: a policy that has
not faulted, a channel whose descriptor names the program and waits for a batch, a loop that is not stopped. -/
def State.seqrServes (s : State) (i : Nat) (r : ZmStart) : Bool :=
  let inst := i / 16
  match seqrPlace i with
  | .tierPolicy => (s.sd inst).inService && !(s.sd inst).policyFaulted
  | .wakeFilter => s.registrar == some inst
  | .hoist =>
    let c := s.chan inst r.chan
    chanExists inst r.chan && c.busy && c.order.isEmpty && c.desc.any fun d => d.prog == r.prog
  | .logitHook => s.clusterIn (4 * (inst - 32) + i % 16)
  | .powerLoop => inst == 16 + s.boot.leader.getD 0 && !(i % 16 == 3 && s.power.loopStopped)

/-- Result words as the loops read them. -/
def wordAt (l : List (Nat × Nat)) (i : Nat) : Nat := agetD l i 0

/-- Words of a view. -/
def Sequencer.viewWord (q : Sequencer) (v i : Nat) : Nat := (agetD q.views v []).getD i 0

/-- The pushes to an output queue, two words an entry. -/
def wordPairs : List Nat → List (Nat × Nat)
  | a :: b :: r => (a, b) :: wordPairs r
  | _ => []

/-- Entries of two words of output queue 0. -/
def queuePairs (l : List (Nat × Nat)) : List (Nat × Nat) := wordPairs ((l.filter fun p => p.1 == 0).map (·.2))

/-- A cage request of the tier policy (R224): USA[43:12]; tier and pool, 0xF for R103. -/
def cageAsk (sd : Nat) (p : Nat × Nat) : Nat × Nat × Option Nat :=
  (sd * 2 ^ 44 + p.1 * 4096, fld p.2 1 0, if fld p.2 5 2 = 0xf then none else some (fld p.2 5 2))

/-- The words of the power loops (R374), as their views and result words give them (log entry 45). -/
def State.loopEnd (s : State) (n : Nat) (q : Sequencer) (w : List (Nat × Nat)) : State :=
  if n < 2 then
    if (s.eport n).supply then
      s.currentLoop n (q.viewWord 0 0) (q.viewWord 0 1) (signed 32 (q.viewWord 0 2)) (wordAt w 0) (wordAt w 1) (wordAt w 2)
    else s
  else if n = 2 then
    if s.power.holdSince.isSome then s
    else
      let taps := fun k => ((agetD q.views 1 []).drop (24 * k)).take 24
      let ntcs := fun k => (((agetD q.views 2 []).drop (4 * k)).take 4).map (signed 32)
      let s := s.voltagePort 0 (taps 0) (ntcs 0) (signed 32 (wordAt w 0)) (wordAt w 2)
      let s := s.voltagePort 1 (taps 1) (ntcs 1) (signed 32 (wordAt w 1)) (wordAt w 3)
      { s with power := { s.power with portFlags := wordAt w 4 } }
  else if s.power.loopStopped then s
  else s.thermalLoop (q.viewWord 0 0) (q.viewWord 0 1) s.power.hotDie (q.viewWord 1 0) 0 ((List.range 16).map (wordAt w)) (wordAt w 16)

/-- The safe state of a power loop whose run faults (R375). -/
def State.loopFaulted (s : State) (n : Nat) : State :=
  if n < 2 then s.currentLoopFault n else if n = 2 then s.voltageLoopFault else s.thermalLoopFault

/-! ### Runs (R223, R224, R226) -/

/-- A run starts: the image now in force is taken for the whole run (R226). Scratch comes from SCRATCH_INIT with a new
image, and for a descriptor's first batch; it is zeroed in wake filters and hooks, whose registers too start at 0, for
their outputs depend only on their views (R225, log entry 46). -/
def State.zmStart (s : State) (i : Nat) (r : ZmStart) : State :=
  let q := s.seqr i
  let place := seqrPlace i
  match if place = ZmPlace.powerLoop then r.loop else aget s.programs r.prog with
  | none => s
  | some z =>
    if q.running then (if place = ZmPlace.tierPolicy then s.putSd (i / 16) { s.sd (i / 16) with policyPending := true } else s)
    else if z.place != place || !s.seqrServes i r then s
    else
      let pure_ := place == .wakeFilter || place == .logitHook
      let fresh := q.image != some z || q.prog != r.prog || (place == .hoist && (s.chan (i / 16) r.chan).nextSeg == 0)
      let s := s.putSeqr i { q with
        prog := r.prog, running := true, image := some z, chan := r.chan, pc := z.entry, count := 0
        regs := if pure_ then [] else q.regs
        scratch := if pure_ then [] else if fresh then z.scratch else q.scratch
        views := r.views, inputs := r.inputs, pushes := [], results := [], runs := (q.runs + 1) % 2 ^ 32 }
      if place = ZmPlace.tierPolicy then s.putSd (i / 16) { s.sd (i / 16) with policyRunning := true, policyPending := false } else s

/-- A run faults (R223): it has no output, ZYM_FAULT records it, and its place takes its fault action (R224). -/
def State.zmFault (s : State) (i code trap : Nat) : State :=
  let q := s.seqr i
  let woken := if seqrPlace i = ZmPlace.wakeFilter then [(0, 1)] else []
  let s := s.putSeqr i { q with
    running := false, pushes := [], results := [], queue := [], words := woken, faultCode := code
    trapCode := if code = 7 then trap % 256 else q.trapCode, faultPc := q.pc % 4096, faultRun := q.runs }
  let s := s.setFlag fZymFault (i / 16)
  match seqrPlace i with
  | .tierPolicy => s.policyEnd (i / 16) [] true
  | .hoist => s.hoistProgram (i / 16) q.chan [] true
  | .wakeFilter => s
  | .logitHook => s
  | .powerLoop => s.loopFaulted (i % 16)

/-- A run ends (R223): its pushes and result words take effect together. -/
def State.zmEnd (s : State) (i : Nat) (q : Sequencer) : State :=
  let s := s.putSeqr i { q with running := false, queue := q.pushes, words := q.results, pushes := [], results := [] }
  match seqrPlace i with
  | .tierPolicy => s.policyEnd (i / 16) ((queuePairs q.pushes).map (cageAsk (i / 16))) false
  | .hoist => s.hoistProgram (i / 16) q.chan (queuePairs q.pushes) false
  | .wakeFilter => s
  | .logitHook => s
  | .powerLoop => s.loopEnd (i % 16) q q.results

/-! ### Instructions (R221, R222) -/

/-- A 32-bit value of an integer. -/
def w32 (v : Int) : Nat := toMod 32 v

/-- A register; m0 reads 0 (R220). -/
def Sequencer.reg (q : Sequencer) (r : Nat) : Nat := if r = 0 then 0 else agetD q.regs r 0

/-- A register as a signed number. -/
def Sequencer.sreg (q : Sequencer) (r : Nat) : Int := signed 32 (q.reg r)

/-- A write of a register; m0 ignores it. -/
def Sequencer.setReg (q : Sequencer) (r v : Nat) : Sequencer :=
  if r = 0 then q else { q with regs := if v % 2 ^ 32 = 0 then adel q.regs r else aset q.regs r (v % 2 ^ 32) }

/-- imm18 sign-extended to 32 bits. -/
def sx18 (imm : Nat) : Nat := w32 (signed 18 imm)

/-- How an instruction leaves its run. -/
inductive ZmOut where
  | next (q : Sequencer)
  /-- a QPUT that found its queue full -/
  | full (q : Sequencer)
  | ended
  | fault (code trap : Nat)
deriving DecidableEq, Repr

/-- The run goes on with the next word. -/
def Sequencer.go (q : Sequencer) : ZmOut := .next { q with pc := w32 (q.pc + 1) }

/-- rd := v, and the next word. -/
def Sequencer.put (q : Sequencer) (rd v : Nat) : ZmOut := (q.setReg rd v).go

/-- A branch, taken where a condition holds. -/
def Sequencer.branch (q : Sequencer) (c : Bool) (off : Nat) : ZmOut :=
  if c then .next { q with pc := w32 (q.pc + signed 18 off) } else q.go

/-- Operand fields of the formats (R221). -/
def fieldsR (rd ra rb : Nat) : List (Nat × Nat × Nat) := [(25, 22, rd), (21, 18, ra), (17, 14, rb)]
def fieldsI (rd ra imm : Nat) : List (Nat × Nat × Nat) := [(25, 22, rd), (21, 18, ra), (17, 0, imm)]
def fieldsB (ra rb off : Nat) : List (Nat × Nat × Nat) := [(25, 22, ra), (21, 18, rb), (17, 0, off)]

/-- A word is the instruction of an opcode with these fields. -/
def wordIs (w op : Nat) (fs : List (Nat × Nat × Nat)) : Bool := fld w 31 26 == op && fs.all fun f => fld w f.1 f.2.1 == f.2.2

/-- A word is illegal in a place: an undefined opcode, or TNOW and TSET where R225 forbids them. -/
def zmIllegal (place : ZmPlace) (w : Nat) : Bool :=
  !zmDefined (fld w 31 26)
    || ((place == .wakeFilter || place == .logitHook) && (fld w 31 26 == 0x2c || fld w 31 26 == 0x2d))

/-- A running sequencer executes the word at its pc, where that word is the command's instruction; a pc outside the code,
a run past its limit and an illegal word fault (R223). -/
def State.zmStep (s : State) (i op : Nat) (fs : List (Nat × Nat × Nat)) (f : Sequencer → ZmOut) : State :=
  let q := s.seqr i
  match q.image with
  | none => s
  | some z =>
    match z.code[q.pc]? with
    | none => s.zmFault i 6 0
    | some w =>
      if z.limit ≤ q.count then s.zmFault i 5 0
      else if zmIllegal z.place w then s.zmFault i 1 0
      else if !wordIs w op fs then s
      else match f { q with count := q.count + 1 } with
        | .next q => s.putSeqr i q
        | .full q => (s.putSeqr i q).setFlag fZymFull (i / 16)
        | .ended => s.zmEnd i { q with count := q.count + 1 }
        | .fault code trap => s.zmFault i code trap

/-- One instruction of a sequencer, the first of a run where `start` says so. -/
def State.zmRun (s : State) (z : ZmIssue) (t op : Nat) (fs : List (Nat × Nat × Nat)) (f : Sequencer → ZmOut) :
    Host.Outcome State Fault Refusal :=
  if !seqrExists s.cds z.seqr then .fault .noSuchUnit
  else
    let s := s.stamp t
    let s := match z.start with
      | some r => s.zmStart z.seqr r
      | none => s
    .next (if (s.seqr z.seqr).running then s.zmStep z.seqr op fs f else s)

/-- An instruction of format R that computes rd from ra and rb. -/
def State.zmAlu (s : State) (z : ZmIssue) (t op rd ra rb : Nat) (f : Nat → Nat → Nat) : Host.Outcome State Fault Refusal :=
  s.zmRun z t op (fieldsR rd ra rb) fun q => q.put rd (f (q.reg ra) (q.reg rb))

/-- An instruction of format I that computes rd from ra and an immediate. -/
def State.zmImm (s : State) (z : ZmIssue) (t op rd ra imm : Nat) (f : Nat → Nat) : Host.Outcome State Fault Refusal :=
  s.zmRun z t op (fieldsI rd ra imm) fun q => q.put rd (f (q.reg ra))

/-- A branch of format B. -/
def State.zmBranch (s : State) (z : ZmIssue) (t op ra rb off : Nat) (c : Nat → Nat → Bool) : Host.Outcome State Fault Refusal :=
  s.zmRun z t op (fieldsB ra rb off) fun q => q.branch (c (q.reg ra) (q.reg rb)) off

/-- An arithmetic right shift of 32 bits. -/
def sra32 (v n : Nat) : Nat := w32 (signed 32 v / (2 ^ n : Int))

/-- The capacity in words of an output queue: the tier policy and hoists have queue 0, of entries of two words; a queue
that no place gives has no room (log entry 47). -/
def zmRoom (place : ZmPlace) (k : Nat) : Nat :=
  if k = 0 then (match place with
    | .tierPolicy => 8192
    | .hoist => 128
    | _ => 0)
  else 0

/-! ### The meanings: arithmetic -/

/-- ZM_ADD (R222). -/
def execZmAdd (z : ZmIssue) (rd ra rb t : Nat) (s : State) : Host.Outcome State Fault Refusal :=
  s.zmAlu z t 0x01 rd ra rb fun a b => a + b

/-- ZM_SUB (R222). -/
def execZmSub (z : ZmIssue) (rd ra rb t : Nat) (s : State) : Host.Outcome State Fault Refusal :=
  s.zmAlu z t 0x02 rd ra rb fun a b => w32 (a - b)

/-- ZM_AND (R222). -/
def execZmAnd (z : ZmIssue) (rd ra rb t : Nat) (s : State) : Host.Outcome State Fault Refusal :=
  s.zmAlu z t 0x03 rd ra rb fun a b => a &&& b

/-- ZM_OR (R222). -/
def execZmOr (z : ZmIssue) (rd ra rb t : Nat) (s : State) : Host.Outcome State Fault Refusal :=
  s.zmAlu z t 0x04 rd ra rb fun a b => a ||| b

/-- ZM_XOR (R222). -/
def execZmXor (z : ZmIssue) (rd ra rb t : Nat) (s : State) : Host.Outcome State Fault Refusal :=
  s.zmAlu z t 0x05 rd ra rb fun a b => a ^^^ b

/-- ZM_SLL (R222). -/
def execZmSll (z : ZmIssue) (rd ra rb t : Nat) (s : State) : Host.Outcome State Fault Refusal :=
  s.zmAlu z t 0x06 rd ra rb fun a b => a * 2 ^ (b % 32)

/-- ZM_SRL (R222). -/
def execZmSrl (z : ZmIssue) (rd ra rb t : Nat) (s : State) : Host.Outcome State Fault Refusal :=
  s.zmAlu z t 0x07 rd ra rb fun a b => a / 2 ^ (b % 32)

/-- ZM_SRA (R222). -/
def execZmSra (z : ZmIssue) (rd ra rb t : Nat) (s : State) : Host.Outcome State Fault Refusal :=
  s.zmAlu z t 0x08 rd ra rb fun a b => sra32 a (b % 32)

/-- ZM_MUL (R222). -/
def execZmMul (z : ZmIssue) (rd ra rb t : Nat) (s : State) : Host.Outcome State Fault Refusal :=
  s.zmAlu z t 0x09 rd ra rb fun a b => a * b

/-- ZM_MULHU (R222). -/
def execZmMulhu (z : ZmIssue) (rd ra rb t : Nat) (s : State) : Host.Outcome State Fault Refusal :=
  s.zmAlu z t 0x0a rd ra rb fun a b => a * b / 2 ^ 32

/-- ZM_SLTU (R222). -/
def execZmSltu (z : ZmIssue) (rd ra rb t : Nat) (s : State) : Host.Outcome State Fault Refusal :=
  s.zmAlu z t 0x0b rd ra rb fun a b => bit (a < b)

/-- ZM_SLT (R222). -/
def execZmSlt (z : ZmIssue) (rd ra rb t : Nat) (s : State) : Host.Outcome State Fault Refusal :=
  s.zmAlu z t 0x0c rd ra rb fun a b => bit (signed 32 a < signed 32 b)

/-- ZM_MINU (R222). -/
def execZmMinu (z : ZmIssue) (rd ra rb t : Nat) (s : State) : Host.Outcome State Fault Refusal :=
  s.zmAlu z t 0x0d rd ra rb min

/-- ZM_MAXU (R222). -/
def execZmMaxu (z : ZmIssue) (rd ra rb t : Nat) (s : State) : Host.Outcome State Fault Refusal :=
  s.zmAlu z t 0x0e rd ra rb max

/-- ZM_DIVU (R222). -/
def execZmDivu (z : ZmIssue) (rd ra rb t : Nat) (s : State) : Host.Outcome State Fault Refusal :=
  s.zmAlu z t 0x0f rd ra rb fun a b => if b = 0 then 0xffffffff else a / b

/-- ZM_ADDI (R222). -/
def execZmAddi (z : ZmIssue) (rd ra imm t : Nat) (s : State) : Host.Outcome State Fault Refusal :=
  s.zmImm z t 0x10 rd ra imm fun a => a + sx18 imm

/-- ZM_ANDI (R221, R222). -/
def execZmAndi (z : ZmIssue) (rd ra imm t : Nat) (s : State) : Host.Outcome State Fault Refusal :=
  s.zmImm z t 0x11 rd ra imm fun a => a &&& imm

/-- ZM_ORI (R221, R222). -/
def execZmOri (z : ZmIssue) (rd ra imm t : Nat) (s : State) : Host.Outcome State Fault Refusal :=
  s.zmImm z t 0x12 rd ra imm fun a => a ||| imm

/-- ZM_XORI (R221, R222). -/
def execZmXori (z : ZmIssue) (rd ra imm t : Nat) (s : State) : Host.Outcome State Fault Refusal :=
  s.zmImm z t 0x13 rd ra imm fun a => a ^^^ imm

/-- ZM_SLLI (R222). -/
def execZmSlli (z : ZmIssue) (rd ra imm t : Nat) (s : State) : Host.Outcome State Fault Refusal :=
  s.zmImm z t 0x14 rd ra imm fun a => a * 2 ^ (imm % 32)

/-- ZM_SRLI (R222). -/
def execZmSrli (z : ZmIssue) (rd ra imm t : Nat) (s : State) : Host.Outcome State Fault Refusal :=
  s.zmImm z t 0x15 rd ra imm fun a => a / 2 ^ (imm % 32)

/-- ZM_SRAI (R222). -/
def execZmSrai (z : ZmIssue) (rd ra imm t : Nat) (s : State) : Host.Outcome State Fault Refusal :=
  s.zmImm z t 0x16 rd ra imm fun a => sra32 a (imm % 32)

/-- ZM_LUI (R221, R222). -/
def execZmLui (z : ZmIssue) (rd imm t : Nat) (s : State) : Host.Outcome State Fault Refusal :=
  s.zmRun z t 0x17 [(25, 22, rd), (17, 0, imm)] fun q => q.put rd (imm * 2 ^ 14)

/-- ZM_SLTIU (R221, R222). -/
def execZmSltiu (z : ZmIssue) (rd ra imm t : Nat) (s : State) : Host.Outcome State Fault Refusal :=
  s.zmImm z t 0x18 rd ra imm fun a => bit (a < imm)

/-! ### The meanings: scratch and views -/

/-- A scratch word of the 1,024 (R220). -/
def Sequencer.word (q : Sequencer) (i : Nat) : Nat := agetD q.scratch i 0

/-- A scratch word is written. -/
def Sequencer.setWord (q : Sequencer) (i v : Nat) : Sequencer :=
  { q with scratch := if v % 2 ^ 32 = 0 then adel q.scratch i else aset q.scratch i (v % 2 ^ 32) }

/-- ZM_LD (R222): scratch is addressed in words (R220, log entry 48). -/
def execZmLd (z : ZmIssue) (rd ra imm t : Nat) (s : State) : Host.Outcome State Fault Refusal :=
  s.zmRun z t 0x20 (fieldsI rd ra imm) fun q =>
    let a := (q.reg ra + sx18 imm) % 2 ^ 32
    if a < 1024 then q.put rd (q.word a) else .fault 2 0

/-- ZM_ST (R222). -/
def execZmSt (z : ZmIssue) (rd ra imm t : Nat) (s : State) : Host.Outcome State Fault Refusal :=
  s.zmRun z t 0x21 (fieldsI rd ra imm) fun q =>
    let a := (q.reg ra + sx18 imm) % 2 ^ 32
    if a < 1024 then (q.setWord a (q.reg rd)).go else .fault 2 0

/-- ZM_LDB (R222): byte addresses count from byte 0 of scratch word 0. -/
def execZmLdb (z : ZmIssue) (rd ra imm t : Nat) (s : State) : Host.Outcome State Fault Refusal :=
  s.zmRun z t 0x22 (fieldsI rd ra imm) fun q =>
    let a := (q.reg ra + sx18 imm) % 2 ^ 32
    if a < 4096 then q.put rd (fld (q.word (a / 4)) (8 * (a % 4) + 7) (8 * (a % 4))) else .fault 2 0

/-- ZM_STB (R222). -/
def execZmStb (z : ZmIssue) (rd ra imm t : Nat) (s : State) : Host.Outcome State Fault Refusal :=
  s.zmRun z t 0x23 (fieldsI rd ra imm) fun q =>
    let a := (q.reg ra + sx18 imm) % 2 ^ 32
    if a < 4096 then (q.setWord (a / 4) (setFld (q.word (a / 4)) (8 * (a % 4) + 7) (8 * (a % 4)) (q.reg rd))).go
    else .fault 2 0

/-- ZM_TLD (R222, R223). -/
def execZmTld (z : ZmIssue) (rd ra imm t : Nat) (s : State) : Host.Outcome State Fault Refusal :=
  s.zmRun z t 0x24 (fieldsI rd ra imm) fun q =>
    match (agetD q.views (fld imm 17 14) [])[(q.reg ra + imm % 2 ^ 14) % 2 ^ 32]? with
    | some w => q.put rd w
    | none => .fault 3 0

/-! ### The meanings: queues, time, results -/

/-- ZM_QPUT (R222, R223). -/
def execZmQput (z : ZmIssue) (rd ra imm t : Nat) (s : State) : Host.Outcome State Fault Refusal :=
  s.zmRun z t 0x28 (fieldsI rd ra imm) fun q =>
    let k := imm % 16
    if countBy (fun p => p.1 == k) q.pushes < zmRoom (seqrPlace z.seqr) k then
      ({ q with pushes := q.pushes ++ [(k, q.reg ra)] } : Sequencer).put rd 1
    else .full { q.setReg rd 0 with pc := w32 (q.pc + 1) }

/-- ZM_QGET (R222, R223). -/
def execZmQget (z : ZmIssue) (rd imm t : Nat) (s : State) : Host.Outcome State Fault Refusal :=
  s.zmRun z t 0x29 [(25, 22, rd), (17, 0, imm)] fun q =>
    match agetD q.inputs (imm % 16) [] with
    | w :: r => ({ q with inputs := aset q.inputs (imm % 16) r } : Sequencer).put rd w
    | [] => .fault 4 0

/-- ZM_QCNT (R222). -/
def execZmQcnt (z : ZmIssue) (rd imm t : Nat) (s : State) : Host.Outcome State Fault Refusal :=
  s.zmRun z t 0x2a [(25, 22, rd), (17, 0, imm)] fun q => q.put rd (agetD q.inputs (imm % 16) []).length

/-- ZM_TNOW (R222): PT; with an immediate above 1 the value is open (log entry 1). -/
def execZmTnow (z : ZmIssue) (rd imm t : Nat) (s : State) : Host.Outcome State Fault Refusal :=
  let v := if imm = 0 then max s.pt t else if imm = 1 then max s.pt t / 2 ^ 32 else Config.freeValue s.draws
  let s := if imm < 2 then s else s.draw.2
  s.zmRun z t 0x2c [(25, 22, rd), (17, 0, imm)] fun q => q.put rd v

/-- ZM_TSET (R222). -/
def execZmTset (z : ZmIssue) (ra imm t : Nat) (s : State) : Host.Outcome State Fault Refusal :=
  s.zmRun z t 0x2d [(21, 18, ra), (17, 0, imm)] fun q =>
    ({ q with nextBy := some (max s.pt t + (q.reg ra + sx18 imm) % 2 ^ 32 * 1000) } : Sequencer).go

/-- ZM_OUT (R222, R223). -/
def execZmOut (z : ZmIssue) (ra imm t : Nat) (s : State) : Host.Outcome State Fault Refusal :=
  s.zmRun z t 0x38 [(21, 18, ra), (17, 0, imm)] fun q =>
    ({ q with results := aset q.results (sx18 imm) (q.reg ra) } : Sequencer).go

/-! ### The meanings: control flow -/

/-- ZM_BEQ (R222). -/
def execZmBeq (z : ZmIssue) (ra rb off t : Nat) (s : State) : Host.Outcome State Fault Refusal :=
  s.zmBranch z t 0x30 ra rb off fun a b => a == b

/-- ZM_BNE (R222). -/
def execZmBne (z : ZmIssue) (ra rb off t : Nat) (s : State) : Host.Outcome State Fault Refusal :=
  s.zmBranch z t 0x31 ra rb off fun a b => a != b

/-- ZM_BLTU (R222). -/
def execZmBltu (z : ZmIssue) (ra rb off t : Nat) (s : State) : Host.Outcome State Fault Refusal :=
  s.zmBranch z t 0x32 ra rb off fun a b => decide (a < b)

/-- ZM_BGEU (R222). -/
def execZmBgeu (z : ZmIssue) (ra rb off t : Nat) (s : State) : Host.Outcome State Fault Refusal :=
  s.zmBranch z t 0x33 ra rb off fun a b => decide (b ≤ a)

/-- ZM_BLT (R222). -/
def execZmBlt (z : ZmIssue) (ra rb off t : Nat) (s : State) : Host.Outcome State Fault Refusal :=
  s.zmBranch z t 0x34 ra rb off fun a b => decide (signed 32 a < signed 32 b)

/-- ZM_BGE (R222). -/
def execZmBge (z : ZmIssue) (ra rb off t : Nat) (s : State) : Host.Outcome State Fault Refusal :=
  s.zmBranch z t 0x35 ra rb off fun a b => decide (signed 32 b ≤ signed 32 a)

/-- ZM_JAL (R221, R222). -/
def execZmJal (z : ZmIssue) (off t : Nat) (s : State) : Host.Outcome State Fault Refusal :=
  s.zmRun z t 0x36 [(25, 0, off)] fun q =>
    .next { q.setReg 15 (q.pc + 1) with pc := w32 (q.pc + signed 26 off) }

/-- ZM_JR (R222). -/
def execZmJr (z : ZmIssue) (ra t : Nat) (s : State) : Host.Outcome State Fault Refusal :=
  s.zmRun z t 0x37 [(21, 18, ra)] fun q => .next { q with pc := q.reg ra }

/-- ZM_END (R222, R223). -/
def execZmEnd (z : ZmIssue) (t : Nat) (s : State) : Host.Outcome State Fault Refusal :=
  s.zmRun z t 0x3e [] fun _ => .ended

/-- ZM_TRAP (R222, R223). -/
def execZmTrap (z : ZmIssue) (imm t : Nat) (s : State) : Host.Outcome State Fault Refusal :=
  s.zmRun z t 0x3f [(17, 0, imm)] fun _ => .fault 7 imm

end Sys2Proof.Machine
end

