-- ==== Sys2Proof/Machine/Dispatch.lean ====
section
/-! DEFINITION. One arm for each command, in the order of the opcode table; each is one direct call of its meaning. -/
namespace Sys2Proof.Machine

/-- The effect of a command on everything but the queue of waiting commands. -/
def exec (i : Instr) (s : State) : Host.Outcome State Fault Refusal :=
  match i with
  | .dqTailWrite fn q v t => Sys2Proof.Machine.execDqTailWrite fn q v t s
  | .rqHeadWrite fn q v t => Sys2Proof.Machine.execRqHeadWrite fn q v t s
  | .textHeadWrite fn v t => Sys2Proof.Machine.execTextHeadWrite fn v t s
  | .dqCtlEnableWrite fn ring v t => Sys2Proof.Machine.execDqCtlEnableWrite fn ring v t s
  | .frameFetch fn q bytes t => Sys2Proof.Machine.execFrameFetch fn q bytes t s
  | .timedFrameRelease fn q seq t => Sys2Proof.Machine.execTimedFrameRelease fn q seq t s
  | .statusRecordWrite fn q t => Sys2Proof.Machine.execStatusRecordWrite fn q t s
  | .recordDeliver slot t => Sys2Proof.Machine.execRecordDeliver slot t s
  | .modUsExpire fn q t => Sys2Proof.Machine.execModUsExpire fn q t s
  | .functionLevelReset fn t => Sys2Proof.Machine.execFunctionLevelReset fn t s
  | .vfDisable fn t => Sys2Proof.Machine.execVfDisable fn t s
  | .surpriseDown port t => Sys2Proof.Machine.execSurpriseDown port t s
  | .hostAttach port vfs t => Sys2Proof.Machine.execHostAttach port vfs t s
  | .drainTimeout unit t => Sys2Proof.Machine.execDrainTimeout unit t s
  | .ideStreamStop fn t => Sys2Proof.Machine.execIdeStreamStop fn t s
  | .sessionOpen f t => Sys2Proof.Machine.execSessionOpen f t s
  | .openPrepared slot t => Sys2Proof.Machine.execOpenPrepared slot t s
  | .sessionAppend f t => Sys2Proof.Machine.execSessionAppend f t s
  | .timedAppendRelease slot t => Sys2Proof.Machine.execTimedAppendRelease slot t s
  | .sessionResume f t => Sys2Proof.Machine.execSessionResume f t s
  | .sessionHold f t => Sys2Proof.Machine.execSessionHold f t s
  | .sessionRelease f t => Sys2Proof.Machine.execSessionRelease f t s
  | .sessionPark f t => Sys2Proof.Machine.execSessionPark f t s
  | .sessionCancel f t => Sys2Proof.Machine.execSessionCancel f t s
  | .sessionClose f t => Sys2Proof.Machine.execSessionClose f t s
  | .closeReleaseDone slot t => Sys2Proof.Machine.execCloseReleaseDone slot t s
  | .sessionFork f t => Sys2Proof.Machine.execSessionFork f t s
  | .sessionMigrate f t => Sys2Proof.Machine.execSessionMigrate f t s
  | .sessionWaitPeer f t => Sys2Proof.Machine.execSessionWaitPeer f t s
  | .sessionRestore f found t => Sys2Proof.Machine.execSessionRestore f found t s
  | .restorePagesPlaced slot records ok t => Sys2Proof.Machine.execRestorePagesPlaced slot records ok t s
  | .rowLookup f sd t => Sys2Proof.Machine.execRowLookup f sd t s
  | .rowUpdate f t => Sys2Proof.Machine.execRowUpdate f t s
  | .tableSwitch f t => Sys2Proof.Machine.execTableSwitch f t s
  | .recallQuery f sd t => Sys2Proof.Machine.execRecallQuery f sd t s
  | .recallInsert f t => Sys2Proof.Machine.execRecallInsert f t s
  | .recallShardScanDone query sd t => Sys2Proof.Machine.execRecallShardScanDone query sd t s
  | .adapterLoad f t => Sys2Proof.Machine.execAdapterLoad f t s
  | .adapterImageReadDone load sd bytes ok t => Sys2Proof.Machine.execAdapterImageReadDone load sd bytes ok t s
  | .adapterSwitch f t => Sys2Proof.Machine.execAdapterSwitch f t s
  | .ckpCut f t => Sys2Proof.Machine.execCkpCut f t s
  | .ckpRestoreGroup f image t => Sys2Proof.Machine.execCkpRestoreGroup f image t s
  | .probe f t => Sys2Proof.Machine.execProbe f t s
  | .textInput slot count t => Sys2Proof.Machine.execTextInput slot count t s
  | .textFrameResume slot t => Sys2Proof.Machine.execTextFrameResume slot t s
  | .timerFire slot t => Sys2Proof.Machine.execTimerFire slot t s
  | .timeoutCommit slot t => Sys2Proof.Machine.execTimeoutCommit slot t s
  | .notBeforeReached slot t => Sys2Proof.Machine.execNotBeforeReached slot t s
  | .leaseLapse slot t => Sys2Proof.Machine.execLeaseLapse slot t s
  | .peerComplete slot rejects t => Sys2Proof.Machine.execPeerComplete slot rejects t s
  | .outboxRecordWrite slot t => Sys2Proof.Machine.execOutboxRecordWrite slot t s
  | .stepForm s1 t => Sys2Proof.Machine.execStepForm s1 t s
  | .stepPacingExpire s1 t => Sys2Proof.Machine.execStepPacingExpire s1 t s
  | .quotaReservation tenant tier bytes asker t => Sys2Proof.Machine.execQuotaReservation tenant tier bytes asker t s
  | .quotaRelease tenant tier bytes t => Sys2Proof.Machine.execQuotaRelease tenant tier bytes t s
  | .kvAppend s1 slot layer kv t => Sys2Proof.Machine.execKvAppend s1 slot layer kv t s
  | .spanDispatch s1 slot lg queries kv t => Sys2Proof.Machine.execSpanDispatch s1 slot lg queries kv t s
  | .spanPartialDone s1 slot lg span bad unreachable t => Sys2Proof.Machine.execSpanPartialDone s1 slot lg span bad unreachable t s
  | .samplerDraw slot draw logits drafts hook t => Sys2Proof.Machine.execSamplerDraw slot draw logits drafts hook t s
  | .s1Suspend layer t => Sys2Proof.Machine.execS1Suspend layer t s
  | .s1Resume t => Sys2Proof.Machine.execS1Resume t s
  | .sealIssue s1 t => Sys2Proof.Machine.execSealIssue s1 t s
  | .sealApply s1 sd t => Sys2Proof.Machine.execSealApply s1 sd t s
  | .stepOutcome s1 t => Sys2Proof.Machine.execStepOutcome s1 t s
  | .memberRemove s1 slot why t => Sys2Proof.Machine.execMemberRemove s1 slot why t s
  | .stepAbandon s1 t => Sys2Proof.Machine.execStepAbandon s1 t s
  | .remoteTimeout s1 slot request issued expert t => Sys2Proof.Machine.execRemoteTimeout s1 slot request issued expert t s
  | .mgmtFailover t => Sys2Proof.Machine.execMgmtFailover t s
  | .cageRequest page tier pool src t => Sys2Proof.Machine.execCageRequest page tier pool src t s
  | .cageCopyDone id poisoned t => Sys2Proof.Machine.execCageCopyDone id poisoned t s
  | .cageSwitchPoint id t => Sys2Proof.Machine.execCageSwitchPoint id t s
  | .cageRelease id t => Sys2Proof.Machine.execCageRelease id t s
  | .accessDecay sd t => Sys2Proof.Machine.execAccessDecay sd t s
  | .tierPolicyRun sd asks fault t => Sys2Proof.Machine.execTierPolicyRun sd asks fault t s
  | .prefixRetentionSweep sd t => Sys2Proof.Machine.execPrefixRetentionSweep sd t s
  | .hoistIssue die chan d t => Sys2Proof.Machine.execHoistIssue die chan d t s
  | .hoistSegmentDone die chan bytes ok t => Sys2Proof.Machine.execHoistSegmentDone die chan bytes ok t s
  | .hoistProgramRun die chan segs fault t => Sys2Proof.Machine.execHoistProgramRun die chan segs fault t s
  | .hoistChannelReset die chan t => Sys2Proof.Machine.execHoistChannelReset die chan t s
  | .segmentResend die chan seg t => Sys2Proof.Machine.execSegmentResend die chan seg t s
  | .migCopyDone slot die chan sent poison t => Sys2Proof.Machine.execMigCopyDone slot die chan sent poison t s
  | .prepare h p t => Sys2Proof.Machine.execPrepare h p t s
  | .ready h slot status t => Sys2Proof.Machine.execReady h slot status t s
  | .handover h handle count x t => Sys2Proof.Machine.execHandover h handle count x t s
  | .committed h slot t => Sys2Proof.Machine.execCommitted h slot t s
  | .abortReq h handle seq t => Sys2Proof.Machine.execAbortReq h handle seq t s
  | .aborted h slot t => Sys2Proof.Machine.execAborted h slot t s
  | .homeUpdate h handle home seq t => Sys2Proof.Machine.execHomeUpdate h handle home seq t s
  | .closeNote h handle t => Sys2Proof.Machine.execCloseNote h handle t s
  | .sealNote h handle count t => Sys2Proof.Machine.execSealNote h handle count t s
  | .dropNote h handle count t => Sys2Proof.Machine.execDropNote h handle count t s
  | .phaseTimeout slot t => Sys2Proof.Machine.execPhaseTimeout slot t s
  | .codewordUncorrectable port seq t => Sys2Proof.Machine.execCodewordUncorrectable port seq t s
  | .linkControlFlit port acked replay credits t => Sys2Proof.Machine.execLinkControlFlit port acked replay credits t s
  | .portTrained port lanes t => Sys2Proof.Machine.execPortTrained port lanes t s
  | .laneLockLoss port t => Sys2Proof.Machine.execLaneLockLoss port t s
  | .rollCallSend port t => Sys2Proof.Machine.execRollCallSend port t s
  | .rollCall h pkg peerPort pos serial hash epoch t => Sys2Proof.Machine.execRollCall h pkg peerPort pos serial hash epoch t s
  | .rollCallMissed port t => Sys2Proof.Machine.execRollCallMissed port t s
  | .syncSend t => Sys2Proof.Machine.execSyncSend t s
  | .sync h t1 t => Sys2Proof.Machine.execSync h t1 t s
  | .syncReply h t1 t2 t3 t => Sys2Proof.Machine.execSyncReply h t1 t2 t3 t s
  | .syncLost t => Sys2Proof.Machine.execSyncLost t s
  | .packetEnqueue index t => Sys2Proof.Machine.execPacketEnqueue index t s
  | .egressSelect port t => Sys2Proof.Machine.execEgressSelect port t s
  | .packetTransit p t => Sys2Proof.Machine.execPacketTransit p t s
  | .transitCreditTimeout port tc t => Sys2Proof.Machine.execTransitCreditTimeout port tc t s
  | .segData h tag seg chan addr drain payload t => Sys2Proof.Machine.execSegData h tag seg chan addr drain payload t s
  | .segAck h die chan tag seg status t => Sys2Proof.Machine.execSegAck h die chan tag seg status t s
  | .groupCtl h code epoch count t => Sys2Proof.Machine.execGroupCtl h code epoch count t s
  | .attReq h handle layer group positions part request parts first tenant model sd payload t => Sys2Proof.Machine.execAttReq h handle layer group positions part request parts first tenant model sd payload t s
  | .attReply h part request parts payload t => Sys2Proof.Machine.execAttReply h part request parts payload t s
  | .expertTokens h step layer expert tokens request payload output t => Sys2Proof.Machine.execExpertTokens h step layer expert tokens request payload output t s
  | .expertReply h s1 slot request issued payload t => Sys2Proof.Machine.execExpertReply h s1 slot request issued payload t s
  | .accImages h step reduction first images info t => Sys2Proof.Machine.execAccImages h step reduction first images info t s
  | .anchor h step reduction first bounds own t => Sys2Proof.Machine.execAnchor h step reduction first bounds own t s
  | .rowReq h table request bag t => Sys2Proof.Machine.execRowReq h table request bag t s
  | .rowReply h request bytes t => Sys2Proof.Machine.execRowReply h request bytes t s
  | .rowUpd h table step handle seq row overwrite bytes t => Sys2Proof.Machine.execRowUpd h table step handle seq row overwrite bytes t s
  | .kernelData h addr payload t => Sys2Proof.Machine.execKernelData h addr payload t s
  | .kvPush h handle lg index bytes t => Sys2Proof.Machine.execKvPush h handle lg index bytes t s
  | .mgmt h type_ payload t => Sys2Proof.Machine.execMgmt h type_ payload t s
  | .hotCacheRefresh sd t => Sys2Proof.Machine.execHotCacheRefresh sd t s
  | .tick1ms t => Sys2Proof.Machine.execTick1ms t s
  | .stagingCopyDone page t => Sys2Proof.Machine.execStagingCopyDone page t s
  | .ckpStoreWriteDone records ok t => Sys2Proof.Machine.execCkpStoreWriteDone records ok t s
  | .ckpManifestDurable t => Sys2Proof.Machine.execCkpManifestDurable t s
  | .storeTimeout t => Sys2Proof.Machine.execStoreTimeout t s
  | .uvDetect eid fell t => Sys2Proof.Machine.execUvDetect eid fell t s
  | .busRecover eid t => Sys2Proof.Machine.execBusRecover eid t s
  | .drainStart t => Sys2Proof.Machine.execDrainStart t s
  | .journalEntryStart slot t => Sys2Proof.Machine.execJournalEntryStart slot t s
  | .journalCapture seq page t => Sys2Proof.Machine.execJournalCapture seq page t s
  | .journalPayloadDone seq mbps ok t => Sys2Proof.Machine.execJournalPayloadDone seq mbps ok t s
  | .journalCommit seq ok t => Sys2Proof.Machine.execJournalCommit seq ok t s
  | .drainEnd watts t => Sys2Proof.Machine.execDrainEnd watts t s
  | .thermalDrain junction dram t => Sys2Proof.Machine.execThermalDrain junction dram t s
  | .thermtrip die t => Sys2Proof.Machine.execThermtrip die t s
  | .pwrgdAssert railsOk => Sys2Proof.Machine.execPwrgdAssert railsOk s
  | .resetNAssert t => Sys2Proof.Machine.execResetNAssert t s
  | .pwrgdFall t => Sys2Proof.Machine.execPwrgdFall t s
  | .vinPkgLoss t => Sys2Proof.Machine.execVinPkgLoss t s
  | .eidSupplyLoss eid t => Sys2Proof.Machine.execEidSupplyLoss eid t s
  | .currentLoopRun eid busV storeV current duty1 duty2 request fault t => Sys2Proof.Machine.execCurrentLoopRun eid busV storeV current duty1 duty2 request fault t s
  | .voltageLoopRun tapsA tapsB ntcsA ntcsB setA setB healthA healthB flags fault t => Sys2Proof.Machine.execVoltageLoopRun tapsA tapsB ntcsA ntcsB setA setB healthA healthB flags fault t s
  | .thermalLoopRun junc dram die watts mj freqs pacing fault t => Sys2Proof.Machine.execThermalLoopRun junc dram die watts mj freqs pacing fault t s
  | .healthTest eid rating esr t => Sys2Proof.Machine.execHealthTest eid rating esr t s
  | .energyRecompute t => Sys2Proof.Machine.execEnergyRecompute t s
  | .pmbusPoll converters needMv t => Sys2Proof.Machine.execPmbusPoll converters needMv t s
  | .capRelax watts t => Sys2Proof.Machine.execCapRelax watts t s
  | .loopFaultHoldExpire t => Sys2Proof.Machine.execLoopFaultHoldExpire t s
  | .loopSwapTimeout eid t => Sys2Proof.Machine.execLoopSwapTimeout eid t s
  | .prechargeDone eid nodeV t => Sys2Proof.Machine.execPrechargeDone eid nodeV t s
  | .chargeDone eid t => Sys2Proof.Machine.execChargeDone eid t s
  | .contactorOpen eid t => Sys2Proof.Machine.execContactorOpen eid t s
  | .pwrCapWrite v t => Sys2Proof.Machine.execPwrCapWrite v t s
  | .eidRetire eid t => Sys2Proof.Machine.execEidRetire eid t s
  | .eidAdmit eid t => Sys2Proof.Machine.execEidAdmit eid t s
  | .expanderAttach pool width gib interleaveOk t => Sys2Proof.Machine.execExpanderAttach pool width gib interleaveOk t s
  | .expanderRemoval pool surprise t => Sys2Proof.Machine.execExpanderRemoval pool surprise t s
  | .xpnEvacuate pool t => Sys2Proof.Machine.execXpnEvacuate pool t s
  | .xpnCancel pool t => Sys2Proof.Machine.execXpnCancel pool t s
  | .evacuatePassDone pool t => Sys2Proof.Machine.execEvacuatePassDone pool t s
  | .driveDown drive t => Sys2Proof.Machine.execDriveDown drive t s
  | .driveAttach drive nsid sizeMib lba4k atomic fua t => Sys2Proof.Machine.execDriveAttach drive nsid sizeMib lba4k atomic fua t s
  | .ethFrameReceive port bytes fcsOk t => Sys2Proof.Machine.execEthFrameReceive port bytes fcsOk t s
  | .p0Done pos t => Sys2Proof.Machine.execP0Done pos t s
  | .romSelftestDone iod rom t => Sys2Proof.Machine.execRomSelftestDone iod rom t s
  | .electionTimeout t => Sys2Proof.Machine.execElectionTimeout t s
  | .stage1Verify a hashA b hashB standby t => Sys2Proof.Machine.execStage1Verify a hashA b hashB standby t s
  | .recoveryImage sig t => Sys2Proof.Machine.execRecoveryImage sig t s
  | .assayDone failed dimms t => Sys2Proof.Machine.execAssayDone failed dimms t s
  | .mapProgram map t => Sys2Proof.Machine.execMapProgram map t s
  | .firmwareBroadcast a imagesA b imagesB loops t => Sys2Proof.Machine.execFirmwareBroadcast a imagesA b imagesB loops t s
  | .firmwareFetch die unit ok t => Sys2Proof.Machine.execFirmwareFetch die unit ok t s
  | .journalRecovery mbps t => Sys2Proof.Machine.execJournalRecovery mbps t s
  | .headframeCommit image sig t => Sys2Proof.Machine.execHeadframeCommit image sig t s
  | .weightShardReadDone model shard ok t => Sys2Proof.Machine.execWeightShardReadDone model shard ok t s
  | .getVersion t => Sys2Proof.Machine.execGetVersion t s
  | .getCapabilities t => Sys2Proof.Machine.execGetCapabilities t s
  | .negotiateAlgorithms offered t => Sys2Proof.Machine.execNegotiateAlgorithms offered t s
  | .getDigests t => Sys2Proof.Machine.execGetDigests t s
  | .getCertificate slot t => Sys2Proof.Machine.execGetCertificate slot t s
  | .challenge slot t => Sys2Proof.Machine.execChallenge slot t s
  | .getMeasurements index signed t => Sys2Proof.Machine.execGetMeasurements index signed t s
  | .keyExchange reqId t => Sys2Proof.Machine.execKeyExchange reqId t s
  | .finish session ok ownerAuth t => Sys2Proof.Machine.execFinish session ok ownerAuth t s
  | .endSession session t => Sys2Proof.Machine.execEndSession session t s
  | .heartbeat session t => Sys2Proof.Machine.execHeartbeat session t s
  | .keyUpdate session t => Sys2Proof.Machine.execKeyUpdate session t s
  | .setJobKey session job phase key t => Sys2Proof.Machine.execSetJobKey session job phase key t s
  | .clearJobKey session job phase t => Sys2Proof.Machine.execClearJobKey session job phase t s
  | .setCkpKey session key t => Sys2Proof.Machine.execSetCkpKey session key t s
  | .ownerEnrol session hash signed t => Sys2Proof.Machine.execOwnerEnrol session hash signed t s
  | .keyManifest position signed t => Sys2Proof.Machine.execKeyManifest position signed t s
  | .ideKm session port stream fns active t => Sys2Proof.Machine.execIdeKm session port stream fns active t s
  | .tdispRequest fn op t => Sys2Proof.Machine.execTdispRequest fn op t s
  | .fwStage cls version hash sig t => Sys2Proof.Machine.execFwStage cls version hash sig t s
  | .pldmPmcRequest sensor t => Sys2Proof.Machine.execPldmPmcRequest sensor t s
  | .ctBegin fn v t => Sys2Proof.Machine.execCtBegin fn v t s
  | .ctCommit fn v t => Sys2Proof.Machine.execCtCommit fn v t s
  | .ctAbort fn v t => Sys2Proof.Machine.execCtAbort fn v t s
  | .ctLoadPatch fn v t => Sys2Proof.Machine.execCtLoadPatch fn v t s
  | .ctCmdInvalidOp fn v t => Sys2Proof.Machine.execCtCmdInvalidOp fn v t s
  | .ctStageWrite fn addr v t => Sys2Proof.Machine.execCtStageWrite fn addr v t s
  | .ctApplyAtPt t => Sys2Proof.Machine.execCtApplyAtPt t s
  | .w1cClear addr v t => Sys2Proof.Machine.execW1cClear addr v t s
  | .obsSnapGo fn v list t => Sys2Proof.Machine.execObsSnapGo fn v list t s
  | .snapshotWritten t => Sys2Proof.Machine.execSnapshotWritten t s
  | .obsCic fn v t => Sys2Proof.Machine.execObsCic fn v t s
  | .obsHwmClr fn v t => Sys2Proof.Machine.execObsHwmClr fn v t s
  | .tfqHwmRead port tc t => Sys2Proof.Machine.execTfqHwmRead port tc t s
  | .errSelWrite port v t => Sys2Proof.Machine.execErrSelWrite port v t s
  | .errClear v t => Sys2Proof.Machine.execErrClear v t s
  | .errorDetect cls die blk inst code detail t => Sys2Proof.Machine.execErrorDetect cls die blk inst code detail t s
  | .ledTselWrite port v t => Sys2Proof.Machine.execLedTselWrite port v t s
  | .ledDump fn v t => Sys2Proof.Machine.execLedDump fn v t s
  | .ledDumpWritten ok t => Sys2Proof.Machine.execLedDumpWritten ok t s
  | .bruFence v t => Sys2Proof.Machine.execBruFence v t s
  | .bruFwSwitch v t => Sys2Proof.Machine.execBruFwSwitch v t s
  | .secSvnCommit t => Sys2Proof.Machine.execSecSvnCommit t s
  | .hifRebindGo fn v t => Sys2Proof.Machine.execHifRebindGo fn v t s
  | .registerWrite fn bar2 addr bytes v t => Sys2Proof.Machine.execRegisterWrite fn bar2 addr bytes v t s
  | .zwBarrierTimeout core t => Sys2Proof.Machine.execZwBarrierTimeout core t s
  | .zwWatchdog core t => Sys2Proof.Machine.execZwWatchdog core t s
  | .zwMatrixDone core engine t => Sys2Proof.Machine.execZwMatrixDone core engine t s
  | .zwAdd z rd ra rb t => Sys2Proof.Machine.execZwAdd z rd ra rb t s
  | .zwSub z rd ra rb t => Sys2Proof.Machine.execZwSub z rd ra rb t s
  | .zwAnd z rd ra rb t => Sys2Proof.Machine.execZwAnd z rd ra rb t s
  | .zwOr z rd ra rb t => Sys2Proof.Machine.execZwOr z rd ra rb t s
  | .zwXor z rd ra rb t => Sys2Proof.Machine.execZwXor z rd ra rb t s
  | .zwShl z rd ra rb t => Sys2Proof.Machine.execZwShl z rd ra rb t s
  | .zwShr z rd ra rb t => Sys2Proof.Machine.execZwShr z rd ra rb t s
  | .zwSar z rd ra rb t => Sys2Proof.Machine.execZwSar z rd ra rb t s
  | .zwMul z rd ra rb t => Sys2Proof.Machine.execZwMul z rd ra rb t s
  | .zwMin z rd ra rb t => Sys2Proof.Machine.execZwMin z rd ra rb t s
  | .zwMax z rd ra rb t => Sys2Proof.Machine.execZwMax z rd ra rb t s
  | .zwAddi z rd ra imm t => Sys2Proof.Machine.execZwAddi z rd ra imm t s
  | .zwLi z rd imm t => Sys2Proof.Machine.execZwLi z rd imm t s
  | .zwLd z rd ra imm t => Sys2Proof.Machine.execZwLd z rd ra imm t s
  | .zwSt z ra rb imm t => Sys2Proof.Machine.execZwSt z ra rb imm t s
  | .zwCmpeq z rd ra rb t => Sys2Proof.Machine.execZwCmpeq z rd ra rb t s
  | .zwCmplt z rd ra rb t => Sys2Proof.Machine.execZwCmplt z rd ra rb t s
  | .zwCmpltu z rd ra rb t => Sys2Proof.Machine.execZwCmpltu z rd ra rb t s
  | .zwBr z off t => Sys2Proof.Machine.execZwBr z off t s
  | .zwBrp z p off t => Sys2Proof.Machine.execZwBrp z p off t s
  | .zwBrnp z p off t => Sys2Proof.Machine.execZwBrnp z p off t s
  | .zwLoop z sr off t => Sys2Proof.Machine.execZwLoop z sr off t s
  | .zwCall z off t => Sys2Proof.Machine.execZwCall z off t s
  | .zwRet z t => Sys2Proof.Machine.execZwRet z t s
  | .zwBar z off t => Sys2Proof.Machine.execZwBar z off t s
  | .zwHalt z t => Sys2Proof.Machine.execZwHalt z t s
  | .zwTzero z e tile sA t => Sys2Proof.Machine.execZwTzero z e tile sA t s
  | .zwMma z e tile fmtA fmtB sA sB sK t => Sys2Proof.Machine.execZwMma z e tile fmtA fmtB sA sB sK t s
  | .zwTout z e tile fmtA sA sB t => Sys2Proof.Machine.execZwTout z e tile fmtA sA sB t s
  | .zwTimg z e tile sA t => Sys2Proof.Machine.execZwTimg z e tile sA t s
  | .zwTadd z e tile sA t => Sys2Proof.Machine.execZwTadd z e tile sA t s
  | .zwTpre z e fmtA sA sB sK t => Sys2Proof.Machine.execZwTpre z e fmtA sA sB sK t s
  | .zwVadd z vd va vb p pair t => Sys2Proof.Machine.execZwVadd z vd va vb p pair t s
  | .zwVsub z vd va vb p pair t => Sys2Proof.Machine.execZwVsub z vd va vb p pair t s
  | .zwVmul z vd va vb p pair t => Sys2Proof.Machine.execZwVmul z vd va vb p pair t s
  | .zwVmax z vd va vb p pair t => Sys2Proof.Machine.execZwVmax z vd va vb p pair t s
  | .zwVmin z vd va vb p pair t => Sys2Proof.Machine.execZwVmin z vd va vb p pair t s
  | .zwVfma z vd va vb p pair t => Sys2Proof.Machine.execZwVfma z vd va vb p pair t s
  | .zwVld z vd p pair sr t => Sys2Proof.Machine.execZwVld z vd p pair sr t s
  | .zwVst z va p pair sr t => Sys2Proof.Machine.execZwVst z va p pair sr t s
  | .zwVcvt z vd va p pair fmt imm t => Sys2Proof.Machine.execZwVcvt z vd va p pair fmt imm t s
  | .zwVsfu z vd va p pair imm t => Sys2Proof.Machine.execZwVsfu z vd va p pair imm t s
  | .zwVquant z va pair fmt sr t => Sys2Proof.Machine.execZwVquant z va pair fmt sr t s
  | .zwXcopy z dst src len t => Sys2Proof.Machine.execZwXcopy z dst src len t s
  | .zwXsend z dst src len aux t => Sys2Proof.Machine.execZwXsend z dst src len aux t s
  | .zwXstream z dst src len device t => Sys2Proof.Machine.execZwXstream z dst src len device t s
  | .zwXappend z src len aux t => Sys2Proof.Machine.execZwXappend z src len aux t s
  | .zwXgallery z dst src len pkg die t => Sys2Proof.Machine.execZwXgallery z dst src len pkg die t s
  | .zwXfence z t => Sys2Proof.Machine.execZwXfence z t s
  | .zmAdd z rd ra rb t => Sys2Proof.Machine.execZmAdd z rd ra rb t s
  | .zmSub z rd ra rb t => Sys2Proof.Machine.execZmSub z rd ra rb t s
  | .zmAnd z rd ra rb t => Sys2Proof.Machine.execZmAnd z rd ra rb t s
  | .zmOr z rd ra rb t => Sys2Proof.Machine.execZmOr z rd ra rb t s
  | .zmXor z rd ra rb t => Sys2Proof.Machine.execZmXor z rd ra rb t s
  | .zmSll z rd ra rb t => Sys2Proof.Machine.execZmSll z rd ra rb t s
  | .zmSrl z rd ra rb t => Sys2Proof.Machine.execZmSrl z rd ra rb t s
  | .zmSra z rd ra rb t => Sys2Proof.Machine.execZmSra z rd ra rb t s
  | .zmMul z rd ra rb t => Sys2Proof.Machine.execZmMul z rd ra rb t s
  | .zmMulhu z rd ra rb t => Sys2Proof.Machine.execZmMulhu z rd ra rb t s
  | .zmSltu z rd ra rb t => Sys2Proof.Machine.execZmSltu z rd ra rb t s
  | .zmSlt z rd ra rb t => Sys2Proof.Machine.execZmSlt z rd ra rb t s
  | .zmMinu z rd ra rb t => Sys2Proof.Machine.execZmMinu z rd ra rb t s
  | .zmMaxu z rd ra rb t => Sys2Proof.Machine.execZmMaxu z rd ra rb t s
  | .zmDivu z rd ra rb t => Sys2Proof.Machine.execZmDivu z rd ra rb t s
  | .zmAddi z rd ra imm t => Sys2Proof.Machine.execZmAddi z rd ra imm t s
  | .zmAndi z rd ra imm t => Sys2Proof.Machine.execZmAndi z rd ra imm t s
  | .zmOri z rd ra imm t => Sys2Proof.Machine.execZmOri z rd ra imm t s
  | .zmXori z rd ra imm t => Sys2Proof.Machine.execZmXori z rd ra imm t s
  | .zmSlli z rd ra imm t => Sys2Proof.Machine.execZmSlli z rd ra imm t s
  | .zmSrli z rd ra imm t => Sys2Proof.Machine.execZmSrli z rd ra imm t s
  | .zmSrai z rd ra imm t => Sys2Proof.Machine.execZmSrai z rd ra imm t s
  | .zmLui z rd imm t => Sys2Proof.Machine.execZmLui z rd imm t s
  | .zmSltiu z rd ra imm t => Sys2Proof.Machine.execZmSltiu z rd ra imm t s
  | .zmLd z rd ra imm t => Sys2Proof.Machine.execZmLd z rd ra imm t s
  | .zmSt z rd ra imm t => Sys2Proof.Machine.execZmSt z rd ra imm t s
  | .zmLdb z rd ra imm t => Sys2Proof.Machine.execZmLdb z rd ra imm t s
  | .zmStb z rd ra imm t => Sys2Proof.Machine.execZmStb z rd ra imm t s
  | .zmTld z rd ra imm t => Sys2Proof.Machine.execZmTld z rd ra imm t s
  | .zmQput z rd ra imm t => Sys2Proof.Machine.execZmQput z rd ra imm t s
  | .zmQget z rd imm t => Sys2Proof.Machine.execZmQget z rd imm t s
  | .zmQcnt z rd imm t => Sys2Proof.Machine.execZmQcnt z rd imm t s
  | .zmTnow z rd imm t => Sys2Proof.Machine.execZmTnow z rd imm t s
  | .zmTset z ra imm t => Sys2Proof.Machine.execZmTset z ra imm t s
  | .zmBeq z ra rb off t => Sys2Proof.Machine.execZmBeq z ra rb off t s
  | .zmBne z ra rb off t => Sys2Proof.Machine.execZmBne z ra rb off t s
  | .zmBltu z ra rb off t => Sys2Proof.Machine.execZmBltu z ra rb off t s
  | .zmBgeu z ra rb off t => Sys2Proof.Machine.execZmBgeu z ra rb off t s
  | .zmBlt z ra rb off t => Sys2Proof.Machine.execZmBlt z ra rb off t s
  | .zmBge z ra rb off t => Sys2Proof.Machine.execZmBge z ra rb off t s
  | .zmJal z off t => Sys2Proof.Machine.execZmJal z off t s
  | .zmJr z ra t => Sys2Proof.Machine.execZmJr z ra t s
  | .zmOut z ra imm t => Sys2Proof.Machine.execZmOut z ra imm t s
  | .zmEnd z t => Sys2Proof.Machine.execZmEnd z t s
  | .zmTrap z imm t => Sys2Proof.Machine.execZmTrap z imm t s
  | .eidSupplyReturn eid t => Sys2Proof.Machine.execEidSupplyReturn eid t s
  | .vauxLoss t => Sys2Proof.Machine.execVauxLoss t s
  | .destPhaseTimeout handle t => Sys2Proof.Machine.execDestPhaseTimeout handle t s
  | .homeUpdateAck h handle t => Sys2Proof.Machine.execHomeUpdateAck h handle t s
  | .closeNoteAck h handle t => Sys2Proof.Machine.execCloseNoteAck h handle t s
  | .closeNoteRetry handle t => Sys2Proof.Machine.execCloseNoteRetry handle t s
  | .ckpCutAtPt t => Sys2Proof.Machine.execCkpCutAtPt t s
  | .snapshotAtPt t => Sys2Proof.Machine.execSnapshotAtPt t s
  | .patchReadDone fn bytes sig ok t => Sys2Proof.Machine.execPatchReadDone fn bytes sig ok t s
  | .hotListReadDone table sd rows ok t => Sys2Proof.Machine.execHotListReadDone table sd rows ok t s
  | .debugUnlock slot authenticated t => Sys2Proof.Machine.execDebugUnlock slot authenticated t s
  | .ethLinkChange port up t => Sys2Proof.Machine.execEthLinkChange port up t s
  | .attReqPartsTimeout src request t => Sys2Proof.Machine.execAttReqPartsTimeout src request t s

end Sys2Proof.Machine
end

