-- ==== Sys2Proof/Safety.lean ====
section
/-! DEFINITION. What counts as a safe run, what it is for a command to complete, and the situations that statements start
from, in the terms they use. -/
namespace Sys2Proof.Machine

/-- A step is safe when it ends in a next state. -/
def Safe (s : State) : Prop := ∃ t, step s = .next t

/-- A command completes: it answers a next state, and `P` holds of that state. -/
def Completes (c : Instr) (s : State) (P : State → Prop) : Prop := ∃ s', exec c s = .next s' ∧ P s'

/-- A frame has reached the session of a slot that its handle names: the tenant is bound to the frame's function, and
nothing holds the session (R35, R42, R47, R59, R61, R412). -/
def Reaches (s : State) (f : Frame) (slot : Nat) : Prop :=
  s.findHandle f.handle = some slot ∧ s.bound (s.entry slot).tenant f.function = true ∧
  (s.entry slot).detached = false ∧ (s.entry slot).holder = .none ∧ (s.entry slot).lockReport = false ∧
  (s.entry slot).residence ≠ .dormant ∧ (s.sess slot).frozen = false ∧ (s.sess slot).waiting = []

/-- A frame of a dispatch queue has completed with a status: its record waits, last, in the result queue that the
dispatch queue names (R407). -/
def Answered (s s' : State) (f : Frame) (status : Nat) : Prop :=
  f.queue < 64 → ∃ r : Record, r.type = 4 ∧ r.status = status ∧ r.opcode = f.opcode ∧ r.tag = f.tag ∧
    ((s'.fn f.function).rq ((s.fn f.function).dq f.queue).rq).waiting
      = ((s.fn f.function).rq ((s.fn f.function).dq f.queue).rq).waiting ++ [(r, f.notify)]

/-- A received packet passes the checks of its receiving island: its tag, its epoch and its form (R438, R331, R316). -/
def Accepted (s : State) (h : Head) (opcode : Nat) : Prop :=
  h.port < 16 ∧ s.authentic h opcode = true ∧ s.epochOk h = true ∧ formOk h opcode = true

/-- One packet has been handed to the fabric, with this opcode, for this package. -/
def Sent (s s' : State) (opcode pkg : Nat) : Prop :=
  ∃ p : Packet, s'.gallery.sending = s.gallery.sending ++ [p] ∧ p.opcode = opcode ∧ p.dstPkg = pkg

/-- One MIG_CTL message has been handed to the fabric, with this sub-code, for this package (R316). -/
def MigSent (s s' : State) (c : MigCode) (pkg : Nat) : Prop :=
  ∃ p : Packet, s'.gallery.sending = s.gallery.sending ++ [p] ∧ p.opcode = 0x11 ∧ p.dstPkg = pkg ∧
    leAt p.oph 0 1 = c.num

/-! ### Zynut-W and Zynut-M -/

/-- A core is about to issue a bundle (R206, R209, R213): in service and running, at no barrier and in no loop. -/
def ZwReady (s : State) (i : Nat) (c : Core) : Prop :=
  i < 516 ∧ s.coreIn i = true ∧ s.core i = c ∧ c.state = .running ∧ c.barrier = none ∧ c.bundle = none ∧ c.loops = [] ∧
  ∀ r, c.regs.s r < 2 ^ 64

/-- A bundle of one slot, unconditional, that waits for no engine. -/
def zwOne (i : Nat) : ZwIssue := ⟨i, none, true, none, 0, false, none⟩

/-- The pc of the next bundle. -/
def Core.after (c : Core) : Nat := (c.pc + 64) % 2 ^ 64

/-- A slot's bundle has executed: the core is now `q`, and nothing else of the machine but time has changed. -/
def ZwRuns (c : Instr) (s : State) (i : Nat) (q : Core) : Prop :=
  Completes c s fun s' => s'.core i = q ∧ (∀ j, j ≠ i → s'.core j = s.core j) ∧
    s' = { s with pt := s'.pt, now := s'.now, cores := s'.cores }

/-- A core has stopped on an exception (R217): code, slots, and the pc of the bundle. -/
def ZwStops (c : Instr) (s : State) (i code slots : Nat) : Prop :=
  Completes c s fun s' => (s'.core i).state = .stopped ∧ (s'.core i).exc = code ∧ (s'.core i).excSlot = slots ∧
    (s'.core i).excPc = (s.core i).pc ∧ (s'.core i).regs = (s.core i).regs ∧ (s'.core i).sram = (s.core i).sram

/-- A vector slot has executed (R215): each lane `k` of vd, or of the pair it begins, meets `P k`; other registers and
memory are as before. -/
def ZwLanes (c : Instr) (s : State) (i vd : Nat) (pair : Bool) (P : Nat → Nat → Prop) : Prop :=
  Completes c s fun s' =>
    (∀ k, k < (if pair then 128 else 64) → P k (((s'.core i).regs.lanes vd pair).getD k 0)) ∧
    (∀ r, r ≠ vd → ¬ (pair = true ∧ r = vd + 1) → (s'.core i).regs.v r = (s.core i).regs.v r) ∧
    s'.core i = { s.core i with
      regs := { (s.core i).regs with vector := (s'.core i).regs.vector }, pc := (s.core i).after } ∧
    (∀ j, j ≠ i → s'.core j = s.core j) ∧ s'.mem = s.mem ∧ s'.clusterSram = s.clusterSram

/-- A running sequencer whose next word is `w`, an instruction legal at its place, within its limit; its registers hold 32
bits (R220, R223). -/
def ZmAt (s : State) (i w : Nat) (q : Sequencer) : Prop :=
  seqrExists s.cds i = true ∧ s.seqr i = q ∧ q.running = true ∧ (∀ r, q.reg r < 2 ^ 32) ∧
  ∃ z : ZmImage, q.image = some z ∧ z.code[q.pc]? = some w ∧ q.count < z.limit ∧ zmIllegal z.place w = false

/-- A sequencer has executed its word: it is now `q` with one more instruction counted, and nothing else of the machine but
time has changed. -/
def ZmRuns (c : Instr) (s : State) (i : Nat) (q : Sequencer) : Prop :=
  Completes c s fun s' => s'.seqr i = { q with count := q.count + 1 } ∧ (∀ j, j ≠ i → s'.seqr j = s.seqr j) ∧
    s' = { s with pt := s'.pt, now := s'.now, sequencers := s'.sequencers }

/-- A sequencer after a word that writes `v` into rd and goes on. -/
def Sequencer.wrote (q : Sequencer) (rd v : Nat) : Sequencer := { q.setReg rd v with pc := (q.pc + 1) % 2 ^ 32 }

/-- A sequencer's run has faulted (R223): it has no output, and the fault record names code, pc and run. -/
def ZmFaults (c : Instr) (s : State) (i code : Nat) (q : Sequencer) : Prop :=
  Completes c s fun s' => (s'.seqr i).running = false ∧ (s'.seqr i).faultCode = code ∧ (s'.seqr i).faultPc = q.pc % 4096 ∧
    (s'.seqr i).faultRun = q.runs ∧ (s'.seqr i).queue = []

/-! ### Frames and the invariant -/

/-- What a command leaves as it was: when it answers a next state, that state is `K s` of itself, where `K s t` takes only
named parts from `t`. -/
def Keeps (K : State → State → State) (c : Instr) : Prop := ∀ s s', exec c s = .next s' → s' = K s s'

/-- Memories are in canonical form and registers hold their widths: state memory, each core's SRAM and each cluster's SRAM
list rising addresses and no byte that reads 0 anyway; a Zynut-W scalar register holds 64 bits (R206) and a Zynut-M register
32 (R220). -/
def Sound (s : State) : Prop :=
  Memory.wf s.mem = true ∧
  (∀ c ∈ s.cores, Memory.wf c.2.sram = true ∧ ∀ r ∈ c.2.regs.scalar, r.2 < 2 ^ 64) ∧
  (∀ m ∈ s.clusterSram, Memory.wf m.2 = true) ∧
  ∀ q ∈ s.sequencers, ∀ r ∈ q.2.regs, r.2 < 2 ^ 32

end Sys2Proof.Machine
end

