-- ==== Sys2Proof/WellFormed.lean ====
section
/-! DEFINITION. Which commands can arrive: operands name units that exist and have the widths the spec gives them. -/
namespace Sys2Proof
open Machine

/-- A stamp is a value of Package Time (R14). -/
def stampOk (t : Nat) : Bool := decide (t < 2 ^ 64)

/-- A frame has the header fields' widths and 32 bytes of body (R400). -/
def Machine.Frame.wf (f : Frame) : Bool :=
  f.function < 128 && f.queue ≤ 64 && f.len < 2 ^ 32 && f.opcode < 2 ^ 16 && f.flags < 2 ^ 16 && f.handle < 2 ^ 64
    && f.tag < 2 ^ 64 && f.param < 2 ^ 64 && f.body.length == 32

/-- A packet header has a port that exists and fields of their widths (R311). -/
def Machine.Head.wf (h : Head) : Bool :=
  portExists h && h.srcPkg < 2 ^ 14 && h.srcDie < 32 && h.dstDie < 32 && h.tc < 8

/-- A slot of a bundle: a core that exists, a predicate, seven WAIT bits, a slot of the eight or the header (R209). -/
def Machine.ZwIssue.wf (z : ZwIssue) : Bool :=
  z.core < 516 && (z.cond.all fun c => c.1 < 8) && z.wait < 128 && (z.illegal.all fun k => k ≤ 8)

/-- An instruction's sequencer exists on the full part (R224). -/
def Machine.ZmIssue.wf (z : ZmIssue) : Bool := seqrExists 16 z.seqr

/-- A command whose operands name units that exist and carry fields of their widths. -/
def Instr.wellFormed (i : Instr) : Bool :=
  match i with
  | .dqTailWrite fn q v t => queueExists fn q && v < 2 ^ 64 && stampOk t
  | .rqHeadWrite fn q v t => queueExists fn q && v < 2 ^ 64 && stampOk t
  | .textHeadWrite fn v t => fn < 128 && v < 2 ^ 64 && stampOk t
  | .dqCtlEnableWrite fn ring v t => ring.exists_ && fn < 128 && v < 2 ^ 64 && stampOk t
  | .frameFetch fn q _ t => queueExists fn q && stampOk t
  | .timedFrameRelease fn q _ t => queueExists fn q && stampOk t
  | .statusRecordWrite fn q t => queueExists fn q && stampOk t
  | .recordDeliver slot t => slot < 2 ^ 22 && stampOk t
  | .modUsExpire fn q t => queueExists fn q && stampOk t
  | .functionLevelReset fn t => fn < 128 && stampOk t
  | .vfDisable fn t => fn % 64 != 0 && fn < 128 && stampOk t
  | .surpriseDown port t => port < 2 && stampOk t
  | .hostAttach port vfs t => port < 2 && vfs < 64 && stampOk t
  | .drainTimeout unit t => unit.exists_ && stampOk t
  | .ideStreamStop fn t => fn < 128 && stampOk t
  | .sessionOpen f t => f.wf && stampOk t
  | .openPrepared slot t => slot < 2 ^ 22 && stampOk t
  | .sessionAppend f t => f.wf && stampOk t
  | .timedAppendRelease slot t => slot < 2 ^ 22 && stampOk t
  | .sessionResume f t => f.wf && stampOk t
  | .sessionHold f t => f.wf && stampOk t
  | .sessionRelease f t => f.wf && stampOk t
  | .sessionPark f t => f.wf && stampOk t
  | .sessionCancel f t => f.wf && stampOk t
  | .sessionClose f t => f.wf && stampOk t
  | .closeReleaseDone slot t => slot < 2 ^ 22 && stampOk t
  | .sessionFork f t => f.wf && stampOk t
  | .sessionMigrate f t => f.wf && stampOk t
  | .sessionWaitPeer f t => f.wf && stampOk t
  | .sessionRestore f _ t => f.wf && stampOk t
  | .restorePagesPlaced slot _ _ t => slot < 2 ^ 22 && stampOk t
  | .rowLookup f sd t => f.wf && sd < 12 && stampOk t
  | .rowUpdate f t => f.wf && stampOk t
  | .tableSwitch f t => f.wf && stampOk t
  | .recallQuery f sd t => f.wf && sd < 12 && stampOk t
  | .recallInsert f t => f.wf && stampOk t
  | .recallShardScanDone _ sd t => sd < 12 && stampOk t
  | .adapterLoad f t => f.wf && stampOk t
  | .adapterImageReadDone _ sd _ _ t => sd < 12 && stampOk t
  | .adapterSwitch f t => f.wf && stampOk t
  | .ckpCut f t => f.wf && stampOk t
  | .ckpRestoreGroup f _ t => f.wf && stampOk t
  | .probe f t => f.wf && stampOk t
  | .textInput slot _ t => slot < 2 ^ 22 && stampOk t
  | .textFrameResume slot t => slot < 2 ^ 22 && stampOk t
  | .timerFire slot t => slot < 2 ^ 22 && stampOk t
  | .timeoutCommit slot t => slot < 2 ^ 22 && stampOk t
  | .notBeforeReached slot t => slot < 2 ^ 22 && stampOk t
  | .leaseLapse slot t => slot < 2 ^ 22 && stampOk t
  | .peerComplete slot _ t => slot < 2 ^ 22 && stampOk t
  | .outboxRecordWrite slot t => slot < 2 ^ 22 && stampOk t
  | .stepForm _ t => stampOk t
  | .stepPacingExpire _ t => stampOk t
  | .quotaReservation tenant tier _ _ t => tenant < 2 ^ 16 && tier < 3 && stampOk t
  | .quotaRelease tenant tier _ t => tenant < 2 ^ 16 && tier < 3 && stampOk t
  | .kvAppend _ slot layer _ t => slot < 2 ^ 22 && layer < 2 ^ 16 && stampOk t
  | .spanDispatch _ slot _ _ _ t => slot < 2 ^ 22 && stampOk t
  | .spanPartialDone _ slot _ _ _ _ t => slot < 2 ^ 22 && stampOk t
  | .samplerDraw slot _ _ _ _ t => slot < 2 ^ 22 && stampOk t
  | .s1Suspend layer t => layer < 2 ^ 16 && stampOk t
  | .s1Resume t => stampOk t
  | .sealIssue _ t => stampOk t
  | .sealApply _ sd t => sd < 12 && stampOk t
  | .stepOutcome _ t => stampOk t
  | .memberRemove _ slot _ t => slot < 2 ^ 22 && stampOk t
  | .stepAbandon _ t => stampOk t
  | .remoteTimeout _ slot request _ _ t => slot < 2 ^ 22 && request < 2 ^ 32 && stampOk t
  | .mgmtFailover t => stampOk t
  | .cageRequest page tier _ _ t => page < 2 ^ 48 && tier < 3 && stampOk t
  | .cageCopyDone _ _ t => stampOk t
  | .cageSwitchPoint _ t => stampOk t
  | .cageRelease _ t => stampOk t
  | .accessDecay sd t => sd < 12 && stampOk t
  | .tierPolicyRun sd _ _ t => sd < 12 && stampOk t
  | .prefixRetentionSweep sd t => sd < 12 && stampOk t
  | .hoistIssue die chan _ t => chanExists die chan && stampOk t
  | .hoistSegmentDone die chan _ _ t => chanExists die chan && stampOk t
  | .hoistProgramRun die chan _ _ t => chanExists die chan && stampOk t
  | .hoistChannelReset die chan t => chanExists die chan && stampOk t
  | .segmentResend die chan _ t => chanExists die chan && stampOk t
  | .migCopyDone slot die chan _ _ t => chanExists die chan && slot < 2 ^ 22 && stampOk t
  | .prepare h _ t => h.wf && stampOk t
  | .ready h slot _ t => h.wf && slot < 2 ^ 22 && stampOk t
  | .handover h handle _ _ t => h.wf && handle < 2 ^ 64 && stampOk t
  | .committed h slot t => h.wf && slot < 2 ^ 22 && stampOk t
  | .abortReq h handle _ t => h.wf && handle < 2 ^ 64 && stampOk t
  | .aborted h slot t => h.wf && slot < 2 ^ 22 && stampOk t
  | .homeUpdate h handle _ _ t => h.wf && handle < 2 ^ 64 && stampOk t
  | .closeNote h handle t => h.wf && handle < 2 ^ 64 && stampOk t
  | .sealNote h handle _ t => h.wf && handle < 2 ^ 64 && stampOk t
  | .dropNote h handle _ t => h.wf && handle < 2 ^ 64 && stampOk t
  | .phaseTimeout slot t => slot < 2 ^ 22 && stampOk t
  | .codewordUncorrectable port _ t => port < 16 && stampOk t
  | .linkControlFlit port _ _ _ t => port < 16 && stampOk t
  | .portTrained port _ t => port < 16 && stampOk t
  | .laneLockLoss port t => port < 16 && stampOk t
  | .rollCallSend port t => port < 16 && stampOk t
  | .rollCall h _ _ _ _ _ epoch t => h.wf && epoch < 2 ^ 64 && stampOk t
  | .rollCallMissed port t => port < 16 && stampOk t
  | .syncSend t => stampOk t
  | .sync h _ t => h.wf && stampOk t
  | .syncReply h _ _ _ t => h.wf && stampOk t
  | .syncLost t => stampOk t
  | .packetEnqueue _ t => stampOk t
  | .egressSelect port t => port < 16 && stampOk t
  | .packetTransit _ t => stampOk t
  | .transitCreditTimeout port tc t => port < 16 && tc < 8 && stampOk t
  | .segData h _ _ _ addr _ _ t => h.wf && addr < 2 ^ 48 && stampOk t
  | .segAck h die chan _ _ _ t => chanExists die chan && h.wf && stampOk t
  | .groupCtl h _ epoch _ t => h.wf && epoch < 2 ^ 64 && stampOk t
  | .attReq h handle layer _ _ _ request _ _ tenant model sd _ t => h.wf && handle < 2 ^ 64 && layer < 2 ^ 16 && request < 2 ^ 32 && tenant < 2 ^ 16 && model < 2 ^ 16 && sd < 12 && stampOk t
  | .attReply h _ request _ _ t => h.wf && request < 2 ^ 32 && stampOk t
  | .expertTokens h _ layer _ _ request _ _ t => h.wf && layer < 2 ^ 16 && request < 2 ^ 32 && stampOk t
  | .expertReply h _ slot request _ _ t => h.wf && slot < 2 ^ 22 && request < 2 ^ 32 && stampOk t
  | .accImages h _ _ _ _ _ t => h.wf && stampOk t
  | .anchor h _ _ _ _ _ t => h.wf && stampOk t
  | .rowReq h _ request _ t => h.wf && request < 2 ^ 32 && stampOk t
  | .rowReply h request _ t => h.wf && request < 2 ^ 32 && stampOk t
  | .rowUpd h _ _ handle _ _ _ _ t => h.wf && handle < 2 ^ 64 && stampOk t
  | .kernelData h addr _ t => h.wf && addr < 2 ^ 48 && stampOk t
  | .kvPush h handle _ _ _ t => h.wf && handle < 2 ^ 64 && stampOk t
  | .mgmt h _ _ t => h.wf && stampOk t
  | .hotCacheRefresh sd t => sd < 12 && stampOk t
  | .tick1ms t => stampOk t
  | .stagingCopyDone page t => page < 2 ^ 48 && stampOk t
  | .ckpStoreWriteDone _ _ t => stampOk t
  | .ckpManifestDurable t => stampOk t
  | .storeTimeout t => stampOk t
  | .uvDetect eid _ t => eid < 2 && stampOk t
  | .busRecover eid t => eid < 2 && stampOk t
  | .drainStart t => stampOk t
  | .journalEntryStart slot t => slot < 2 ^ 22 && stampOk t
  | .journalCapture _ page t => page < 2 ^ 48 && stampOk t
  | .journalPayloadDone _ _ _ t => stampOk t
  | .journalCommit _ _ t => stampOk t
  | .drainEnd _ t => stampOk t
  | .thermalDrain _ _ t => stampOk t
  | .thermtrip die t => die < 32 && stampOk t
  | .pwrgdAssert _ => true
  | .resetNAssert t => stampOk t
  | .pwrgdFall t => stampOk t
  | .vinPkgLoss t => stampOk t
  | .eidSupplyLoss eid t => eid < 2 && stampOk t
  | .currentLoopRun eid _ _ _ _ _ request _ t => eid < 2 && request < 2 ^ 32 && stampOk t
  | .voltageLoopRun _ _ _ _ _ _ _ _ _ _ t => stampOk t
  | .thermalLoopRun _ _ _ _ _ _ _ _ t => stampOk t
  | .healthTest eid _ _ t => eid < 2 && stampOk t
  | .energyRecompute t => stampOk t
  | .pmbusPoll _ _ t => stampOk t
  | .capRelax _ t => stampOk t
  | .loopFaultHoldExpire t => stampOk t
  | .loopSwapTimeout eid t => eid < 2 && stampOk t
  | .prechargeDone eid _ t => eid < 2 && stampOk t
  | .chargeDone eid t => eid < 2 && stampOk t
  | .contactorOpen eid t => eid < 2 && stampOk t
  | .pwrCapWrite v t => v < 2 ^ 64 && stampOk t
  | .eidRetire eid t => eid < 2 && stampOk t
  | .eidAdmit eid t => eid < 2 && stampOk t
  | .expanderAttach pool _ _ _ t => pool < 8 && stampOk t
  | .expanderRemoval pool _ t => pool < 8 && stampOk t
  | .xpnEvacuate pool t => pool < 8 && stampOk t
  | .xpnCancel pool t => pool < 8 && stampOk t
  | .evacuatePassDone pool t => pool < 8 && stampOk t
  | .driveDown drive t => drive < 2 && stampOk t
  | .driveAttach drive _ _ _ _ _ t => drive < 2 && stampOk t
  | .ethFrameReceive port _ _ t => port < 2 && stampOk t
  | .p0Done pos t => pos < 4 && stampOk t
  | .romSelftestDone iod _ t => iod < 2 && stampOk t
  | .electionTimeout t => stampOk t
  | .stage1Verify _ _ _ _ _ t => stampOk t
  | .recoveryImage _ t => stampOk t
  | .assayDone _ _ t => stampOk t
  | .mapProgram _ t => stampOk t
  | .firmwareBroadcast _ _ _ _ _ t => stampOk t
  | .firmwareFetch die unit _ t => die < 30 && unit < 64 && (16 ≤ die || unit < 36) && stampOk t
  | .journalRecovery _ t => stampOk t
  | .headframeCommit _ _ t => stampOk t
  | .weightShardReadDone model _ _ t => model < 2 ^ 16 && stampOk t
  | .getVersion t => stampOk t
  | .getCapabilities t => stampOk t
  | .negotiateAlgorithms _ t => stampOk t
  | .getDigests t => stampOk t
  | .getCertificate slot t => slot < 256 && stampOk t
  | .challenge slot t => slot < 256 && stampOk t
  | .getMeasurements _ _ t => stampOk t
  | .keyExchange _ t => stampOk t
  | .finish _ _ _ t => stampOk t
  | .endSession _ t => stampOk t
  | .heartbeat _ t => stampOk t
  | .keyUpdate _ t => stampOk t
  | .setJobKey _ _ _ _ t => stampOk t
  | .clearJobKey _ _ _ t => stampOk t
  | .setCkpKey _ _ t => stampOk t
  | .ownerEnrol _ _ _ t => stampOk t
  | .keyManifest position _ t => position < 4 && stampOk t
  | .ideKm _ port stream _ _ t => port < 2 && stream ≤ 8 && stampOk t
  | .tdispRequest fn _ t => fn < 128 && stampOk t
  | .fwStage cls _ _ _ t => cls < 5 && stampOk t
  | .pldmPmcRequest _ t => stampOk t
  | .ctBegin fn v t => isPf fn && v % 8 == 1 && v < 2 ^ 64 && stampOk t
  | .ctCommit fn v t => isPf fn && v % 8 == 2 && v < 2 ^ 64 && stampOk t
  | .ctAbort fn v t => isPf fn && v % 8 == 3 && v < 2 ^ 64 && stampOk t
  | .ctLoadPatch fn v t => isPf fn && v % 8 == 4 && v < 2 ^ 64 && stampOk t
  | .ctCmdInvalidOp fn v t => isPf fn && (v % 8 == 0 || 5 ≤ v % 8) && v < 2 ^ 64 && stampOk t
  | .ctStageWrite fn addr v t => isPf fn && (regAt 16 addr).any fun d => d.ct != 0 && v < 2 ^ 64 && stampOk t
  | .ctApplyAtPt t => stampOk t
  | .w1cClear addr v t => addr < 2 ^ 48 && v < 2 ^ 64 && stampOk t
  | .obsSnapGo fn v _ t => isPf fn && v < 2 ^ 64 && stampOk t
  | .snapshotWritten t => stampOk t
  | .obsCic fn v t => isPf fn && v < 2 ^ 64 && stampOk t
  | .obsHwmClr fn v t => isPf fn && v < 2 ^ 64 && stampOk t
  | .tfqHwmRead port tc t => port < 16 && tc < 8 && stampOk t
  | .errSelWrite port v t => port < 2 && v < 2 ^ 64 && stampOk t
  | .errClear v t => v < 2 ^ 64 && stampOk t
  | .errorDetect cls die _ _ _ _ t => cls < 4 && die < 32 && stampOk t
  | .ledTselWrite port v t => port < 2 && v < 2 ^ 64 && stampOk t
  | .ledDump fn v t => isPf fn && v < 2 ^ 64 && stampOk t
  | .ledDumpWritten _ t => stampOk t
  | .bruFence v t => v < 2 ^ 64 && stampOk t
  | .bruFwSwitch v t => v < 2 ^ 64 && stampOk t
  | .secSvnCommit t => stampOk t
  | .hifRebindGo fn v t => fn < 128 && v < 2 ^ 64 && stampOk t
  | .registerWrite fn _ addr _ v t => fn < 128 && addr < 2 ^ 48 && v < 2 ^ 64 && stampOk t
  | .zwBarrierTimeout core t => core < 516 && stampOk t
  | .zwWatchdog core t => core < 516 && stampOk t
  | .zwMatrixDone core engine t => core < 516 && engine < 4 && stampOk t
  | .zwAdd z rd ra rb t => z.wf && rd < 32 && ra < 32 && rb < 32 && stampOk t
  | .zwSub z rd ra rb t => z.wf && rd < 32 && ra < 32 && rb < 32 && stampOk t
  | .zwAnd z rd ra rb t => z.wf && rd < 32 && ra < 32 && rb < 32 && stampOk t
  | .zwOr z rd ra rb t => z.wf && rd < 32 && ra < 32 && rb < 32 && stampOk t
  | .zwXor z rd ra rb t => z.wf && rd < 32 && ra < 32 && rb < 32 && stampOk t
  | .zwShl z rd ra rb t => z.wf && rd < 32 && ra < 32 && rb < 32 && stampOk t
  | .zwShr z rd ra rb t => z.wf && rd < 32 && ra < 32 && rb < 32 && stampOk t
  | .zwSar z rd ra rb t => z.wf && rd < 32 && ra < 32 && rb < 32 && stampOk t
  | .zwMul z rd ra rb t => z.wf && rd < 32 && ra < 32 && rb < 32 && stampOk t
  | .zwMin z rd ra rb t => z.wf && rd < 32 && ra < 32 && rb < 32 && stampOk t
  | .zwMax z rd ra rb t => z.wf && rd < 32 && ra < 32 && rb < 32 && stampOk t
  | .zwAddi z rd ra imm t => z.wf && rd < 32 && ra < 32 && imm < 2 ^ 41 && stampOk t
  | .zwLi z rd imm t => z.wf && rd < 32 && imm < 2 ^ 41 && stampOk t
  | .zwLd z rd ra imm t => z.wf && rd < 32 && ra < 32 && imm < 2 ^ 41 && stampOk t
  | .zwSt z ra rb imm t => z.wf && ra < 32 && rb < 32 && imm < 2 ^ 41 && stampOk t
  | .zwCmpeq z rd ra rb t => z.wf && rd < 32 && ra < 32 && rb < 32 && stampOk t
  | .zwCmplt z rd ra rb t => z.wf && rd < 32 && ra < 32 && rb < 32 && stampOk t
  | .zwCmpltu z rd ra rb t => z.wf && rd < 32 && ra < 32 && rb < 32 && stampOk t
  | .zwBr z off t => z.wf && off < 2 ^ 20 && stampOk t
  | .zwBrp z p off t => z.wf && p < 8 && off < 2 ^ 20 && stampOk t
  | .zwBrnp z p off t => z.wf && p < 8 && off < 2 ^ 20 && stampOk t
  | .zwLoop z sr off t => z.wf && sr < 32 && off < 2 ^ 20 && stampOk t
  | .zwCall z off t => z.wf && off < 2 ^ 20 && stampOk t
  | .zwRet z t => z.wf && stampOk t
  | .zwBar z off t => z.wf && off < 2 ^ 20 && stampOk t
  | .zwHalt z t => z.wf && stampOk t
  | .zwTzero z e tile sA t => z.wf && e < 4 && tile < 8 && sA < 32 && stampOk t
  | .zwMma z e tile fmtA fmtB sA sB sK t => z.wf && e < 4 && tile < 8 && fmtA < 16 && fmtB < 16 && sA < 32 && sB < 32 && sK < 32 && stampOk t
  | .zwTout z e tile fmtA sA sB t => z.wf && e < 4 && tile < 8 && fmtA < 16 && sA < 32 && sB < 32 && stampOk t
  | .zwTimg z e tile sA t => z.wf && e < 4 && tile < 8 && sA < 32 && stampOk t
  | .zwTadd z e tile sA t => z.wf && e < 4 && tile < 8 && sA < 32 && stampOk t
  | .zwTpre z e fmtA sA sB sK t => z.wf && e < 4 && fmtA < 16 && sA < 32 && sB < 32 && sK < 32 && stampOk t
  | .zwVadd z vd va vb p _ t => z.wf && vd < 32 && va < 32 && vb < 32 && p < 8 && stampOk t
  | .zwVsub z vd va vb p _ t => z.wf && vd < 32 && va < 32 && vb < 32 && p < 8 && stampOk t
  | .zwVmul z vd va vb p _ t => z.wf && vd < 32 && va < 32 && vb < 32 && p < 8 && stampOk t
  | .zwVmax z vd va vb p _ t => z.wf && vd < 32 && va < 32 && vb < 32 && p < 8 && stampOk t
  | .zwVmin z vd va vb p _ t => z.wf && vd < 32 && va < 32 && vb < 32 && p < 8 && stampOk t
  | .zwVfma z vd va vb p _ t => z.wf && vd < 32 && va < 32 && vb < 32 && p < 8 && stampOk t
  | .zwVld z vd p _ sr t => z.wf && vd < 32 && p < 8 && sr < 32 && stampOk t
  | .zwVst z va p _ sr t => z.wf && va < 32 && p < 8 && sr < 32 && stampOk t
  | .zwVcvt z vd va p _ fmt imm t => z.wf && vd < 32 && va < 32 && p < 8 && fmt < 16 && imm < 2 ^ 33 && stampOk t
  | .zwVsfu z vd va p _ imm t => z.wf && vd < 32 && va < 32 && p < 8 && imm < 2 ^ 33 && stampOk t
  | .zwVquant z va _ fmt sr t => z.wf && va < 32 && fmt < 16 && sr < 32 && stampOk t
  | .zwXcopy z dst src len t => z.wf && dst < 32 && src < 32 && len < 32 && stampOk t
  | .zwXsend z dst src len aux t => z.wf && dst < 32 && src < 32 && len < 32 && aux < 32 && stampOk t
  | .zwXstream z dst src len _ t => z.wf && dst < 32 && src < 32 && len < 32 && stampOk t
  | .zwXappend z src len aux t => z.wf && src < 32 && len < 32 && aux < 32 && stampOk t
  | .zwXgallery z dst src len pkg die t => z.wf && dst < 32 && src < 32 && len < 32 && pkg < 2 ^ 14 && die < 32 && stampOk t
  | .zwXfence z t => z.wf && stampOk t
  | .zmAdd z rd ra rb t => z.wf && rd < 16 && ra < 16 && rb < 16 && stampOk t
  | .zmSub z rd ra rb t => z.wf && rd < 16 && ra < 16 && rb < 16 && stampOk t
  | .zmAnd z rd ra rb t => z.wf && rd < 16 && ra < 16 && rb < 16 && stampOk t
  | .zmOr z rd ra rb t => z.wf && rd < 16 && ra < 16 && rb < 16 && stampOk t
  | .zmXor z rd ra rb t => z.wf && rd < 16 && ra < 16 && rb < 16 && stampOk t
  | .zmSll z rd ra rb t => z.wf && rd < 16 && ra < 16 && rb < 16 && stampOk t
  | .zmSrl z rd ra rb t => z.wf && rd < 16 && ra < 16 && rb < 16 && stampOk t
  | .zmSra z rd ra rb t => z.wf && rd < 16 && ra < 16 && rb < 16 && stampOk t
  | .zmMul z rd ra rb t => z.wf && rd < 16 && ra < 16 && rb < 16 && stampOk t
  | .zmMulhu z rd ra rb t => z.wf && rd < 16 && ra < 16 && rb < 16 && stampOk t
  | .zmSltu z rd ra rb t => z.wf && rd < 16 && ra < 16 && rb < 16 && stampOk t
  | .zmSlt z rd ra rb t => z.wf && rd < 16 && ra < 16 && rb < 16 && stampOk t
  | .zmMinu z rd ra rb t => z.wf && rd < 16 && ra < 16 && rb < 16 && stampOk t
  | .zmMaxu z rd ra rb t => z.wf && rd < 16 && ra < 16 && rb < 16 && stampOk t
  | .zmDivu z rd ra rb t => z.wf && rd < 16 && ra < 16 && rb < 16 && stampOk t
  | .zmAddi z rd ra imm t => z.wf && rd < 16 && ra < 16 && imm < 2 ^ 18 && stampOk t
  | .zmAndi z rd ra imm t => z.wf && rd < 16 && ra < 16 && imm < 2 ^ 18 && stampOk t
  | .zmOri z rd ra imm t => z.wf && rd < 16 && ra < 16 && imm < 2 ^ 18 && stampOk t
  | .zmXori z rd ra imm t => z.wf && rd < 16 && ra < 16 && imm < 2 ^ 18 && stampOk t
  | .zmSlli z rd ra imm t => z.wf && rd < 16 && ra < 16 && imm < 2 ^ 18 && stampOk t
  | .zmSrli z rd ra imm t => z.wf && rd < 16 && ra < 16 && imm < 2 ^ 18 && stampOk t
  | .zmSrai z rd ra imm t => z.wf && rd < 16 && ra < 16 && imm < 2 ^ 18 && stampOk t
  | .zmLui z rd imm t => z.wf && rd < 16 && imm < 2 ^ 18 && stampOk t
  | .zmSltiu z rd ra imm t => z.wf && rd < 16 && ra < 16 && imm < 2 ^ 18 && stampOk t
  | .zmLd z rd ra imm t => z.wf && rd < 16 && ra < 16 && imm < 2 ^ 18 && stampOk t
  | .zmSt z rd ra imm t => z.wf && rd < 16 && ra < 16 && imm < 2 ^ 18 && stampOk t
  | .zmLdb z rd ra imm t => z.wf && rd < 16 && ra < 16 && imm < 2 ^ 18 && stampOk t
  | .zmStb z rd ra imm t => z.wf && rd < 16 && ra < 16 && imm < 2 ^ 18 && stampOk t
  | .zmTld z rd ra imm t => z.wf && rd < 16 && ra < 16 && imm < 2 ^ 18 && stampOk t
  | .zmQput z rd ra imm t => z.wf && rd < 16 && ra < 16 && imm < 2 ^ 18 && stampOk t
  | .zmQget z rd imm t => z.wf && rd < 16 && imm < 2 ^ 18 && stampOk t
  | .zmQcnt z rd imm t => z.wf && rd < 16 && imm < 2 ^ 18 && stampOk t
  | .zmTnow z rd imm t => z.wf && rd < 16 && imm < 2 ^ 18 && stampOk t
  | .zmTset z ra imm t => z.wf && ra < 16 && imm < 2 ^ 18 && stampOk t
  | .zmBeq z ra rb off t => z.wf && ra < 16 && rb < 16 && off < 2 ^ 18 && stampOk t
  | .zmBne z ra rb off t => z.wf && ra < 16 && rb < 16 && off < 2 ^ 18 && stampOk t
  | .zmBltu z ra rb off t => z.wf && ra < 16 && rb < 16 && off < 2 ^ 18 && stampOk t
  | .zmBgeu z ra rb off t => z.wf && ra < 16 && rb < 16 && off < 2 ^ 18 && stampOk t
  | .zmBlt z ra rb off t => z.wf && ra < 16 && rb < 16 && off < 2 ^ 18 && stampOk t
  | .zmBge z ra rb off t => z.wf && ra < 16 && rb < 16 && off < 2 ^ 18 && stampOk t
  | .zmJal z off t => z.wf && off < 2 ^ 26 && stampOk t
  | .zmJr z ra t => z.wf && ra < 16 && stampOk t
  | .zmOut z ra imm t => z.wf && ra < 16 && imm < 2 ^ 18 && stampOk t
  | .zmEnd z t => z.wf && stampOk t
  | .zmTrap z imm t => z.wf && imm < 2 ^ 18 && stampOk t
  | .eidSupplyReturn eid t => eid < 2 && stampOk t
  | .vauxLoss t => stampOk t
  | .destPhaseTimeout handle t => handle < 2 ^ 64 && stampOk t
  | .homeUpdateAck h handle t => h.wf && handle < 2 ^ 64 && stampOk t
  | .closeNoteAck h handle t => h.wf && handle < 2 ^ 64 && stampOk t
  | .closeNoteRetry handle t => handle < 2 ^ 64 && stampOk t
  | .ckpCutAtPt t => stampOk t
  | .snapshotAtPt t => stampOk t
  | .patchReadDone fn _ _ _ t => isPf fn && stampOk t
  | .hotListReadDone _ sd _ _ t => sd < 12 && stampOk t
  | .debugUnlock slot _ t => slot < 256 && stampOk t
  | .ethLinkChange port _ t => port < 2 && stampOk t
  | .attReqPartsTimeout _ request t => request < 2 ^ 32 && stampOk t

end Sys2Proof
end

