-- ==== Sys2Proof/Certificates/Slice0/Obligations.lean ====
section
/-! DEFINITION. The statements for the provers. Each is a proposition about the model; its docstring names the rules of
spec/ it formalises. -/

open Sys2Proof Sys2Proof.Machine

/-- R399, R406, R410: a write of DQ_TAIL, RQ_HEAD or TEXT_HEAD of an enabled ring takes the index modulo the ring's size,
and changes nothing else of the dispatch queue or the text ring.

R398, R400: a write of DQ_CTL with ENABLE enables a stopped queue whose size is in range; with a size out of range the
queue stays disabled; a write with ENABLE 0 resets head, tail and FAULT. The function's TDI leaves configuration writes
free. -/
def Obligations.QueuesAreDrivenByTheirRegisters : Prop :=
  (∀ (s : State) (fn q v t : Nat), fn < 128 → q < 64 →
    (((s.fn fn).dq q).enabled = true →
      Completes (.dqTailWrite fn q v t) s fun s' =>
        (s'.fn fn).dq q = { (s.fn fn).dq q with tail := v % 2 ^ 32 % 2 ^ ((s.fn fn).dq q).log2 }) ∧
    (((s.fn fn).rq q).enabled = true →
      Completes (.rqHeadWrite fn q v t) s fun s' =>
        ((s'.fn fn).rq q).head = v % 2 ^ 32 % 2 ^ ((s.fn fn).rq q).log2 ∧
        ((s'.fn fn).rq q).tail = ((s.fn fn).rq q).tail ∧ ((s'.fn fn).rq q).waiting = ((s.fn fn).rq q).waiting) ∧
    ((s.fn fn).text.enabled = true →
      Completes (.textHeadWrite fn v t) s fun s' =>
        (s'.fn fn).text = { (s.fn fn).text with head := v % 2 ^ 32 % 2 ^ (s.fn fn).text.log2 })) ∧
  (∀ (s : State) (fn q v t : Nat), fn < 128 → q < 64 → s.tdiLocked fn = false →
    (((s.fn fn).dq q).enabled = false → ((s.fn fn).dq q).fault = false → bitOf v 16 = true →
      6 ≤ fld v 4 0 → fld v 4 0 ≤ 16 →
      Completes (.dqCtlEnableWrite fn (.dispatch q) v t) s fun s' =>
        (s'.fn fn).dq q = { (s.fn fn).dq q with log2 := fld v 4 0, rq := fld v 13 8, enabled := true }) ∧
    (((s.fn fn).dq q).enabled = false → ((s.fn fn).dq q).fault = false → bitOf v 16 = true →
      fld v 4 0 < 6 ∨ 16 < fld v 4 0 →
      Completes (.dqCtlEnableWrite fn (.dispatch q) v t) s fun s' => ((s'.fn fn).dq q).enabled = false) ∧
    (((s.fn fn).dq q).enabled = true ∨ ((s.fn fn).dq q).fault = true → bitOf v 16 = false →
      Completes (.dqCtlEnableWrite fn (.dispatch q) v t) s fun s' =>
        ((s'.fn fn).dq q).enabled = false ∧ ((s'.fn fn).dq q).fault = false ∧
        ((s'.fn fn).dq q).head = 0 ∧ ((s'.fn fn).dq q).tail = 0))

/-- R399, R400, R403, R445, R449: on a package that is READY the port takes a whole frame that passes the header checks,
is not held for NOT_BEFORE and is not confidential: the head moves past it and is written to host memory, and the frame is in flight. A held frame is
forwarded at NOT_BEFORE.

R405, R406, R407: the oldest completion that waits is written at the queue's tail once there is room, with the queue's
phase; MOD_US raises the queue's vector while records are pending. -/
def Obligations.FramesAndRecordsPassTheQueues : Prop :=
  (∀ (s : State) (fn q t : Nat) (bs : List Byte) (slots seq : Nat), fn < 128 → q < 64 →
    (((s.fn fn).dq q).enabled = true → ((s.fn fn).dq q).fault = false → (s.fn fn).state = .enabled →
      ((s.fn fn).dq q).inFlight.length < 256 → s.boot.ready = true → s.security.conf = false →
      headerCheck (2 ^ ((s.fn fn).dq q).log2) (leAt bs 0 4) (parseFrame fn q ((s.fn fn).dq q).fetched bs) = .pass slots →
      (parseFrame fn q ((s.fn fn).dq q).fetched bs).timed = false → 0 < slots →
      slots ≤ (((s.fn fn).dq q).tail + 2 ^ ((s.fn fn).dq q).log2 - ((s.fn fn).dq q).head % 2 ^ ((s.fn fn).dq q).log2)
        % 2 ^ ((s.fn fn).dq q).log2 →
      Completes (.frameFetch fn q bs t) s fun s' =>
        (s'.fn fn).dq q = { (s.fn fn).dq q with
          head := (((s.fn fn).dq q).head + slots) % 2 ^ ((s.fn fn).dq q).log2
          fetched := ((s.fn fn).dq q).fetched + 1
          inFlight := ((s.fn fn).dq q).inFlight ++ [⟨parseFrame fn q ((s.fn fn).dq q).fetched bs, t, false⟩] } ∧
        s'.out = s.out ++ [.hostWrite fn ((s.fn fn).dq q).headAddr
          (leBytes 8 ((((s.fn fn).dq q).head + slots) % 2 ^ ((s.fn fn).dq q).log2))]) ∧
    Completes (.timedFrameRelease fn q seq t) s fun s' =>
      ∀ x ∈ ((s.fn fn).dq q).inFlight, x.frame.seq = seq → x.timed = true → x.frame.param ≤ t →
        { x with timed := false, stamp := t } ∈ ((s'.fn fn).dq q).inFlight) ∧
  (∀ (s : State) (fn q t : Nat), fn < 128 → q < 64 →
    (∀ (r : Record) (notify : Bool) (rest : List (Record × Bool)),
      ((s.fn fn).rq q).waiting = (r, notify) :: rest → (s.fn fn).hasRoom q r = true → r.text = [] →
      Completes (.statusRecordWrite fn q t) s fun s' =>
        Msg.record fn q ((s.fn fn).rq q).tail ((s.fn fn).rq q).phase 0 r ∈ s'.out ∧
        ((s'.fn fn).rq q).waiting = rest ∧
        ((s'.fn fn).rq q).tail = (((s.fn fn).rq q).tail + 1) % 2 ^ ((s.fn fn).rq q).log2) ∧
    (((s.fn fn).rq q).since ≠ 0 → ((s.fn fn).rq q).modUs ≠ 0 → ((s.fn fn).rq q).pendingRecords ≠ 0 →
      ((s.fn fn).rq q).since + ((s.fn fn).rq q).modUs * 1000 ≤ t →
      (s.fn fn).masked ((s.fn fn).rq q).vector = false →
      Completes (.modUsExpire fn q t) s fun s' =>
        s'.out = s.out ++ [.interrupt fn ((s.fn fn).rq q).vector] ∧ ((s'.fn fn).rq q).since = 0))

/-- R413, R414: a function-level reset, a VF disable and a lost link put each present function into its reset drain, which
ends at most 80 ms later; the last two leave it absent.

R395, R411, R413, R445: a host attach leaves the PF and its VFs in their reset state; a function whose reset drain has
run out loses its queues; no active IDE stream covers a function whose stream stops. -/
def Obligations.FunctionsAttachDrainResetAndStop : Prop :=
  (∀ (s : State) (fn port t : Nat),
    (fn < 128 → (s.fn fn).state ≠ .absent →
      (Completes (.functionLevelReset fn t) s fun s' =>
        (s'.fn fn).state = .resetting ∧ (s'.fn fn).drainEnd = t + min s.drainTimeout 80000000) ∧
      (fn % 64 ≠ 0 → Completes (.vfDisable fn t) s fun s' =>
        (s'.fn fn).state = .resetting ∧ (s'.fn fn).gone = true ∧ (s'.fn fn).drainEnd ≤ t + 80000000)) ∧
    (port < 2 → Completes (.surpriseDown port t) s fun s' =>
      ∀ v < 64, (s.fn (64 * port + v)).state ≠ .absent →
        (s'.fn (64 * port + v)).state = .resetting ∧ (s'.fn (64 * port + v)).gone = true)) ∧
  (∀ (s : State) (fn port vfs t : Nat),
    (port < 2 → vfs < 64 → Completes (.hostAttach port vfs t) s fun s' =>
      ∀ v ≤ vfs, (s'.fn (64 * port + v)).state = .reset ∧ (s'.fn (64 * port + v)).dqs = []) ∧
    (fn < 128 → (s.fn fn).state = .resetting → (s.fn fn).drainEnd ≤ t →
      Completes (.drainTimeout (.function fn) t) s fun s' =>
        ((s'.fn fn).state = .reset ∨ (s'.fn fn).state = .absent) ∧ (s'.fn fn).dqs = [] ∧ (s'.fn fn).rqs = []) ∧
    (fn < 128 → Completes (.ideStreamStop fn t) s fun s' => s'.ideCovers fn = false))

/-- R412: HIF_REBIND.GO moves the sessions of a tenant from one function to another where the tenant is bound, and attaches
them to the queue named; sessions of other tenants stay as they are. -/
def Obligations.RebindMovesTheTenantsSessions : Prop :=
  ∀ (s : State) (fn v t slot : Nat) (x : Session), fn < 128 → bitOf v 63 = true →
    s.bound (fld v 11 0) (fld v 30 24) = true → aget s.sessions slot = some x → x.cur.entry.state ≠ .free →
    Completes (.hifRebindGo fn v t) s fun s' =>
      (x.cur.entry.tenant = fld v 11 0 → x.cur.entry.function = fld v 22 16 →
        s'.entry slot = { x.cur.entry with function := fld v 30 24, resultQueue := fld v 37 32, detached := false }) ∧
      (x.cur.entry.tenant ≠ fld v 11 0 → s'.entry slot = x.cur.entry)

/-- R44, R50, R52, R232: text of an APPEND or of a RESUME in time is queued, the session is READY and the command holds its
lock; a RESUME stamped after the deadline completes with LATE_RESULT and changes nothing of the session. -/
def Obligations.TextIsTakenUnderTheLock : Prop :=
  ∀ (s : State) (f : Frame) (slot t : Nat), Reaches s f slot → (s.entry slot).inputOpen = false →
    (s.entry slot).peer = 0 → (s.entry slot).state = .waiting → f.payload ≠ [] → f.timed = false →
    ((s.entry slot).waitReason = .input → f.opcode = 0x0102 → f.plainOk = true →
      Completes (.sessionAppend f t) s fun s' =>
        (s'.entry slot).state = .ready ∧ (s'.entry slot).holder = .host f.function f.queue ∧
        (s'.sess slot).inputs = (s.sess slot).inputs ++ [⟨f.payload, [], 0, !f.more, 0x0102, f.function,
            f.queue, true, false, []⟩]) ∧
    ((s.entry slot).waitReason = .tool → f.opcode = 0x0103 → f.resumeOk = true →
      f.field 32 4 = (s.entry slot).callId →
      ((s.entry slot).deadline = 0 ∨ t ≤ (s.entry slot).deadline →
        Completes (.sessionResume f t) s fun s' =>
          (s'.entry slot).state = .ready ∧ (s'.entry slot).deadline = 0 ∧
          (s'.entry slot).holder = .host f.function f.queue ∧
          (s'.sess slot).inputs = (s.sess slot).inputs ++ [⟨f.payload, [], 0, !f.more, 0x0103, f.function,
            f.queue, true, false, []⟩]) ∧
      ((s.entry slot).deadline ≠ 0 → (s.entry slot).deadline < t →
        Completes (.sessionResume f t) s fun s' =>
          s'.sess slot = s.sess slot ∧ Answered s s' f stLateResult))

/-- R44, R117: HOLD keeps the state it finds in PRIOR_STATE; RELEASE returns to it; PARK asks for the tier policy; CANCEL
ends the wait of a WAITING session whose text frames have all completed in WAITING/INPUT with CALL_ID + 1 and its input
discarded.

R34, R44: CLOSE drops a session's map, input and records and leaves it CLOSING under its command's lock; when the
release is done the slot is FREE with its generation raised by 1, or it retires at 0x0FFF_FFFF. -/
def Obligations.SessionsHoldParkCancelAndClose : Prop :=
  (∀ (s : State) (f : Frame) (slot t : Nat), Reaches s f slot → f.paramOk = true → f.zeros 32 63 = true →
    (f.opcode = 0x0104 → (s.entry slot).state = .ready ∨ (s.entry slot).state = .waiting →
      Completes (.sessionHold f t) s fun s' =>
        s'.entry slot = { s.entry slot with state := .held, prior := (s.entry slot).state } ∧ Answered s s' f stOk) ∧
    (f.opcode = 0x0105 → (s.entry slot).state = .held → (s.entry slot).prior = .ready → (s.entry slot).timedOut = false →
      Completes (.sessionRelease f t) s fun s' =>
        s'.entry slot = { s.entry slot with state := .ready, prior := .free } ∧ (s'.sess slot).readyStamp = t ∧
        Answered s s' f stOk) ∧
    (f.opcode = 0x0106 → (s.entry slot).state = .ready ∨ (s.entry slot).state = .waiting ∨ (s.entry slot).state = .held →
      Completes (.sessionPark f t) s fun s' =>
        s'.entry slot = s.entry slot ∧ (s'.sess slot).parkRequest = true ∧
        (s'.sd (s.entry slot).homeSd).policyPending = true ∧ Answered s s' f stOk) ∧
    (f.opcode = 0x0107 → (s.entry slot).state = .waiting → (s.entry slot).waitReason = .tool →
      (s.entry slot).peer = 0 → (s.sess slot).inputs.flatMap TextInput.waits = [] → aget s.migrations slot = none →
      Completes (.sessionCancel f t) s fun s' =>
        s'.entry slot = { s.entry slot with
          waitReason := .input, deadline := 0, inputOpen := false, callId := min ((s.entry slot).callId + 1) 0xffffffff } ∧
        (s'.sess slot).pending = [] ∧ (s'.sess slot).inputs = [] ∧ Answered s s' f stCancelled)) ∧
  (∀ (s : State) (f : Frame) (slot t : Nat),
    (Reaches s f slot → f.opcode = 0x0108 → f.plainOk = true → aget s.migrations slot = none →
      (s.entry slot).state = .ready ∨ (s.entry slot).state = .waiting ∨ (s.entry slot).state = .held ∨
        (s.entry slot).state = .fenced →
      Completes (.sessionClose f t) s fun s' =>
        (s'.entry slot).state = .closing ∧ (s'.entry slot).holder = .host f.function f.queue ∧
        (s'.entry slot).metaUsa = noPage ∧ (s'.sess slot).cur.kvMap = [] ∧ (s'.sess slot).inputs = [] ∧
        (s'.sess slot).outbox = [] ∧ (s'.sess slot).timer = none) ∧
    ((s.entry slot).state = .closing → hOrigin (s.entry slot).handle = s.pkg →
      Completes (.closeReleaseDone slot t) s fun s' =>
        (s'.entry slot).state = .free ∧
        (s'.entry slot).handle = mkHandle s.pkg slot (hGen (s.entry slot).handle + 1) ∧
        (hGen (s.entry slot).handle + 1 = 0x0fffffff → slot ∈ (s'.sd (tableSd slot)).retired) ∧
        (hGen (s.entry slot).handle + 1 ≠ 0x0fffffff →
          (s'.sd (tableSd slot)).slots = (s.sd (tableSd slot)).slots.give (slot / 12))))

/-- R36, R44, R48: an OPEN that passes its checks puts the slot at the head of the free list of the next table SD into
OPENING, under a handle of its own generation, and the rotation goes on; the end of its preparation makes it
WAITING/INPUT, or READY where the frame carried text, and completes it.

R44, R49: a FORK of a session without KV pages makes a child in WAITING/INPUT of the same tenant on the same home SD
that names its parent, where the tenant is within its limit and page and text block can be reserved; the parent's
entry stays. -/
def Obligations.SessionsOpenAndFork : Prop :=
  (∀ (s : State) (f : Frame) (slot t n : Nat) (p : Nat × Pool) (m : Model) (q : Profile),
    (f.opcode = 0x0101 → openFieldsOk f = true → s.bound (f.field 32 2) f.function = true →
      aget s.models (f.field 34 2) = some m → fld f.param 47 32 = 0 → f.field 56 8 = 0 →
      (s.tenant (f.field 32 2)).models.contains (f.field 34 2) = true → aget s.profiles (fld f.param 31 0) = some q →
      s.nextTableSd 12 s.rotation = some n → (s.sd n).slots.take = some p →
      Completes (.sessionOpen f t) s fun s' =>
        (s'.entry (n + 12 * p.1)).state = .opening ∧ (s'.entry (n + 12 * p.1)).tenant = f.field 32 2 ∧
        (s'.entry (n + 12 * p.1)).model = f.field 34 2 ∧
        (s'.entry (n + 12 * p.1)).handle = mkHandle s.pkg (n + 12 * p.1) (hGen (s.entry (n + 12 * p.1)).handle) ∧
        s'.rotation = (n + 1) % 12) ∧
    ((s.entry slot).state = .opening → (s.entry slot).metaUsa ≠ noPage → (s.sess slot).owner = some f →
      (s.sess slot).waiting = [] →
      Completes (.openPrepared slot t) s fun s' =>
        (s'.entry slot).state = (if openText f = [] then .waiting else .ready) ∧
        (s'.entry slot).waitReason = (if openText f = [] then .input else .none) ∧
        (s'.entry slot).handle = (s.entry slot).handle ∧ Answered s s' f stOk)) ∧
  (∀ (s : State) (f : Frame) (slot t n : Nat) (p p' : Nat × Pool), Reaches s f slot → f.opcode = 0x0109 → f.forkOk = true →
    (s.entry slot).state = .ready ∨ (s.entry slot).state = .waiting ∨ (s.entry slot).state = .held →
    (s.sess slot).cur.kvMap = [] → s.tenantSlots (s.entry slot).tenant < (s.tenant (s.entry slot).tenant).maxSessions →
    s.nextTableSd 12 s.rotation = some n → (s.sd n).slots.take = some p → n + 12 * p.1 ≠ slot →
    s.quotaFits (s.entry slot).tenant 0 4096 = true → 4 ≤ (s.sd (s.entry slot).homeSd).textFree →
    (s.entry slot).homeSd < 12 → s.leaves.length < 2 ^ 30 →
    (s.pool (poolKey (s.entry slot).homeSd 0 (s.entry slot).homeSd 0)).pool.take = some p' →
    Completes (.sessionFork f t) s fun s' =>
      (s'.entry (n + 12 * p.1)).state = .waiting ∧ (s'.entry (n + 12 * p.1)).waitReason = .input ∧
      (s'.entry (n + 12 * p.1)).tenant = (s.entry slot).tenant ∧
      (s'.entry (n + 12 * p.1)).homeSd = (s.entry slot).homeSd ∧
      (s'.entry (n + 12 * p.1)).parent = (s.entry slot).handle ∧ s'.entry slot = s.entry slot ∧ Answered s s' f stOk)

/-- R35, R44, R54, R55, R57: a WAIT_PEER on a session that its function may use, which closes no cycle and keeps the chain
within 64 edges, waits on the peer with CALL_ID + 1 and the deadline of its frame; on a session of a tenant that is not
bound to the function it completes with NO_SESSION and the waiter is unchanged; when the peer completes, its waiter that
no wake filter rejects is READY and its edge is gone. -/
def Obligations.PeersWaitAndWake : Prop :=
  ∀ (s : State) (f : Frame) (slot b w t edges : Nat) (rejects : List Nat),
    (Reaches s f slot → f.opcode = 0x010b → f.waitPeerOk = true → (s.entry slot).state = .waiting →
      (s.entry slot).waitReason = .input ∨ (s.entry slot).waitReason = .tool → (s.entry slot).callId < 0xffffffff →
      s.findHandle (f.field 32 8) = some b → s.bound (s.entry b).tenant f.function = true →
      (s.entry b).state ≠ .away → s.walkPeers slot 65 b = (edges, false) →
      (s.entry slot).height + 1 + edges ≤ 64 →
      Completes (.sessionWaitPeer f t) s fun s' =>
        (s'.entry slot).state = .waiting ∧ (s'.entry slot).waitReason = .peer ∧
        (s'.entry slot).peer = f.field 32 8 ∧ (s'.entry slot).callId = (s.entry slot).callId + 1 ∧
        (s'.entry slot).deadline = (if f.param = 0 then 0 else t + f.param) ∧ Answered s s' f stOk) ∧
    (Reaches s f slot → f.opcode = 0x010b → f.waitPeerOk = true → (s.entry slot).state = .waiting →
      (s.entry slot).waitReason = .input ∨ (s.entry slot).waitReason = .tool → (s.entry slot).callId < 0xffffffff →
      s.findHandle (f.field 32 8) = some b → s.bound (s.entry b).tenant f.function = false →
      Completes (.sessionWaitPeer f t) s fun s' => s'.entry slot = s.entry slot ∧ Answered s s' f stNoSession) ∧
    ((s.sess slot).peerDone = true → s.waiters slot = [w] → w ≠ slot → rejects.contains w = false →
      (s.entry w).state = .waiting →
      Completes (.peerComplete slot rejects t) s fun s' =>
        (s'.entry w).state = .ready ∧ (s'.entry w).peer = 0 ∧ (s'.sess slot).peerDone = false)

/-- R44, R51, R53: a deadline that has passed is staged, and committed it ends the wait: CALL_ID + 1, and READY or
FENCED/TIMEOUT as the session asks; the NOT_BEFORE of a TIMER wait makes it READY.

R38, R60, R61: a lock whose lease has run out is broken: the session is FENCED/LOCK_BROKEN with LOCK_REPORT, and its
committed length, adapter and seed are those of its last seal. -/
def Obligations.TimersAndLeasesEndWaits : Prop :=
  (∀ (s : State) (slot t d : Nat), (s.entry slot).state = .waiting →
    ((s.sess slot).timer = some .deadline → (s.sess slot).staged = none →
      (s.entry slot).deadline + s.regFld 0x02 0 0x00 25 16 * 1000 ≤ t →
      Completes (.timerFire slot t) s fun s' =>
        (s'.sess slot).staged = some (s.entry slot).deadline ∧ s'.entry slot = s.entry slot) ∧
    ((s.sess slot).staged = some d → (s.sess slot).waiting = [] → (s.entry slot).holder = .none →
      (s.entry slot).waitReason = .tool ∨ (s.entry slot).waitReason = .peer →
      Completes (.timeoutCommit slot t) s fun s' =>
        (s'.entry slot).state = (if (s.entry slot).timeoutFence then .fenced else .ready) ∧
        (s'.entry slot).fenceReason = (if (s.entry slot).timeoutFence then .timeout else (s.entry slot).fenceReason) ∧
        (s'.entry slot).callId = min ((s.entry slot).callId + 1) 0xffffffff ∧ (s'.sess slot).staged = none) ∧
    ((s.entry slot).waitReason = .timer → (s.entry slot).deadline ≤ t →
      Completes (.notBeforeReached slot t) s fun s' =>
        (s'.entry slot).state = .ready ∧ (s'.sess slot).timer = none ∧ (s'.sess slot).readyStamp = t)) ∧
  (∀ (s : State) (slot t fn q : Nat), (s.entry slot).holder = .host fn q → (s.entry slot).leaseEnd ≤ t →
    (s.sess slot).waiting = [] → aget s.migrations slot = none →
    Completes (.leaseLapse slot t) s fun s' =>
      (s'.entry slot).state = .fenced ∧ (s'.entry slot).fenceReason = .lockBroken ∧ (s'.entry slot).lockReport = true ∧
      (s'.entry slot).holder = .none ∧ (s'.entry slot).committed = (s.sess slot).shadow.entry.committed ∧
      (s'.entry slot).adapterVersion = (s.sess slot).shadow.entry.adapterVersion ∧
      (s'.entry slot).seed = (s.sess slot).shadow.entry.seed ∧ (s'.sess slot).owner = none)

/-- R50, R231, R232, R236: a TIMED APPEND whose NOT_BEFORE has come is applied; the text unit takes bytes of a session's
first input, and what has settled joins its pending tokens up to the context limit; a stalled frame goes on with all it
has left.

R62, R63: the oldest record of an outbox leaves to the result queue where it has room; a record that waits for the
outbox pool takes a free entry. -/
def Obligations.TextIsTakenAndRecordsLeave : Prop :=
  (∀ (s : State) (slot t : Nat),
    (∀ w : Waiting, (s.sess slot).timed = [w] → w.frame.param ≤ t → w.frame.opcode = 0x0102 → w.frame.timed = true →
      w.frame.zeros 32 63 = true → w.frame.payload ≠ [] → Reaches s w.frame slot → (s.entry slot).inputOpen = false →
      (s.entry slot).state = .ready →
      Completes (.timedAppendRelease slot t) s fun s' =>
        (s'.sess slot).timed = [] ∧ (s'.entry slot).holder = .host w.frame.function w.frame.queue ∧
        ∃ i, (s'.sess slot).inputs = (s.sess slot).inputs ++ [i] ∧ i.unread = w.frame.payload) ∧
    (∀ (c : Instr) (i : TextInput) (rest : List TextInput) (m : Model) (count : Nat),
      c = .textInput slot count t ∨ (c = .textFrameResume slot t ∧ i.stalled = true ∧ count = i.unread.length) →
      (s.sess slot).inputs = i :: rest → s.modelOf slot = some m → i.closed = false → (s.sess slot).owner = none →
      i.waits = [] →
      ceilDiv ((s.sess slot).pending.length + (i.feed m.vocab (i.unread.take count)).1.length) 1024
        + ceilDiv ((i.feed m.vocab (i.unread.take count)).2.1.window.length + sumBy (fun k => k.window.length) rest) 4096
        + 4 ≤ (s.sess slot).textHeld + (s.sd (s.entry slot).homeSd).textFree →
      Completes c s fun s' =>
        (∃ j, (s'.sess slot).inputs = j :: rest ∧ j.unread = i.unread.drop count ∧ j.stalled = false) ∧
        (s'.sess slot).pending.map PendingToken.token = (s.sess slot).pending.map PendingToken.token
          ++ (i.feed m.vocab (i.unread.take count)).1.take
              (m.contextLimit - 1 - ((s.entry slot).committed + (s.sess slot).pending.length)))) ∧
  (∀ (s : State) (slot t : Nat),
    (∀ (o : OutEntry) (rest : List OutEntry), (s.sess slot).outbox = o :: rest → (s.entry slot).detached = false →
      (s.fn (s.entry slot).function).hasRoom (s.entry slot).resultQueue o.record = true → o.record.text = [] →
      Completes (.recordDeliver slot t) s fun s' =>
        (s'.sess slot).outbox = rest ∧
        Msg.record (s.entry slot).function (s.entry slot).resultQueue
          ((s.fn (s.entry slot).function).rq (s.entry slot).resultQueue).tail
          ((s.fn (s.entry slot).function).rq (s.entry slot).resultQueue).phase 0 o.record ∈ s'.out) ∧
    (∀ (r : Record) (rest : List Record) (i : Nat) (p : Pool), (s.sess slot).unpooled = r :: rest →
      (s.sd (tableSd slot)).outboxFree ≠ 0 → (s.sd (tableSd slot)).outbox.take = some (i, p) →
      Completes (.outboxRecordWrite slot t) s fun s' =>
        (s'.sess slot).outbox = (s.sess slot).outbox ++ [⟨i, r⟩] ∧ (s'.sess slot).unpooled = rest))

/-- R291, R292: an accepted MIGRATE makes the session MOVING with its record at PREPARE, and PREPARE goes to the new home;
READY starts COPY; the end of COPY freezes the session under the channel's lock and HANDOVER is sent; COMMITTED leaves an
AWAY stub that names the new home. -/
def Obligations.MigrationLeavesTheSource : Prop :=
  ∀ (s : State) (f : Frame) (h : Head) (slot die chan sent t : Nat),
    (Reaches s f slot → f.opcode = 0x010a → f.migrateOk s.pkg = true → (s.entry slot).state = .ready →
      (s.entry slot).peer = 0 → (s.entry slot).firstWaiter = none → (s.entry slot).inputOpen = false →
      (s.sess slot).moveSeq < 0xffffffff → s.migrationsOut < s.regFld 0x11 0 0x00 39 32 →
      Completes (.sessionMigrate f t) s fun s' =>
        s'.entry slot = { s.entry slot with state := .moving } ∧
        (∃ m, aget s'.migrations slot = some m ∧ m.phase = .prepare ∧ m.dest = f.field 32 2 ∧ m.state = .ready) ∧
        MigSent s s' .prepare (f.field 32 2)) ∧
    (∀ m : Migration, aget s.migrations slot = some m → (s.sess slot).waiting = [] →
      (m.phase = .prepare → Accepted (s.stamp t) h 0x11 →
        Completes (.ready h slot 0 t) s fun s' =>
          aget s'.migrations slot = some { m with phase := .copy, since := t } ∧ s'.sess slot = s.sess slot) ∧
      (m.phase = .copy → s.cutPending (tableSd slot) = false →
        Completes (.migCopyDone slot die chan sent false t) s fun s' =>
          (s'.entry slot).holder = .hoist die chan ∧ (s'.sess slot).frozen = true ∧
          (∃ m', aget s'.migrations slot = some m' ∧ m'.phase = .handover ∧ m'.sent = sent ∧ m'.freezeAt = t) ∧
          MigSent s s' .handover m.dest) ∧
      (m.phase = .handover → Accepted (s.stamp t) h 0x11 →
        Completes (.committed h slot t) s fun s' =>
          (s'.entry slot).state = .away ∧ (s'.sess slot).fwdPkg = m.dest ∧
          (s'.sess slot).moveSeq = min (m.moveSeq + 1) 0xffffffff ∧ aget s'.migrations slot = none ∧
          (s'.sess slot).cur.kvMap = [] ∧ (s'.sess slot).outbox = []))

/-- R296: an ABORTED after HANDOVER returns the session to its state before MOVING; where PHASE_TIMEOUT_US passes, a
migration before HANDOVER ends with ABORT_REQ sent, and one after it sends ABORT_REQ again and stays. -/
def Obligations.MigrationsAbort : Prop :=
  ∀ (s : State) (h : Head) (slot t : Nat) (m : Migration), aget s.migrations slot = some m →
    (s.sess slot).waiting = [] →
    (m.phase = .handover → (s.entry slot).state = .moving → Accepted (s.stamp t) h 0x11 →
      Completes (.aborted h slot t) s fun s' =>
        (s'.entry slot).state = m.state ∧ (s'.entry slot).waitReason = m.wait ∧ (s'.sess slot).frozen = false ∧
        (s'.entry slot).holder = .none ∧ aget s'.migrations slot = none) ∧
    (m.since + s.phaseTimeout ≤ t → m.phase = .copy → (s.entry slot).state = .moving →
      Completes (.phaseTimeout slot t) s fun s' =>
        (s'.entry slot).state = m.state ∧ aget s'.migrations slot = none ∧ MigSent s s' .abortReq m.dest) ∧
    (m.since + s.phaseTimeout ≤ t → m.phase = .handover →
      Completes (.phaseTimeout slot t) s fun s' =>
        s'.entry slot = s.entry slot ∧ aget s'.migrations slot = some { m with since := t } ∧
        MigSent s s' .abortReq m.dest)

/-- R292, R293, R295, R301: a PREPARE that can be met writes the reservation and answers READY with 0; a HANDOVER whose data
count is met commits: the session stands in its local slot with MOVE_SEQ + 1 and COMMITTED is sent; an ABORT_REQ, and
PHASE_TIMEOUT_US without a message, free the reservation. -/
def Obligations.MigrationReachesItsDestination : Prop :=
  ∀ (s : State) (h : Head) (handle count seq t : Nat) (x : Session) (p : PrepareMsg) (m : Model),
    (Accepted (s.stamp t) h 0x11 → ((s.stamp t).prepare h.srcPkg p).1 = stOk →
      Completes (.prepare h p t) s fun s' =>
        (∃ i, aget s'.incoming p.handle = some i ∧ i.src = h.srcPkg ∧ i.tenant = p.tenant ∧ i.model = p.model ∧
          i.moveSeq = p.moveSeq ∧ i.pages.length = p.pages.length ∧ i.held = none) ∧
        MigSent s s' .ready h.srcPkg) ∧
    (∀ i : Incoming, aget s.incoming handle = some i →
      (Accepted (s.stamp t) h 0x11 → s.cutPending (tableSd i.slot) = false → count ≤ i.accepted →
        aget s.models i.model = some m →
        Completes (.handover h handle count x t) s fun s' =>
          aget s'.incoming handle = none ∧ (s'.entry i.slot).state = x.cur.entry.state ∧
          (s'.entry i.slot).handle = handle ∧ (s'.entry i.slot).homeSd = i.homeSd ∧
          (s'.entry i.slot).function = i.function ∧ (s'.sess i.slot).moveSeq = min (i.moveSeq + 1) 0xffffffff ∧
          (s'.sess i.slot).pending = x.pending ∧
          ∃ q ∈ s'.gallery.sending, q.opcode = 0x11 ∧ q.dstPkg = i.src ∧ leAt q.oph 0 1 = MigCode.committed.num) ∧
      (i.held = none → i.lastMsg + s.phaseTimeout ≤ t →
        Completes (.destPhaseTimeout handle t) s fun s' =>
          aget s'.incoming handle = none ∧
          (s'.sd i.homeSd).textFree = (s.sd i.homeSd).textFree + i.textPages)) ∧
    (Accepted (s.stamp t) h 0x11 → s.holds handle seq = false →
      Completes (.abortReq h handle seq t) s fun s' =>
        aget s'.incoming handle = none ∧ MigSent s s' .aborted h.srcPkg)

/-- R298, R299: the origin's stub takes a home of a higher MOVE_SEQ, and the old home is told; it frees its stub; a
CLOSE_NOTE frees the origin's AWAY slot with its generation raised and is acknowledged; an unacknowledged one is sent
again, until the acknowledgement comes.

R303, R314: a pushed layer page is staged at the destination over an earlier copy of it; SEAL_NOTE attaches the staged
pages, DROP_NOTE discards them, once their data count is met. -/
def Obligations.StubsAndPushedPagesFollowTheSession : Prop :=
  (∀ (s : State) (h : Head) (handle home seq t : Nat),
    (Accepted (s.stamp t) h 0x11 → hOrigin handle = s.pkg → (s.entry (hSlot handle)).state = .away →
      (s.entry (hSlot handle)).handle = handle →
      ((s.sess (hSlot handle)).moveSeq < seq →
        Completes (.homeUpdate h handle home seq t) s fun s' =>
          (s'.sess (hSlot handle)).fwdPkg = home ∧ (s'.sess (hSlot handle)).moveSeq = seq ∧
          MigSent s s' .homeUpdateAck (s.sess (hSlot handle)).fwdPkg) ∧
      (hGen handle + 1 < 0x0fffffff →
        Completes (.closeNote h handle t) s fun s' =>
          (s'.entry (hSlot handle)).state = .free ∧
          (s'.entry (hSlot handle)).handle = mkHandle s.pkg (hSlot handle) (hGen handle + 1) ∧
          MigSent s s' .closeNoteAck h.srcPkg)) ∧
    (∀ g : Guest, Accepted (s.stamp t) h 0x11 → aget s.guests handle = some g → g.stub = true →
      Completes (.homeUpdateAck h handle t) s fun s' =>
        aget s'.guests handle = none ∧ (s'.entry g.slot).state = .free ∧
        (s'.sd (tableSd g.slot)).slots = (s.sd (tableSd g.slot)).slots.give (g.slot / 12)) ∧
    (Accepted (s.stamp t) h 0x11 →
      Completes (.closeNoteAck h handle t) s fun s' => aget s'.gallery.closeNotes handle = none) ∧
    (aget s.gallery.closeNotes handle ≠ none →
      Completes (.closeNoteRetry handle t) s fun s' =>
        aget s'.gallery.closeNotes handle = some t ∧ MigSent s s' .closeNote (hOrigin handle))) ∧
  (∀ (s : State) (h : Head) (handle lg index count t : Nat) (bytes : List Byte) (i : Incoming),
    aget s.incoming handle = some i →
    (Accepted (s.stamp t) h 0x40 → i.held = none → (s.gallery.held.all fun q => q.1 != handle) = true →
      Completes (.kvPush h handle lg index bytes t) s fun s' =>
        aget s'.incoming handle = some { i with
          staged := (i.staged.filter fun p => !(p.1 == lg && p.2.1 == index)) ++ [(lg, index, bytes)]
          accepted := i.accepted + 1, lastMsg := t } ∧ s'.mem = s.mem) ∧
    (Accepted (s.stamp t) h 0x11 → count ≤ i.accepted →
      (Completes (.sealNote h handle count t) s fun s' =>
        ∃ i', aget s'.incoming handle = some i' ∧ i'.staged = [] ∧
          ∀ q ∈ i.staged, (q.1, q.2.1) ∈ i'.attached) ∧
      (Completes (.dropNote h handle count t) s fun s' =>
        aget s'.incoming handle = some { i with staged := [], lastMsg := t } ∧ s'.mem = s.mem)))

/-- R257: a lookup of rows that this package holds answers their bytes, or their pool, in bag order, and reads memory only;
a request of another package is answered with the row's bytes; with the last reply of a lookup its frame completes.

R260: a refresh starts the read of every hot list on its SD; when the read ends, the listed rows of the SD that stand
in T1 or T2 are copied to the SDs that looked them up; a failed read keeps the copies. -/
def Obligations.LookupsAnswerRowsAndHotRowsAreCopied : Prop :=
  (∀ (s : State) (f : Frame) (h : Head) (sd t id request r : Nat) (b : RowBlock) (tt : RowTable),
    (sd < 12 → f.opcode = 0x0201 → f.queue < 64 → s.bound (f.field 42 2) f.function = true → f.rowLookupOk = true →
      f.field 35 1 = 0 → aget s.tables.tables (f.field 32 2) = some tt → tt.tenant = f.field 42 2 →
      f.field 34 1 = 0 ∨ tt.numeric = true →
      (f.bag.all fun r => decide (r < tt.rowCount) && (tt.blockOf r).any fun b =>
        b.pkg == s.pkg && !(s.pageOf (tt.addr b r)).any (·.2.poison)) = true →
      Completes (.rowLookup f sd t) s fun s' =>
        s'.mem = s.mem ∧ ∃ rec : Record, rec.status = stOk ∧ rec.tag = f.tag ∧
          rec.text = tt.pool (f.field 34 1)
            (f.bag.map fun r => memRead s.mem (tt.addr ((tt.blockOf r).getD ⟨0, 0, 0⟩) r) tt.rowBytes) ∧
          ((s'.fn f.function).rq ((s.fn f.function).dq f.queue).rq).waiting
            = ((s.fn f.function).rq ((s.fn f.function).dq f.queue).rq).waiting ++ [(rec, f.notify)]) ∧
    (Accepted (s.stamp t) h 0x34 → aget s.tables.tables id = some tt → tt.blockOf r = some b → b.pkg = s.pkg →
      1 ≤ tt.rowBytes → tt.rowBytes ≤ 4096 →
      Completes (.rowReq h id request [r] t) s fun s' =>
        s'.mem = s.mem ∧ ∃ p : Packet, s'.gallery.sending = s.gallery.sending ++ [p] ∧ p.opcode = 0x35 ∧
          p.dstPkg = h.srcPkg ∧ p.payload = memRead s.mem (tt.addr b r) tt.rowBytes) ∧
    (∀ (k : Nat) (w : LookupWait) (places : List Nat) (bytes : List Byte), Accepted (s.stamp t) h 0x35 →
      s.tables.lookups = [(k, w)] → w.requests = [(request, places, [])] → aget s.tables.tables w.table = some tt →
      places.length * tt.rowBytes ≤ bytes.length → w.frame.opcode = 0x0201 → w.frame.field 35 1 = 0 →
      Completes (.rowReply h request bytes t) s fun s' => s'.tables.lookups = [] ∧ Answered s s' w.frame stOk)) ∧
  (∀ (s : State) (sd t id : Nat) (rows : List Nat) (tt : RowTable), sd < 12 → aget s.tables.tables id = some tt →
    (tt.hotCount ≠ 0 → Completes (.hotCacheRefresh sd t) s fun s' =>
      ∃ t', aget s'.tables.tables id = some t' ∧ sd ∈ t'.reading ∧ t'.copies = tt.copies) ∧
    (tt.reading.contains sd = true →
      (Completes (.hotListReadDone id sd rows false t) s fun s' =>
        ∃ t', aget s'.tables.tables id = some t' ∧ sd ∉ t'.reading ∧ t'.copies = tt.copies) ∧
      (Completes (.hotListReadDone id sd rows true t) s fun s' =>
        ∃ t', aget s'.tables.tables id = some t' ∧ sd ∉ t'.reading ∧
          ∀ r ∈ rows.take tt.hotCount, ∀ q, r < tt.rowCount → (q, r) ∈ tt.lookedUp →
            (tt.blockOf r).any (fun b => b.pkg == s.pkg && b.sd == sd && (s.pageOf (tt.addr b r)).any fun l =>
              l.2.tier != 0) = true → (r, q) ∈ t'.copies)))

/-- R259, R262, R264: an update of a row that this package owns waits at its owner for the batch, and so does one of
another package; a table switch reads its map and waits for the boundary: none of them changes memory.

R265, R267: an accepted load starts the read of its image; a good image that fits one page makes a version that is not
current, a failed read makes none; a switch makes one version current, or binds a session to it. -/
def Obligations.TableUpdatesAndAdaptersWaitForASeal : Prop :=
  (∀ (s : State) (f : Frame) (h : Head) (t id step handle seq row : Nat) (overwrite : Bool) (bytes : List Byte)
    (tt : RowTable),
    (s.bound (f.field 44 2) f.function = true → f.paramOk = true → 1 ≤ f.field 32 2 → f.field 32 2 ≤ 4095 →
      f.field 34 1 = 0 → f.zeros 35 35 = true → f.zeros 46 63 = true → aget s.tables.tables (f.field 32 2) = some tt →
      tt.tenant = f.field 44 2 → f.field 40 4 < tt.rowCount → f.payload.length = tt.rowBytes →
      (tt.blockOf (f.field 40 4)).any (fun b => b.pkg == s.pkg) = true →
      Completes (.rowUpdate f t) s fun s' =>
        aget s'.tables.tables (f.field 32 2) = some { tt with updates := tt.updates ++
          [⟨0, s.pkg, f.handle, f.field 36 4, true, f.field 40 4, f.payload, t, some f⟩] } ∧ s'.mem = s.mem) ∧
    (Accepted (s.stamp t) h 0x36 → aget s.tables.tables id = some tt →
      Completes (.rowUpd h id step handle seq row overwrite bytes t) s fun s' =>
        aget s'.tables.tables id = some { tt with updates := tt.updates ++
          [⟨step, h.srcPkg, handle, seq, overwrite, row, bytes, t, none⟩] } ∧ s'.mem = s.mem) ∧
    (s.bound (f.field 36 2) f.function = true → f.paramOk = true → f.handle = 0 → 1 ≤ f.field 32 2 →
      f.field 32 2 ≤ 4095 → f.field 34 1 ≤ 3 → f.zeros 35 35 = true → f.zeros 38 39 = true → f.zeros 48 63 = true →
      aget s.tables.tables (f.field 32 2) = some tt → tt.tenant = f.field 36 2 → tt.pending = none →
      (s.pageOf (f.field 40 8)).isSome = true →
      Completes (.tableSwitch f t) s fun s' =>
        (∃ p, aget s'.tables.tables (f.field 32 2) = some { tt with pending := some p } ∧ p.map = f.field 40 8 ∧
          p.stamp = t) ∧ s'.mem = s.mem)) ∧
  (∀ (s : State) (f : Frame) (sd t k slot c : Nat) (bytes : List Byte) (m : Model) (a : AdapterVersion),
    (s.bound (f.field 36 2) f.function = true → f.paramOk = true → f.handle = 0 → 1 ≤ f.field 32 2 →
      f.field 40 8 % 64 = 0 → f.zeros 56 63 = true → aget s.models (f.field 38 2) = some m →
      aget s.adapters (f.field 32 2 * 65536 + f.field 34 2) = none → s.tables.loads = [] → s.adapters.length < 4096 →
      Completes (.adapterLoad f t) s fun s' =>
        aget s'.tables.loads s.tables.nextKey = some ⟨f, f.field 32 2 * 65536 + f.field 34 2⟩) ∧
    (∀ l : AdapterLoad, sd < 12 → aget s.tables.loads k = some l →
      Completes (.adapterImageReadDone k sd bytes false t) s (fun s' =>
        aget s'.tables.loads k = none ∧ s'.adapters = s.adapters ∧ Answered s s' l.frame stPoison) ∧
      (aget s.models (l.frame.field 38 2) = some m → adapterImageOk m bytes = true → imageClasses bytes.length = [c] →
        s.quotaFits (l.frame.field 36 2) 0 (pageSize c) = true → s.leaves.length < 2 ^ 20 → c < 10 →
        (s.pool (poolKey sd 0 sd c)).pool.take.isSome = true →
        Completes (.adapterImageReadDone k sd bytes true t) s fun s' =>
          (∃ v, aget s'.adapters l.key = some v ∧ v.current = false ∧ v.tenant = l.frame.field 36 2 ∧
            v.rank = leAt bytes 4 2 ∧ v.pages.length = 1) ∧ Answered s s' l.frame stOk)) ∧
    (aget s.adapters (f.field 32 2 * 65536 + f.field 34 2) = some a → a.tenant = f.field 38 2 →
      f.adapterSwitchOk = true →
      (f.handle = 0 → s.bound (f.field 38 2) f.function = true →
        Completes (.adapterSwitch f t) s fun s' =>
          aget s'.adapters (f.field 32 2 * 65536 + f.field 34 2) = some { a with current := true } ∧
          Answered s s' f stOk) ∧
      (Reaches s f slot → f.opcode = 0x0402 → (s.entry slot).tenant = a.tenant → (s.entry slot).state = .ready →
        Completes (.adapterSwitch f t) s fun s' =>
          s'.entry slot = { s.entry slot with adapter := f.field 32 2, adapterVersion := f.field 34 2,
                                              adapterFollow := f.field 36 1 == 1 } ∧ Answered s s' f stOk)))

/-- R269, R272: a query starts a scan on every shard of its index and completes with the last of them, with the k best
vectors of all; the one record of an insert replaces its vector, marks it dead, or joins the shard while that has
room. -/
def Obligations.RecallScansAndInserts : Prop :=
  ∀ (s : State) (f : Frame) (sd t k : Nat) (i : RecallIndex),
    (sd < 12 → s.bound (f.field 44 2) f.function = true → aget s.tables.indexes (f.field 32 2) = some i →
      f.queryOk i.dim = true → i.tenant = f.field 44 2 → f.opcode = 0x0301 → f.field 38 1 = 0 →
      Completes (.recallQuery f sd t) s fun s' =>
        ∃ w, aget s'.tables.queries s.tables.nextKey = some w ∧ w.frame = f ∧ w.open_ = i.sds ∧ w.results = []) ∧
    (∀ w : QueryWait, sd < 12 → aget s.tables.queries k = some w → aget s.tables.indexes w.index = some i →
      w.open_ = [sd] → s.tables.shardInserts = [] → w.frame.opcode = 0x0301 → w.frame.field 38 1 = 0 →
      w.frame.queue < 64 →
      Completes (.recallShardScanDone k sd t) s fun s' =>
        aget s'.tables.queries k = none ∧ ∃ rec : Record, rec.status = stOk ∧ rec.text = resultBytes
            (topK (w.frame.field 34 2) (w.results ++ scanShard w.frame w.dist s.draws (agetD i.shards sd []))) ∧
          ((s'.fn w.frame.function).rq ((s.fn w.frame.function).dq w.frame.queue).rq).waiting
            = ((s.fn w.frame.function).rq ((s.fn w.frame.function).dq w.frame.queue).rq).waiting
              ++ [(rec, w.frame.notify)]) ∧
    (∀ r : RecallRecord, s.bound (f.field 44 2) f.function = true → aget s.tables.indexes (f.field 32 2) = some i →
      f.paramOk = true → f.handle = 0 → f.field 34 2 = 1 → f.field 36 1 ≤ 1 → f.zeros 37 43 = true →
      f.zeros 46 63 = true → f.payload.length = 16 + i.subspaces → i.subspaces ≤ 1000 → i.tenant = f.field 44 2 →
      i.sds = [sd] → s.tables.queries = [] → s.tables.shardInserts = [] → f.recallRecords i.subspaces = [r] →
      Completes (.recallInsert f t) s fun s' =>
        (∃ i', aget s'.tables.indexes (f.field 32 2) = some i' ∧ agetD i'.shards sd [] =
          if f.field 36 1 = 1 then
            (agetD i.shards sd []).map fun x => if x.id = r.id then { x with dead := true } else x
          else if (agetD i.shards sd []).any fun x => x.id == r.id then
            (agetD i.shards sd []).map fun x => if x.id = r.id then r else x
          else if (agetD i.shards sd []).length < i.capacity then agetD i.shards sd [] ++ [r]
          else agetD i.shards sd []) ∧ s'.mem = s.mem)

/-- R67, R72, R73, R77: on a package whose one session is a decode member with its next position's pages in T0, an S0 step
forms with that member: the step takes the next number, the session is RUNNING under the step former's lock, one token
of its tenant's budget is reserved.

R84, R86: a member that cannot go on leaves its step rolled back, READY, or fenced where its pages are lost; a step that
is abandoned rolls its member back and frees the stream. -/
def Obligations.StepsFormAndLoseMembers : Prop :=
  (∀ (s : State) (slot t : Nat) (x : Session) (m : Model), s.mayForm false = true → s.s1.run = none →
    s.sessions = [(slot, x)] → s.eligible false slot = true → x.pending = [] → x.cur.openToken.isSome = true →
    x.cur.entry.inputOpen = false → aget s.models x.cur.entry.model = some m → m.draftHead = false →
    s.outboxTest slot = true → 1 ≤ s.regFld 0x03 0 0x00 15 0 → 1 ≤ s.regFld 0x03 0 0x00 63 48 →
    1 ≤ (s.tenant x.cur.entry.tenant).remaining → (s.tenant x.cur.entry.tenant).bucketRate = 0 →
    1 ≤ (s.tenant x.cur.entry.tenant).maxRunning → x.cur.entry.classD = false →
    ((List.range m.layerGroups).all fun g => (m.remoteOf g).isSome ||
      decide (ceilDiv (x.cur.kvLen + 1) m.pageTokens ≤ (x.cur.lg g).usas.length)) = true →
    ((x.cur.writtenPages m x.cur.kvLen 1).all fun p => decide (s.refCount p.2 ≤ 1) &&
      (s.leaf p.2).any fun l => l.tier == 0) = true →
    (s.leaf x.cur.entry.metaUsa).any (fun l => l.tier == 0) = true →
    x.mapHeld = mapBlocksOf x.cur.kvMap → x.dirHeld = dirPagesOf x.cur.kvMap →
    Completes (.stepForm false t) s fun s' =>
      (∃ r mm, s'.s0.run = some r ∧ r.number = s.s0.step + 1 ∧ r.startPt = t ∧ r.sealPt = none ∧ r.members = [mm] ∧
        mm.slot = slot ∧ mm.decode = true ∧ mm.drafts = 0 ∧ mm.worst = 1) ∧
      s'.s0.step = s.s0.step + 1 ∧ (s'.entry slot).state = .running ∧ (s'.entry slot).holder = .stepFormer false ∧
      (s'.tenant x.cur.entry.tenant).reserved = (s.tenant x.cur.entry.tenant).reserved + 1) ∧
  (∀ (s : State) (slot t : Nat) (s1 : Bool) (why : RemoveCause) (m : Member) (r : StepRun),
    (s.stream s1).run = some r → r.sealPt = none →
    (s.member s1 slot = some m → m.out = none → (s.sess slot).waiting = [] → aget s.migrations slot = none →
      Completes (.memberRemove s1 slot why t) s fun s' =>
        s'.member s1 slot = none ∧ (s'.entry slot).holder = .none ∧
        (s'.entry slot).committed = (s.sess slot).shadow.entry.committed ∧
        (s'.entry slot).state = (if why = .unreachable then .ready else .fenced)) ∧
    (r.live = [m] → (s.sess m.slot).waiting = [] → aget s.migrations m.slot = none →
      Completes (.stepAbandon s1 t) s fun s' =>
        (s'.stream s1).run = none ∧ (s'.entry m.slot).state = .ready ∧ (s'.entry m.slot).holder = .none ∧
        (s'.entry m.slot).committed = (s.sess m.slot).shadow.entry.committed))

/-- R82, R83, R367: an S1 step whose clusters an S0 step holds is suspended at a layer boundary and counts the pre-emption;
once they are free it resumes; a pacing delay that has passed no longer holds the stream's next step.

R496: at each 1 ms tick a tenant's bucket gains BUCKET_RATE thousandths up to its depth; a tenant without a rate keeps
its bucket, and no tick changes a limit. -/
def Obligations.S1GivesWayAndTicksFillBuckets : Prop :=
  (∀ (s : State) (t layer : Nat) (s1 : Bool) (r : StepRun),
    (s.s1.run = some r → r.suspended = false → r.sealPt = none →
      ((r.live.map Member.cluster).any fun l => (s.heldClusters false).contains l) = true →
      Completes (.s1Suspend layer t) s fun s' =>
        s'.s1.run = some { r with suspended := true, suspensions := min 255 (r.suspensions + 1),
                                  preempted := r.preempted + 1, layer := layer } ∧ s'.s0 = s.s0) ∧
    (s.s1.run = some r → r.suspended = true →
      ((r.live.map Member.cluster).any fun l => (s.heldClusters false).contains l) = false →
      Completes (.s1Resume t) s fun s' => s'.s1.run = some { r with suspended := false } ∧ s'.s0 = s.s0) ∧
    ((s.stream s1).paceUntil ≤ t →
      Completes (.stepPacingExpire s1 t) s fun s' => s'.stream s1 = { s.stream s1 with paceUntil := 0 })) ∧
  (∀ (s : State) (t k : Nat) (v : Tenant), aget s.tenants k = some v →
    Completes (.tick1ms t) s fun s' =>
      (s'.tenant k).bucket = (if v.bucketRate = 0 then v.bucket else min (1000 * v.bucketDepth) (v.bucket + v.bucketRate)) ∧
      (s'.tenant k).tokenLimit = v.tokenLimit ∧ (s'.tenant k).quota = v.quota ∧ s'.sessions = s.sessions)

/-- R250, R253: a position of a member whose layers are done is drawn; a token of the forced queue's head stands in for the
first one; with the last position the member has its outputs. -/
def Obligations.SamplersDraw : Prop :=
  ∀ (s : State) (slot i t : Nat) (logits drafts : List Nat) (hook : List Int) (m : Member) (md : Model) (p : Profile),
    s.member false slot = some m → s.modelOf slot = some md → aget s.profiles (s.entry slot).profile = some p →
    m.samples false (s.sess slot) = true → m.draws.length = i → i ≤ m.drafts →
    m.layersDone md (m.inputs (s.sess slot)) = true →
    Completes (.samplerDraw slot i logits drafts hook t) s fun s' =>
      (∃ m', s'.member false slot = some m' ∧ m'.draws.length = i + 1 ∧ m'.draws.take i = m.draws ∧
        (i = m.drafts → m'.out.isSome = true) ∧
        (∀ f, i = 0 → (m.textBefore (s.sess slot)).forced.head? = some f → m'.draws = [(f, true)])) ∧
      (s'.sampler m.cluster).drawn = ((s.sampler m.cluster).drawn + 1) % 2 ^ 32

/-- R85, R87, R89: the seal of a step whose members have their outputs is issued with its stamp; its application commits a
member's tokens, with the session's values those of its last seal; when every table SD has applied it, the stream is free
and the tenants' posted step is the sealed one. -/
def Obligations.SealsCommitAStep : Prop :=
  ∀ (s : State) (sd t : Nat) (s1 : Bool) (r : StepRun),
    ((s.stream s1).run = some r → r.sealPt = none → r.suspended = false → s.power.drain.isNone = true →
      r.live.all (s.memberDone s1) = true → s.ctDue t = false → s.checkpoint.run = none →
      Completes (.sealIssue s1 t) s fun s' =>
        (s'.stream s1).run = some { r with sealPt := some t, commitAtSeal := false,
                                           energy := s.power.energyMj - s.power.energyMark } ∧
        (s'.stream s1).lastSeal = t) ∧
    (∀ (m : Member) (o : MemberOut) (md : Model) (pt : Nat), sd < 12 → s.s0.run = some r → r.sealPt = some pt →
      (r.live.filter fun m => tableSd m.slot == sd) = [m] → m.out = some o → o.ending = .stop → o.tokens ≠ [] →
      s.modelOf m.slot = some md → (s.sess m.slot).waiting = [] → m.lateFence = none → s.migrations = [] →
      s.incoming = [] → s.checkpoint.run = none →
      Completes (.sealApply false sd t) s fun s' =>
        (s'.entry m.slot).committed =
          (s.entry m.slot).committed + (m.promptTokens (s.sess m.slot)).length + o.tokens.length ∧
        (s'.entry m.slot).state = .waiting ∧ (s'.entry m.slot).waitReason = .input ∧
        (s'.entry m.slot).holder = .none ∧ (s'.entry m.slot).lastSeal = r.number ∧
        (s'.sess m.slot).cur.openToken = o.tokens.getLast? ∧ (s'.sess m.slot).peerDone = true ∧
        (s'.sess m.slot).pending = (s.sess m.slot).pending.drop (m.matched + m.carried) ∧
        (s'.sess m.slot).shadow = (s'.sess m.slot).cur) ∧
    (∀ (pt k : Nat) (v : Tenant), (s.stream s1).run = some r → r.sealPt = some pt → r.live = [] →
      aget s.tenants k = some v →
      Completes (.stepOutcome s1 t) s fun s' =>
        (s'.stream s1).run = none ∧
        (s'.stream s1).paceUntil = (if s.power.pacing then t + s.power.pacingUs * 1000 else 0) ∧
        (if s1 then (s'.tenant k).posted1 else (s'.tenant k).posted0) = r.number)

/-- R109, R110: an accepted eviction reserves its frame and takes the leaf into a down-cage; its last segment places the
write hold; at the switch point the leaf names the new frame and the held writes go there; at its release the old
tier's use is returned. -/
def Obligations.CagesMovePages : Prop :=
  ∀ (s : State) (page tier p id t t5 : Nat) (src : CageSource) (c : Cage) (l : Leaf),
    s.leaf page = some l → c.usa = page →
    (l.pinned = false → l.orphan = false → l.frozen = false → l.cage = .resident → l.tier = 0 → tier = 1 ∨ tier = 2 →
      s.writtenInFlight page = false → s.cages = [] → 1 ≤ s.regFld 0x05 0 0x20 5 0 →
      (s.tierPools (ownerSd page) tier).contains p = true → l.tenant ≠ 0 →
      s.quotaFits l.tenant tier (pageUse l.sizeClass l.scaleBytes) = true →
      (s.pool (poolKey (ownerSd page) tier p l.sizeClass)).pool.take.isSome = true →
      Completes (.cageRequest page tier (some p) src t) s fun s' =>
        (∃ id c', s'.cages = [(id, c')] ∧ c'.usa = page ∧ c'.tier = tier ∧ c'.pool = p ∧ c'.up = false ∧ c'.c5 = none ∧
          s'.leaf page = some { l with cage := .down, cageId := id }) ∧
        (s'.tenant l.tenant).used.get tier = (s.tenant l.tenant).used.get tier + pageUse l.sizeClass l.scaleBytes ∧
        s'.mem = s.mem) ∧
    (aget s.cages id = some c → c.c5 = none →
      Completes (.cageCopyDone id false t) s fun s' =>
        aget s'.cages id = some { c with c5 := some t } ∧ s'.mem = s.mem) ∧
    (aget s.cages id = some c → c.c5 = some t5 → c.c7 = none →
      Completes (.cageSwitchPoint id t) s fun s' =>
        s'.leaf page = some { l with tier := c.tier, pool := c.pool, frame := c.frame, scale := c.scale,
                                     cage := .resident, cageId := 0 } ∧
        aget s'.cages id = some { c with c7 := some t, marked := [] } ∧ s'.mem = applyHeld s.mem page s.heldWrites ∧
        (s'.heldWrites.all fun w => w.1 != page) = true) ∧
    (aget s.cages id = some c → c.c7.isSome = true → c.pins = 0 → (s.sd (ownerSd page)).cageWaiting = [] → l.tenant ≠ 0 →
      c.oldTier < 3 →
      Completes (.cageRelease id t) s fun s' =>
        aget s'.cages id = none ∧ s'.leaf page = some l ∧
        (s'.tenant l.tenant).used.get c.oldTier =
          (s.tenant l.tenant).used.get c.oldTier - pageUse l.sizeClass l.scaleBytes ∧ s'.mem = s.mem)

/-- R107, R117, R145: the decay sweep halves ACCESS of every page of its state die; a run of the tier policy has read the
hot and cold lists, and a fault leaves the default policy in force; the retention sweep drops every node of the prefix
tree whose last match is too old.

R115, R116, R122: a reservation within a tenant's quota is counted, and a release returns it; one that does not fit is
refused whole: a host command completes with QUOTA, a session that asks waits with QUOTA. -/
def Obligations.SweepsPolicyRunsAndQuotas : Prop :=
  (∀ (s : State) (sd t page : Nat) (l : Leaf) (asks : List (Nat × Nat × Option Nat)) (fault : Bool), sd < 12 →
    (s.leaf page = some l → Completes (.accessDecay sd t) s fun s' =>
      s'.leaf page = some (if ownerSd page = sd then { l with access := l.access / 2 } else l)) ∧
    ((s.sd sd).policyRunning = false → Completes (.tierPolicyRun sd asks fault t) s fun s' =>
      (s'.sd sd).hot = [] ∧ (s'.sd sd).cold = [] ∧ (s'.sd sd).policyFaulted = ((s.sd sd).policyFaulted || fault)) ∧
    (Completes (.prefixRetentionSweep sd t) s fun s' =>
      (s'.sd sd).nodes.all (fun nd => decide (t ≤ nd.lastMatch + s.regFld 0x06 0 0x00 31 16 * 1000000000)) = true)) ∧
  (∀ (s : State) (tenant tier bytes t slot : Nat) (asker : QuotaFor) (f : Frame), tenant ≠ 0 → tier < 3 →
    (s.quotaFits tenant tier bytes = true →
      Completes (.quotaReservation tenant tier bytes asker t) s fun s' =>
        (s'.tenant tenant).used.get tier = (s.tenant tenant).used.get tier + bytes ∧
        (s'.tenant tenant).quota = (s.tenant tenant).quota ∧ s'.sessions = s.sessions) ∧
    (s.quotaFits tenant tier bytes = false →
      (Completes (.quotaReservation tenant tier bytes (.host f) t) s fun s' =>
        s'.tenants = s.tenants ∧ Answered s s' f stQuota) ∧
      ((s.entry slot).state = .ready →
        Completes (.quotaReservation tenant tier bytes (.step slot) t) s fun s' =>
          (s'.entry slot).state = .waiting ∧ (s'.entry slot).waitReason = .quota)) ∧
    Completes (.quotaRelease tenant tier bytes t) s fun s' =>
      (s'.tenant tenant).used.get tier = (s.tenant tenant).used.get tier - bytes ∧ s'.leaves = s.leaves)

/-- R167, R169, R172, R175: K and V of a layer are appended for every input position of a member; then the spans of its
layer-groups are dispatched, a remote one as a request; with the last span of a layer-group its output is the folded
partials', read from the pages and writing none. -/
def Obligations.AttentionOfAMember : Prop :=
  ∀ (s : State) (s1 : Bool) (slot layer lg t : Nat) (m : Member) (md : Model) (queries : List (List (List Nat)))
    (kv : List (List (List Nat × List Nat))) (w : AttnWork),
    s.member s1 slot = some m → s.modelOf slot = some md →
    (s1 = false → kv.length = m.inputs (s.sess slot) →
      ((List.range md.groups).all fun g => (md.remoteOf (layer * md.groups + g)).isNone) = true →
      Completes (.kvAppend s1 slot layer kv t) s fun s' =>
        ∃ m', s'.member s1 slot = some m' ∧ ∀ g < md.groups, aget m'.appended (layer * md.groups + g) = some kv.length) ∧
    ((m.attention.any fun a => a.layerGroup == lg) = false → queries.length = m.inputs (s.sess slot) →
      (md.remoteOf lg = none → aget m.appended lg ≠ none → s.heldWrites = [] →
        Completes (.spanDispatch s1 slot lg queries kv t) s fun s' =>
          (∃ m' w', s'.member s1 slot = some m' ∧ m'.attention = m.attention ++ [w'] ∧ w'.layerGroup = lg ∧
            w'.start = m.start (s.sess slot) ∧
            w'.spans = md.spanCount (m.start (s.sess slot) + m.inputs (s.sess slot))) ∧ s'.mem = s.mem) ∧
      (∀ pkg, md.remoteOf lg = some pkg →
        Completes (.spanDispatch s1 slot lg queries kv t) s fun s' =>
          (∃ m', s'.member s1 slot = some m' ∧ m'.remote = m.remote ++ [⟨s.gallery.request, t, lg, []⟩]) ∧
          s'.gallery.request = (s.gallery.request + 1) % 2 ^ 32 ∧
          ∃ p ∈ s'.gallery.sending, p.opcode = 0x20 ∧ p.dstPkg = pkg)) ∧
    (∀ unit, (m.attention.find? fun w => w.layerGroup == lg) = some w → w.spans = 1 → w.next = 0 → w.output = none →
      aget w.units 0 = some unit → aget w.received 0 = none →
      ((md.spanUsas ((s.sess slot).cur.lg lg).usas 0).any fun u => (s.leaf u).any Leaf.poison) = false →
      Completes (.spanPartialDone s1 slot lg 0 none false t) s fun s' =>
        (∃ m' w', s'.member s1 slot = some m' ∧ (m'.attention.find? fun w => w.layerGroup == lg) = some w' ∧
          w'.next = 1 ∧ w'.output = some ((w.folded.zip
            (md.spanRows s.mem ((s.sess slot).cur.lg lg).usas lg 0 w.start w.queries)).map
              fun p => (p.1.fold p.2).output) ∧
          m'.attnBytes = m.attnBytes + md.spanBytes lg 0 w.start w.queries.length) ∧ s'.mem = s.mem)

/-- R177, R178, R179: a whole request is served and answered; a train whose parts do not come in time is discarded; a reply
in time ends the member's request; a member whose request has had no reply in time is removed. -/
def Obligations.RemoteAttention : Prop :=
  ∀ (s : State) (h : Head) (handle layer group positions request first tenant model sd slot issued t : Nat) (s1 : Bool)
    (payload : List Byte) (m : Member) (md : Model) (w : RemoteWait),
    (Accepted (s.stamp t) h 0x20 → sd < 12 → aget s.kvShards handle = none → aget s.models model = some md →
      aget s.attRequests (h.srcPkg * 2 ^ 32 + request) = none → aget s.gallery.homes handle = none →
      Completes (.attReq h handle layer group positions 0 request 1 first tenant model sd payload t) s fun s' =>
        aget s'.attRequests (h.srcPkg * 2 ^ 32 + request) = none ∧
        ∃ p ∈ s'.gallery.sending, p.opcode = 0x21 ∧ p.dstPkg = h.srcPkg) ∧
    (∀ set, aget s.attRequests (handle * 2 ^ 32 + request) = some set → set.since + s.remoteLimit < t →
      Completes (.attReqPartsTimeout handle request t) s fun s' =>
        aget s'.attRequests (handle * 2 ^ 32 + request) = none) ∧
    (Accepted (s.stamp t) h 0x21 → s.waiterOf request = some (s1, m, w) → t ≤ w.issued + s.remoteLimit → w.parts = [] →
      leAt payload 24 2 = stOk → s.modelOf m.slot = some md →
      Completes (.attReply h 0 request 1 payload t) s fun s' =>
        ∃ m', s'.member s1 m.slot = some m' ∧ ∀ r ∈ m'.remote, r.request ≠ request) ∧
    (s.member s1 slot = some m → m.out = none → (s.stream s1).run.all (fun r => r.sealPt.isNone) = true →
      (m.remote.any fun w => w.request == request && w.issued == issued) = true → issued + s.remoteLimit < t →
      (s.sess slot).waiting = [] → aget s.migrations slot = none →
      Completes (.remoteTimeout s1 slot request issued false t) s fun s' =>
        s'.member s1 slot = none ∧ (s'.entry slot).state = .ready ∧ (s'.entry slot).holder = .none)

/-- R81, R197, R198: expert tokens are answered with the expert's outputs; a reply in time is the member's; bounds of a split
reduction are raised to the largest; an image is added to its output's exact sum. -/
def Obligations.ExpertsAndSplitReductions : Prop :=
  ∀ (s : State) (h : Head) (s1 : Bool) (slot step layer expert tokens request issued reduction first t : Nat)
    (payload output : List Byte) (b o : Int) (image : List Byte) (info : SplitInfo) (m : Member),
    (Accepted (s.stamp t) h 0x30 →
      Completes (.expertTokens h step layer expert tokens request payload output t) s fun s' =>
        ∃ p, s'.gallery.sending = s.gallery.sending ++ [p] ∧ p.opcode = 0x31 ∧ p.dstPkg = h.srcPkg ∧ p.payload = output) ∧
    (Accepted (s.stamp t) h 0x31 → s.member s1 slot = some m → t ≤ issued + s.remoteLimit →
      Completes (.expertReply h s1 slot request issued payload t) s fun s' =>
        ∃ m', s'.member s1 slot = some m' ∧ m'.experts = m.experts ++ [request]) ∧
    (Accepted (s.stamp t) h 0x33 → aget s.splitSums reduction = none →
      Completes (.anchor h step reduction first [b] [o] t) s fun s' =>
        ∃ r, aget s'.splitSums reduction = some r ∧ r.step = step ∧ aget r.bounds first = some (max b o)) ∧
    (Accepted (s.stamp t) h 0x32 → aget s.splitSums reduction = none → info.exact = true → 1 < info.peers →
      Completes (.accImages h step reduction first [image] info t) s fun s' =>
        ∃ r, aget s'.splitSums reduction = some r ∧ aget r.sources first = some 1 ∧
          aget r.sums first = some (sumAcc [imageAcc (agetD info.own first []), imageAcc image]))

/-- R277 to R283, R224: a descriptor whose LEN is no multiple of 64 ends with FRAME_FIELD, one with a forbidden range with
ACCESS_FAULT at its lowest forbidden address, another is in work; a segment of a copy is moved and counted; a poisoned
source ends the descriptor with POISON; a micro-program gives the order of the segments, and its fault ends the descriptor;
a reset ends it with DISABLED.

R314, R315: bytes of a segment are written at the receiving die and acknowledged, or refused with ACCESS_FAULT; a
segment not acknowledged within RESEND_US goes out again with the present epoch; its acknowledgement completes it, and the
last one ends the descriptor with OK. -/
def Obligations.SegmentsMoveOnPackageAndBetweenPackages : Prop :=
  (∀ (s : State) (die chan t a : Nat) (d : Descriptor) (c : Channel) (given : List Byte) (ok fault : Bool)
    (segs : List (Nat × Nat)), chanExists die chan = true → s.chan die chan = c →
    (c.busy = false → d.len % 64 ≠ 0 →
      Completes (.hoistIssue die chan d t) s fun s' =>
        (s'.chan die chan).state = 4 ∧ (s'.chan die chan).status = stFrameField ∧ s'.mem = s.mem) ∧
    (c.busy = false → d.len % 64 = 0 → 0 < d.len → d.len ≤ 0xffffffc0 → d.reservedZero = true → d.srcSpace ≤ 3 →
      d.dstSpace ≤ 3 → d.op ≤ 3 → (d.op ≠ 3 → s.rangeFault d die d.srcSpace d.src d.len = none) →
      (s.rangeFault d die d.dstSpace d.dst d.len = none →
        Completes (.hoistIssue die chan d t) s fun s' =>
          (s'.chan die chan).desc = some d ∧ (s'.chan die chan).busy = true ∧ (s'.chan die chan).nextSeg = 0 ∧
          (s'.chan die chan).done = 0 ∧ s'.mem = s.mem) ∧
      (s.rangeFault d die d.dstSpace d.dst d.len = some a →
        Completes (.hoistIssue die chan d t) s fun s' =>
          (s'.chan die chan).state = 4 ∧ (s'.chan die chan).status = stAccessFault ∧
          (s'.chan die chan).faultAddr = a ∧ s'.mem = s.mem)) ∧
    (c.desc = some d → c.state = 1 → d.op = 0 → d.prog = 0 → d.srcSpace = 0 → d.dstSpace = 1 →
      c.nextSeg + 1 < d.segments →
      (s.poisonIn (d.src + 4096 * c.nextSeg) 4096 = none →
        Completes (.hoistSegmentDone die chan given ok t) s fun s' =>
          s'.out = s.out ++ [.hostWrite d.function (d.dst + 4096 * c.nextSeg) (memRead s.mem (d.src + 4096 * c.nextSeg) 4096)] ∧
          (s'.chan die chan).nextSeg = c.nextSeg + 1 ∧ (s'.chan die chan).done = c.done + 4096 ∧
          (s'.chan die chan).busy = true ∧ s'.mem = s.mem) ∧
      (s.poisonIn (d.src + 4096 * c.nextSeg) 4096 = some a →
        Completes (.hoistSegmentDone die chan given ok t) s fun s' =>
          (s'.chan die chan).state = 4 ∧ (s'.chan die chan).status = stPoison ∧ (s'.chan die chan).faultAddr = a ∧
          (s'.chan die chan).done = c.done)) ∧
    (c.desc = some d → c.busy = true → d.prog ≠ 0 → c.order = [] →
      (segs.length ≤ 64 → (segs.all fun p => decide (p.1 < d.segments ∧ p.2 < d.segments)) = true → fault = false →
        Completes (.hoistProgramRun die chan segs fault t) s fun s' =>
          (s'.chan die chan).order = segs.take (d.segments - c.nextSeg) ∧ (s'.chan die chan).busy = true) ∧
      (fault = true →
        Completes (.hoistProgramRun die chan segs fault t) s fun s' =>
          (s'.chan die chan).state = 4 ∧ (s'.chan die chan).status = stAccessFault)) ∧
    (c.desc = some d → c.busy = true → (s.slotsWhere fun x => x.cur.entry.holder == .hoist die chan) = [] →
      Completes (.hoistChannelReset die chan t) s fun s' =>
        (s'.chan die chan).state = 4 ∧ (s'.chan die chan).status = stDisabled ∧ s'.sessions = s.sessions)) ∧
  (∀ (s : State) (h : Head) (die chan tag seg addr u t issued : Nat) (bs : List Byte) (l : Leaf) (p : Packet) (c : Channel)
    (d : Descriptor),
    (Accepted (s.stamp t) h 0x50 → s.incoming = [] →
      (s.usaFault addr bs.length 0 = none → 0 < bs.length → addr % 4096 + bs.length ≤ 4096 →
        s.pageOf addr = some (u, l) → aget s.leaves u = some l → l.frozen = false → l.tier = 0 → aget s.cages l.cageId = none →
        Completes (.segData h tag seg chan addr false bs t) s fun s' =>
          s'.mem = memWrite s.mem addr bs ∧
          ∃ q, s'.gallery.sending = s.gallery.sending ++ [q] ∧ q.opcode = 0x10 ∧ q.dstPkg = h.srcPkg ∧
            leAt q.oph 0 8 = tag % 2 ^ 64 ∧ leAt q.oph 8 4 = seg % 2 ^ 32 ∧ leAt q.oph 13 1 = 0) ∧
      ((s.usaFault addr bs.length 0).isSome = true →
        Completes (.segData h tag seg chan addr false bs t) s fun s' =>
          s'.mem = s.mem ∧ s'.leaves = s.leaves ∧
          ∃ q, s'.gallery.sending = s.gallery.sending ++ [q] ∧ q.opcode = 0x10 ∧ q.dstPkg = h.srcPkg ∧
            leAt q.oph 13 1 = stAccessFault)) ∧
    (chanExists die chan = true → aget s.gallery.unacked (chanKey die chan * 2 ^ 32 + seg) = some (p, issued) →
      issued + s.regFld 0x12 0 0x00 47 32 * 1000 ≤ t →
      Completes (.segmentResend die chan seg t) s fun s' =>
        s'.gallery.sending = s.gallery.sending ++ [{ p with epoch := s.epoch % 2 ^ 16 }] ∧
        aget s'.gallery.unacked (chanKey die chan * 2 ^ 32 + seg) = some (p, t)) ∧
    (Accepted (s.stamp t) h 0x10 → chanExists die chan = true → s.chan die chan = c → c.desc = some d → c.busy = true →
      d.tag = tag → s.gallery.unacked = [(chanKey die chan * 2 ^ 32 + seg, (p, issued))] → seg < 2 ^ 32 → c.marked = [] →
      d.segments ≤ c.nextSeg →
      Completes (.segAck h die chan tag seg 0 t) s fun s' =>
        s'.gallery.unacked = [] ∧ (s'.chan die chan).state = 3 ∧ (s'.chan die chan).status = stOk ∧
        (s'.chan die chan).done = min d.len (c.done + min 4096 (d.len - 4096 * seg))))

/-- R307 to R309, R327 to R329: codewords that fail and link control move a link's counters; a port that trains sends its
roll call; an accepted roll call makes it UP, or FENCED where it names this package; lane loss and three missed roll calls
take it down and empty its queues. -/
def Obligations.LinksTrainAndRollCall : Prop :=
  ∀ (s : State) (h : Head) (port lanes seq acked r pkg peerPort pos serial hash epoch t : Nat) (credits : List Nat)
    (g : GalPort), port < 16 → s.port port = g →
    (Completes (.codewordUncorrectable port seq t) s fun s' =>
      s'.port port = { g with rxSeq := seq % 2 ^ 32, replays := (g.replays + 1) % 2 ^ 32 } ∧ s'.mem = s.mem) ∧
    (Completes (.linkControlFlit port acked none credits t) s fun s' =>
      (s'.port port).acked = acked ∧ (s'.port port).state = g.state ∧
      ∀ c < 8, (s'.port port).credits.getD c 0 = g.credits.getD c 0 + credits.getD c 0) ∧
    (g.tries = 7 → Completes (.linkControlFlit port g.acked (some r) credits t) s fun s' =>
      (s'.port port).state = (if s.portEnabled port then .training else .down) ∧ (s'.port port).queues = []) ∧
    (s.portEnabled port = true → g.state = .training →
      Completes (.portTrained port lanes t) s fun s' =>
        (s'.port port).state = .rollCall ∧ (s'.port port).lanes = lanes % 16 ∧ (s'.port port).txSeq = 0 ∧
        (s'.port port).credits = List.replicate 8 0 ∧ ∃ x, s'.out = s.out ++ [.packet port x] ∧ x.opcode = 0x08) ∧
    (g.state = .up →
      (Completes (.laneLockLoss port t) s fun s' =>
        (s'.port port).state = (if s.portEnabled port then .training else .down) ∧ (s'.port port).queues = [] ∧
        (s'.port port).lanes = 0) ∧
      (Completes (.rollCallMissed port t) s fun s' =>
        (s'.port port).state = (if s.portEnabled port then .training else .down) ∧ (s'.port port).queues = []) ∧
      (Completes (.rollCallSend port t) s fun s' =>
        s'.port port = g ∧ ∃ x, s'.out = s.out ++ [.packet port x] ∧ x.opcode = 0x08)) ∧
    (h.port = port → s.authentic h 0x08 = true → formOk h 0x08 = true → g.state = .rollCall →
      (pkg ≠ s.pkg → 3 ≤ port →
        Completes (.rollCall h pkg peerPort pos serial hash epoch t) s fun s' =>
          (s'.port port).state = .up ∧ (s'.port port).peerPkg = pkg ∧ (s'.port port).peerSerial = serial ∧
          (s'.port port).epochMatch = (epoch == s.epoch)) ∧
      (pkg = s.pkg →
        Completes (.rollCall h pkg peerPort pos serial hash epoch t) s fun s' => (s'.port port).state = .fenced))

/-- R314, R318 to R325: a packet of this package is queued at the port its route gives, or handed to a die of the package;
the packet a port chooses leaves, with its credits taken; a packet in transit goes on with HOPS + 1 until its 15th hop; one
that waits too long for credit is dropped; a read of the marks restarts them.

R216, R314, R316: group control acts when its data count is met, and is held before; kernel data and management
messages reach the die and the management complex. -/
def Obligations.PacketsAndMessagesFindTheirUnits : Prop :=
  (∀ (s : State) (port index fq t : Nat) (x y : Packet) (q : Queued), port < 16 →
    (s.gallery.sending[index]? = some x →
      (x.dstPkg ≠ s.pkg → s.route x = some port →
        Completes (.packetEnqueue index t) s fun s' =>
          s'.gallery.sending = s.gallery.sending.eraseIdx index ∧
          (s'.port port).queue x.tc = (s.port port).queue x.tc ++ [⟨x, t⟩]) ∧
      (x.dstPkg = s.pkg →
        Completes (.packetEnqueue index t) s fun s' =>
          s'.gallery.sending = s.gallery.sending.eraseIdx index ∧ s'.out = s.out ++ [.onPackage x]) ∧
      (x.dstPkg ≠ s.pkg → s.route x = none →
        Completes (.packetEnqueue index t) s fun s' =>
          s'.gallery.sending = s.gallery.sending.eraseIdx index ∧ s'.gallery.ports = s.gallery.ports ∧ s'.out = s.out)) ∧
    ((s.port port).state = .up → (s.stamp t).pickEgress port = some (fq, q) →
      (q.packet.srcPkg ≠ s.pkg →
        Completes (.egressSelect port t) s fun s' =>
          s'.out = s.out ++ [.packet port q.packet] ∧
          (s'.port port).queue q.packet.tc = ((s.port port).queue q.packet.tc).erase q ∧
          (s'.port port).txSeq = ((s.port port).txSeq + q.packet.flits) % 2 ^ 32) ∧
      (q.packet.srcPkg = s.pkg → ((s.stamp t).protect q.packet).1 = some y →
        Completes (.egressSelect port t) s fun s' =>
          Msg.packet port y ∈ s'.out ∧
          (s'.port port).queue q.packet.tc = ((s.port port).queue q.packet.tc).erase q)) ∧
    (x.dstPkg ≠ s.pkg →
      (x.hops < 15 → s.route { x with hops := x.hops + 1 } = some port →
        Completes (.packetTransit x t) s fun s' =>
          (s'.port port).queue x.tc = (s.port port).queue x.tc ++ [⟨{ x with hops := x.hops + 1 }, t⟩]) ∧
      (15 ≤ x.hops → Completes (.packetTransit x t) s fun s' => s'.gallery.ports = s.gallery.ports ∧ s'.out = s.out)) ∧
    (x.tc < 8 → (((s.port port).queue x.tc).find? fun z => z.packet.srcPkg != s.pkg && z.stamp + 1000000 < t) = some q →
      Completes (.transitCreditTimeout port x.tc t) s fun s' =>
        (s'.port port).queue x.tc = ((s.port port).queue x.tc).erase q ∧ s'.out = s.out) ∧
    (x.tc < 8 → Completes (.tfqHwmRead port x.tc t) s fun s' =>
      aget (s'.port port).occHwm x.tc = some ((s.port port).queue x.tc).length ∧
      aget (s'.port port).resHwm x.tc = some 0 ∧ (s'.port port).queues = (s.port port).queues)) ∧
  (∀ (s : State) (h : Head) (code epoch count addr type t : Nat) (payload : List Byte),
    (Accepted (s.stamp t) h 0x12 →
      (count ≤ agetD s.gallery.dataCounts h.srcPkg 0 →
        Completes (.groupCtl h code epoch count t) s fun s' =>
          s'.gallery.mgmt = s.gallery.mgmt ++ [(0x12, leBytes 1 code ++ leBytes 8 epoch)] ∧
          s'.gallery.held = s.gallery.held) ∧
      (agetD s.gallery.dataCounts h.srcPkg 0 < count →
        Completes (.groupCtl h code epoch count t) s fun s' =>
          s'.gallery.held = s.gallery.held ++ [(2 ^ 64 + h.srcPkg, code + 256 * epoch, count)] ∧
          s'.gallery.mgmt = s.gallery.mgmt)) ∧
    (Accepted (s.stamp t) h 0x37 →
      Completes (.kernelData h addr payload t) s fun s' =>
        s'.gallery.inbox = s.gallery.inbox ++ [(h.dstDie, addr, payload)] ∧ s'.mem = s.mem) ∧
    (h.port < 16 → s.authentic h 0x09 = true → formOk h 0x09 = true →
      Completes (.mgmt h type payload t) s fun s' =>
        s'.gallery.mgmt = s.gallery.mgmt ++ [(type, payload)] ∧ s'.mem = s.mem))

/-- R332, R333: SYNC goes out on the upstream port and is answered; a SYNC_REPLY gives the offset and the port, and steps
Package Time forward once, before the first step, where it lags by more than 1 µs; eight replies missed select the backup
root. -/
def Obligations.PackageTimeIsSynchronised : Prop :=
  ∀ (s : State) (h : Head) (port t t1 t2 t3 : Nat) (off : Int),
    (s.upstream = some port → Completes (.syncSend t) s fun s' =>
      ∃ x, s'.out = s.out ++ [.packet port x] ∧ x.opcode = 0x01 ∧ x.dstPkg = (s.port port).peerPkg) ∧
    (s.upstream = none → Completes (.syncSend t) s fun s' => s'.out = s.out) ∧
    (h.port < 16 → s.authentic h 0x01 = true → formOk h 0x01 = true →
      Completes (.sync h t1 t) s fun s' =>
        ∃ x, s'.out = s.out ++ [.packet h.port x] ∧ x.opcode = 0x02 ∧ x.dstPkg = h.srcPkg) ∧
    (h.port < 16 → s.authentic h 0x02 = true → formOk h 0x02 = true →
      off = (((t2 : Int) - t1) - ((t : Int) - t3)) / 2 + agetD s.gallery.asymmetry h.port 0 →
      Completes (.syncReply h t1 t2 t3 t) s fun s' =>
        s'.regFld 0x12 0 0x50 15 0 = toMod 16 off ∧ s'.regFld 0x12 0 0x50 19 16 = h.port ∧
        s'.pt = max s.pt t + (if s.gallery.synced = false ∧ s.s0.step = 0 ∧ s.s1.step = 0 ∧ 1000 < off then off.toNat else 0)) ∧
    Completes (.syncLost t) s fun s' =>
      s'.regFld 0x12 0 0x50 20 20 = 0 ∧ s'.regFld 0x12 0 0x50 21 21 = 1 ∧ s'.gallery.syncMissed = 0

/-- R338 to R344: an accepted CKP_CUT arms its epoch, and CKP_CUT without a store completes with DISABLED; the cut freezes
the pages in scope, clears DIRTY_CKP and has every table SD record its sessions; a page is staged with its content and its
freeze clears; records reach the store.

R342, R345, R351 to R353: an epoch whose store write fails or times out is given up and its CKP_CUT completes with
CKP_INCOMPLETE; an epoch with everything at the store becomes the last durable one, and its CKP_CUT completes with OK. -/
def Obligations.EpochsAreCutStagedAndEnded : Prop :=
  (∀ (s : State) (f : Frame) (page n t : Nat) (l : Leaf) (scope : List Nat),
    (f.cutOk = true →
      (s.regFld 0x14 0 0x10 31 0 ≠ 0 → s.checkpoint.run = none → s.checkpoint.lastEpoch < f.field 32 8 →
        Completes (.ckpCut f t) s fun s' =>
          s'.checkpoint.lastEpoch = f.field 32 8 ∧
          ∃ r, s'.checkpoint.run = some r ∧ r.frame = f ∧ r.epoch = f.field 32 8 ∧ r.cutPt = f.param ∧ r.cut = none) ∧
      (s.regFld 0x14 0 0x10 31 0 = 0 →
        Completes (.ckpCut f t) s fun s' => s'.checkpoint = s.checkpoint ∧ Answered s s' f stDisabled)) ∧
    (∀ r : EpochRun, s.checkpoint.run = some r → s.migrations = [] → s.incoming = [] →
      (s.hasS0 = false → r.cut = none → r.cutPt ≤ t → r.recorded = [] →
        scope = s.pagesInScope.filter (fun u => r.full || (s.leaf u).any (·.dirtyCkp)) →
        sumBy (fun u => ((s.leaf u).map fun l => pageUse l.sizeClass l.scaleBytes).getD 0) scope ≤ s.checkpoint.stageFree →
        s.checkpoint.extentsUsed + ceilDiv (sumBy (fun u => ((s.leaf u).map fun l =>
          pageUse l.sizeClass l.scaleBytes).getD 0) scope) 1048576 ≤ Config.storeExtents →
        Completes (.ckpCutAtPt t) s fun s' =>
          (∃ r', s'.checkpoint.run = some r' ∧ r'.cut = some (t, 0) ∧ r'.recorded = List.range 12 ∧
            ∀ u, u ∈ r'.frozen ↔ u ∈ scope) ∧
          ∀ u ∈ scope, ∀ x, s.leaf u = some x → s'.leaf u = some { x with frozen := true, dirtyCkp := false }) ∧
      (s.leaf page = some l → l.frozen = true → l.orphan = false → (s.sd (ownerSd page)).cageWaiting = [] →
        (s.isKvPage page = true → pageUse l.sizeClass l.scaleBytes ≤ s.checkpoint.stageFree) →
        Completes (.stagingCopyDone page t) s fun s' =>
          s'.leaf page = some { l with frozen := false } ∧ s'.mem = s.mem ∧
          s'.checkpoint.stageFree =
            (if s.isKvPage page then s.checkpoint.stageFree - pageUse l.sizeClass l.scaleBytes
             else s.checkpoint.stageFree) ∧
          ∃ r', s'.checkpoint.run = some r' ∧ r'.staged = r.staged ++ [s.pageRecord page l] ∧
            r'.frozen = r.frozen.filter (· != page)) ∧
      Completes (.ckpStoreWriteDone n true t) s fun s' =>
        ∃ r', s'.checkpoint.run = some r' ∧ r'.staged = r.staged.drop n ∧ r'.stored = r.stored ++ r.staged.take n)) ∧
  (∀ (s : State) (n t pt step : Nat) (r : EpochRun), s.checkpoint.run = some r → s.migrations = [] → s.incoming = [] →
    (r.frozen = [] →
      (Completes (.ckpStoreWriteDone n false t) s fun s' =>
        s'.checkpoint.run = none ∧ s'.checkpoint.lastDurable = s.checkpoint.lastDurable ∧
        Answered s s' r.frame stCkpIncomplete) ∧
      (Completes (.storeTimeout t) s fun s' =>
        s'.checkpoint.run = none ∧ s'.checkpoint.lastDurable = s.checkpoint.lastDurable ∧
        Answered s s' r.frame stCkpIncomplete)) ∧
    (r.cut = some (pt, step) → r.frozen = [] → r.staged = [] →
      ((List.range 12).all fun k => !(s.sd k).inService || r.recorded.contains k) = true →
      r.keepFrom ≤ r.epoch → s.checkpoint.lastDurable ≤ r.epoch →
      Completes (.ckpManifestDurable t) s fun s' =>
        s'.checkpoint.run = none ∧ s'.checkpoint.lastDurable = r.epoch ∧ Answered s s' r.frame stOk ∧
        ∃ i ∈ s'.checkpoint.images, i.epoch = r.epoch ∧ i.records = r.stored ∧ i.sessions = r.sessions ∧ i.cutPt = pt))

/-- R346, R354 to R359: SESSION_RESTORE of a DORMANT session reserves its pages and locks it; its reads in place give it its
recorded state at its new home, and a read with POISON leaves it DORMANT; CKP_RESTORE_GROUP takes the sessions of an epoch
into their slots DORMANT, and completes with CKP_INCOMPLETE where the store has none. -/
def Obligations.RestoresBringSessionsBack : Prop :=
  ∀ (s : State) (f : Frame) (slot t : Nat) (records : List PageRecord) (r : RestoreRun) (i : EpochImage) (x : Recorded),
    (s.findHandle f.handle = some slot → s.bound (s.entry slot).tenant f.function = true → (s.entry slot).detached = false →
      (s.entry slot).state = .ready → (s.entry slot).holder = .none → (s.entry slot).lockReport = false →
      (s.entry slot).residence = .dormant → (s.sess slot).frozen = false → (s.sess slot).waiting = [] →
      f.opcode = 0x010c → f.restoreOk = true → f.field 32 1 = 0 → aget s.migrations slot = none →
      ((s.stamp t).restoreStart f slot (s.sess slot)).1 = stOk →
      Completes (.sessionRestore f none t) s fun s' =>
        (s'.entry slot).holder = .host f.function f.queue ∧ (s'.entry slot).residence = .dormant ∧
        (s'.sess slot).owner = some f ∧
        ∃ q, aget s'.checkpoint.restores slot = some q ∧ q.frame = f ∧ q.session = s.sess slot) ∧
    (aget s.checkpoint.restores slot = some r → (s.sess slot).waiting = [] →
      (Completes (.restorePagesPlaced slot records false t) s fun s' =>
        aget s'.checkpoint.restores slot = none ∧ (s'.entry slot).residence = (s.entry slot).residence ∧
        (s'.entry slot).holder = .none ∧ Answered s s' r.frame stPoison) ∧
      (r.session.cur.entry.deadline = 0 →
        Completes (.restorePagesPlaced slot records true t) s fun s' =>
          aget s'.checkpoint.restores slot = none ∧ aget s'.checkpoint.sources slot = none ∧
          (s'.entry slot).state = r.session.cur.entry.state ∧ (s'.entry slot).homeSd = r.homeSd ∧
          (s'.entry slot).metaUsa = r.metaUsa ∧ (s'.entry slot).holder = .none ∧
          (s'.sess slot).pending = r.session.pending ∧ Answered s s' r.frame stOk)) ∧
    (f.paramOk = true → f.handle = 0 → f.zeros 44 63 = true → (∀ p ∈ s.sessions, p.2.cur.entry.state = .free) →
      (Completes (.ckpRestoreGroup f none t) s fun s' => s'.sessions = s.sessions ∧ Answered s s' f stCkpIncomplete) ∧
      (i.xts = s.security.conf → i.layout = s.layoutSig → i.sessions = [x] → x.session.cur.entry.state = .ready →
        x.undecided = none →
        Completes (.ckpRestoreGroup f (some i) t) s fun s' =>
          (s'.entry x.slot).residence = .dormant ∧ (s'.entry x.slot).state = .ready ∧
          (s'.entry x.slot).handle = x.session.cur.entry.handle ∧
          aget s'.checkpoint.sources x.slot = some (.epoch i.epoch (f.field 40 4)) ∧ Answered s s' f stOk))

/-- R382, R384, R385, R391, R392: an entry opens for a PARKED CLASS_D session with changed state; a capture takes a page's
record and clears DIRTY_DUR; the payload and the commit block are written in order; a failed payload gives the entry up.

R369, R370, R386 to R389, R539, R543: a supply below its limit for the filter's time is a detection, which a rise in
time cancels; a detection or an over-temperature starts the drain, whose first entry is the table; its end halts the
package and what was in SRAM is gone; THERMTRIP halts it at once. -/
def Obligations.TheJournalCommitsAndTheDrainEnds : Prop :=
  (∀ (s : State) (slot seq page mbps t : Nat) (w : JournalWrite) (l : Leaf),
    (s.power.drainEnabled = true → s.power.drain = none → (s.sess slot).durable = true → s.power.writes = [] →
      s.power.journal = [] → (s.entry slot).residence = .parked → 0 < s.changedBytes slot →
      (s.openEntry .base slot (s.entryPages (s.sess slot) true) []).power.journalUsed ≤ s.power.journalTotal * 2 ^ 20 →
      Completes (.journalEntryStart slot t) s fun s' =>
        s'.power.jseq = s.power.jseq + 1 ∧
        ∃ v, s'.power.writes = [v] ∧ v.slot = slot ∧ v.entry.kind = .base ∧ v.entry.seq = s.power.jseq + 1 ∧
          v.entry.handle = (s.entry slot).handle ∧ v.toCapture = s.entryPages (s.sess slot) true) ∧
    (s.journalWrite seq = some w →
      (w.toCapture.contains page = true → s.leaf page = some l →
        s.power.captured + pageUse l.sizeClass l.scaleBytes ≤ 2 ^ 30 →
        Completes (.journalCapture seq page t) s fun s' =>
          s'.leaf page = some { l with dirtyDur := false } ∧ s'.mem = s.mem ∧
          ∃ v, s'.journalWrite seq = some v ∧ v.toCapture = w.toCapture.filter (· != page) ∧
            v.entry.records = w.entry.records ++ [s.pageRecord page l]) ∧
      (w.toCapture = [] → w.payloadDone = false →
        (Completes (.journalPayloadDone seq mbps true t) s fun s' =>
          s'.journalWrite seq = some { w with payloadDone := true } ∧ s'.out = s.out ++ [.journal seq 0]) ∧
        (s.power.drain = none → Completes (.journalPayloadDone seq mbps false t) s fun s' =>
          s'.journalWrite seq = none ∧ s'.power.journal = s.power.journal)) ∧
      (w.payloadDone = true →
        (s.power.drain = none → Completes (.journalCommit seq true t) s fun s' =>
          s'.journalWrite seq = none ∧ s'.out = s.out ++ [.journal seq 1]) ∧
        (∀ d : Drain, s.power.drain = some d → d.todo = [] →
          Completes (.journalCommit seq true t) s fun s' =>
            s'.journalWrite seq = none ∧ s'.power.journal = s.power.journal ++ [{ w.entry with committed := true }])))) ∧
  (∀ (s : State) (eid fell junction dram watts die d t : Nat),
    (eid < 2 → (s.eport eid).supply = true → fell + 1000 * s.regFld 0x15 0 0x18 19 16 ≤ t → (s.eport eid).rose ≤ fell →
      Completes (.uvDetect eid fell t) s fun s' => s'.eport eid = { s.eport eid with detected := some t }) ∧
    (eid < 2 → (s.eport eid).detected = some d → t ≤ d → s.power.drain = none →
      Completes (.busRecover eid t) s fun s' => s'.eport eid = { s.eport eid with detected := none, rose := t }) ∧
    (s.power.drain = none → s.s0.run = none → s.s1.run = none → s.checkpoint.run = none → s.power.writes = [] →
      (s.energyPorts.any (fun p => p.2.detected.isSome) = true →
        Completes (.drainStart t) s fun s' =>
          (∃ q, s'.power.drain = some q ∧ q.start = t ∧ q.thermal = false) ∧ s'.boot.pfAlertN = false ∧
          (∀ n < 2, (s.eport n).phase = .ready → (s'.eport n).phase = .discharging) ∧
          (∀ p ∈ s'.gallery.ports, p.2.state = .down) ∧
          (s.power.drainEnabled = true → ∃ w, s'.power.writes = [w] ∧ w.entry.kind = .table ∧
            w.entry.seq = s.power.jseq + 1)) ∧
      (110 ≤ junction ∨ 100 ≤ dram →
        Completes (.thermalDrain junction dram t) s fun s' =>
          (∃ q, s'.power.drain = some q ∧ q.start = t ∧ q.thermal = true) ∧ s'.boot.pfAlertN = false)) ∧
    (∀ q : Drain, s.power.drain = some q → q.todo = [] → s.power.writes = [] →
      Completes (.drainEnd watts t) s fun s' =>
        s'.boot.halted = true ∧ s'.power.lastDrainW = watts ∧ s'.power.lastDrainMs = (t - q.start) / 1000000 ∧
        s'.sessions = [] ∧ s'.mem = [] ∧ s'.errLog = s.errLog ∧
        (s.power.drainEnabled = true → ∃ e, s'.power.journal = s.power.journal ++ [e] ∧ e.kind = .drainEnd ∧
          e.committed = true)) ∧
    Completes (.thermtrip die t) s fun s' =>
      s'.boot.halted = true ∧ s'.boot.thermtripN = false ∧ s'.boot.causes = s.boot.causes ++ [(0x0301, die)] ∧
      s'.sessions = [] ∧ s'.mem = [] ∧ s'.power.journal = s.power.journal)

/-- R372 to R376, R378, R533: an energy port takes what its loops give it; its precharge, charge and retirement end at
their conditions; RETIRE, ADMIT and the loss of its supply change its state. -/
def Obligations.EnergyPortsFollowTheirPhases : Prop :=
  ∀ (s : State) (eid busV storeV duty1 duty2 request rating esr nodeV t : Nat) (current : Int) (p : EnergyPort),
    eid < 2 → s.eport eid = p →
    (p.supply = true →
      (p.phase = .ready ∨ p.phase = .charging →
        Completes (.currentLoopRun eid busV storeV current duty1 duty2 request false t) s fun s' =>
          s'.eport eid = { p with busV := busV, storeV := storeV, current := current, request := request,
                                  swapSince := none, duty := (duty1 % 65536, duty2 % 65536) }) ∧
      (Completes (.currentLoopRun eid busV storeV current duty1 duty2 request true t) s fun s' =>
        (s'.eport eid).phase = .safe ∧ (s'.eport eid).healthy = false ∧ (s'.eport eid).contactor = false ∧
        (s'.eport eid).duty = (0, 0))) ∧
    (p.phase = .ready → Completes (.healthTest eid rating esr t) s fun s' =>
      (s'.eport eid).rating = rating ∧ (s'.eport eid).esr = esr ∧ (s'.eport eid).phase = .ready ∧
      (s'.eport eid).firstEsr = (if p.firstEsr = 0 then esr else p.firstEsr)) ∧
    (∀ q, p.swapSince = some q → q + 200000 ≤ t →
      Completes (.loopSwapTimeout eid t) s fun s' => (s'.eport eid).phase = .safe ∧ (s'.eport eid).contactor = false) ∧
    (p.phase = .precharge → nodeV ≤ p.storeV + 100 → p.storeV ≤ nodeV + 100 →
      Completes (.prechargeDone eid nodeV t) s fun s' =>
        (s'.eport eid).phase = .charging ∧ (s'.eport eid).contactor = true) ∧
    (p.phase = .charging → p.testPassed = true → cfgCells (s.eidCfg eid) * p.chargeMv (s.eidCfg eid) ≤ 10 * p.storeV →
      Completes (.chargeDone eid t) s fun s' => (s'.eport eid).phase = .ready) ∧
    (p.phase = .retiring → p.current.natAbs ≤ 500 →
      Completes (.contactorOpen eid t) s fun s' =>
        (s'.eport eid).phase = .removable ∧ (s'.eport eid).contactor = false) ∧
    (p.phase = .ready →
      ((s.eport (1 - eid)).counts = true →
        Completes (.eidRetire eid t) s fun s' => (s'.eport eid).phase = .retiring) ∧
      ((s.eport (1 - eid)).counts = false →
        Completes (.eidRetire eid t) s fun s' => s'.energyPorts = s.energyPorts)) ∧
    (p.phase = .absent ∨ p.phase = .removable ∨ p.phase = .safe →
      (p.supply = true → p.admissible (s.eidCfg eid) = true →
        Completes (.eidAdmit eid t) s fun s' => (s'.eport eid).phase = .precharge) ∧
      (p.admissible (s.eidCfg eid) = false →
        Completes (.eidAdmit eid t) s fun s' => s'.energyPorts = s.energyPorts)) ∧
    (Completes (.eidSupplyLoss eid t) s fun s' =>
      (s'.eport eid).phase = .safe ∧ (s'.eport eid).supply = false ∧ (s'.eport eid).duty = (0, 0)) ∧
    Completes (.eidSupplyReturn eid t) s fun s' => (s'.eport eid).phase = .safe ∧ (s'.eport eid).supply = true

/-- R364, R366 to R368, R374, R375, R377, R380: the voltage and thermal loops set what they measure and limit, their faults
hold and slow the package; limits are undone pacing first; the cap keeps to its range; converters are polled; the hold-up
limit follows from the ports' energy. -/
def Obligations.PowerKeepsItsLimits : Prop :=
  ∀ (s : State) (tapsA tapsB freqs : List Nat) (ntcsA ntcsB : List Int) (setA setB : Int) (a b : EnergyPort)
    (healthA healthB flags junc dram die watts mj pacing held converter needMv v t : Nat),
    (s.power.holdSince = none →
      (Completes (.voltageLoopRun tapsA tapsB ntcsA ntcsB setA setB healthA healthB flags false t) s fun s' =>
        (s'.eport 0).taps = tapsA ∧ (s'.eport 0).ntcs = ntcsA ∧ (s'.eport 0).setpoint = setA ∧
        (s'.eport 1).taps = tapsB ∧ (s'.eport 1).ntcs = ntcsB ∧ (s'.eport 1).setpoint = setB ∧
        s'.power.portFlags = flags) ∧
      (Completes (.voltageLoopRun tapsA tapsB ntcsA ntcsB setA setB healthA healthB flags true t) s fun s' =>
        s'.power.holdSince = some t ∧ s'.energyPorts = s.energyPorts)) ∧
    (s.power.holdSince = some held → held + 1000000000 ≤ t →
      Completes (.loopFaultHoldExpire t) s fun s' =>
        (s'.eport 0).phase = .safe ∧ (s'.eport 1).phase = .safe ∧ s'.power.holdSince = none) ∧
    (s.power.loopStopped = false →
      (Completes (.thermalLoopRun junc dram die watts mj freqs pacing false t) s fun s' =>
        s'.power.powerW = watts ∧ s'.power.hotJunc = junc ∧ s'.power.hotDram = dram ∧
        s'.power.freqCd = (List.range (min 16 freqs.length)).map (fun i => (i, clampFreq (freqs.getD i freqMax))) ∧
        s'.power.pacing = (pacing != 0) ∧ s'.power.pacingUs = min pacing 10000) ∧
      (Completes (.thermalLoopRun junc dram die watts mj freqs pacing true t) s fun s' =>
        s'.power.freqMhz = 600 ∧ (∀ c ∈ s'.power.freqCd, c.2 = 600) ∧ s'.power.loopStopped = true ∧
        s'.power.pacing = s.power.pacing) ∧
      (100 * watts < 97 * s.regFld 0x15 0 0x00 10 0 →
        (s.power.pacing = true → Completes (.capRelax watts t) s fun s' =>
          s'.power.pacing = false ∧ s'.power.pacingUs = 0 ∧ s'.power.freqCd = s.power.freqCd) ∧
        (s.power.pacing = false → Completes (.capRelax watts t) s fun s' =>
          s'.power.freqCd = s.power.freqCd.map (fun f => (f.1, clampFreq (f.2 + 25)))))) ∧
    (Completes (.pwrCapWrite v t) s fun s' => s'.reg (pcs 0x15 0 0) = max 600 (min s.tdp (fld v 10 0))) ∧
    (Completes (.pmbusPoll [(converter, true, false)] needMv t) s fun s' =>
      aget s'.power.missed converter = some 0 ∧ s'.power.avsMv = avsSetpoint needMv) ∧
    (s.energyPorts = [(0, a), (1, b)] → ∀ e, e = (if a.counts then a.usable (s.eidCfg 0) else 0)
        + (if b.counts then b.usable (s.eidCfg 1) else 0) →
      Completes (.energyRecompute t) s fun s' =>
        s'.power.energyJ = min e 0xffffffff ∧
        s'.power.limitMib = (if 750000 * e / s.regFld 0x15 0 0x18 31 20 ≤ 50000 then 0
          else min (s.regFld 0x15 0 0x18 40 32 * 1024)
            (s.power.drainBw * (750000 * e / s.regFld 0x15 0 0x18 31 20 - 50000) / 2 ^ 20)))

/-- R390, R416 to R422: an expander that the PAGE section can place is in service, evacuates and comes back, and its removal
loses its pages; the drain is enabled while both drives are up; Ethernet frames are counted, answered or handed to the
RDMA unit. -/
def Obligations.DevicesComeAndGo : Prop :=
  ∀ (s : State) (pool width gib drive nsid sizeMib port page t : Nat) (surprise fit up fcsOk : Bool) (l : Leaf)
    (bytes : List Byte),
    (pool < 8 →
      (0 < s.poolDemand 2 pool → s.poolDemand 2 pool ≤ gib * 2 ^ 30 →
        Completes (.expanderAttach pool width gib true t) s fun s' => s'.expander pool = ⟨1, width, gib⟩) ∧
      (gib * 2 ^ 30 < s.poolDemand 2 pool →
        Completes (.expanderAttach pool width gib true t) s fun s' => (s'.expander pool).state = 4) ∧
      ((s.expander pool).state = 1 →
        (Completes (.xpnEvacuate pool t) s fun s' => (s'.expander pool).state = 2) ∧
        (s.sessions = [] → s.cages = [] → s.leaf page = some l → l.tier = 2 → l.pool = pool →
          Completes (.expanderRemoval pool surprise t) s fun s' =>
            (s'.expander pool).state = (if surprise then 5 else 0) ∧ s'.leaf page = some { l with poison := true })) ∧
      ((s.expander pool).state = 2 →
        (Completes (.xpnCancel pool t) s fun s' => (s'.expander pool).state = 1) ∧
        (s.cages = [] → s.poolPages 2 pool = [] →
          Completes (.evacuatePassDone pool t) s fun s' => (s'.expander pool).state = 3))) ∧
    (drive < 2 →
      (Completes (.driveDown drive t) s fun s' =>
        (s'.drive drive).state = 3 ∧ s'.power.drainEnabled = false ∧ s'.power.storeOk = false) ∧
      (Completes (.driveAttach drive nsid sizeMib fit true true t) s fun s' =>
        s'.drive drive = ⟨if fit then 1 else 2, nsid, sizeMib⟩ ∧
        s'.power.drainEnabled = (fit && (s.drive (1 - drive)).state == 1) ∧
        (s'.power.drainEnabled = true →
          s'.power.journalTotal = 2 * min sizeMib (s.drive (1 - drive)).sizeMib - 1))) ∧
    (port < 2 →
      (Completes (.ethLinkChange port up t) s fun s' => s'.eth port = { s.eth port with link := up }) ∧
      ((s.eth port).link = true →
        (bytes.length < 64 → Completes (.ethFrameReceive port bytes fcsOk t) s fun s' =>
          s'.eth port = { s.eth port with runts := ((s.eth port).runts + 1) % 2 ^ 24 }) ∧
        (9216 < bytes.length → Completes (.ethFrameReceive port bytes fcsOk t) s fun s' =>
          s'.eth port = { s.eth port with oversize := ((s.eth port).oversize + 1) % 2 ^ 24 }) ∧
        (64 ≤ bytes.length → bytes.length ≤ 9216 →
          (Completes (.ethFrameReceive port bytes false t) s fun s' =>
            s'.eth port = { s.eth port with badFcs := (s.eth port).badFcs + 1 }) ∧
          ((s.eth port).classify bytes = .rdma → Completes (.ethFrameReceive port bytes true t) s fun s' =>
            s'.eth port = { s.eth port with rdma := (s.eth port).rdma ++ [bytes] }) ∧
          ((s.eth port).classify bytes = .arp → Completes (.ethFrameReceive port bytes true t) s fun s' =>
            s'.out = s.out ++ [.ethernet port ((s.eth port).arpReply bytes)]))))

/-- R14, R448, R521, R538 to R543: RESET_N, a fall of PWRGD and the loss of VIN_PKG stop every island, but a drain holds
the first two; the error log, the journal and the store survive, and VAUX loss clears the log; with both pins high Package
Time starts at 0 and bring-up begins, or the package halts on a bad rail. -/
def Obligations.StopsLeaveWhatSurvives : Prop :=
  ∀ (s : State) (railsOk : Bool) (t : Nat),
    (s.draining = false →
      (Completes (.resetNAssert t) s fun s' =>
        s'.boot.halted = true ∧ s'.boot.resetN = false ∧ s'.boot.pkgPgood = false ∧ s'.sessions = [] ∧ s'.mem = [] ∧
        s'.errLog = s.errLog ∧ s'.power.journal = s.power.journal ∧ s'.checkpoint.images = s.checkpoint.images) ∧
      (Completes (.pwrgdFall t) s fun s' =>
        s'.boot.halted = true ∧ s'.boot.pwrgd = false ∧ s'.boot.pkgPgood = false ∧ s'.sessions = [] ∧ s'.mem = [] ∧
        s'.errLog = s.errLog ∧ s'.power.journal = s.power.journal ∧ s'.checkpoint.images = s.checkpoint.images) ∧
      ((s.boot.pwrgd && s.boot.resetN) = false →
        Completes (.pwrgdAssert railsOk) s fun s' =>
          s'.pt = 0 ∧ s'.boot.pwrgd = true ∧ s'.boot.resetN = true ∧ s'.boot.phase = 0 ∧
          s'.boot.halted = (!railsOk || !s.boot.thermtripN) ∧ s'.boot.uart = (if railsOk then 0 else 0xe0) ∧
          s'.power.boot = (s.power.boot + 1) % 2 ^ 32)) ∧
    (s.draining = true →
      (Completes (.resetNAssert t) s fun s' => s'.boot = { s.boot with resetN := false } ∧ s'.sessions = s.sessions) ∧
      (Completes (.pwrgdFall t) s fun s' => s'.boot = { s.boot with pwrgd := false } ∧ s'.sessions = s.sessions)) ∧
    (Completes (.vinPkgLoss t) s fun s' =>
      s'.boot.halted = true ∧ s'.boot.vinOut = true ∧ s'.sessions = [] ∧ s'.mem = [] ∧ s'.errLog = s.errLog) ∧
    Completes (.vauxLoss t) s fun s' =>
      s'.boot.halted = true ∧ s'.errLog = ErrLog.empty ∧ s'.sessions = [] ∧ s'.mem = []

/-- R448 to R459, R536, R541: each phase of bring-up ends with its event and the next begins: P0; the election, which IOD0
wins within 25 ms, IOD1 after it, and nobody with code 0xE1; stage-1 from the current copy, the other, or RECOVERY; the
assay; the maps; the firmware. A core whose third fetch fails joins the defect map.

R393, R449, R469, R470, R482, R483: recovery takes the sessions of the journal's TABLE with their drain images as
DORMANT; with the headframe committed, or without one, the package is READY; a shard read in is loaded; a firmware switch
waits for a boundary, or is made at once with no S0 stream. -/
def Obligations.BringUpPassesItsPhasesAndRecovers : Prop :=
  (∀ (s : State) (pos rom hashA hashB loops die unit t : Nat) (a b : ImageSig) (standby : Bool)
    (failed : List (Nat × Nat × Nat)) (dimms : List Nat) (imagesA imagesB : List (Nat × Nat)),
    s.boot.halted = false → s.boot.pwrgd = true → s.boot.resetN = true →
    (s.boot.phase = 0 → pos < 4 → Completes (.p0Done pos t) s fun s' =>
      s'.boot.phase = 1 ∧ s'.boot.pkgPgood = true ∧ s'.regFld 0x12 0 0x08 17 16 = pos) ∧
    (s.boot.phase = 1 → s.boot.leader = none →
      (t ≤ 25000000 → Completes (.romSelftestDone 0 rom t) s fun s' => s'.boot.leader = some 0 ∧ s'.boot.phase = 2) ∧
      (25000000 < t → s.boot.romPassed.contains 1 = true →
        Completes (.electionTimeout t) s fun s' => s'.boot.leader = some 1 ∧ s'.boot.phase = 2) ∧
      (50000000 < t → s.boot.romPassed.contains 1 = false →
        Completes (.electionTimeout t) s fun s' => s'.boot.halted = true ∧ s'.boot.uart = 0xe1)) ∧
    (s.boot.phase = 2 → s.boot.stage1Copy = false →
      (s.security.admits a = true → Completes (.stage1Verify a hashA b hashB standby t) s fun s' =>
        s'.boot.phase = 3 ∧ s'.boot.stage1Copy = false ∧ aget s'.security.measurements 2 = some hashA) ∧
      (s.security.admits a = false → s.security.admits b = true →
        Completes (.stage1Verify a hashA b hashB standby t) s fun s' =>
          s'.boot.phase = 3 ∧ s'.boot.stage1Copy = true ∧ aget s'.security.measurements 2 = some hashB) ∧
      (s.security.admits a = false → s.security.admits b = false →
        Completes (.stage1Verify a hashA b hashB standby t) s fun s' => s'.boot.phase = 15)) ∧
    (s.boot.phase = 15 → s.security.admits a = true →
      Completes (.recoveryImage a t) s fun s' => s'.boot.phase = 2 ∧ s'.boot.stage1Copy = false) ∧
    (s.boot.phase = 3 → Completes (.assayDone failed dimms t) s fun s' =>
      s'.boot.phase = 4 ∧ s'.boot.dimms = dimms ∧ ∀ d ∈ s.boot.defects, d ∈ s'.boot.defects) ∧
    (s.boot.phase = 4 → s.boot.defects = [] → s.cds ≤ 16 →
      Completes (.mapProgram [] t) s fun s' => s'.boot.phase = 5 ∧ ∀ n < 12, (s'.sd n).inService = true) ∧
    (s.boot.phase = 5 → s.boot.bundleCopy = false → s.security.admits a = true →
      Completes (.firmwareBroadcast a imagesA b imagesB loops t) s fun s' =>
        s'.boot.phase = 6 ∧ s'.boot.bundleCopy = false ∧
        ∀ c < 4, (s'.fw c).runVersion = (imagesA.getD c (0, 0)).1 ∧ (s'.fw c).runSvn = a.svn) ∧
    (s.boot.phase = 5 ∨ s.boot.phase = 6 → die < 16 → unit < 36 →
      (Completes (.firmwareFetch die unit true t) s fun s' => s'.boot = s.boot) ∧
      (agetD s.boot.fetches (64 * die + unit) 0 = 2 →
        Completes (.firmwareFetch die unit false t) s fun s' =>
          aget s'.boot.fetches (64 * die + unit) = some 3 ∧ s'.boot.isOut die 0 unit = true))) ∧
  (∀ (s : State) (mbps model shard v t : Nat) (e : JournalEntry) (r : Recorded) (image : List Byte) (sig : ImageSig)
    (h : Shard),
    (s.boot.halted = false → s.boot.pwrgd = true → s.boot.resetN = true →
      (s.boot.phase = 6 →
        (s.power.drainEnabled = true → (s.power.committedOf .table (s.power.boot - 1)).getLast? = some e →
          e.sessions = [r] → s.power.hasImage (s.power.boot - 1) r = true → r.session.cur.entry.state = .ready →
          r.undecided = none →
          Completes (.journalRecovery mbps t) s fun s' =>
            s'.boot.phase = 7 ∧ s'.power.testBw = mbps ∧ (s'.entry r.slot).residence = .dormant ∧
            (s'.entry r.slot).handle = r.session.cur.entry.handle ∧
            aget s'.checkpoint.sources r.slot = some .image) ∧
        (s.power.drainEnabled = false → Completes (.journalRecovery mbps t) s fun s' =>
          s'.boot.phase = 7 ∧ s'.power.testBw = mbps)) ∧
      (s.boot.phase = 7 →
        (Completes (.headframeCommit [] sig t) s fun s' =>
          s'.boot.phase = 8 ∧ s'.boot.ready = true ∧ s'.boot.hf = 0 ∧ s'.models = s.models) ∧
        (image ≠ [] → s.security.admits sig = false → Completes (.headframeCommit image sig t) s fun s' =>
          s'.boot.phase = 8 ∧ s'.boot.ready = true ∧ s'.boot.hf = 2 ∧ s'.models = s.models))) ∧
    ((s.boot.shards.find? fun x => x.model == model && x.shard == shard && !x.loaded && x.errors ≤ 3) = some h →
      (Completes (.weightShardReadDone model shard true t) s fun s' => { h with loaded := true } ∈ s'.boot.shards) ∧
      (h.errors < 3 → Completes (.weightShardReadDone model shard false t) s fun s' =>
        { h with errors := h.errors + 1 } ∈ s'.boot.shards ∧
        s'.out = s.out ++ [.storeRead h.target h.nsid h.offset h.bytes])) ∧
    (bitOf v 8 = true → fld v 1 0 ≠ 3 → (s.fw (fld v 1 0)).stagedVersion ≠ 0 →
      (s.hasS0 = true → Completes (.bruFwSwitch v t) s fun s' =>
        s'.fw (fld v 1 0) = { s.fw (fld v 1 0) with armed := true }) ∧
      (s.hasS0 = false → Completes (.bruFwSwitch v t) s fun s' =>
        (s'.fw (fld v 1 0)).runVersion = (s.fw (fld v 1 0)).stagedVersion ∧
        (s'.fw (fld v 1 0)).runSvn = (s.fw (fld v 1 0)).stagedSvn ∧
        (s'.fw (fld v 1 0)).prevVersion = (s.fw (fld v 1 0)).runVersion ∧
        (s'.fw (fld v 1 0)).stagedVersion = 0 ∧ (s'.fw (fld v 1 0)).armed = false)))

/-- R432 to R434: the SPDM connection is negotiated in its three steps; then digests, certificates, challenges and
measurements are answered, and sessions begin with KEY_EXCHANGE, are secure after FINISH, and end. A request out of its
turn is answered with an error. -/
def Obligations.AttestationIsAnswered : Prop :=
  ∀ (s : State) (slot index reqId session chain t : Nat) (x : SpdmSession),
    (Completes (.getVersion t) s fun s' => s'.security.spdm = .version ∧ s'.out = s.out ++ [.response 0x04 [0x13]]) ∧
    (s.security.spdm = .version → Completes (.getCapabilities t) s fun s' =>
      s'.security.spdm = .capabilities ∧ s'.out = s.out ++ [.response 0x61 []]) ∧
    (s.security.spdm = .capabilities → Completes (.negotiateAlgorithms true t) s fun s' =>
      s'.security.spdm = .algorithms ∧ s'.out = s.out ++ [.response 0x63 []]) ∧
    (s.security.spdm ≠ .algorithms → Completes (.challenge slot t) s fun s' =>
      s'.security = s.security ∧ s'.out = s.out ++ [.response 0x7f [spdmUnexpected]]) ∧
    (s.security.spdm = .algorithms →
      (Completes (.getDigests t) s fun s' =>
        s'.out = s.out ++ [.response 0x01 ((if s.security.ownerCert.isSome then 3 else 1) ::
          Config.sha384 [s.security.aliasCert] :: s.security.ownerCert.toList.map fun c => Config.sha384 [c])] ∧
        s'.security = s.security) ∧
      (s.chain slot = some chain →
        (Completes (.getCertificate slot t) s fun s' =>
          s'.out = s.out ++ [.response 0x02 [slot, chain]] ∧ s'.security = s.security) ∧
        (Completes (.challenge slot t) s fun s' =>
          (∃ n g, s'.out = s.out ++ [.response 0x03 [slot, Config.sha384 [chain], n, g]]) ∧ s'.security = s.security)) ∧
      (0 < index → index ≤ 11 → Completes (.getMeasurements index false t) s fun s' =>
        s'.out = s.out ++ [.response 0x60 [s.measurement index]] ∧ s'.security = s.security) ∧
      (s.security.sessions.length < 4 → Completes (.keyExchange reqId t) s fun s' =>
        s'.security.sessions = s.security.sessions ++
          [⟨reqId % 65536 * 65536 + s.security.nextSession % 65536, false, 0, false⟩])) ∧
    ((s.security.sessions.find? fun y => y.id == session && !y.finished) = some x → s.security.owned = false →
      Completes (.finish session true false t) s fun s' =>
        { x with finished := true, ownerAuth := false } ∈ s'.security.sessions ∧
        s'.out = s.out ++ [.response 0x65 []]) ∧
    ((s.security.sessions.find? fun y => y.id == session && y.finished) = some x →
      (Completes (.heartbeat session t) s fun s' =>
        s'.out = s.out ++ [.response 0x68 []] ∧ s'.security = s.security) ∧
      (Completes (.keyUpdate session t) s fun s' =>
        { x with updates := x.updates + 1 } ∈ s'.security.sessions ∧ s'.out = s.out ++ [.response 0x69 []]) ∧
      (Completes (.endSession session t) s fun s' =>
        (∀ y ∈ s'.security.sessions, y.id ≠ session) ∧ s'.out = s.out ++ [.response 0x6c []]))

/-- R428, R435, R436, R441: inside a secure session keys are installed and cleared, their SEQ spaces start again, an owner
is enrolled and IDE streams are keyed; outside one each is answered with InvalidSession and changes nothing.

R423, R426 to R431, R441, R446, R482: a manifest rotates the vendor keys; an admitted image is staged, another answered
with AUTH_FAIL; COMMIT raises FUSE_SVN to the running SVN and no further than 64; a TDI locks, runs and stops; sensors are
read; debug is unlocked by its owner, never in confidential mode. -/
def Obligations.SecureSessionsInstallKeysAndImages : Prop :=
  (∀ (s : State) (session job phase key hash port stream i t : Nat) (fns : List Nat) (active : Bool) (x : SpdmSession),
    ((s.security.sessions.find? fun y => y.id == session && y.finished) = some x →
      (s.security.slotFor job = some i → phase < 2 → phase ≠ (agetD s.security.jobs i JobSlot.free).txPhase →
        Completes (.setJobKey session job phase key t) s fun s' =>
          ((agetD s'.security.jobs i JobSlot.free).slot phase) = { state := .loaded, key := key } ∧
          (agetD s'.security.jobs i JobSlot.free).job = job ∧
          (∀ q ∈ s'.security.seqs, q.1 / 2 ^ 19 ≠ job * 2 + phase) ∧ s'.out = s.out ++ [.response 0x7e []]) ∧
      (s.security.slotFor job = none → Completes (.setJobKey session job phase key t) s fun s' =>
        s'.security = s.security ∧ s'.out = s.out ++ [.response 0x7f [spdmUnavailable]]) ∧
      (phase < 2 → Completes (.clearJobKey session 0 phase t) s fun s' =>
        ((agetD s'.security.jobs 0 JobSlot.free).slot phase).state = .empty ∧ s'.out = s.out ++ [.response 0x7e []]) ∧
      (Completes (.setCkpKey session key t) s fun s' =>
        s'.security = { s.security with ckpKey := some key } ∧ s'.out = s.out ++ [.response 0x7e []]) ∧
      (s.security.owners.length < 2 → Completes (.ownerEnrol session hash true t) s fun s' =>
        aget s'.security.owners s.security.owners.length = some (hash, false) ∧
        (∀ o ∈ s'.security.owners, o.1 ≠ s.security.owners.length → o.2.2 = true)) ∧
      (port < 2 → stream ≤ 8 → Completes (.ideKm session port stream fns active t) s fun s' =>
        aget s'.security.ideStreams (16 * port + stream) = some (fns, active))) ∧
    ((s.security.sessions.find? fun y => y.id == session && y.finished) = none →
      Completes (.setCkpKey session key t) s fun s' =>
        s'.security = s.security ∧ s'.out = s.out ++ [.response 0x7f [spdmInvalidSession]])) ∧
  (∀ (s : State) (position cls version hash fn sensor value t : Nat) (sig : ImageSig),
    (position < 4 → (s.security.position position).revoked = false → position ≠ s.security.active →
      Completes (.keyManifest position true t) s fun s' =>
        s'.security.active = s.security.next ∧ s'.security.next = position ∧
        (s'.security.position s.security.active).revoked = true) ∧
    (cls < 5 →
      (s.security.admits sig = true → Completes (.fwStage cls version hash sig t) s fun s' =>
        s'.fw cls = { s.fw cls with stagedVersion := version, stagedSvn := sig.svn, stagedKey := sig.keyId,
                                    stagedHash := hash, armed := false } ∧ s'.out = s.out ++ [.response 0 [stOk]]) ∧
      (s.security.admits sig = false → Completes (.fwStage cls version hash sig t) s fun s' =>
        s'.boot = s.boot ∧ s'.out = s.out ++ [.response 0 [stAuthFail]])) ∧
    (Completes (.secSvnCommit t) s fun s' =>
      s'.security.fuseSvn = max s.security.fuseSvn (min 64 s.runSvn) ∧
      ∀ f ∈ s'.boot.firmware, f.2.stagedSvn < s'.security.fuseSvn → f.2.stagedVersion = 0) ∧
    (fn < 128 → fn % 64 ≠ 0 →
      (s.tdi fn = .unlocked → Completes (.tdispRequest fn 1 t) s fun s' => s'.tdi fn = .locked) ∧
      (s.tdi fn = .locked → Completes (.tdispRequest fn 2 t) s fun s' => s'.tdi fn = .run) ∧
      (Completes (.tdispRequest fn 3 t) s fun s' => s'.tdi fn = .unlocked)) ∧
    (s.sensor sensor = some value → Completes (.pldmPmcRequest sensor t) s fun s' =>
      s'.out = s.out ++ [.response 0 [sensor, value]] ∧ s'.power = s.power) ∧
    (s.security.conf = false → Completes (.debugUnlock 1 true t) s fun s' => s'.security.debugUnlocked = true) ∧
    (s.security.conf = true → Completes (.debugUnlock 1 true t) s fun s' =>
      s'.security = s.security ∧ s'.out = s.out ++ [.response 0x7f [spdmInvalidRequest]]))

/-- R473 to R481: BEGIN opens a transaction of a scope, which a second BEGIN finds busy; a write to a CT register is staged
in it; COMMIT validates, and waits for its boundary or refuses with the failing address; ABORT drops the shadows; a patch
is read and loaded; an operation that is none completes with FRAME_FIELD. -/
def Obligations.TransactionsOpenStageAndCommit : Prop :=
  ∀ (s : State) (fn v addr a n t : Nat) (x y : CtTxn) (d : RegDesc) (bytes : List Byte) (sig : ImageSig) (s1 : State),
    isPf fn = true → s.boot.ready = true → (agetD s.ctResults fn (0, 0, 0)).2.2 = n →
    (v % 8 = 1 → scopeOf v ≠ .tenant 0 →
      ((s.txn (scopeOf v)).filter CtTxn.busy = none → Completes (.ctBegin fn v t) s fun s' =>
        s'.txn (scopeOf v) = some (CtTxn.begin (scopeOf v) fn) ∧
        aget s'.ctResults fn = some (stOk, 0, (n + 1) % 2 ^ 32)) ∧
      (s.txn (scopeOf v) = some x → x.busy = true → Completes (.ctBegin fn v t) s fun s' =>
        s'.txns = s.txns ∧ aget s'.ctResults fn = some (stCtBusy, x.owner, (n + 1) % 2 ^ 32))) ∧
    (s.txn (scopeOf v) = some x → x.state = 1 → x.owner = fn → x.loading = false →
      s1 = (s.stamp t).setReg (pcs 0x1b 0 0) (v &&& 0x10fff0037) →
      (v % 8 = 2 → bitOf v 32 = false →
        ((s1.ctAhead none).ctBuild x = .error a → Completes (.ctCommit fn v t) s fun s' =>
          s'.txn (scopeOf v) = some { x with status := stCtInvalid, failAddr := a } ∧
          aget s'.ctResults fn = some (stCtInvalid, 0, (n + 1) % 2 ^ 32)) ∧
        (((s1.ctAhead none).ctBuild x).isOk = true → s.hasS0 = true →
          Completes (.ctCommit fn v t) s fun s' =>
            s'.txn (scopeOf v) = some { x with state := 2, status := stOk, stamp := t, applyPt := none } ∧
            aget s'.ctResults fn = some (stOk, 0, (n + 1) % 2 ^ 32))) ∧
      (v % 8 = 3 → Completes (.ctAbort fn v t) s fun s' =>
        s'.txn (scopeOf v) = some (x.drop 5) ∧ aget s'.ctResults fn = some (stOk, 0, (n + 1) % 2 ^ 32)) ∧
      (v % 8 = 4 → s.reg (pcs 0x1b 0 0x40) % 64 = 0 →
        ((s.fn fn).windowOf (s.reg (pcs 0x1b 0 0x40)) (fld (s.reg (pcs 0x1b 0 0x48)) 31 0)).isSome = true →
        Completes (.ctLoadPatch fn v t) s fun s' =>
          s'.txn (scopeOf v) = some { x with loading := true } ∧
          aget s'.ctResults fn = some (stOk, 0, (n + 1) % 2 ^ 32))) ∧
    (v % 8 = 0 ∨ 5 ≤ v % 8 → Completes (.ctCmdInvalidOp fn v t) s fun s' =>
      s'.txns = s.txns ∧ aget s'.ctResults fn = some (stFrameField, 0, (n + 1) % 2 ^ 32)) ∧
    ((s.txns.find? fun z => z.owner == fn && z.loading) = some x →
      (s.loadImage x bytes (s.security.admits sig) = (a, y) → y.scope = x.scope →
        Completes (.patchReadDone fn bytes sig true t) s fun s' =>
          s'.txn x.scope = some { y with loading := false } ∧ (agetD s'.ctResults fn (0, 0, 0)).1 = a) ∧
      (Completes (.patchReadDone fn bytes sig false t) s fun s' =>
        s'.txn x.scope = some { x with loading := false } ∧ (agetD s'.ctResults fn (0, 0, 0)).1 = stPoison)) ∧
    (regAt s.cds addr = some d → d.ct ≠ 0 →
      (s.stageInto fn addr = some x → x.staged < 65536 → Completes (.ctStageWrite fn addr v t) s fun s' =>
        s'.txn x.scope = some { x with
          shadows := aset x.shadows (s.stageKey (fn / 64) addr) (maskIn (s.reg addr) v d.ct, none) } ∧
        s'.regs = s.regs) ∧
      (s.stageInto fn addr = none → Completes (.ctStageWrite fn addr v t) s fun s' => s'.txns = s.txns)) ∧
    (s.hasS0 = false → s.txns = [x] → x.due t = true → (s.stamp t).ctBuild x = .ok s1 →
      Completes (.ctApplyAtPt t) s fun s' => ∃ z, s'.txn x.scope = some z ∧ z.state = 3 ∧ z.status = stOk ∧ z.shadows = [])

/-- R500 to R502, R510 to R512, R515: GO arms a snapshot, which is busy until it is written; with no S0 stream every island
copies its part at once; the bytes are written and the status is OK. A ledger dump takes the rows as they stand, and its end
is OK or POISON; LED_TSEL latches a tenant's row. -/
def Obligations.SnapshotsAndDumps : Prop :=
  ∀ (s : State) (fn port v step pt addr t : Nat) (n : Snapshot) (bytes : List Byte),
    (isPf fn = true →
      (s.obs.snap = none → s.hasS0 = true → s.snapTotal (s.reg (pcs 0x1d 0 0)) [] ≤ s.reg (pcs 0x1d 0 0x10) →
        ((s.fn fn).windowOf (s.reg (pcs 0x1d 0 0x08)) (s.reg (pcs 0x1d 0 0x10))).isSome = true →
        Completes (.obsSnapGo fn 1 [] t) s fun s' =>
          s'.obs.snapDone = false ∧ ∃ q, s'.obs.snap = some q ∧ q.fn = fn ∧ q.blocks = s.reg (pcs 0x1d 0 0) ∧
            q.addr = s.reg (pcs 0x1d 0 0x08) ∧ q.len = s.reg (pcs 0x1d 0 0x10) ∧ q.mark = none ∧ q.atPt = none) ∧
      (s.obs.snap = some n → Completes (.obsSnapGo fn 1 [] t) s fun s' =>
        s'.obs.snap = some n ∧ s'.obs.snapStatus = stCtBusy) ∧
      (v % 2 = 1 → s.obs.dump = none → ((s.fn fn).windowOf (s.reg (pcs 0x1c 0 0x48)) (2 ^ 20)).isSome = true →
        Completes (.ledDump fn v t) s fun s' =>
          s'.obs.dumpDone = false ∧ s'.obs.dump = some (fn, s.reg (pcs 0x1c 0 0x48), s.ledgerBytes))) ∧
    (s.obs.snap = some n → n.mark = none → n.copied = [] → s.hasS0 = false → n.atPt.all (· ≤ t) = true →
      Completes (.snapshotAtPt t) s fun s' =>
        ∃ q, s'.obs.snap = some q ∧ q.mark = some (0, t) ∧ q.copied = List.range 12 ∧ q.fn = n.fn) ∧
    (s.obs.snap = some n → n.mark = some (step, pt) → (List.range 12).all n.copied.contains = true →
      Completes (.snapshotWritten t) s fun s' =>
        s'.out = s.out ++ [.hostWrite n.fn n.addr (s.snapBytes n step pt)] ∧ s'.obs.snap = none ∧
        s'.obs.snapDone = true ∧ s'.obs.snapStatus = stOk ∧ s'.obs.snapStep = step) ∧
    (s.obs.dump = some (fn, addr, bytes) →
      (Completes (.ledDumpWritten true t) s fun s' =>
        s'.out = s.out ++ [.hostWrite fn addr bytes] ∧ s'.obs.dump = none ∧ s'.obs.dumpStatus = stOk) ∧
      (Completes (.ledDumpWritten false t) s fun s' =>
        s'.out = s.out ∧ s'.obs.dump = none ∧ s'.obs.dumpStatus = stPoison)) ∧
    (port < 2 → Completes (.ledTselWrite port v t) s fun s' =>
      aget s'.obs.latched (64 * port) = some (v % 4096, s.latchRow (v % 4096)) ∧
      s'.selOf port (pcs 0x1c 0 0) = v % 4096)

/-- R9 to R12, R449, R505 to R508, R513 to R517, R521, R550: a write of 1 clears a flag that no later set carries; a clear
of a flag with its count succeeds where the count matches; marks restart; the error log is read and emptied; a register
takes its RW bits from an aligned 8-byte write and from no other; PROBE answers with a copy and its status. -/
def Obligations.RegistersFlagsAndProbes : Prop :=
  ∀ (s : State) (fn port addr v i slot sd t : Nat) (d : RegDesc) (f : Frame) (e : ErrEntry),
    (regAt s.cds addr = some d → s.boot.ready = true → i < 64 → bitOf d.w1c i = true →
      (aget s.flagSets (flagKey addr i)).any (t ≤ ·) = false →
      Completes (.w1cClear addr (2 ^ i) t) s fun s' => s'.reg addr = setFld (s.reg addr) i i 0 ∧ s'.mem = s.mem) ∧
    (isPf fn = true → bitOf v 63 = true → addr = fld v 27 0 → i = fld v 37 32 → regAt s.cds addr = some d →
      bitOf d.w1c i = true → addr ≠ pcs 0x1d 0 0x38 → addr + 8 ≠ pcs 0x1d 0 0x38 →
      (fld (s.reg (addr + 8)) (8 * i + 7) (8 * i) = fld v 47 40 →
        Completes (.obsCic fn v t) s fun s' =>
          s'.reg addr = setFld (s.reg addr) i i 0 ∧ aget s'.obs.cic fn = some (true, fld v 47 40, stOk)) ∧
      (fld (s.reg (addr + 8)) (8 * i + 7) (8 * i) ≠ fld v 47 40 →
        Completes (.obsCic fn v t) s fun s' =>
          s'.reg addr = s.reg addr ∧
          aget s'.obs.cic fn = some (false, fld (s.reg (addr + 8)) (8 * i + 7) (8 * i), stOk))) ∧
    (isPf fn = true → sd < 12 → (regAt s.cds (pcs 0x02 sd 0x30)).isSome = true →
      Completes (.obsHwmClr fn (pcs 0x02 sd 0x30) t) s fun s' =>
        s'.regFld 0x02 sd 0x30 63 32 = 0 ∧ s'.regFld 0x02 sd 0x30 31 0 = s.regFld 0x02 sd 0x30 31 0) ∧
    (port < 2 → aget s.errLog.ring (v % 4096) = some e →
      Completes (.errSelWrite port v t) s fun s' =>
        aget s'.errLog.latches port = some e ∧ s'.errLog.ring = s.errLog.ring) ∧
    (v % 2 = 1 → Completes (.errClear v t) s fun s' => s'.errLog = { s.errLog with count := 0, ring := [] }) ∧
    (isPf fn = true → regAt s.cds addr = some d → s.served d.blk = true → ownRow d.blk d.off = false →
      isSel d.blk d.off = false → ¬ (d.blk = 0x19 ∧ d.off = 0) → d.blk ≠ 0x0d → d.rw ≠ 0 →
      (addr % 8 = 0 → Completes (.registerWrite fn false addr 8 v t) s fun s' =>
        s'.regs = aset s.regs addr (maskIn (s.reg addr) v d.rw) ∧ s'.mem = s.mem) ∧
      (Completes (.registerWrite fn false addr 4 v t) s fun s' => s' = s.stamp t)) ∧
    (f.queue < 64 → f.target = 0x01 → f.probeOk = true →
      (s.findHandle f.handle = some slot → s.bound (s.entry slot).tenant f.function = true →
        Completes (.probe f t) s fun s' => s'.sessions = s.sessions ∧
          ∃ r q : Record, r.type = 6 ∧ r.text = (s.sess slot).image ∧ r.tag = f.tag ∧ q.type = 4 ∧ q.status = stOk ∧
            ((s'.fn f.function).rq ((s.fn f.function).dq f.queue).rq).waiting
              = ((s.fn f.function).rq ((s.fn f.function).dq f.queue).rq).waiting ++ [(r, false), (q, f.notify)]) ∧
      (s.findHandle f.handle = none →
        Completes (.probe f t) s fun s' => s'.sessions = s.sessions ∧ Answered s s' f stNoSession))

/-- R17, R86, R484 to R487, R517 to R520: an error is logged; a data error marks its page POISON; an uncorrectable error and
BRU_FENCE take a compute die out of service, with its cores, and BRU_FENCE of a die that is out already changes no die; a
fatal error stops the package, and so does the loss of the management complex with no standby. -/
def Obligations.ErrorsAreContained : Prop :=
  ∀ (s : State) (die blk inst code detail t : Nat) (l : Leaf) (v iod : Nat),
    (die < 32 → (∀ e, aget s.errLog.ring ((s.errLog.count - 1) % 4096) = some e →
        s.errLog.count = 0 ∨ e.merges t 1 die blk inst code detail = false) →
      code ≠ 0x0101 → code ≠ 0x0102 →
      Completes (.errorDetect 1 die blk inst code detail t) s fun s' =>
        s'.errLog.count = s.errLog.count + 1 ∧
        aget s'.errLog.ring (s.errLog.count % 4096) = some
          ⟨t, s.errLog.count % 2 ^ 32, 1, die, blk, inst, code, 0, detail⟩) ∧
    (die < 32 → s.leaf detail = some l → l.poison = false →
      Completes (.errorDetect 1 die blk inst 0x0101 detail t) s fun s' =>
        s'.leaf detail = some { l with poison := true } ∧ s'.mem = s.mem) ∧
    (die < 16 → s.s0.run = none → s.s1.run = none → s.boot.diesOut.contains die = false →
      (Completes (.errorDetect 2 die blk inst code detail t) s fun s' =>
        s'.boot.diesOut = s.boot.diesOut ++ [die] ∧ ⟨die, 5, 0, 3⟩ ∈ s'.boot.defects ∧ ∀ c ∈ s'.cores, c.1 / 32 ≠ die) ∧
      (Completes (.bruFence (2 ^ 63 + die) t) s fun s' =>
        s'.boot.diesOut = s.boot.diesOut ++ [die] ∧ ⟨die, 5, 0, 3⟩ ∈ s'.boot.defects ∧ ∀ c ∈ s'.cores, c.1 / 32 ≠ die)) ∧
    (v < 32 → s.boot.diesOut.contains v = true →
      Completes (.bruFence (2 ^ 63 + v) t) s fun s' => s'.boot = s.boot ∧ s'.sessions = s.sessions) ∧
    (die < 32 → Completes (.errorDetect 3 die blk inst code detail t) s fun s' =>
      s'.boot.halted = true ∧ s'.sessions = [] ∧ s'.mem = []) ∧
    (s.s0.run = none → s.s1.run = none → s.boot.leader = some iod →
      (s.boot.standbyOk = true → Completes (.mgmtFailover t) s fun s' =>
        s'.boot.leader = some (1 - iod) ∧ s'.boot.standbyOk = false ∧ s'.boot.halted = s.boot.halted ∧
        s'.sessions = s.sessions) ∧
      (s.boot.standbyOk = false → Completes (.mgmtFailover t) s fun s' => s'.boot.halted = true ∧ s'.sessions = []))

/-- R206, R207, R209, R210, R212: a scalar slot reads its registers as they stood, writes rd with 64-bit arithmetic, or its
predicate, and the pc goes to the next bundle; s0 keeps 0. LD and ST move 8 aligned bytes; any other address stops the core
with SRAM_RANGE.

R209, R213, R217: branches, loops, calls and returns set the pc; a core waits at BAR until its whole cluster is there,
and a control core does not wait; HALT idles the core. A BAR that waits too long and a layer that runs too long stop it. -/
def Obligations.ZwScalarAndBranchSlots : Prop :=
  ((∀ (w : WRegs) (rd v r : Nat), rd < 32 → r < 32 →
    (w.write (rd, v)).s r = if r = rd ∧ r ≠ 0 then v % 2 ^ 64 else w.s r) ∧
  ∀ (s : State) (i rd ra rb imm addr t : Nat) (c : Core) (a b : BitVec 64) (x : BitVec 41), ZwReady s i c → rd < 32 →
    a = .ofNat 64 (c.regs.s ra) → b = .ofNat 64 (c.regs.s rb) → x = .ofNat 41 imm →
    (∀ (op : ZwIssue → Nat → Nat → Nat → Nat → Instr) (v : BitVec 64),
      (op, v) ∈ [(Instr.zwAdd, a + b), (Instr.zwSub, a - b), (Instr.zwAnd, a &&& b), (Instr.zwOr, a ||| b),
        (Instr.zwXor, a ^^^ b), (Instr.zwShl, a <<< (b.toNat % 64)), (Instr.zwShr, a >>> (b.toNat % 64)),
        (Instr.zwSar, a.sshiftRight (b.toNat % 64)), (Instr.zwMul, a * b),
        (Instr.zwMin, if a.sle b then a else b), (Instr.zwMax, if a.sle b then b else a)] →
      ZwRuns (op (zwOne i) rd ra rb t) s i { c with regs := c.regs.write (rd, v.toNat), pc := c.after }) ∧
    (∀ (op : ZwIssue → Nat → Nat → Nat → Nat → Instr) (v : Bool),
      (op, v) ∈ [(Instr.zwCmpeq, a == b), (Instr.zwCmplt, a.slt b), (Instr.zwCmpltu, a.ult b)] →
      ZwRuns (op (zwOne i) rd ra rb t) s i
        { c with regs := c.regs.write (64 + rd % 8, if v then 2 ^ 128 - 1 else 0), pc := c.after }) ∧
    ZwRuns (.zwAddi (zwOne i) rd ra imm t) s i
      { c with regs := c.regs.write (rd, (a + x.signExtend 64).toNat), pc := c.after } ∧
    ZwRuns (.zwLi (zwOne i) rd imm t) s i { c with regs := c.regs.write (rd, (x.signExtend 64).toNat), pc := c.after } ∧
    (addr = (a + x.signExtend 64).toNat → addr % 8 = 0 → zwRange i addr 8 = true →
      ZwRuns (.zwLd (zwOne i) rd ra imm t) s i
        { c with regs := c.regs.write (rd, leNat (s.zwRead i addr 8)), pc := c.after } ∧
      (addr + 8 ≤ 0x400000 →
        ZwRuns (.zwSt (zwOne i) ra rb imm t) s i
          { c with sram := memWrite c.sram addr (leBytes 8 b.toNat), pc := c.after }) ∧
      (clusterBase ≤ addr →
        Completes (.zwSt (zwOne i) ra rb imm t) s fun s' =>
          s'.clusterSram = aset s.clusterSram (i / 8) (memWrite (agetD s.clusterSram (i / 8) []) addr (leBytes 8 b.toNat)) ∧
          s'.core i = { c with pc := c.after } ∧ s'.mem = s.mem)) ∧
    (addr = (a + x.signExtend 64).toNat → addr % 8 ≠ 0 ∨ zwRange i addr 8 = false → s.s0.run = none → s.s1.run = none →
      ZwStops (.zwLd (zwOne i) rd ra imm t) s i 2 1 ∧ ZwStops (.zwSt (zwOne i) ra rb imm t) s i 2 1)) ∧
  (∀ (s : State) (i p off sr t since : Nat) (c : Core) (code : Nat),
    (ZwReady s i c → ∀ target, target = ((c.pc : Int) + 64 * (BitVec.ofNat 20 off).toInt) % 2 ^ 64 →
      ZwRuns (.zwBr (zwOne i) off t) s i { c with pc := target.toNat } ∧
      ZwRuns (.zwBrp (zwOne i) p off t) s i { c with pc := if bitOf (c.regs.p p) 0 then target.toNat else c.after } ∧
      ZwRuns (.zwBrnp (zwOne i) p off t) s i { c with pc := if bitOf (c.regs.p p) 0 then c.after else target.toNat } ∧
      (c.pc < target.toNat → 0 < c.regs.s sr →
        ZwRuns (.zwLoop (zwOne i) sr off t) s i
          { c with pc := c.after, loops := [⟨c.after, target.toNat, c.regs.s sr - 1⟩] }) ∧
      (c.pc < target.toNat → c.regs.s sr = 0 →
        ZwRuns (.zwLoop (zwOne i) sr off t) s i { c with pc := (target.toNat + 64) % 2 ^ 64 }) ∧
      (c.depth < 16 → ZwRuns (.zwCall (zwOne i) off t) s i
        { c with regs := c.regs.write (31, c.after), pc := target.toNat, depth := c.depth + 1 }) ∧
      (s.s0.run = none → s.s1.run = none → 16 ≤ c.depth → ZwStops (.zwCall (zwOne i) off t) s i 1 2) ∧
      ZwRuns (.zwRet (zwOne i) t) s i { c with pc := c.regs.s 31 / 64 * 64, depth := c.depth - 1 } ∧
      (512 ≤ i → ZwRuns (.zwBar (zwOne i) off t) s i { c with pc := c.after }) ∧
      (i < 512 → (∃ j, j / 8 = i / 8 ∧ j ≠ i ∧ (s.core j).barrier = none) →
        ZwRuns (.zwBar (zwOne i) off t) s i
          { c with barrier := some (off % 16, t), bundle := some ⟨false, [], [.bar (off % 16)]⟩ }) ∧
      (i < 512 → (∀ j, j / 8 = i / 8 → j ≠ i → (s.core j).loops = [] ∧
          (s.core j).bundle = some ⟨false, [], [.bar (off % 16)]⟩ ∧ ∃ u, (s.core j).barrier = some (off % 16, u)) →
        Completes (.zwBar (zwOne i) off t) s fun s' => ∀ j, j / 8 = i / 8 →
          (s'.core j).barrier = none ∧ (s'.core j).bundle = none ∧ (s'.core j).pc = (s.core j).after) ∧
      (c.matrix = [] → c.deferred = [] → ZwRuns (.zwHalt (zwOne i) t) s i { c with state := .idle, depth := 0 })) ∧
    (i < 516 → s.coreIn i = true → s.s0.run = none → s.s1.run = none →
      ((s.core i).barrier = some (code, since) → since + 1000000 < t → ZwStops (.zwBarrierTimeout i t) s i 7 2) ∧
      ((s.core i).state = .running → (s.core i).layerStart + 1000 * s.regFld 0x0a 0 0x20 23 0 < t →
        ZwStops (.zwWatchdog i t) s i 8 0)))

/-- R200 to R202, R206, R207, R215: in every lane whose predicate bit is 1 a vector slot puts the operation's FP32 result,
what it loads, or the converted value; other lanes keep vd. A store writes the lanes chosen; VQUANT stores the blocks of
va. -/
def Obligations.ZwVectorSlots : Prop :=
  ∀ (s : State) (i vd va vb p sr fmt imm addr t : Nat) (pair : Bool) (c : Core) (old a b : Nat → Nat),
    ZwReady s i c → vd < 32 → va < 32 → vb < 32 → pairBad pair [vd, va, vb] = false →
    (∀ k, old k = (c.regs.lanes vd pair).getD k 0) → (∀ k, a k = (c.regs.lanes va pair).getD k 0) →
    (∀ k, b k = (c.regs.lanes vb pair).getD k 0) →
    (∀ (op : ZwIssue → Nat → Nat → Nat → Nat → Bool → Nat → Instr) (f : Nat → Nat → Nat → Nat),
      (op, f) ∈ [(Instr.zwVadd, fun x y _ => fp32Add x y), (Instr.zwVsub, fun x y _ => fp32Sub x y),
        (Instr.zwVmul, fun x y _ => fp32Mul x y), (Instr.zwVfma, fp32Fma)] →
      ZwLanes (op (zwOne i) vd va vb p pair t) s i vd pair fun k x =>
        x = if bitOf (c.regs.p p) k then f (a k) (b k) (old k) % 2 ^ 32 else old k) ∧
    (∀ (op : ZwIssue → Nat → Nat → Nat → Nat → Bool → Nat → Instr) (greater : Bool),
      (op, greater) ∈ [(Instr.zwVmax, true), (Instr.zwVmin, false)] →
      ZwLanes (op (zwOne i) vd va vb p pair t) s i vd pair fun k x =>
        (bitOf (c.regs.p p) k = false → x = old k) ∧
        (bitOf (c.regs.p p) k = true → fp32IsNan (a k) = false → fp32IsNan (b k) = false →
          ¬ (a k % 2 ^ 31 = 0 ∧ b k % 2 ^ 31 = 0) → x = if fp32Lt (a k) (b k) = greater then b k else a k)) ∧
    (addr = c.regs.s sr → addr % vecBytes pair = 0 → zwRange i addr (vecBytes pair) = true →
      (ZwLanes (.zwVld (zwOne i) vd p pair sr t) s i vd pair fun k x =>
        x = if bitOf (c.regs.p p) k then leAt (s.zwRead i addr (vecBytes pair)) (4 * k) 4 % 2 ^ 32 else old k) ∧
      (addr + vecBytes pair ≤ 0x400000 →
        ZwRuns (.zwVst (zwOne i) va p pair sr t) s i { c with
          sram := (List.range (if pair then 128 else 64)).foldl (fun m k =>
            if bitOf (c.regs.p p) k then memWrite m (addr + 4 * k) (leBytes 4 (a k)) else m) c.sram,
          pc := c.after })) ∧
    (∀ f : FpFmt, fpFmt fmt = some f → fmtReserved fmt = false →
      (imm % 2 = 1 → ZwLanes (.zwVcvt (zwOne i) vd va p pair fmt imm t) s i vd pair fun k x =>
        (bitOf (c.regs.p p) k = false → x = old k) ∧
        (bitOf (c.regs.p p) k = true → (fp32IsNan (a k) = true → x = f.nan % 2 ^ 32) ∧
          ∀ m e, fmtFP32.decode (a k) = .fin m e → m ≠ 0 → x = (f.round m e).1 % 2 ^ 32)) ∧
      (imm % 2 = 0 → ZwLanes (.zwVcvt (zwOne i) vd va p pair fmt imm t) s i vd pair fun k x =>
        (bitOf (c.regs.p p) k = false → x = old k) ∧
        (bitOf (c.regs.p p) k = true → (f.decode (a k) = .nan → x = fmtFP32.nan % 2 ^ 32) ∧
          ∀ m e, f.decode (a k) = .fin m e → m ≠ 0 → x = rne32 m e % 2 ^ 32))) ∧
    (imm % 8 ≤ 4 → ZwLanes (.zwVsfu (zwOne i) vd va p pair imm t) s i vd pair fun k x =>
      (bitOf (c.regs.p p) k = false → x = old k) ∧
      (bitOf (c.regs.p p) k = true →
        (imm % 8 = 0 → x = expE (a k) % 2 ^ 32) ∧ (imm % 8 = 1 → x = recip32 (a k) % 2 ^ 32) ∧
        (imm % 8 = 2 → a k ≠ 2 ^ 31 → x = rsqrt32 (a k) % 2 ^ 32) ∧ (imm % 8 = 3 → x = sigmoid32 (a k) % 2 ^ 32) ∧
        (imm % 8 = 4 → x = silu32 (a k) % 2 ^ 32))) ∧
    (∀ n bytes, fmt ≤ 2 → addr = c.regs.s sr → n = (if pair then 4 else 2) →
      addr + n * (4 * fmtBits fmt + 1) ≤ 0x400000 →
      bytes = ((List.range n).flatMap fun k =>
          packCodes (fmtBits fmt) (facetBlock (fmtBits fmt) (((c.regs.lanes va pair).drop (32 * k)).take 32)).2.1)
        ++ (List.range n).map (fun k =>
          BitVec.ofNat 8 (facetBlock (fmtBits fmt) (((c.regs.lanes va pair).drop (32 * k)).take 32)).1) →
      Completes (.zwVquant (zwOne i) va pair fmt sr t) s fun s' =>
        s'.core i = { c with sram := memWrite c.sram addr bytes, pc := c.after } ∧ s'.mem = s.mem)

/-- R192, R207, R211, R214, R216: a matrix slot gives its engine a command with what its registers hold, and the command
takes effect when it completes; exchange slots copy, send and load bytes, hand K and V to the append unit and a payload to
the fabric. -/
def Obligations.ZwMatrixAndExchangeSlots : Prop :=
  ∀ (s : State) (i e tile fmtA fmtB sA sB sK dst src len aux pkg die n t : Nat) (c : Core) (m : MatCmd) (y : Tile)
    (bs : List Byte), i < 516 → e < 4 →
    (ZwReady s i c →
      ZwRuns (.zwTzero (zwOne i) e tile sA t) s i { c with
        matrix := c.matrix ++ [⟨e, .tzero, tile, 0, 0, c.regs.s sA % 65536, 0, 0, true⟩], pc := c.after } ∧
      ZwRuns (.zwMma (zwOne i) e tile fmtA fmtB sA sB sK t) s i { c with
        matrix := c.matrix ++ [⟨e, .mma, tile, fmtA, fmtB, c.regs.s sA, c.regs.s sB, c.regs.s sK, true⟩], pc := c.after } ∧
      ZwRuns (.zwTout (zwOne i) e tile fmtA sA sB t) s i { c with
        matrix := c.matrix ++ [⟨e, .tout, tile, fmtA, 0, c.regs.s sA, c.regs.s sB, 0, sB == 0⟩], pc := c.after } ∧
      ZwRuns (.zwTimg (zwOne i) e tile sA t) s i { c with
        matrix := c.matrix ++ [⟨e, .timg, tile, 0, 0, c.regs.s sA, 0, 0, true⟩], pc := c.after } ∧
      ZwRuns (.zwTadd (zwOne i) e tile sA t) s i { c with
        matrix := c.matrix ++ [⟨e, .tadd, tile, 0, 0, c.regs.s sA, 0, 0, true⟩], pc := c.after } ∧
      ZwRuns (.zwTpre (zwOne i) e fmtA sA sB sK t) s i { c with
        matrix := c.matrix ++ [⟨e, .tpre, 0, fmtA, 0, c.regs.s sA, c.regs.s sB, c.regs.s sK, true⟩], pc := c.after } ∧
      ZwRuns (.zwXfence (zwOne i) t) s i { c with pc := c.after } ∧
      (c.regs.s len = n → n % 64 = 0 →
        (c.regs.s dst + n ≤ 0x400000 → c.regs.s src + n ≤ 0x400000 →
          ZwRuns (.zwXcopy (zwOne i) dst src len t) s i
            { c with sram := memWrite c.sram (c.regs.s dst) (memRead c.sram (c.regs.s src) n), pc := c.after }) ∧
        (i < 512 → c.regs.s dst + n ≤ 0x400000 → c.regs.s src + n ≤ 0x400000 → 8 * (i / 8) + c.regs.s aux % 8 ≠ i →
          Completes (.zwXsend (zwOne i) dst src len aux t) s fun s' =>
            (s'.core (8 * (i / 8) + c.regs.s aux % 8)).sram =
              memWrite (s.core (8 * (i / 8) + c.regs.s aux % 8)).sram (c.regs.s dst) (memRead c.sram (c.regs.s src) n) ∧
            s'.core i = { c with pc := c.after }) ∧
        (c.regs.s dst + n ≤ 0x400000 →
          ZwRuns (.zwXstream (zwOne i) dst src len (some (c.model, bs)) t) s i
            { c with sram := memWrite c.sram (c.regs.s dst) (bytesAt bs 0 n), pc := c.after }) ∧
        (c.regs.s src + n ≤ 0x400000 →
          (Completes (.zwXappend (zwOne i) src len aux t) s fun s' =>
            s'.appends = s.appends ++ [(i, c.regs.s aux, memRead c.sram (c.regs.s src) n)] ∧
            s'.core i = { c with pc := c.after }) ∧
          (0 < n → n ≤ 4096 → Completes (.zwXgallery (zwOne i) dst src len pkg die t) s fun s' =>
            (∃ q, s'.gallery.sending = s.gallery.sending ++ [q] ∧ q.opcode = 0x37 ∧ q.dstPkg = pkg ∧ q.dstDie = die ∧
              q.payload = memRead c.sram (c.regs.s src) n) ∧ s'.core i = { c with pc := c.after }))) ∧
      (c.regs.s len % 64 ≠ 0 → s.s0.run = none → s.s1.run = none →
        ZwStops (.zwXcopy (zwOne i) dst src len t) s i 2 (2 ^ 7))) ∧
    (s.coreIn i = true → s.core i = c → c.matrix = [m] → m.engine = e →
      (m.op = .tzero → Completes (.zwMatrixDone i e t) s fun s' =>
        (s'.core i).matrix = [] ∧ (s'.core i).regs.t m.tile = ⟨signed 16 m.a, [], false⟩ ∧
        (s'.core i).sram = c.sram) ∧
      (m.op = .mma → (c.regs.t m.tile).invalid = false → s.mma i m (c.regs.t m.tile) = ⟨some y, none, [], none⟩ →
        Completes (.zwMatrixDone i e t) s fun s' =>
          (s'.core i).matrix = [] ∧ (s'.core i).regs.t m.tile = y ∧ (s'.core i).sram = c.sram) ∧
      (m.op = .timg → (c.regs.t m.tile).invalid = false → m.a + 19456 ≤ 0x400000 →
        Completes (.zwMatrixDone i e t) s fun s' =>
          (s'.core i).matrix = [] ∧ (s'.core i).regs = c.regs ∧
          (s'.core i).sram = memWrite c.sram m.a
            ((List.range 1024).flatMap fun j => accImage ((c.regs.t m.tile).acc j))) ∧
      (∀ code, m.op = .mma → s.mma i m (c.regs.t m.tile) = MatOut.bad code →
        Completes (.zwMatrixDone i e t) s fun s' =>
          (s'.core i).deferred = c.deferred ++ [(e, code)] ∧ ((s'.core i).regs.t m.tile).invalid = true))

/-- R220 to R222: an arithmetic instruction of a running sequencer writes rd with its 32-bit result and goes on with the next
word; m0 keeps 0. DIVU by 0 gives all ones; shifts take their amount modulo 32; immediates are sign-extended, but for ANDI,
ORI, XORI, LUI and SLTIU.

R220, R222, R223: loads and stores move words and bytes of the scratch, TLD reads a view, and addresses outside them
fault; QPUT, QGET and QCNT work on the queues; TNOW reads Package Time, TSET names the next run, OUT a result word. -/
def Obligations.ZmComputesAndMovesData : Prop :=
  ((∀ (q : Sequencer) (rd v r : Nat), (q.setReg rd v).reg r = if r = rd ∧ r ≠ 0 then v % 2 ^ 32 else q.reg r) ∧
  ∀ (s : State) (i w rd ra rb imm t : Nat) (q : Sequencer) (a b x : BitVec 32), ZmAt s i w q →
    a = .ofNat 32 (q.reg ra) → b = .ofNat 32 (q.reg rb) → x = (BitVec.ofNat 18 imm).signExtend 32 →
    (∀ (op : ZmIssue → Nat → Nat → Nat → Nat → Instr) (code : Nat) (v : BitVec 32),
      (op, code, v) ∈ [(Instr.zmAdd, 0x01, a + b), (Instr.zmSub, 0x02, a - b), (Instr.zmAnd, 0x03, a &&& b),
        (Instr.zmOr, 0x04, a ||| b), (Instr.zmXor, 0x05, a ^^^ b), (Instr.zmSll, 0x06, a <<< (b.toNat % 32)),
        (Instr.zmSrl, 0x07, a >>> (b.toNat % 32)), (Instr.zmSra, 0x08, a.sshiftRight (b.toNat % 32)),
        (Instr.zmMul, 0x09, a * b), (Instr.zmMulhu, 0x0a, .ofNat 32 (a.toNat * b.toNat / 2 ^ 32)),
        (Instr.zmSltu, 0x0b, if a.ult b then 1 else 0), (Instr.zmSlt, 0x0c, if a.slt b then 1 else 0),
        (Instr.zmMinu, 0x0d, if a.ule b then a else b), (Instr.zmMaxu, 0x0e, if a.ule b then b else a),
        (Instr.zmDivu, 0x0f, if b = 0 then 0xffffffff else a.udiv b)] →
      wordIs w code (fieldsR rd ra rb) = true → ZmRuns (op ⟨i, none⟩ rd ra rb t) s i (q.wrote rd v.toNat)) ∧
    (∀ (op : ZmIssue → Nat → Nat → Nat → Nat → Instr) (code : Nat) (v : BitVec 32),
      (op, code, v) ∈ [(Instr.zmAddi, 0x10, a + x), (Instr.zmAndi, 0x11, a &&& .ofNat 32 imm),
        (Instr.zmOri, 0x12, a ||| .ofNat 32 imm), (Instr.zmXori, 0x13, a ^^^ .ofNat 32 imm),
        (Instr.zmSlli, 0x14, a <<< (imm % 32)), (Instr.zmSrli, 0x15, a >>> (imm % 32)),
        (Instr.zmSrai, 0x16, a.sshiftRight (imm % 32)), (Instr.zmSltiu, 0x18, if a.ult (.ofNat 32 imm) then 1 else 0)] →
      wordIs w code (fieldsI rd ra imm) = true → ZmRuns (op ⟨i, none⟩ rd ra imm t) s i (q.wrote rd v.toNat)) ∧
    (wordIs w 0x17 [(25, 22, rd), (17, 0, imm)] = true →
      ZmRuns (.zmLui ⟨i, none⟩ rd imm t) s i (q.wrote rd (imm * 2 ^ 14)))) ∧
  (∀ (s : State) (i w rd ra imm n t v : Nat) (q : Sequencer) (rest : List Nat), ZmAt s i w q →
    n = (BitVec.ofNat 32 (q.reg ra) + (BitVec.ofNat 18 imm).signExtend 32).toNat →
    (wordIs w 0x20 (fieldsI rd ra imm) = true →
      (n < 1024 → ZmRuns (.zmLd ⟨i, none⟩ rd ra imm t) s i (q.wrote rd (q.word n))) ∧
      (1024 ≤ n → ZmFaults (.zmLd ⟨i, none⟩ rd ra imm t) s i 2 q)) ∧
    (wordIs w 0x21 (fieldsI rd ra imm) = true →
      (n < 1024 → ZmRuns (.zmSt ⟨i, none⟩ rd ra imm t) s i ((q.setWord n (q.reg rd)).wrote 0 0)) ∧
      (1024 ≤ n → ZmFaults (.zmSt ⟨i, none⟩ rd ra imm t) s i 2 q)) ∧
    (wordIs w 0x22 (fieldsI rd ra imm) = true → n < 4096 →
      ZmRuns (.zmLdb ⟨i, none⟩ rd ra imm t) s i (q.wrote rd (q.word (n / 4) / 256 ^ (n % 4) % 256))) ∧
    (wordIs w 0x23 (fieldsI rd ra imm) = true → n < 4096 →
      ZmRuns (.zmStb ⟨i, none⟩ rd ra imm t) s i
        ((q.setWord (n / 4) (setFld (q.word (n / 4)) (8 * (n % 4) + 7) (8 * (n % 4)) (q.reg rd))).wrote 0 0)) ∧
    (wordIs w 0x24 (fieldsI rd ra imm) = true →
      ((agetD q.views (imm / 2 ^ 14) [])[(q.reg ra + imm % 2 ^ 14) % 2 ^ 32]? = some v →
        ZmRuns (.zmTld ⟨i, none⟩ rd ra imm t) s i (q.wrote rd v)) ∧
      ((agetD q.views (imm / 2 ^ 14) [])[(q.reg ra + imm % 2 ^ 14) % 2 ^ 32]? = none →
        ZmFaults (.zmTld ⟨i, none⟩ rd ra imm t) s i 3 q)) ∧
    (wordIs w 0x28 (fieldsI rd ra imm) = true →
      (countBy (fun p => p.1 == imm % 16) q.pushes < zmRoom (seqrPlace i) (imm % 16) →
        ZmRuns (.zmQput ⟨i, none⟩ rd ra imm t) s i
          (({ q with pushes := q.pushes ++ [(imm % 16, q.reg ra)] } : Sequencer).wrote rd 1)) ∧
      (zmRoom (seqrPlace i) (imm % 16) ≤ countBy (fun p => p.1 == imm % 16) q.pushes →
        Completes (.zmQput ⟨i, none⟩ rd ra imm t) s fun s' =>
          s'.seqr i = { q.wrote rd 0 with count := q.count + 1 } ∧ s'.mem = s.mem)) ∧
    (wordIs w 0x29 [(25, 22, rd), (17, 0, imm)] = true →
      (agetD q.inputs (imm % 16) [] = v :: rest →
        ZmRuns (.zmQget ⟨i, none⟩ rd imm t) s i
          (({ q with inputs := aset q.inputs (imm % 16) rest } : Sequencer).wrote rd v)) ∧
      (agetD q.inputs (imm % 16) [] = [] → ZmFaults (.zmQget ⟨i, none⟩ rd imm t) s i 4 q)) ∧
    (wordIs w 0x2a [(25, 22, rd), (17, 0, imm)] = true →
      ZmRuns (.zmQcnt ⟨i, none⟩ rd imm t) s i (q.wrote rd (agetD q.inputs (imm % 16) []).length)) ∧
    (wordIs w 0x2c [(25, 22, rd), (17, 0, imm)] = true →
      (imm = 0 → ZmRuns (.zmTnow ⟨i, none⟩ rd imm t) s i (q.wrote rd (max s.pt t))) ∧
      (imm = 1 → ZmRuns (.zmTnow ⟨i, none⟩ rd imm t) s i (q.wrote rd (max s.pt t / 2 ^ 32)))) ∧
    (wordIs w 0x2d [(21, 18, ra), (17, 0, imm)] = true →
      ZmRuns (.zmTset ⟨i, none⟩ ra imm t) s i
        (({ q with nextBy := some (max s.pt t + n * 1000) } : Sequencer).wrote 0 0)) ∧
    (wordIs w 0x38 [(21, 18, ra), (17, 0, imm)] = true →
      ZmRuns (.zmOut ⟨i, none⟩ ra imm t) s i
        (({ q with results := aset q.results ((BitVec.ofNat 18 imm).signExtend 32).toNat (q.reg ra) } : Sequencer).wrote 0 0)))

/-- R221 to R224, R226: branches and jumps set the pc; END gives the run's pushes and result words to its place; TRAP, an
illegal word, a pc outside the code and a run past its limit fault; a run starts with the program now in force. -/
def Obligations.ZmControlAndRuns : Prop :=
  ∀ (s : State) (i w ra rb off imm t : Nat) (q : Sequencer) (a b : BitVec 32),
    (ZmAt s i w q → a = .ofNat 32 (q.reg ra) → b = .ofNat 32 (q.reg rb) →
      (∀ (op : ZmIssue → Nat → Nat → Nat → Nat → Instr) (code : Nat) (taken : Bool),
        (op, code, taken) ∈ [(Instr.zmBeq, 0x30, a == b), (Instr.zmBne, 0x31, a != b), (Instr.zmBltu, 0x32, a.ult b),
          (Instr.zmBgeu, 0x33, b.ule a), (Instr.zmBlt, 0x34, a.slt b), (Instr.zmBge, 0x35, b.sle a)] →
        wordIs w code (fieldsB ra rb off) = true →
        ZmRuns (op ⟨i, none⟩ ra rb off t) s i { q with
          pc := if taken then (((q.pc : Int) + (BitVec.ofNat 18 off).toInt) % 2 ^ 32).toNat else (q.pc + 1) % 2 ^ 32 }) ∧
      (wordIs w 0x36 [(25, 0, off)] = true →
        ZmRuns (.zmJal ⟨i, none⟩ off t) s i
          { q.setReg 15 (q.pc + 1) with pc := (((q.pc : Int) + (BitVec.ofNat 26 off).toInt) % 2 ^ 32).toNat }) ∧
      (wordIs w 0x37 [(21, 18, ra)] = true → ZmRuns (.zmJr ⟨i, none⟩ ra t) s i { q with pc := q.reg ra }) ∧
      (wordIs w 0x3e [] = true → Completes (.zmEnd ⟨i, none⟩ t) s fun s' =>
        (s'.seqr i).running = false ∧ (s'.seqr i).queue = q.pushes ∧ (s'.seqr i).words = q.results ∧
        (s'.seqr i).faultCode = q.faultCode) ∧
      (wordIs w 0x3f [(17, 0, imm)] = true → ZmFaults (.zmTrap ⟨i, none⟩ imm t) s i 7 q ∧
        Completes (.zmTrap ⟨i, none⟩ imm t) s fun s' => (s'.seqr i).trapCode = imm % 256)) ∧
    (∀ z : ZmImage, seqrExists s.cds i = true → s.seqr i = q → q.running = true → q.image = some z →
      (z.code[q.pc]? = none → ZmFaults (.zmEnd ⟨i, none⟩ t) s i 6 q) ∧
      (z.code[q.pc]? = some w → z.limit ≤ q.count → ZmFaults (.zmEnd ⟨i, none⟩ t) s i 5 q) ∧
      (z.code[q.pc]? = some w → q.count < z.limit → zmIllegal z.place w = true →
        ZmFaults (.zmEnd ⟨i, none⟩ t) s i 1 q)) ∧
    (∀ (z : ZmImage) (r : ZmStart), seqrExists s.cds i = true → s.seqr i = q → q.running = false →
      seqrPlace i = z.place → z.place ≠ .powerLoop → aget s.programs r.prog = some z → s.seqrServes i r = true →
      z.code[z.entry]? = some w → 0 < z.limit → zmIllegal z.place w = false → wordIs w 0x10 (fieldsI 1 0 imm) = true →
      Completes (.zmAddi ⟨i, some r⟩ 1 0 imm t) s fun s' =>
        (s'.seqr i).running = true ∧ (s'.seqr i).image = some z ∧ (s'.seqr i).prog = r.prog ∧
        (s'.seqr i).views = r.views ∧ (s'.seqr i).pc = (z.entry + 1) % 2 ^ 32 ∧ (s'.seqr i).count = 1 ∧
        (s'.seqr i).runs = (q.runs + 1) % 2 ^ 32 ∧
        (s'.seqr i).reg 1 = ((BitVec.ofNat 18 imm).signExtend 32).toNat)

/-- A step takes the command at the front of the queue and answers what that command does to the machine with the queue's
rest; with no command waiting the block idles (the model's choice, log entry 2). -/
def Obligations.StepTakesTheFrontCommand : Prop :=
  (∀ (s : State) (c : Instr) (rest : List Instr),
    s.pending = c :: rest → step s = exec c { s with pending := rest }) ∧
  (∀ s : State, s.pending = [] → step s = .next s)

/-- Right after reset: no command waits, PT is 0 (R14), every register reads its reset value (R549) through a function of
either port once the package is ready, PKG_PART at once (R6); no session slot is in use (R36), no flag is latched, the log is
empty (R521), no stream has a step in flight, and the state is sound. What memory reads is the model's choice (log entry
3). -/
def Obligations.ResetLeavesItsValues : Prop :=
  State.reset.pending = [] ∧ State.reset.pt = 0 ∧ State.reset.flagSets = [] ∧ State.reset.out = [] ∧
  (∀ addr, State.reset.reg addr = resetReg addr) ∧
  (∀ d ∈ regTable, ∀ n, (d.only0 = true → n = 0) → n < 64 → d.blk < 64 → d.off < 2 ^ 16 →
    resetReg (pcs d.blk n d.off) = d.reset) ∧
  (∀ port, State.reset.pcsRead port (pcs 0 0 8) = 0x5dc4010b001) ∧
  resetReg (pcs 0x15 0 0) = 1500 ∧
  (∀ slot, (State.reset.entry slot).state = .free) ∧
  (∀ a, memByte State.reset.mem a = 0) ∧
  (∀ port addr, State.reset.boot.ready = false ∧ (addr / 2 ^ 22 ≠ 0x1a → addr ≠ pcs 0 0 8 →
    State.reset.pcsRead port addr = 0)) ∧
  Sound State.reset

/-- No command is refused; and on the full part a command whose operands name units that exist (R3, R8, R395) completes in
every state: ordinary data never ends a run. -/
def Obligations.WellFormedCommandsComplete : Prop :=
  (∀ (c : Instr) (s : State) (r : Refusal), exec c s ≠ .refused r) ∧
  (∀ (c : Instr) (s : State), c.wellFormed = true → s.cds = 16 → ∃ s', exec c s = .next s')

/-- Every step keeps the state sound: whatever command is at the front, state memory, core SRAM and cluster SRAM stay in
canonical form, and the registers of Zynut-W and Zynut-M stay within their widths (R206, R207, R220). -/
def Obligations.StepsKeepTheStateSound : Prop :=
  ∀ s s' : State, Sound s → step s = .next s' → Sound s'

/-- What the codec encodes, it decodes (R284 to R288): for an input of at most 2^38 bytes, decoding its stream gives the input
padded with zeros to a multiple of 4,096 bytes. -/
def Obligations.DecodingUndoesEncoding : Prop :=
  ∀ bs : List Byte, bs.length ≤ 2 ^ 38 → decodeStream (encodeStream bs) = some (padBlock bs)

/-- The coding of a block (R287). The admissible codings are ZERO, CONST and RAW where they apply and SHUFFLE-ZRLE at every
width below 4,096 bytes; the encoder's is one of them, has the smallest payload, and among equals the lower mode and then the
lower width. It is a function of the input, so an input always yields the same stream. -/
def Obligations.BlocksTakeTheSmallestCoding : Prop :=
  ∀ x : List Byte, x.length = 4096 →
    let admissible := fun f : Nat × Nat × List Byte =>
      (f.1 = 0 ∧ f.2.1 = 0 ∧ f.2.2 = [] ∧ x = List.replicate 4096 0) ∨
      (f.1 = 1 ∧ f.2.1 = 0 ∧ f.2.2 = x.take 8 ∧ x = (List.replicate 512 f.2.2).flatten) ∨
      (f.1 = 2 ∧ f.2.1 = 0 ∧ f.2.2 = x) ∨
      (f.1 = 3 ∧ f.2.1 < 4 ∧ f.2.2 = zrle 4096 (shuffleBytes (2 ^ f.2.1) x) ∧ f.2.2.length < 4096)
    admissible (codeBlock x) ∧
    ∀ f, admissible f →
      (codeBlock x).2.2.length < f.2.2.length ∨
      ((codeBlock x).2.2.length = f.2.2.length ∧
        ((codeBlock x).1 < f.1 ∨ ((codeBlock x).1 = f.1 ∧ (codeBlock x).2.1 ≤ f.2.1)))

/-- An offset with no register (R11), and an instance that the part does not have (R4): a read returns 0, and a write changes
nothing but time, so it raises no error. On OV32-FD-768 instance 15 of ENG, CORE and SMP and instance 47 of ZYM are such, and
CD15 has no island. -/
def Obligations.AbsentRegistersReadZero : Prop :=
  (∀ (s : State) (port addr : Nat), regAt s.cds addr = none →
    s.pcsRead port addr = 0 ∧
    ∀ fn bytes v t, fn < 128 → exec (.registerWrite fn false addr bytes v t) s = .next (s.stamp t)) ∧
  (∀ (s : State) (off : Nat), s.cds = 15 → off < 2 ^ 16 →
    (∀ blk ∈ [0x09, 0x0a, 0x0c], regAt s.cds (pcs blk 15 off) = none) ∧ regAt s.cds (pcs 0x1f 47 off) = none ∧
    ∀ i, s.island 15 i = none)

/-- A read of a register of type CT (R476): the value that an open or COMMITTING transaction of its scope has staged, the
live value where none has, and the live value always for a function that sets CT_VIEW.LIVE. -/
def Obligations.TransactedRegistersReadTheirShadow : Prop :=
  ∀ (s : State) (port addr : Nat) (d : RegDesc), regAt s.cds addr = some d → d.ct ≠ 0 → s.boot.ready = true →
    let live := bitOf (s.selOf port (pcs 0x1b 0 0x50)) 0
    (∀ x v o, live = false → s.txn (s.readScope port addr) = some x → (x.state = 1 ∨ x.state = 2) →
      aget x.shadows (s.stageKey port addr) = some (v, o) → s.pcsRead port addr = v) ∧
    ((∀ x, s.txn (s.readScope port addr) = some x → (x.state = 1 ∨ x.state = 2) →
        aget x.shadows (s.stageKey port addr) = none) → s.pcsRead port addr = s.live port addr) ∧
    (live = true → s.pcsRead port addr = s.live port addr)

/-- Frames: what the commands that touch at most seven parts of the state, time among them, leave as it was, whenever they answer
a next state. `K s t` is the state that differs from `s` only in the named parts; where a part is not named, every register,
flag, counter and byte of it is unchanged (R3, R8, R12). -/
def Obligations.CommandsOfOneUnitLeaveTheRest : Prop :=
  (let K : State → State → State := fun s t => { s with pt := t.pt, now := t.now, fns := t.fns };
      (∀ fn q v t, Keeps K (.dqTailWrite fn q v t)) ∧ (∀ fn q v t, Keeps K (.rqHeadWrite fn q v t)) ∧
      (∀ fn v t, Keeps K (.textHeadWrite fn v t)) ∧ (∀ fn q seq t, Keeps K (.timedFrameRelease fn q seq t)) ∧
      (∀ port vfs t, Keeps K (.hostAttach port vfs t))) ∧
  (let K : State → State → State := fun s t => { s with pt := t.pt, now := t.now, sessions := t.sessions };
      (∀ slot t, Keeps K (.notBeforeReached slot t)) ∧ (∀ slot rejects t, Keeps K (.peerComplete slot rejects t))) ∧
  (let K : State → State → State := fun s t => { s with pt := t.pt, now := t.now, s1 := t.s1 };
      (∀ t, Keeps K (.s1Resume t))) ∧
  (let K : State → State → State := fun s t => { s with pt := t.pt, now := t.now, gallery := t.gallery };
      (∀ die chan seg t, Keeps K (.segmentResend die chan seg t)) ∧
      (∀ port seq t, Keeps K (.codewordUncorrectable port seq t)) ∧ (∀ port tc t, Keeps K (.tfqHwmRead port tc t))) ∧
  (let K : State → State → State := fun s t => { s with pt := t.pt, now := t.now, tables := t.tables };
      (∀ sd t, Keeps K (.hotCacheRefresh sd t))) ∧
  (let K : State → State → State := fun s t => { s with pt := t.pt, now := t.now, energyPorts := t.energyPorts };
      (∀ eid t, Keeps K (.busRecover eid t))) ∧
  (let K : State → State → State := fun s t => { s with pt := t.pt, now := t.now, power := t.power };
      (∀ slot t, Keeps K (.journalEntryStart slot t)) ∧
      (∀ junc dram die watts mj freqs pacing fault t, Keeps K (.thermalLoopRun junc dram die watts mj freqs pacing fault t)) ∧
      (∀ watts t, Keeps K (.capRelax watts t))) ∧
  (let K : State → State → State := fun s t => { s with pt := t.pt, now := t.now, regs := t.regs };
      (∀ v t, Keeps K (.pwrCapWrite v t))) ∧
  (let K : State → State → State := fun s t => { s with pt := t.pt, now := t.now, boot := t.boot };
      (∀ failed dimms t, Keeps K (.assayDone failed dimms t))) ∧
  (let K : State → State → State := fun s t => { s with pt := t.pt, now := t.now, out := t.out };
      (∀ t, Keeps K (.getDigests t)) ∧ (∀ slot t, Keeps K (.getCertificate slot t)) ∧
      (∀ session t, Keeps K (.heartbeat session t)) ∧ (∀ sensor t, Keeps K (.pldmPmcRequest sensor t))) ∧
  (let K : State → State → State := fun s t => { s with pt := t.pt, now := t.now, eths := t.eths };
      (∀ port up t, Keeps K (.ethLinkChange port up t))) ∧
  (let K : State → State → State := fun s t => { s with pt := t.pt, now := t.now, attRequests := t.attRequests };
      (∀ src request t, Keeps K (.attReqPartsTimeout src request t))) ∧
  (let K : State → State → State := fun s t => { s with pt := t.pt, now := t.now, out := t.out, fns := t.fns };
      (∀ fn q t, Keeps K (.statusRecordWrite fn q t)) ∧ (∀ fn q t, Keeps K (.modUsExpire fn q t))) ∧
  (let K : State → State → State := fun s t =>
      { s with
        pt := t.pt, now := t.now, fns := t.fns, security := t.security };
      (∀ fn t, Keeps K (.ideStreamStop fn t))) ∧
  (let K : State → State → State := fun s t => { s with pt := t.pt, now := t.now, fns := t.fns, tables := t.tables };
      (∀ f t, Keeps K (.tableSwitch f t)) ∧ (∀ f sd t, Keeps K (.recallQuery f sd t)) ∧
      (∀ f t, Keeps K (.adapterLoad f t))) ∧
  (let K : State → State → State := fun s t =>
      { s with
        pt := t.pt, now := t.now, fns := t.fns, checkpoint := t.checkpoint };
      (∀ f t, Keeps K (.ckpCut f t))) ∧
  (let K : State → State → State := fun s t => { s with pt := t.pt, now := t.now, s0 := t.s0, s1 := t.s1 };
      (∀ s1 t, Keeps K (.stepPacingExpire s1 t))) ∧
  (let K : State → State → State := fun s t =>
      { s with
        pt := t.pt, now := t.now, sessions := t.sessions, tenants := t.tenants };
      (∀ tenant tier bytes t, Keeps K (.quotaRelease tenant tier bytes t))) ∧
  (let K : State → State → State := fun s t =>
      { s with
        pt := t.pt, now := t.now, out := t.out, security := t.security };
      (∀ port t, Keeps K (.rollCallSend port t)) ∧ (∀ t, Keeps K (.syncSend t)) ∧ (∀ t, Keeps K (.getVersion t)) ∧
      (∀ t, Keeps K (.getCapabilities t)) ∧ (∀ offered t, Keeps K (.negotiateAlgorithms offered t)) ∧
      (∀ session ok ownerAuth t, Keeps K (.finish session ok ownerAuth t)) ∧
      (∀ session t, Keeps K (.endSession session t)) ∧ (∀ session t, Keeps K (.keyUpdate session t)) ∧
      (∀ session job phase key t, Keeps K (.setJobKey session job phase key t)) ∧
      (∀ session job phase t, Keeps K (.clearJobKey session job phase t)) ∧
      (∀ session key t, Keeps K (.setCkpKey session key t)) ∧
      (∀ session hash signed t, Keeps K (.ownerEnrol session hash signed t)) ∧
      (∀ session port stream fns active t, Keeps K (.ideKm session port stream fns active t)) ∧
      (∀ fn op t, Keeps K (.tdispRequest fn op t)) ∧
      (∀ slot authenticated t, Keeps K (.debugUnlock slot authenticated t))) ∧
  (let K : State → State → State := fun s t =>
      { s with
        pt := t.pt, now := t.now, tenants := t.tenants, power := t.power };
      (∀ t, Keeps K (.tick1ms t))) ∧
  (let K : State → State → State := fun s t =>
      { s with
        pt := t.pt, now := t.now, leaves := t.leaves, power := t.power };
      (∀ seq page t, Keeps K (.journalCapture seq page t))) ∧
  (let K : State → State → State := fun s t =>
      { s with
        pt := t.pt, now := t.now, fns := t.fns, expanders := t.expanders };
      (∀ pool width gib interleaveOk t, Keeps K (.expanderAttach pool width gib interleaveOk t))) ∧
  (let K : State → State → State := fun s t =>
      { s with
        pt := t.pt, now := t.now, regs := t.regs, expanders := t.expanders };
      (∀ pool t, Keeps K (.xpnCancel pool t))) ∧
  (let K : State → State → State := fun s t => { s with pt := t.pt, now := t.now, out := t.out, eths := t.eths };
      (∀ port bytes fcsOk t, Keeps K (.ethFrameReceive port bytes fcsOk t))) ∧
  (let K : State → State → State := fun s t => { s with pt := t.pt, now := t.now, regs := t.regs, boot := t.boot };
      (∀ pos t, Keeps K (.p0Done pos t))) ∧
  (let K : State → State → State := fun s t =>
      { s with
        pt := t.pt, now := t.now, security := t.security, boot := t.boot };
      (∀ iod rom t, Keeps K (.romSelftestDone iod rom t))) ∧
  (let K : State → State → State := fun s t => { s with pt := t.pt, now := t.now, out := t.out, boot := t.boot };
      (∀ t, Keeps K (.electionTimeout t))) ∧
  (let K : State → State → State := fun s t => { s with pt := t.pt, now := t.now, draws := t.draws, out := t.out };
      (∀ slot t, Keeps K (.challenge slot t)) ∧ (∀ index signed t, Keeps K (.getMeasurements index signed t))) ∧
  (let K : State → State → State := fun s t =>
      { s with
        pt := t.pt, now := t.now, regs := t.regs, ctResults := t.ctResults };
      (∀ fn v t, Keeps K (.ctCmdInvalidOp fn v t))) ∧
  (let K : State → State → State := fun s t =>
      { s with
        pt := t.pt, now := t.now, regs := t.regs, flagClears := t.flagClears };
      (∀ addr v t, Keeps K (.w1cClear addr v t))) ∧
  (let K : State → State → State := fun s t =>
      { s with
        pt := t.pt, now := t.now, sels := t.sels, errLog := t.errLog };
      (∀ port v t, Keeps K (.errSelWrite port v t))) ∧
  (let K : State → State → State := fun s t =>
      { s with
        pt := t.pt, now := t.now, regs := t.regs, errLog := t.errLog };
      (∀ v t, Keeps K (.errClear v t))) ∧
  (let K : State → State → State := fun s t => { s with pt := t.pt, now := t.now, sels := t.sels, obs := t.obs };
      (∀ port v t, Keeps K (.ledTselWrite port v t))) ∧
  (let K : State → State → State := fun s t =>
      { s with
        pt := t.pt, now := t.now, regs := t.regs, sessions := t.sessions };
      (∀ fn v t, Keeps K (.hifRebindGo fn v t))) ∧
  (let K : State → State → State := fun s t =>
      { s with
        pt := t.pt, now := t.now, tenants := t.tenants, gallery := t.gallery };
      (∀ handle t, Keeps K (.closeNoteRetry handle t))) ∧
  (let K : State → State → State := fun s t =>
      { s with
        pt := t.pt, now := t.now, draws := t.draws, sels := t.sels, fns := t.fns };
      (∀ f t, Keeps K (.probe f t))) ∧
  (let K : State → State → State := fun s t =>
      { s with
        pt := t.pt, now := t.now, regs := t.regs, flagSets := t.flagSets, sessions := t.sessions };
      (∀ slot t, Keeps K (.timerFire slot t))) ∧
  (let K : State → State → State := fun s t =>
      { s with
        pt := t.pt, now := t.now, regs := t.regs, flagSets := t.flagSets, s1 := t.s1 };
      (∀ layer t, Keeps K (.s1Suspend layer t))) ∧
  (let K : State → State → State := fun s t =>
      { s with
        pt := t.pt, now := t.now, out := t.out, gallery := t.gallery, security := t.security };
      (∀ port lanes t, Keeps K (.portTrained port lanes t))) ∧
  (let K : State → State → State := fun s t =>
      { s with
        pt := t.pt, now := t.now, regs := t.regs, flagSets := t.flagSets, gallery := t.gallery };
      (∀ port tc t, Keeps K (.transitCreditTimeout port tc t)) ∧
      (∀ h code epoch count t, Keeps K (.groupCtl h code epoch count t)) ∧
      (∀ h addr payload t, Keeps K (.kernelData h addr payload t)) ∧
      (∀ h type_ payload t, Keeps K (.mgmt h type_ payload t)) ∧ (∀ h handle t, Keeps K (.closeNoteAck h handle t))) ∧
  (let K : State → State → State := fun s t =>
      { s with
        pt := t.pt, now := t.now, regs := t.regs, flagSets := t.flagSets, splitSums := t.splitSums };
      (∀ h step reduction first images info t, Keeps K (.accImages h step reduction first images info t)) ∧
      (∀ h step reduction first bounds own t, Keeps K (.anchor h step reduction first bounds own t))) ∧
  (let K : State → State → State := fun s t =>
      { s with
        pt := t.pt, now := t.now, regs := t.regs, flagSets := t.flagSets, tables := t.tables };
     
      (∀ h table step handle seq row overwrite bytes t, Keeps K (.rowUpd h table step handle seq row overwrite bytes t)) ∧
      (∀ table sd rows ok t, Keeps K (.hotListReadDone table sd rows ok t))) ∧
  (let K : State → State → State := fun s t =>
      { s with
        pt := t.pt, now := t.now, regs := t.regs, flagSets := t.flagSets, energyPorts := t.energyPorts };
      (∀ eid fell t, Keeps K (.uvDetect eid fell t)) ∧ (∀ eid rating esr t, Keeps K (.healthTest eid rating esr t))) ∧
  (let K : State → State → State := fun s t =>
      { s with
        pt := t.pt, now := t.now, draws := t.draws, out := t.out, security := t.security };
      (∀ reqId t, Keeps K (.keyExchange reqId t))) ∧
  (let K : State → State → State := fun s t =>
      { s with
        pt := t.pt, now := t.now, regs := t.regs, txns := t.txns, ctResults := t.ctResults };
      (∀ fn v t, Keeps K (.ctBegin fn v t)) ∧ (∀ fn v t, Keeps K (.ctAbort fn v t)) ∧
      (∀ fn v t, Keeps K (.ctLoadPatch fn v t))) ∧
  (let K : State → State → State := fun s t =>
      { s with
        pt := t.pt, now := t.now, regs := t.regs, flagSets := t.flagSets, txns := t.txns };
      (∀ fn addr v t, Keeps K (.ctStageWrite fn addr v t))) ∧
  (let K : State → State → State := fun s t =>
      { s with
        pt := t.pt, now := t.now, regs := t.regs, flagClears := t.flagClears, obs := t.obs };
      (∀ fn v t, Keeps K (.obsCic fn v t))) ∧
  (let K : State → State → State := fun s t =>
      { s with
        pt := t.pt, now := t.now, regs := t.regs, flagSets := t.flagSets, obs := t.obs };
      (∀ fn v t, Keeps K (.ledDump fn v t))) ∧
  (let K : State → State → State := fun s t =>
      { s with
        pt := t.pt, now := t.now, regs := t.regs, security := t.security, boot := t.boot };
      (∀ t, Keeps K (.secSvnCommit t))) ∧
  (let K : State → State → State := fun s t =>
      { s with
        pt := t.pt, now := t.now, draws := t.draws, sels := t.sels, obs := t.obs };
      (∀ t, Keeps K (.snapshotAtPt t))) ∧
  (let K : State → State → State := fun s t =>
      { s with
        pt := t.pt, now := t.now, regs := t.regs, flagSets := t.flagSets, out := t.out, fns := t.fns };
      (∀ fn q bytes t, Keeps K (.frameFetch fn q bytes t))) ∧
  (let K : State → State → State := fun s t =>
      { s with
        pt := t.pt, now := t.now, out := t.out, sessions := t.sessions, sds := t.sds, fns := t.fns };
      (∀ slot t, Keeps K (.recordDeliver slot t))) ∧
  (let K : State → State → State := fun s t =>
      { s with
        pt := t.pt, now := t.now, tenants := t.tenants, fns := t.fns, gallery := t.gallery, tables := t.tables };
      (∀ f t, Keeps K (.rowUpdate f t))) ∧
  (let K : State → State → State := fun s t =>
      { s with
        pt := t.pt, now := t.now, regs := t.regs, flagSets := t.flagSets, fns := t.fns, tables := t.tables };
      (∀ f t, Keeps K (.recallInsert f t))) ∧
  (let K : State → State → State := fun s t =>
      { s with
        pt := t.pt, now := t.now, regs := t.regs, flagSets := t.flagSets, sessions := t.sessions, sds := t.sds };
      (∀ slot t, Keeps K (.timeoutCommit slot t)) ∧ (∀ slot t, Keeps K (.outboxRecordWrite slot t))) ∧
  (let K : State → State → State := fun s t =>
      { s with
        pt := t.pt, now := t.now, regs := t.regs, flagSets := t.flagSets, sds := t.sds, leaves := t.leaves };
      (∀ sd t, Keeps K (.accessDecay sd t))) ∧
  (let K : State → State → State := fun s t =>
      { s with
        pt := t.pt, now := t.now, regs := t.regs, flagSets := t.flagSets, gallery := t.gallery,
        incoming := t.incoming };
      (∀ h handle count t, Keeps K (.dropNote h handle count t))) ∧
  (let K : State → State → State := fun s t =>
      { s with
        pt := t.pt, now := t.now, regs := t.regs, flagSets := t.flagSets, fns := t.fns, gallery := t.gallery };
      (∀ h pkg peerPort pos serial hash epoch t, Keeps K (.rollCall h pkg peerPort pos serial hash epoch t)) ∧
      (∀ t, Keeps K (.syncLost t))) ∧
  (let K : State → State → State := fun s t =>
      { s with
        pt := t.pt, now := t.now, regs := t.regs, flagSets := t.flagSets, out := t.out, security := t.security };
      (∀ h t1 t, Keeps K (.sync h t1 t))) ∧
  (let K : State → State → State := fun s t =>
      { s with
        pt := t.pt, now := t.now, draws := t.draws, regs := t.regs, flagSets := t.flagSets, gallery := t.gallery };
      (∀ h t1 t2 t3 t, Keeps K (.syncReply h t1 t2 t3 t))) ∧
  (let K : State → State → State := fun s t =>
      { s with
        pt := t.pt, now := t.now, regs := t.regs, flagSets := t.flagSets, out := t.out, gallery := t.gallery };
      (∀ index t, Keeps K (.packetEnqueue index t)) ∧ (∀ p t, Keeps K (.packetTransit p t))) ∧
  (let K : State → State → State := fun s t =>
      { s with
        pt := t.pt, now := t.now, regs := t.regs, flagSets := t.flagSets, tenants := t.tenants,
        gallery := t.gallery };
     
      (∀ h step layer expert tokens request payload output t, Keeps K (.expertTokens h step layer expert tokens request payload output t))) ∧
  (let K : State → State → State := fun s t =>
      { s with
        pt := t.pt, now := t.now, out := t.out, tenants := t.tenants, fns := t.fns, checkpoint := t.checkpoint };
      (∀ t, Keeps K (.ckpManifestDurable t))) ∧
  (let K : State → State → State := fun s t =>
      { s with
        pt := t.pt, now := t.now, regs := t.regs, flagSets := t.flagSets, power := t.power,
        energyPorts := t.energyPorts };
     
      (∀ tapsA tapsB ntcsA ntcsB setA setB healthA healthB flags fault t, Keeps K (.voltageLoopRun tapsA tapsB ntcsA ntcsB setA setB healthA healthB flags fault t))) ∧
  (let K : State → State → State := fun s t =>
      { s with
        pt := t.pt, now := t.now, regs := t.regs, flagSets := t.flagSets, security := t.security, boot := t.boot };
      (∀ a hashA b hashB standby t, Keeps K (.stage1Verify a hashA b hashB standby t)) ∧
      (∀ a imagesA b imagesB loops t, Keeps K (.firmwareBroadcast a imagesA b imagesB loops t)) ∧
      (∀ position signed t, Keeps K (.keyManifest position signed t))) ∧
  (let K : State → State → State := fun s t =>
      { s with
        pt := t.pt, now := t.now, regs := t.regs, flagSets := t.flagSets, out := t.out, boot := t.boot };
      (∀ sig t, Keeps K (.recoveryImage sig t)) ∧
      (∀ model shard ok t, Keeps K (.weightShardReadDone model shard ok t)) ∧
      (∀ cls version hash sig t, Keeps K (.fwStage cls version hash sig t))) ∧
  (let K : State → State → State := fun s t =>
      { s with
        pt := t.pt, now := t.now, regs := t.regs, flagSets := t.flagSets, out := t.out, obs := t.obs };
      (∀ t, Keeps K (.snapshotWritten t)) ∧ (∀ ok t, Keeps K (.ledDumpWritten ok t))) ∧
  (let K : State → State → State := fun s t =>
      { s with
        pt := t.pt, now := t.now, regs := t.regs, flagSets := t.flagSets, txns := t.txns, ctResults := t.ctResults };
      (∀ fn bytes sig ok t, Keeps K (.patchReadDone fn bytes sig ok t))) ∧
  (let K : State → State → State := fun s t =>
      { s with
        pt := t.pt, now := t.now, regs := t.regs, flagSets := t.flagSets, fns := t.fns, txns := t.txns,
        obs := t.obs };
      (∀ fn t, Keeps K (.functionLevelReset fn t)) ∧ (∀ fn t, Keeps K (.vfDisable fn t)) ∧
      (∀ port t, Keeps K (.surpriseDown port t))) ∧
  (let K : State → State → State := fun s t =>
      { s with
        pt := t.pt, now := t.now, regs := t.regs, flagSets := t.flagSets, s0 := t.s0, s1 := t.s1,
        samplers := t.samplers };
      (∀ slot i logits drafts hook t, Keeps K (.samplerDraw slot i logits drafts hook t))) ∧
  (let K : State → State → State := fun s t =>
      { s with
        pt := t.pt, now := t.now, mem := t.mem, s0 := t.s0, s1 := t.s1, tenants := t.tenants,
        checkpoint := t.checkpoint };
      (∀ s1 t, Keeps K (.stepOutcome s1 t))) ∧
  (let K : State → State → State := fun s t =>
      { s with
        pt := t.pt, now := t.now, regs := t.regs, flagSets := t.flagSets, sessions := t.sessions,
        tenants := t.tenants, gallery := t.gallery };
      (∀ h handle home seq t, Keeps K (.homeUpdate h handle home seq t))) ∧
  (let K : State → State → State := fun s t =>
      { s with
        pt := t.pt, now := t.now, regs := t.regs, flagSets := t.flagSets, mem := t.mem, gallery := t.gallery,
        incoming := t.incoming };
      (∀ h handle count t, Keeps K (.sealNote h handle count t))) ∧
  (let K : State → State → State := fun s t =>
      { s with
        pt := t.pt, now := t.now, regs := t.regs, flagSets := t.flagSets, out := t.out, fns := t.fns,
        gallery := t.gallery };
      (∀ port acked replay credits t, Keeps K (.linkControlFlit port acked replay credits t)) ∧
      (∀ port t, Keeps K (.laneLockLoss port t)) ∧ (∀ port t, Keeps K (.rollCallMissed port t))) ∧
  (let K : State → State → State := fun s t =>
      { s with
        pt := t.pt, now := t.now, regs := t.regs, flagSets := t.flagSets, s0 := t.s0, s1 := t.s1,
        gallery := t.gallery };
      (∀ h s1 slot request issued payload t, Keeps K (.expertReply h s1 slot request issued payload t))) ∧
  (let K : State → State → State := fun s t =>
      { s with
        pt := t.pt, now := t.now, regs := t.regs, flagSets := t.flagSets, tenants := t.tenants,
        gallery := t.gallery, tables := t.tables };
      (∀ h table request bag t, Keeps K (.rowReq h table request bag t))) ∧
  (let K : State → State → State := fun s t =>
      { s with
        pt := t.pt, now := t.now, regs := t.regs, flagSets := t.flagSets, sessions := t.sessions, power := t.power,
        energyPorts := t.energyPorts };
      (∀ eid t, Keeps K (.eidSupplyLoss eid t)) ∧
      (∀ eid busV storeV current duty1 duty2 request fault t, Keeps K (.currentLoopRun eid busV storeV current duty1 duty2 request fault t)) ∧
      (∀ t, Keeps K (.energyRecompute t)) ∧ (∀ t, Keeps K (.loopFaultHoldExpire t)) ∧
      (∀ eid t, Keeps K (.loopSwapTimeout eid t)) ∧ (∀ eid nodeV t, Keeps K (.prechargeDone eid nodeV t)) ∧
      (∀ eid t, Keeps K (.chargeDone eid t)) ∧ (∀ eid t, Keeps K (.contactorOpen eid t)) ∧
      (∀ eid t, Keeps K (.eidRetire eid t)) ∧ (∀ eid t, Keeps K (.eidAdmit eid t)) ∧
      (∀ eid t, Keeps K (.eidSupplyReturn eid t))) ∧
  (let K : State → State → State := fun s t =>
      { s with
        pt := t.pt, now := t.now, regs := t.regs, flagSets := t.flagSets, fns := t.fns, errLog := t.errLog,
        power := t.power };
      (∀ converters needMv t, Keeps K (.pmbusPoll converters needMv t))) ∧
  (let K : State → State → State := fun s t =>
      { s with
        pt := t.pt, now := t.now, regs := t.regs, flagSets := t.flagSets, sessions := t.sessions,
        drives := t.drives, power := t.power };
      (∀ drive nsid sizeMib lba4k atomic fua t, Keeps K (.driveAttach drive nsid sizeMib lba4k atomic fua t))) ∧
  (let K : State → State → State := fun s t =>
      { s with
        pt := t.pt, now := t.now, draws := t.draws, regs := t.regs, sels := t.sels, flagSets := t.flagSets,
        obs := t.obs };
      (∀ fn v list t, Keeps K (.obsSnapGo fn v list t))) ∧
  (let K : State → State → State := fun s t =>
      { s with
        pt := t.pt, now := t.now, regs := t.regs, flagSets := t.flagSets, gallery := t.gallery, tables := t.tables,
        checkpoint := t.checkpoint };
      (∀ fn v t, Keeps K (.obsHwmClr fn v t))) ∧
  (let K : State → State → State := fun s t =>
      { s with
        pt := t.pt, now := t.now, draws := t.draws, regs := t.regs, flagSets := t.flagSets, cores := t.cores,
        clusterSram := t.clusterSram };
      (∀ core engine t, Keeps K (.zwMatrixDone core engine t))) ∧
  (let K : State → State → State := fun s t =>
      { s with
        pt := t.pt, now := t.now, regs := t.regs, flagSets := t.flagSets, sessions := t.sessions, sds := t.sds,
        guests := t.guests };
      (∀ h handle t, Keeps K (.homeUpdateAck h handle t)))

/-- Frames: what the commands that touch eight to fourteen parts of the state leave as it was, whenever they answer a next
state; `K s t` names the parts that may differ (R3, R8, R12). -/
def Obligations.CommandsOfSeveralUnitsLeaveTheRest : Prop :=
  (let K : State → State → State := fun s t =>
      { s with
        pt := t.pt, now := t.now, regs := t.regs, flagSets := t.flagSets, out := t.out, sessions := t.sessions,
        leaves := t.leaves, power := t.power };
      (∀ seq mbps ok t, Keeps K (.journalPayloadDone seq mbps ok t))) ∧
  (let K : State → State → State := fun s t =>
      { s with
        pt := t.pt, now := t.now, regs := t.regs, flagSets := t.flagSets, sessions := t.sessions, fns := t.fns,
        drives := t.drives, power := t.power };
      (∀ drive t, Keeps K (.driveDown drive t))) ∧
  (let K : State → State → State := fun s t =>
      { s with
        pt := t.pt, now := t.now, regs := t.regs, flagSets := t.flagSets, power := t.power,
        energyPorts := t.energyPorts, security := t.security, boot := t.boot };
      (∀ v t, Keeps K (.bruFwSwitch v t))) ∧
  (let K : State → State → State := fun s t =>
      { s with
        pt := t.pt, now := t.now, regs := t.regs, flagSets := t.flagSets, sessions := t.sessions, fns := t.fns,
        security := t.security, txns := t.txns, obs := t.obs };
      (∀ fn ring v t, Keeps K (.dqCtlEnableWrite fn ring v t))) ∧
  (let K : State → State → State := fun s t =>
      { s with
        pt := t.pt, now := t.now, regs := t.regs, flagSets := t.flagSets, sessions := t.sessions,
        tenants := t.tenants, fns := t.fns, gallery := t.gallery, tables := t.tables };
      (∀ f sd t, Keeps K (.rowLookup f sd t))) ∧
  (let K : State → State → State := fun s t =>
      { s with
        pt := t.pt, now := t.now, regs := t.regs, flagSets := t.flagSets, sessions := t.sessions,
        leaves := t.leaves, mem := t.mem, cages := t.cages, heldWrites := t.heldWrites };
      (∀ id t, Keeps K (.cageSwitchPoint id t))) ∧
  (let K : State → State → State := fun s t =>
      { s with
        pt := t.pt, now := t.now, regs := t.regs, flagSets := t.flagSets, out := t.out, sessions := t.sessions,
        leaves := t.leaves, tenants := t.tenants, power := t.power };
      (∀ seq ok t, Keeps K (.journalCommit seq ok t))) ∧
  (let K : State → State → State := fun s t =>
      { s with
        pt := t.pt, now := t.now, draws := t.draws, regs := t.regs, flagSets := t.flagSets, sessions := t.sessions,
        tenants := t.tenants, fns := t.fns, gallery := t.gallery, tables := t.tables };
      (∀ query sd t, Keeps K (.recallShardScanDone query sd t))) ∧
  (let K : State → State → State := fun s t =>
      { s with
        pt := t.pt, now := t.now, regs := t.regs, flagSets := t.flagSets, sessions := t.sessions, sds := t.sds,
        tenants := t.tenants, fns := t.fns, migrations := t.migrations, checkpoint := t.checkpoint };
      (∀ f image t, Keeps K (.ckpRestoreGroup f image t))) ∧
  (let K : State → State → State := fun s t =>
      { s with
        pt := t.pt, now := t.now, regs := t.regs, flagSets := t.flagSets, sessions := t.sessions, sds := t.sds,
        tenants := t.tenants, fns := t.fns, errLog := t.errLog, gallery := t.gallery };
      (∀ h handle t, Keeps K (.closeNote h handle t))) ∧
  (let K : State → State → State := fun s t =>
      { s with
        pt := t.pt, now := t.now, regs := t.regs, flagSets := t.flagSets, out := t.out, fns := t.fns,
        errLog := t.errLog, power := t.power, security := t.security, boot := t.boot };
      (∀ railsOk, Keeps K (.pwrgdAssert railsOk))) ∧
  (let K : State → State → State := fun s t =>
      { s with
        pt := t.pt, now := t.now, draws := t.draws, regs := t.regs, flagSets := t.flagSets, sds := t.sds,
        fns := t.fns, errLog := t.errLog, security := t.security, boot := t.boot };
      (∀ map t, Keeps K (.mapProgram map t))) ∧
  (let K : State → State → State := fun s t =>
      { s with
        pt := t.pt, now := t.now, regs := t.regs, flagSets := t.flagSets, sds := t.sds, leaves := t.leaves,
        cages := t.cages, s0 := t.s0, s1 := t.s1, tenants := t.tenants, gallery := t.gallery };
      (∀ s1 slot lg queries kv t, Keeps K (.spanDispatch s1 slot lg queries kv t))) ∧
  (let K : State → State → State := fun s t =>
      { s with
        pt := t.pt, now := t.now, regs := t.regs, flagSets := t.flagSets, sds := t.sds, leaves := t.leaves,
        pools := t.pools, mem := t.mem, cages := t.cages, heldWrites := t.heldWrites, tenants := t.tenants };
      (∀ page tier pool src t, Keeps K (.cageRequest page tier pool src t)) ∧
      (∀ sd asks fault t, Keeps K (.tierPolicyRun sd asks fault t)) ∧ (∀ sd t, Keeps K (.prefixRetentionSweep sd t))) ∧
  (let K : State → State → State := fun s t =>
      { s with
        pt := t.pt, now := t.now, regs := t.regs, sels := t.sels, flagSets := t.flagSets, out := t.out,
        fns := t.fns, tables := t.tables, security := t.security, txns := t.txns, obs := t.obs };
      (∀ fn bar2 addr bytes v t, Keeps K (.registerWrite fn bar2 addr bytes v t))) ∧
  (let K : State → State → State := fun s t =>
      { s with
        pt := t.pt, now := t.now, draws := t.draws, regs := t.regs, flagSets := t.flagSets, sessions := t.sessions,
        sds := t.sds, leaves := t.leaves, pools := t.pools, tenants := t.tenants, fns := t.fns,
        rotation := t.rotation };
      (∀ f t, Keeps K (.sessionOpen f t))) ∧
  (let K : State → State → State := fun s t =>
      { s with
        pt := t.pt, now := t.now, regs := t.regs, flagSets := t.flagSets, leaves := t.leaves, pools := t.pools,
        mem := t.mem, cages := t.cages, heldWrites := t.heldWrites, tenants := t.tenants, fns := t.fns,
        errLog := t.errLog };
      (∀ id poisoned t, Keeps K (.cageCopyDone id poisoned t))) ∧
  (let K : State → State → State := fun s t =>
      { s with
        pt := t.pt, now := t.now, regs := t.regs, flagSets := t.flagSets, sessions := t.sessions, sds := t.sds,
        leaves := t.leaves, pools := t.pools, mem := t.mem, cages := t.cages, heldWrites := t.heldWrites,
        tenants := t.tenants };
      (∀ id t, Keeps K (.cageRelease id t))) ∧
  (let K : State → State → State := fun s t =>
      { s with
        pt := t.pt, now := t.now, draws := t.draws, regs := t.regs, flagSets := t.flagSets, sds := t.sds,
        leaves := t.leaves, pools := t.pools, tenants := t.tenants, guests := t.guests, gallery := t.gallery,
        incoming := t.incoming };
      (∀ h p t, Keeps K (.prepare h p t))) ∧
  (let K : State → State → State := fun s t =>
      { s with
        pt := t.pt, now := t.now, regs := t.regs, flagSets := t.flagSets, sds := t.sds, leaves := t.leaves,
        pools := t.pools, mem := t.mem, cages := t.cages, heldWrites := t.heldWrites, tenants := t.tenants,
        checkpoint := t.checkpoint };
      (∀ page t, Keeps K (.stagingCopyDone page t))) ∧
  (let K : State → State → State := fun s t =>
      { s with
        pt := t.pt, now := t.now, regs := t.regs, flagSets := t.flagSets, sds := t.sds, leaves := t.leaves,
        pools := t.pools, mem := t.mem, cages := t.cages, heldWrites := t.heldWrites, tenants := t.tenants,
        expanders := t.expanders };
      (∀ pool t, Keeps K (.xpnEvacuate pool t))) ∧
  (let K : State → State → State := fun s t =>
      { s with
        pt := t.pt, now := t.now, draws := t.draws, regs := t.regs, flagSets := t.flagSets, sds := t.sds,
        leaves := t.leaves, pools := t.pools, mem := t.mem, tenants := t.tenants, fns := t.fns,
        adapters := t.adapters, tables := t.tables };
      (∀ load sd bytes ok t, Keeps K (.adapterImageReadDone load sd bytes ok t))) ∧
  (let K : State → State → State := fun s t =>
      { s with
        pt := t.pt, now := t.now, regs := t.regs, flagSets := t.flagSets, sessions := t.sessions, sds := t.sds,
        leaves := t.leaves, pools := t.pools, mem := t.mem, cages := t.cages, heldWrites := t.heldWrites,
        tenants := t.tenants, fns := t.fns };
      (∀ tenant tier bytes asker t, Keeps K (.quotaReservation tenant tier bytes asker t))) ∧
  (let K : State → State → State := fun s t =>
      { s with
        pt := t.pt, now := t.now, regs := t.regs, flagSets := t.flagSets, sessions := t.sessions,
        leaves := t.leaves, pools := t.pools, mem := t.mem, cages := t.cages, heldWrites := t.heldWrites,
        tenants := t.tenants, fns := t.fns, tables := t.tables };
      (∀ h request bytes t, Keeps K (.rowReply h request bytes t))) ∧
  (let K : State → State → State := fun s t =>
      { s with
        pt := t.pt, now := t.now, regs := t.regs, flagSets := t.flagSets, sds := t.sds, leaves := t.leaves,
        pools := t.pools, mem := t.mem, cages := t.cages, heldWrites := t.heldWrites, tenants := t.tenants,
        fns := t.fns, expanders := t.expanders };
      (∀ pool t, Keeps K (.evacuatePassDone pool t))) ∧
  (let K : State → State → State := fun s t =>
      { s with
        pt := t.pt, now := t.now, regs := t.regs, flagSets := t.flagSets, leaves := t.leaves, pools := t.pools,
        mem := t.mem, cages := t.cages, heldWrites := t.heldWrites, tenants := t.tenants, fns := t.fns,
        errLog := t.errLog, gallery := t.gallery, channels := t.channels };
      (∀ die chan d t, Keeps K (.hoistIssue die chan d t)) ∧
      (∀ die chan segs fault t, Keeps K (.hoistProgramRun die chan segs fault t)) ∧
      (∀ h die chan tag seg status t, Keeps K (.segAck h die chan tag seg status t))) ∧
  (let K : State → State → State := fun s t =>
      { s with
        pt := t.pt, now := t.now, regs := t.regs, flagSets := t.flagSets, sessions := t.sessions, sds := t.sds,
        tenants := t.tenants, fns := t.fns, errLog := t.errLog, power := t.power, migrations := t.migrations,
        checkpoint := t.checkpoint, energyPorts := t.energyPorts, boot := t.boot };
      (∀ mbps t, Keeps K (.journalRecovery mbps t))) ∧
  (let K : State → State → State := fun s t =>
      { s with
        pt := t.pt, now := t.now, regs := t.regs, flagSets := t.flagSets, sessions := t.sessions, sds := t.sds,
        leaves := t.leaves, pools := t.pools, mem := t.mem, cages := t.cages, heldWrites := t.heldWrites,
        tenants := t.tenants, guests := t.guests, incoming := t.incoming };
      (∀ handle t, Keeps K (.destPhaseTimeout handle t)))

/-- Frames: what the commands of the widest reach leave as it was, whenever they answer a next state; `K s t` names the parts
that may differ, or, where it starts from `t`, those that may not (R3, R8, R12). -/
def Obligations.CommandsThatReachFarLeaveTheRest : Prop :=
  (let K : State → State → State := fun s t =>
      { s with
        pt := t.pt, now := t.now, regs := t.regs, flagSets := t.flagSets, sessions := t.sessions, sds := t.sds,
        leaves := t.leaves, pools := t.pools, mem := t.mem, cages := t.cages, heldWrites := t.heldWrites,
        tenants := t.tenants, guests := t.guests, gallery := t.gallery, incoming := t.incoming };
      (∀ h handle count x t, Keeps K (.handover h handle count x t)) ∧
      (∀ h handle seq t, Keeps K (.abortReq h handle seq t)) ∧
      (∀ h handle lg index bytes t, Keeps K (.kvPush h handle lg index bytes t))) ∧
  (let K : State → State → State := fun s t =>
      { s with
        pt := t.pt, now := t.now, regs := t.regs, flagSets := t.flagSets, sessions := t.sessions, sds := t.sds,
        leaves := t.leaves, pools := t.pools, mem := t.mem, cages := t.cages, heldWrites := t.heldWrites,
        tenants := t.tenants, guests := t.guests, fns := t.fns, migrations := t.migrations };
      (∀ h slot t, Keeps K (.committed h slot t))) ∧
  (let K : State → State → State := fun s t =>
      { s with
        pt := t.pt, now := t.now, regs := t.regs, flagSets := t.flagSets, out := t.out, leaves := t.leaves,
        pools := t.pools, mem := t.mem, cages := t.cages, heldWrites := t.heldWrites, tenants := t.tenants,
        fns := t.fns, errLog := t.errLog, gallery := t.gallery, channels := t.channels, security := t.security };
      (∀ port t, Keeps K (.egressSelect port t))) ∧
  (let K : State → State → State := fun s t =>
      { s with
        pt := t.pt, now := t.now, draws := t.draws, regs := t.regs, flagSets := t.flagSets, sds := t.sds,
        leaves := t.leaves, pools := t.pools, mem := t.mem, cages := t.cages, heldWrites := t.heldWrites,
        tenants := t.tenants, kvShards := t.kvShards, attRequests := t.attRequests, gallery := t.gallery,
        channels := t.channels };
     
      (∀ h handle layer group positions part request parts first tenant model sd payload t, Keeps K (.attReq h handle layer group positions part request parts first tenant model sd payload t))) ∧
  (let K : State → State → State := fun s t =>
      { s with
        pt := t.pt, now := t.now, regs := t.regs, flagSets := t.flagSets, sessions := t.sessions, sds := t.sds,
        leaves := t.leaves, pools := t.pools, mem := t.mem, cages := t.cages, heldWrites := t.heldWrites,
        tenants := t.tenants, guests := t.guests, fns := t.fns, adapters := t.adapters, errLog := t.errLog,
        gallery := t.gallery };
      (∀ slot t, Keeps K (.closeReleaseDone slot t))) ∧
  (let K : State → State → State := fun s t =>
      { s with
        pt := t.pt, now := t.now, regs := t.regs, flagSets := t.flagSets, sessions := t.sessions, sds := t.sds,
        leaves := t.leaves, pools := t.pools, mem := t.mem, cages := t.cages, heldWrites := t.heldWrites,
        s0 := t.s0, s1 := t.s1, tenants := t.tenants, gallery := t.gallery, channels := t.channels,
        migrations := t.migrations };
      (∀ s1 slot layer kv t, Keeps K (.kvAppend s1 slot layer kv t))) ∧
  (let K : State → State → State := fun s t =>
      { s with
        pt := t.pt, now := t.now, draws := t.draws, regs := t.regs, flagSets := t.flagSets, sessions := t.sessions,
        sds := t.sds, leaves := t.leaves, pools := t.pools, mem := t.mem, cages := t.cages,
        heldWrites := t.heldWrites, s0 := t.s0, s1 := t.s1, shifts := t.shifts, tenants := t.tenants,
        gallery := t.gallery, migrations := t.migrations };
      (∀ s1 t, Keeps K (.stepForm s1 t))) ∧
  (let K : State → State → State := fun s t =>
      { s with
        pt := t.pt, now := t.now, regs := t.regs, flagSets := t.flagSets, out := t.out, sds := t.sds,
        leaves := t.leaves, pools := t.pools, mem := t.mem, cages := t.cages, heldWrites := t.heldWrites,
        tenants := t.tenants, fns := t.fns, errLog := t.errLog, gallery := t.gallery, channels := t.channels,
        hoistTurn := t.hoistTurn, checkpoint := t.checkpoint };
      (∀ die chan bytes ok t, Keeps K (.hoistSegmentDone die chan bytes ok t))) ∧
  (let K : State → State → State := fun s t =>
      { s with
        pt := t.pt, now := t.now, regs := t.regs, flagSets := t.flagSets, out := t.out, sessions := t.sessions,
        sds := t.sds, leaves := t.leaves, pools := t.pools, mem := t.mem, cages := t.cages,
        heldWrites := t.heldWrites, tenants := t.tenants, guests := t.guests, gallery := t.gallery,
        channels := t.channels, incoming := t.incoming, checkpoint := t.checkpoint };
      (∀ h tag seg chan addr drain payload t, Keeps K (.segData h tag seg chan addr drain payload t))) ∧
  (let K : State → State → State := fun s t =>
      { s with
        pt := t.pt, now := t.now, regs := t.regs, flagSets := t.flagSets, sessions := t.sessions, sds := t.sds,
        leaves := t.leaves, pools := t.pools, mem := t.mem, cages := t.cages, heldWrites := t.heldWrites,
        tenants := t.tenants, guests := t.guests, fns := t.fns, gallery := t.gallery, migrations := t.migrations,
        incoming := t.incoming, checkpoint := t.checkpoint };
      (∀ t, Keeps K (.storeTimeout t)) ∧ (∀ t, Keeps K (.ckpCutAtPt t))) ∧
  (let K : State → State → State := fun s t =>
      { s with
        pt := t.pt, now := t.now, draws := t.draws, regs := t.regs, flagSets := t.flagSets, sessions := t.sessions,
        sds := t.sds, leaves := t.leaves, pools := t.pools, mem := t.mem, cages := t.cages,
        heldWrites := t.heldWrites, tenants := t.tenants, guests := t.guests, fns := t.fns, adapters := t.adapters,
        gallery := t.gallery, migrations := t.migrations, checkpoint := t.checkpoint };
      (∀ slot t, Keeps K (.openPrepared slot t)) ∧ (∀ f t, Keeps K (.sessionAppend f t)) ∧
      (∀ slot t, Keeps K (.timedAppendRelease slot t)) ∧ (∀ f t, Keeps K (.sessionResume f t)) ∧
      (∀ f t, Keeps K (.sessionHold f t)) ∧ (∀ f t, Keeps K (.sessionRelease f t)) ∧
      (∀ f t, Keeps K (.sessionPark f t)) ∧ (∀ f t, Keeps K (.sessionCancel f t)) ∧
      (∀ f t, Keeps K (.sessionClose f t)) ∧ (∀ f t, Keeps K (.sessionMigrate f t)) ∧
      (∀ f t, Keeps K (.sessionWaitPeer f t)) ∧ (∀ f found t, Keeps K (.sessionRestore f found t)) ∧
      (∀ slot records ok t, Keeps K (.restorePagesPlaced slot records ok t)) ∧
      (∀ slot count t, Keeps K (.textInput slot count t)) ∧ (∀ slot t, Keeps K (.textFrameResume slot t)) ∧
      (∀ slot t, Keeps K (.leaseLapse slot t)) ∧
      (∀ slot die chan sent poison t, Keeps K (.migCopyDone slot die chan sent poison t)) ∧
      (∀ h slot status t, Keeps K (.ready h slot status t)) ∧ (∀ h slot t, Keeps K (.aborted h slot t)) ∧
      (∀ slot t, Keeps K (.phaseTimeout slot t))) ∧
  (let K : State → State → State := fun s t =>
      { s with
        pt := t.pt, now := t.now, regs := t.regs, flagSets := t.flagSets, out := t.out, sessions := t.sessions,
        sds := t.sds, leaves := t.leaves, pools := t.pools, mem := t.mem, cages := t.cages,
        heldWrites := t.heldWrites, tenants := t.tenants, guests := t.guests, fns := t.fns, gallery := t.gallery,
        migrations := t.migrations, incoming := t.incoming, checkpoint := t.checkpoint };
      (∀ records ok t, Keeps K (.ckpStoreWriteDone records ok t))) ∧
  (let K : State → State → State := fun s t =>
      { s with
        pt := t.pt, now := t.now, regs := t.regs, flagSets := t.flagSets, sessions := t.sessions, sds := t.sds,
        leaves := t.leaves, pools := t.pools, mem := t.mem, cages := t.cages, heldWrites := t.heldWrites,
        tenants := t.tenants, fns := t.fns, errLog := t.errLog, power := t.power, gallery := t.gallery,
        channels := t.channels, energyPorts := t.energyPorts, sequencers := t.sequencers };
      (∀ z rd ra rb t, Keeps K (.zmAdd z rd ra rb t)) ∧ (∀ z rd ra rb t, Keeps K (.zmSub z rd ra rb t)) ∧
      (∀ z rd ra rb t, Keeps K (.zmAnd z rd ra rb t)) ∧ (∀ z rd ra rb t, Keeps K (.zmOr z rd ra rb t)) ∧
      (∀ z rd ra rb t, Keeps K (.zmXor z rd ra rb t)) ∧ (∀ z rd ra rb t, Keeps K (.zmSll z rd ra rb t)) ∧
      (∀ z rd ra rb t, Keeps K (.zmSrl z rd ra rb t)) ∧ (∀ z rd ra rb t, Keeps K (.zmSra z rd ra rb t)) ∧
      (∀ z rd ra rb t, Keeps K (.zmMul z rd ra rb t)) ∧ (∀ z rd ra rb t, Keeps K (.zmMulhu z rd ra rb t)) ∧
      (∀ z rd ra rb t, Keeps K (.zmSltu z rd ra rb t)) ∧ (∀ z rd ra rb t, Keeps K (.zmSlt z rd ra rb t)) ∧
      (∀ z rd ra rb t, Keeps K (.zmMinu z rd ra rb t)) ∧ (∀ z rd ra rb t, Keeps K (.zmMaxu z rd ra rb t)) ∧
      (∀ z rd ra rb t, Keeps K (.zmDivu z rd ra rb t)) ∧ (∀ z rd ra imm t, Keeps K (.zmAddi z rd ra imm t)) ∧
      (∀ z rd ra imm t, Keeps K (.zmAndi z rd ra imm t)) ∧ (∀ z rd ra imm t, Keeps K (.zmOri z rd ra imm t)) ∧
      (∀ z rd ra imm t, Keeps K (.zmXori z rd ra imm t)) ∧ (∀ z rd ra imm t, Keeps K (.zmSlli z rd ra imm t)) ∧
      (∀ z rd ra imm t, Keeps K (.zmSrli z rd ra imm t)) ∧ (∀ z rd ra imm t, Keeps K (.zmSrai z rd ra imm t)) ∧
      (∀ z rd imm t, Keeps K (.zmLui z rd imm t)) ∧ (∀ z rd ra imm t, Keeps K (.zmSltiu z rd ra imm t)) ∧
      (∀ z rd ra imm t, Keeps K (.zmLd z rd ra imm t)) ∧ (∀ z rd ra imm t, Keeps K (.zmSt z rd ra imm t)) ∧
      (∀ z rd ra imm t, Keeps K (.zmLdb z rd ra imm t)) ∧ (∀ z rd ra imm t, Keeps K (.zmStb z rd ra imm t)) ∧
      (∀ z rd ra imm t, Keeps K (.zmTld z rd ra imm t)) ∧ (∀ z rd ra imm t, Keeps K (.zmQput z rd ra imm t)) ∧
      (∀ z rd imm t, Keeps K (.zmQget z rd imm t)) ∧ (∀ z rd imm t, Keeps K (.zmQcnt z rd imm t)) ∧
      (∀ z ra imm t, Keeps K (.zmTset z ra imm t)) ∧ (∀ z ra rb off t, Keeps K (.zmBeq z ra rb off t)) ∧
      (∀ z ra rb off t, Keeps K (.zmBne z ra rb off t)) ∧ (∀ z ra rb off t, Keeps K (.zmBltu z ra rb off t)) ∧
      (∀ z ra rb off t, Keeps K (.zmBgeu z ra rb off t)) ∧ (∀ z ra rb off t, Keeps K (.zmBlt z ra rb off t)) ∧
      (∀ z ra rb off t, Keeps K (.zmBge z ra rb off t)) ∧ (∀ z off t, Keeps K (.zmJal z off t)) ∧
      (∀ z ra t, Keeps K (.zmJr z ra t)) ∧ (∀ z ra imm t, Keeps K (.zmOut z ra imm t)) ∧
      (∀ z t, Keeps K (.zmEnd z t)) ∧ (∀ z imm t, Keeps K (.zmTrap z imm t))) ∧
  (let K : State → State → State := fun s t =>
      { s with
        pt := t.pt, now := t.now, draws := t.draws, regs := t.regs, flagSets := t.flagSets, sessions := t.sessions,
        sds := t.sds, leaves := t.leaves, pools := t.pools, mem := t.mem, cages := t.cages,
        heldWrites := t.heldWrites, tenants := t.tenants, guests := t.guests, fns := t.fns, adapters := t.adapters,
        rotation := t.rotation, gallery := t.gallery, migrations := t.migrations, checkpoint := t.checkpoint };
      (∀ f t, Keeps K (.sessionFork f t))) ∧
  (let K : State → State → State := fun s t =>
      { s with
        pt := t.pt, now := t.now, draws := t.draws, regs := t.regs, flagSets := t.flagSets, sessions := t.sessions,
        sds := t.sds, leaves := t.leaves, pools := t.pools, mem := t.mem, cages := t.cages,
        heldWrites := t.heldWrites, tenants := t.tenants, guests := t.guests, fns := t.fns, adapters := t.adapters,
        gallery := t.gallery, migrations := t.migrations, tables := t.tables, checkpoint := t.checkpoint };
      (∀ f t, Keeps K (.adapterSwitch f t))) ∧
  (let K : State → State → State := fun s t =>
      { s with
        pt := t.pt, now := t.now, draws := t.draws, regs := t.regs, flagSets := t.flagSets, sessions := t.sessions,
        sds := t.sds, leaves := t.leaves, pools := t.pools, mem := t.mem, cages := t.cages,
        heldWrites := t.heldWrites, tenants := t.tenants, fns := t.fns, errLog := t.errLog, power := t.power,
        gallery := t.gallery, channels := t.channels, energyPorts := t.energyPorts, sequencers := t.sequencers };
      (∀ z rd imm t, Keeps K (.zmTnow z rd imm t))) ∧
  (let K : State → State → State := fun s t =>
      { s with
        pt := t.pt, now := t.now, draws := t.draws, regs := t.regs, flagSets := t.flagSets, sessions := t.sessions,
        sds := t.sds, leaves := t.leaves, pools := t.pools, mem := t.mem, cages := t.cages,
        heldWrites := t.heldWrites, s0 := t.s0, s1 := t.s1, tenants := t.tenants, guests := t.guests, fns := t.fns,
        adapters := t.adapters, gallery := t.gallery, migrations := t.migrations, checkpoint := t.checkpoint };
      (∀ s1 slot why t, Keeps K (.memberRemove s1 slot why t)) ∧
      (∀ s1 slot request issued expert t, Keeps K (.remoteTimeout s1 slot request issued expert t)) ∧
      (∀ h part request parts payload t, Keeps K (.attReply h part request parts payload t))) ∧
  (let K : State → State → State := fun s t =>
      { s with
        pt := t.pt, now := t.now, draws := t.draws, regs := t.regs, flagSets := t.flagSets, sessions := t.sessions,
        sds := t.sds, leaves := t.leaves, pools := t.pools, mem := t.mem, cages := t.cages,
        heldWrites := t.heldWrites, tenants := t.tenants, guests := t.guests, fns := t.fns, adapters := t.adapters,
        errLog := t.errLog, gallery := t.gallery, channels := t.channels, migrations := t.migrations,
        checkpoint := t.checkpoint };
      (∀ die chan t, Keeps K (.hoistChannelReset die chan t))) ∧
  (let K : State → State → State := fun s t =>
      { s with
        pt := t.pt, now := t.now, draws := t.draws, regs := t.regs, flagSets := t.flagSets, sessions := t.sessions,
        sds := t.sds, leaves := t.leaves, pools := t.pools, mem := t.mem, cages := t.cages,
        heldWrites := t.heldWrites, s0 := t.s0, s1 := t.s1, tenants := t.tenants, guests := t.guests, fns := t.fns,
        adapters := t.adapters, errLog := t.errLog, gallery := t.gallery, migrations := t.migrations,
        checkpoint := t.checkpoint };
      (∀ s1 slot lg span bad unreachable t, Keeps K (.spanPartialDone s1 slot lg span bad unreachable t))) ∧
  (let K : State → State → State := fun s t =>
      { s with
        pt := t.pt, now := t.now, draws := t.draws, regs := t.regs, flagSets := t.flagSets, sessions := t.sessions,
        sds := t.sds, leaves := t.leaves, pools := t.pools, mem := t.mem, cages := t.cages,
        heldWrites := t.heldWrites, s0 := t.s0, s1 := t.s1, tenants := t.tenants, guests := t.guests, fns := t.fns,
        adapters := t.adapters, power := t.power, gallery := t.gallery, migrations := t.migrations,
        checkpoint := t.checkpoint };
      (∀ s1 t, Keeps K (.stepAbandon s1 t))) ∧
  (let K : State → State → State := fun s t =>
      { s with
        pt := t.pt, now := t.now, draws := t.draws, regs := t.regs, flagSets := t.flagSets, sessions := t.sessions,
        sds := t.sds, leaves := t.leaves, pools := t.pools, mem := t.mem, cages := t.cages,
        heldWrites := t.heldWrites, s0 := t.s0, s1 := t.s1, tenants := t.tenants, guests := t.guests, fns := t.fns,
        expanders := t.expanders, adapters := t.adapters, gallery := t.gallery, migrations := t.migrations,
        checkpoint := t.checkpoint };
      (∀ pool surprise t, Keeps K (.expanderRemoval pool surprise t))) ∧
  (let K : State → State → State := fun s t =>
      { s with
        pt := t.pt, now := t.now, draws := t.draws, regs := t.regs, flagSets := t.flagSets, sessions := t.sessions,
        sds := t.sds, leaves := t.leaves, pools := t.pools, mem := t.mem, cages := t.cages,
        heldWrites := t.heldWrites, s0 := t.s0, s1 := t.s1, samplers := t.samplers, tenants := t.tenants,
        guests := t.guests, fns := t.fns, adapters := t.adapters, gallery := t.gallery, migrations := t.migrations,
        tables := t.tables, checkpoint := t.checkpoint };
      (∀ unit t, Keeps K (.drainTimeout unit t))) ∧
  (let K : State → State → State := fun s t =>
      { s with
        pt := t.pt, now := t.now, draws := t.draws, regs := t.regs, sels := t.sels, flagSets := t.flagSets,
        sessions := t.sessions, sds := t.sds, leaves := t.leaves, pools := t.pools, mem := t.mem, cages := t.cages,
        heldWrites := t.heldWrites, s0 := t.s0, s1 := t.s1, samplers := t.samplers, tenants := t.tenants,
        guests := t.guests, fns := t.fns, adapters := t.adapters, gallery := t.gallery, migrations := t.migrations,
        incoming := t.incoming, checkpoint := t.checkpoint, obs := t.obs };
      (∀ s1 sd t, Keeps K (.sealApply s1 sd t))) ∧
  (let K : State → State → State := fun s t =>
      { s with
        pt := t.pt, now := t.now, draws := t.draws, regs := t.regs, flagSets := t.flagSets, sessions := t.sessions,
        sds := t.sds, leaves := t.leaves, pools := t.pools, mem := t.mem, cages := t.cages,
        heldWrites := t.heldWrites, s0 := t.s0, s1 := t.s1, samplers := t.samplers, tenants := t.tenants,
        guests := t.guests, fns := t.fns, eths := t.eths, adapters := t.adapters, power := t.power,
        gallery := t.gallery, migrations := t.migrations, checkpoint := t.checkpoint, boot := t.boot };
      (∀ junction dram t, Keeps K (.thermalDrain junction dram t))) ∧
  (let K : State → State → State := fun s t =>
      { s with
        pt := t.pt, now := t.now, draws := t.draws, regs := t.regs, flagSets := t.flagSets, sessions := t.sessions,
        sds := t.sds, leaves := t.leaves, pools := t.pools, mem := t.mem, cages := t.cages,
        heldWrites := t.heldWrites, s0 := t.s0, s1 := t.s1, tenants := t.tenants, guests := t.guests, fns := t.fns,
        adapters := t.adapters, errLog := t.errLog, power := t.power, gallery := t.gallery,
        migrations := t.migrations, checkpoint := t.checkpoint, cores := t.cores, kernelFaults := t.kernelFaults };
      (∀ core t, Keeps K (.zwBarrierTimeout core t)) ∧ (∀ core t, Keeps K (.zwWatchdog core t))) ∧
  (let K : State → State → State := fun s t =>
      { s with
        pt := t.pt, now := t.now, draws := t.draws, regs := t.regs, flagSets := t.flagSets, sessions := t.sessions,
        sds := t.sds, leaves := t.leaves, pools := t.pools, mem := t.mem, cages := t.cages,
        heldWrites := t.heldWrites, s0 := t.s0, s1 := t.s1, samplers := t.samplers, tenants := t.tenants,
        guests := t.guests, fns := t.fns, eths := t.eths, adapters := t.adapters, power := t.power,
        gallery := t.gallery, migrations := t.migrations, checkpoint := t.checkpoint, energyPorts := t.energyPorts,
        boot := t.boot };
      (∀ t, Keeps K (.drainStart t))) ∧
  (let K : State → State → State := fun s t =>
      { s with
        pt := t.pt, now := t.now, draws := t.draws, regs := t.regs, flagSets := t.flagSets, sessions := t.sessions,
        sds := t.sds, leaves := t.leaves, pools := t.pools, mem := t.mem, cages := t.cages,
        heldWrites := t.heldWrites, s0 := t.s0, s1 := t.s1, tenants := t.tenants, guests := t.guests, fns := t.fns,
        adapters := t.adapters, errLog := t.errLog, power := t.power, gallery := t.gallery,
        migrations := t.migrations, checkpoint := t.checkpoint, cores := t.cores, clusterSram := t.clusterSram,
        kernelFaults := t.kernelFaults, appends := t.appends };
      (∀ z rd ra rb t, Keeps K (.zwAdd z rd ra rb t)) ∧ (∀ z rd ra rb t, Keeps K (.zwSub z rd ra rb t)) ∧
      (∀ z rd ra rb t, Keeps K (.zwAnd z rd ra rb t)) ∧ (∀ z rd ra rb t, Keeps K (.zwOr z rd ra rb t)) ∧
      (∀ z rd ra rb t, Keeps K (.zwXor z rd ra rb t)) ∧ (∀ z rd ra rb t, Keeps K (.zwShl z rd ra rb t)) ∧
      (∀ z rd ra rb t, Keeps K (.zwShr z rd ra rb t)) ∧ (∀ z rd ra rb t, Keeps K (.zwSar z rd ra rb t)) ∧
      (∀ z rd ra rb t, Keeps K (.zwMul z rd ra rb t)) ∧ (∀ z rd ra rb t, Keeps K (.zwMin z rd ra rb t)) ∧
      (∀ z rd ra rb t, Keeps K (.zwMax z rd ra rb t)) ∧ (∀ z rd ra imm t, Keeps K (.zwAddi z rd ra imm t)) ∧
      (∀ z rd imm t, Keeps K (.zwLi z rd imm t)) ∧ (∀ z rd ra imm t, Keeps K (.zwLd z rd ra imm t)) ∧
      (∀ z ra rb imm t, Keeps K (.zwSt z ra rb imm t)) ∧ (∀ z rd ra rb t, Keeps K (.zwCmpeq z rd ra rb t)) ∧
      (∀ z rd ra rb t, Keeps K (.zwCmplt z rd ra rb t)) ∧ (∀ z rd ra rb t, Keeps K (.zwCmpltu z rd ra rb t)) ∧
      (∀ z off t, Keeps K (.zwBr z off t)) ∧ (∀ z p off t, Keeps K (.zwBrp z p off t)) ∧
      (∀ z p off t, Keeps K (.zwBrnp z p off t)) ∧ (∀ z sr off t, Keeps K (.zwLoop z sr off t)) ∧
      (∀ z off t, Keeps K (.zwCall z off t)) ∧ (∀ z t, Keeps K (.zwRet z t)) ∧ (∀ z off t, Keeps K (.zwBar z off t)) ∧
      (∀ z t, Keeps K (.zwHalt z t)) ∧ (∀ z e tile sA t, Keeps K (.zwTzero z e tile sA t)) ∧
      (∀ z e tile fmtA fmtB sA sB sK t, Keeps K (.zwMma z e tile fmtA fmtB sA sB sK t)) ∧
      (∀ z e tile fmtA sA sB t, Keeps K (.zwTout z e tile fmtA sA sB t)) ∧
      (∀ z e tile sA t, Keeps K (.zwTimg z e tile sA t)) ∧ (∀ z e tile sA t, Keeps K (.zwTadd z e tile sA t)) ∧
      (∀ z e fmtA sA sB sK t, Keeps K (.zwTpre z e fmtA sA sB sK t)) ∧
      (∀ z vd va vb p pair t, Keeps K (.zwVadd z vd va vb p pair t)) ∧
      (∀ z vd va vb p pair t, Keeps K (.zwVsub z vd va vb p pair t)) ∧
      (∀ z vd va vb p pair t, Keeps K (.zwVmul z vd va vb p pair t)) ∧
      (∀ z vd va vb p pair t, Keeps K (.zwVmax z vd va vb p pair t)) ∧
      (∀ z vd va vb p pair t, Keeps K (.zwVmin z vd va vb p pair t)) ∧
      (∀ z vd va vb p pair t, Keeps K (.zwVfma z vd va vb p pair t)) ∧
      (∀ z vd p pair sr t, Keeps K (.zwVld z vd p pair sr t)) ∧
      (∀ z va p pair sr t, Keeps K (.zwVst z va p pair sr t)) ∧
      (∀ z vd va p pair fmt imm t, Keeps K (.zwVcvt z vd va p pair fmt imm t)) ∧
      (∀ z vd va p pair imm t, Keeps K (.zwVsfu z vd va p pair imm t)) ∧
      (∀ z va pair fmt sr t, Keeps K (.zwVquant z va pair fmt sr t)) ∧
      (∀ z dst src len t, Keeps K (.zwXcopy z dst src len t)) ∧
      (∀ z dst src len aux t, Keeps K (.zwXsend z dst src len aux t)) ∧
      (∀ z dst src len device t, Keeps K (.zwXstream z dst src len device t)) ∧
      (∀ z src len aux t, Keeps K (.zwXappend z src len aux t)) ∧
      (∀ z dst src len pkg die t, Keeps K (.zwXgallery z dst src len pkg die t)) ∧ (∀ z t, Keeps K (.zwXfence z t))) ∧
  (let K : State → State → State := fun s t =>
      { t with
        pending := s.pending, sels := s.sels, flagClears := s.flagClears, shifts := s.shifts,
        samplers := s.samplers, attRequests := s.attRequests, splitSums := s.splitSums, domains := s.domains,
        models := s.models, profiles := s.profiles, seqLists := s.seqLists, rotation := s.rotation,
        hoistTurn := s.hoistTurn, tables := s.tables, ctResults := s.ctResults, kernelFaults := s.kernelFaults,
        appends := s.appends, sequencers := s.sequencers, programs := s.programs };
      (∀ v t, Keeps K (.bruFence v t))) ∧
  (let K : State → State → State := fun s t =>
      { t with
        pending := s.pending, sels := s.sels, flagClears := s.flagClears, samplers := s.samplers,
        attRequests := s.attRequests, splitSums := s.splitSums, rotation := s.rotation, hoistTurn := s.hoistTurn,
        ctResults := s.ctResults, kernelFaults := s.kernelFaults, appends := s.appends, sequencers := s.sequencers };
      (∀ image sig t, Keeps K (.headframeCommit image sig t)) ∧ (∀ t, Keeps K (.ctApplyAtPt t))) ∧
  (let K : State → State → State := fun s t =>
      { t with
        pending := s.pending, flagClears := s.flagClears, samplers := s.samplers, attRequests := s.attRequests,
        splitSums := s.splitSums, rotation := s.rotation, hoistTurn := s.hoistTurn, ctResults := s.ctResults,
        kernelFaults := s.kernelFaults, appends := s.appends, sequencers := s.sequencers };
      (∀ s1 t, Keeps K (.sealIssue s1 t))) ∧
  (let K : State → State → State := fun s t =>
      { t with
        pending := s.pending, sels := s.sels, flagClears := s.flagClears, samplers := s.samplers,
        attRequests := s.attRequests, splitSums := s.splitSums, rotation := s.rotation, hoistTurn := s.hoistTurn,
        kernelFaults := s.kernelFaults, appends := s.appends, sequencers := s.sequencers };
      (∀ fn v t, Keeps K (.ctCommit fn v t)))
end

