-- ==== Sys2Proof/Laws/Lists.lean ====
section
/-! SUPPORT. The keyed lists that hold every table of the state (Machine/Bits.lean): what a lookup gives after a write. -/
namespace Sys2Proof

variable {α : Type}

@[simp] theorem aget_aset_same (l : List (Nat × α)) (k : Nat) (v : α) : aget (aset l k v) k = some v := by
  induction l with
  | nil => simp [aset, aget]
  | cons p l ih =>
    obtain ⟨j, w⟩ := p
    unfold aset
    split
    · simp [aget]
    · split
      · simp [aget]
      · have : j ≠ k := by omega
        simp [aget, this, ih]

theorem aget_aset_other (l : List (Nat × α)) {k x : Nat} (v : α) (h : x ≠ k) : aget (aset l k v) x = aget l x := by
  induction l with
  | nil => simp [aset, aget, h.symm]
  | cons p l ih =>
    obtain ⟨j, w⟩ := p
    unfold aset
    split
    · simp [aget, h.symm]
    · split
      · subst_vars; simp [aget, h.symm]
      · simp [aget, ih]

theorem aget_aset (l : List (Nat × α)) (k x : Nat) (v : α) :
    aget (aset l k v) x = if x = k then some v else aget l x := by
  split
  · subst_vars; exact aget_aset_same l _ v
  · exact aget_aset_other l v ‹_›

@[simp] theorem agetD_aset_same (l : List (Nat × α)) (k : Nat) (v d : α) : agetD (aset l k v) k d = v := by simp [agetD]

theorem agetD_aset_other (l : List (Nat × α)) {k x : Nat} (v d : α) (h : x ≠ k) : agetD (aset l k v) x d = agetD l x d := by
  simp [agetD, aget_aset_other l v h]

@[simp] theorem aget_adel_same (l : List (Nat × α)) (k : Nat) : aget (adel l k) k = none := by
  induction l with
  | nil => rfl
  | cons p l ih =>
    obtain ⟨j, w⟩ := p
    by_cases h : j = k
    · subst h; simpa [adel] using ih
    · simpa [adel, aget, h] using ih

theorem aget_adel_other (l : List (Nat × α)) {k x : Nat} (h : x ≠ k) : aget (adel l k) x = aget l x := by
  induction l with
  | nil => rfl
  | cons p l ih =>
    obtain ⟨j, w⟩ := p
    by_cases hj : j = k
    · subst hj; simp only [adel, List.filter_cons] at *; simp [aget, h.symm, ih]
    · by_cases hx : j = x
      · subst hx; simp [adel, aget, hj]
      · simp only [adel, List.filter_cons] at *; simp [aget, hj, hx, ih]

theorem aget_adel (l : List (Nat × α)) (k x : Nat) : aget (adel l k) x = if x = k then none else aget l x := by
  split
  · subst_vars; exact aget_adel_same l _
  · exact aget_adel_other l ‹_›

theorem aget_aupd (l : List (Nat × α)) (k x : Nat) (f : α → α) :
    aget (aupd l k f) x = if x = k then (aget l x).map f else aget l x := by
  induction l with
  | nil => simp [aupd, aget]
  | cons p l ih =>
    obtain ⟨j, w⟩ := p
    by_cases hj : j = x <;> by_cases hk : j = k <;> simp_all [aupd, aget]

/-- The keys of a list rise strictly, each above `n`. -/
def KeysAbove : Nat → List (Nat × α) → Prop
  | _, [] => True
  | n, (k, _) :: l => n ≤ k ∧ KeysAbove (k + 1) l

theorem KeysAbove.mono {n m : Nat} {l : List (Nat × α)} (h : KeysAbove m l) (hn : n ≤ m) : KeysAbove n l := by
  cases l with
  | nil => trivial
  | cons p l => exact ⟨le_trans hn h.1, h.2⟩

theorem KeysAbove.aset {n k : Nat} {l : List (Nat × α)} (h : KeysAbove n l) (hk : n ≤ k) (v : α) :
    KeysAbove n (aset l k v) := by
  induction l generalizing n with
  | nil => exact ⟨hk, trivial⟩
  | cons p l ih =>
    obtain ⟨j, w⟩ := p
    unfold Sys2Proof.aset
    split
    · exact ⟨hk, by omega, h.2⟩
    · split
      · subst_vars; exact ⟨h.1, h.2⟩
      · exact ⟨h.1, ih h.2 (by omega)⟩

theorem KeysAbove.filter {n : Nat} {l : List (Nat × α)} (h : KeysAbove n l) (p : Nat × α → Bool) :
    KeysAbove n (l.filter p) := by
  induction l generalizing n with
  | nil => trivial
  | cons q l ih =>
    rw [List.filter_cons]
    split
    · exact ⟨h.1, ih h.2⟩
    · exact (ih h.2).mono (by have := h.1; omega)

/-- A key above every key of a list is not in it. -/
theorem KeysAbove.aget_lt {n x : Nat} {l : List (Nat × α)} (h : KeysAbove n l) (hx : x < n) : aget l x = none := by
  induction l generalizing n with
  | nil => rfl
  | cons q l ih =>
    obtain ⟨j, w⟩ := q
    have := h.1
    have hj : ¬ j = x := by omega
    simp only [aget, hj, if_false]
    exact ih h.2 (by omega)

/-- In a list of rising keys a lookup through a filter on keys is the lookup where the key passes. -/
theorem KeysAbove.aget_filter {n x : Nat} {l : List (Nat × α)} (h : KeysAbove n l) (p : Nat → Bool) :
    aget (l.filter fun c => p c.1) x = if p x then aget l x else none := by
  induction l generalizing n with
  | nil => simp [aget]
  | cons q l ih =>
    obtain ⟨j, w⟩ := q
    rw [List.filter_cons]
    by_cases hj : j = x
    · subst hj
      by_cases hp : p j
      · simp [hp, aget]
      · have := ih h.2
        simp_all
    · by_cases hp : p j
      · simp only [hp, if_true, aget, hj, if_false]; exact ih h.2
      · simp only [hp, aget, hj, if_false]; simpa using ih h.2

end Sys2Proof
end

