-- ==== Sys2Proof/Laws/Memory.lean ====
section
/-! SUPPORT. Memory (Machine/Ops.lean): every operation keeps the canonical form, and what a byte reads after it. -/
namespace Sys2Proof.Machine

/-- No byte 0 is listed. -/
def noZero (m : List Host.Cell) : Prop := ∀ c ∈ m, c.2 ≠ 0

theorem wf_iff_above : ∀ (m : List Host.Cell), Memory.wf m = true ↔ KeysAbove 0 m ∧ noZero m
  | [] => by simp [Memory.wf, KeysAbove, noZero]
  | [c] => by simp [Memory.wf, KeysAbove, noZero]
  | c :: d :: r => by
    have ih := wf_iff_above (d :: r)
    obtain ⟨k, b⟩ := c
    obtain ⟨j, w⟩ := d
    simp only [Memory.wf, Bool.and_eq_true, bne_iff_ne, decide_eq_true_eq, ih, KeysAbove, noZero, List.mem_cons]
    constructor
    · rintro ⟨⟨h1, h2⟩, ⟨-, h3⟩, h4⟩
      exact ⟨⟨by omega, by omega, h3⟩, by rintro x (rfl | hx); exacts [h1, h4 x hx]⟩
    · rintro ⟨⟨-, h2, h3⟩, h4⟩
      exact ⟨⟨h4 _ (.inl rfl), by omega⟩, ⟨by omega, h3⟩, fun x hx => h4 x (.inr hx)⟩

theorem noZero.aset {m : List Host.Cell} (h : noZero m) (a : Nat) {b : Byte} (hb : b ≠ 0) : noZero (aset m a b) := by
  induction m with
  | nil => intro c hc; simp [Sys2Proof.aset] at hc; subst hc; exact hb
  | cons p l ih =>
    obtain ⟨j, w⟩ := p
    have hl : noZero l := fun c hc => h c (List.mem_cons_of_mem _ hc)
    have hw : w ≠ 0 := h (j, w) (List.mem_cons_self ..)
    unfold Sys2Proof.aset
    split
    · intro c hc
      rcases List.mem_cons.1 hc with rfl | hc
      exacts [hb, h c hc]
    · split
      · intro c hc
        rcases List.mem_cons.1 hc with rfl | hc
        exacts [hb, hl c hc]
      · intro c hc
        rcases List.mem_cons.1 hc with rfl | hc
        exacts [hw, ih hl c hc]

theorem noZero.filter {m : List Host.Cell} (h : noZero m) (p : Host.Cell → Bool) : noZero (m.filter p) :=
  fun c hc => h c (List.mem_filter.1 hc).1

theorem memPut_wf {m : List Host.Cell} (h : Memory.wf m = true) (a : Nat) (b : Byte) : Memory.wf (memPut m a b) = true := by
  obtain ⟨h1, h2⟩ := (wf_iff_above m).1 h
  rw [wf_iff_above]
  unfold memPut
  split
  · exact ⟨h1.filter _, h2.filter _⟩
  · exact ⟨h1.aset (Nat.zero_le a) b, h2.aset a ‹_›⟩

theorem memWrite_wf {m : List Host.Cell} (h : Memory.wf m = true) (a : Nat) (bs : List Byte) :
    Memory.wf (memWrite m a bs) = true := by
  induction bs generalizing m a with
  | nil => exact h
  | cons b bs ih => exact ih (memPut_wf h a b) (a + 1)

theorem memZero_wf {m : List Host.Cell} (h : Memory.wf m = true) (a n : Nat) : Memory.wf (memZero m a n) = true := by
  obtain ⟨h1, h2⟩ := (wf_iff_above m).1 h
  exact (wf_iff_above _).2 ⟨h1.filter _, h2.filter _⟩

theorem applyHeld_wf {m : List Host.Cell} (h : Memory.wf m = true) (page : Nat) (l : List (Nat × Nat × List Byte)) :
    Memory.wf (applyHeld m page l) = true := by
  induction l generalizing m with
  | nil => exact h
  | cons x l ih =>
    obtain ⟨p, a, bs⟩ := x
    unfold applyHeld
    split
    · exact ih (memWrite_wf h a bs)
    · exact ih h

theorem memCopy_wf {m : List Host.Cell} (h : Memory.wf m = true) (src dst n : Nat) :
    Memory.wf (memCopy m src dst n) = true := by
  have fold : ∀ (l acc : List Host.Cell), noZero l → Memory.wf acc = true →
      Memory.wf (l.foldl (fun acc c => aset acc (dst + (c.1 - src)) c.2) acc) = true := by
    intro l
    induction l with
    | nil => intro acc _ ha; exact ha
    | cons c l ih =>
      intro acc hl ha
      refine ih _ (fun x hx => hl x (List.mem_cons_of_mem _ hx)) ?_
      obtain ⟨h1, h2⟩ := (wf_iff_above acc).1 ha
      exact (wf_iff_above _).2 ⟨h1.aset (Nat.zero_le _) _, h2.aset _ (hl c (List.mem_cons_self ..))⟩
  exact fold _ _ (((wf_iff_above m).1 h).2.filter _) (memZero_wf h dst n)

/-! ### What a byte reads -/

theorem memByte_memPut (m : List Host.Cell) (a x : Nat) (b : Byte) :
    memByte (memPut m a b) x = if x = a then b else memByte m x := by
  unfold memPut memByte agetD
  split
  · rw [aget_adel]; split <;> simp_all
  · rw [aget_aset]; split <;> simp

/-- A write leaves every other byte alone, and its bytes read as written. -/
theorem memByte_memWrite (m : List Host.Cell) (a x : Nat) (bs : List Byte) :
    memByte (memWrite m a bs) x = if a ≤ x ∧ x < a + bs.length then bs.getD (x - a) 0 else memByte m x := by
  induction bs generalizing m a with
  | nil => simp [memWrite]
  | cons b bs ih =>
    rw [memWrite, ih, memByte_memPut]
    by_cases hx : x = a
    · subst hx
      have h1 : ¬ (x + 1 ≤ x ∧ x < x + 1 + bs.length) := by omega
      have h2 : x ≤ x ∧ x < x + (b :: bs).length := by simp
      rw [if_neg h1, if_pos h2]; simp
    · by_cases h : a + 1 ≤ x ∧ x < a + 1 + bs.length
      · have h2 : a ≤ x ∧ x < a + (b :: bs).length := by simp only [List.length_cons]; omega
        rw [if_pos h, if_pos h2]
        obtain ⟨d, rfl⟩ : ∃ d, x = a + 1 + d := ⟨x - (a + 1), by omega⟩
        have e1 : a + 1 + d - (a + 1) = d := by omega
        have e2 : a + 1 + d - a = d + 1 := by omega
        rw [e1, e2]; simp
      · have h2 : ¬ (a ≤ x ∧ x < a + (b :: bs).length) := by simp only [List.length_cons]; omega
        rw [if_neg h, if_neg h2, if_neg hx]

/-- A zeroed range reads 0, and no other byte changes. -/
theorem memByte_memZero {m : List Host.Cell} (h : Memory.wf m = true) (a n x : Nat) :
    memByte (memZero m a n) x = if a ≤ x ∧ x < a + n then 0 else memByte m x := by
  have hk := ((wf_iff_above m).1 h).1
  have := hk.aget_filter (x := x) fun k => decide (k < a) || decide (a + n ≤ k)
  unfold memByte memZero agetD
  rw [this]
  by_cases hx : a ≤ x ∧ x < a + n
  · have h1 : ¬ x < a := by omega
    have h2 : ¬ a + n ≤ x := by omega
    simp [h1, h2]
  · have : x < a ∨ a + n ≤ x := by omega
    rcases this with h1 | h1 <;> simp [hx, h1]

@[simp] theorem memRead_length (m : List Host.Cell) (a n : Nat) : (memRead m a n).length = n := by
  induction n generalizing a with
  | zero => rfl
  | succ n ih => simp [memRead, ih]

/-- Memory right after reset is in canonical form. -/
theorem reset_memory_wf : Memory.wf State.reset.mem = true := rfl

end Sys2Proof.Machine
end

