-- ==== Sys2Proof/Laws/State.lean ====
section
/-! SUPPORT. Every field of the state after every named update of it: no later proof unfolds a record update. -/
namespace Sys2Proof.Machine

/-! State.stamp -/

@[simp] theorem State.stamp_pending (s : State) (t : Nat) : (s.stamp t).pending = s.pending := rfl
@[simp] theorem State.stamp_pt (s : State) (t : Nat) : (s.stamp t).pt = max s.pt t := rfl
@[simp] theorem State.stamp_now (s : State) (t : Nat) : (s.stamp t).now = t := rfl
@[simp] theorem State.stamp_draws (s : State) (t : Nat) : (s.stamp t).draws = s.draws := rfl
@[simp] theorem State.stamp_regs (s : State) (t : Nat) : (s.stamp t).regs = s.regs := rfl
@[simp] theorem State.stamp_sels (s : State) (t : Nat) : (s.stamp t).sels = s.sels := rfl
@[simp] theorem State.stamp_flagSets (s : State) (t : Nat) : (s.stamp t).flagSets = s.flagSets := rfl
@[simp] theorem State.stamp_flagClears (s : State) (t : Nat) : (s.stamp t).flagClears = s.flagClears := rfl
@[simp] theorem State.stamp_out (s : State) (t : Nat) : (s.stamp t).out = s.out := rfl
@[simp] theorem State.stamp_sessions (s : State) (t : Nat) : (s.stamp t).sessions = s.sessions := rfl
@[simp] theorem State.stamp_sds (s : State) (t : Nat) : (s.stamp t).sds = s.sds := rfl
@[simp] theorem State.stamp_leaves (s : State) (t : Nat) : (s.stamp t).leaves = s.leaves := rfl
@[simp] theorem State.stamp_pools (s : State) (t : Nat) : (s.stamp t).pools = s.pools := rfl
@[simp] theorem State.stamp_mem (s : State) (t : Nat) : (s.stamp t).mem = s.mem := rfl
@[simp] theorem State.stamp_cages (s : State) (t : Nat) : (s.stamp t).cages = s.cages := rfl
@[simp] theorem State.stamp_heldWrites (s : State) (t : Nat) : (s.stamp t).heldWrites = s.heldWrites := rfl
@[simp] theorem State.stamp_s0 (s : State) (t : Nat) : (s.stamp t).s0 = s.s0 := rfl
@[simp] theorem State.stamp_s1 (s : State) (t : Nat) : (s.stamp t).s1 = s.s1 := rfl
@[simp] theorem State.stamp_shifts (s : State) (t : Nat) : (s.stamp t).shifts = s.shifts := rfl
@[simp] theorem State.stamp_samplers (s : State) (t : Nat) : (s.stamp t).samplers = s.samplers := rfl
@[simp] theorem State.stamp_tenants (s : State) (t : Nat) : (s.stamp t).tenants = s.tenants := rfl
@[simp] theorem State.stamp_kvShards (s : State) (t : Nat) : (s.stamp t).kvShards = s.kvShards := rfl
@[simp] theorem State.stamp_attRequests (s : State) (t : Nat) : (s.stamp t).attRequests = s.attRequests := rfl
@[simp] theorem State.stamp_splitSums (s : State) (t : Nat) : (s.stamp t).splitSums = s.splitSums := rfl
@[simp] theorem State.stamp_domains (s : State) (t : Nat) : (s.stamp t).domains = s.domains := rfl
@[simp] theorem State.stamp_guests (s : State) (t : Nat) : (s.stamp t).guests = s.guests := rfl
@[simp] theorem State.stamp_fns (s : State) (t : Nat) : (s.stamp t).fns = s.fns := rfl
@[simp] theorem State.stamp_expanders (s : State) (t : Nat) : (s.stamp t).expanders = s.expanders := rfl
@[simp] theorem State.stamp_drives (s : State) (t : Nat) : (s.stamp t).drives = s.drives := rfl
@[simp] theorem State.stamp_eths (s : State) (t : Nat) : (s.stamp t).eths = s.eths := rfl
@[simp] theorem State.stamp_models (s : State) (t : Nat) : (s.stamp t).models = s.models := rfl
@[simp] theorem State.stamp_profiles (s : State) (t : Nat) : (s.stamp t).profiles = s.profiles := rfl
@[simp] theorem State.stamp_seqLists (s : State) (t : Nat) : (s.stamp t).seqLists = s.seqLists := rfl
@[simp] theorem State.stamp_adapters (s : State) (t : Nat) : (s.stamp t).adapters = s.adapters := rfl
@[simp] theorem State.stamp_rotation (s : State) (t : Nat) : (s.stamp t).rotation = s.rotation := rfl
@[simp] theorem State.stamp_errLog (s : State) (t : Nat) : (s.stamp t).errLog = s.errLog := rfl
@[simp] theorem State.stamp_power (s : State) (t : Nat) : (s.stamp t).power = s.power := rfl
@[simp] theorem State.stamp_gallery (s : State) (t : Nat) : (s.stamp t).gallery = s.gallery := rfl
@[simp] theorem State.stamp_channels (s : State) (t : Nat) : (s.stamp t).channels = s.channels := rfl
@[simp] theorem State.stamp_hoistTurn (s : State) (t : Nat) : (s.stamp t).hoistTurn = s.hoistTurn := rfl
@[simp] theorem State.stamp_migrations (s : State) (t : Nat) : (s.stamp t).migrations = s.migrations := rfl
@[simp] theorem State.stamp_incoming (s : State) (t : Nat) : (s.stamp t).incoming = s.incoming := rfl
@[simp] theorem State.stamp_tables (s : State) (t : Nat) : (s.stamp t).tables = s.tables := rfl
@[simp] theorem State.stamp_checkpoint (s : State) (t : Nat) : (s.stamp t).checkpoint = s.checkpoint := rfl
@[simp] theorem State.stamp_energyPorts (s : State) (t : Nat) : (s.stamp t).energyPorts = s.energyPorts := rfl
@[simp] theorem State.stamp_security (s : State) (t : Nat) : (s.stamp t).security = s.security := rfl
@[simp] theorem State.stamp_boot (s : State) (t : Nat) : (s.stamp t).boot = s.boot := rfl
@[simp] theorem State.stamp_txns (s : State) (t : Nat) : (s.stamp t).txns = s.txns := rfl
@[simp] theorem State.stamp_ctResults (s : State) (t : Nat) : (s.stamp t).ctResults = s.ctResults := rfl
@[simp] theorem State.stamp_obs (s : State) (t : Nat) : (s.stamp t).obs = s.obs := rfl
@[simp] theorem State.stamp_cores (s : State) (t : Nat) : (s.stamp t).cores = s.cores := rfl
@[simp] theorem State.stamp_clusterSram (s : State) (t : Nat) : (s.stamp t).clusterSram = s.clusterSram := rfl
@[simp] theorem State.stamp_kernelFaults (s : State) (t : Nat) : (s.stamp t).kernelFaults = s.kernelFaults := rfl
@[simp] theorem State.stamp_appends (s : State) (t : Nat) : (s.stamp t).appends = s.appends := rfl
@[simp] theorem State.stamp_sequencers (s : State) (t : Nat) : (s.stamp t).sequencers = s.sequencers := rfl
@[simp] theorem State.stamp_programs (s : State) (t : Nat) : (s.stamp t).programs = s.programs := rfl

/-! State.emit -/

@[simp] theorem State.emit_pending (s : State) (m : Msg) : (s.emit m).pending = s.pending := rfl
@[simp] theorem State.emit_pt (s : State) (m : Msg) : (s.emit m).pt = s.pt := rfl
@[simp] theorem State.emit_now (s : State) (m : Msg) : (s.emit m).now = s.now := rfl
@[simp] theorem State.emit_draws (s : State) (m : Msg) : (s.emit m).draws = s.draws := rfl
@[simp] theorem State.emit_regs (s : State) (m : Msg) : (s.emit m).regs = s.regs := rfl
@[simp] theorem State.emit_sels (s : State) (m : Msg) : (s.emit m).sels = s.sels := rfl
@[simp] theorem State.emit_flagSets (s : State) (m : Msg) : (s.emit m).flagSets = s.flagSets := rfl
@[simp] theorem State.emit_flagClears (s : State) (m : Msg) : (s.emit m).flagClears = s.flagClears := rfl
@[simp] theorem State.emit_out (s : State) (m : Msg) : (s.emit m).out = s.out ++ [m] := rfl
@[simp] theorem State.emit_sessions (s : State) (m : Msg) : (s.emit m).sessions = s.sessions := rfl
@[simp] theorem State.emit_sds (s : State) (m : Msg) : (s.emit m).sds = s.sds := rfl
@[simp] theorem State.emit_leaves (s : State) (m : Msg) : (s.emit m).leaves = s.leaves := rfl
@[simp] theorem State.emit_pools (s : State) (m : Msg) : (s.emit m).pools = s.pools := rfl
@[simp] theorem State.emit_mem (s : State) (m : Msg) : (s.emit m).mem = s.mem := rfl
@[simp] theorem State.emit_cages (s : State) (m : Msg) : (s.emit m).cages = s.cages := rfl
@[simp] theorem State.emit_heldWrites (s : State) (m : Msg) : (s.emit m).heldWrites = s.heldWrites := rfl
@[simp] theorem State.emit_s0 (s : State) (m : Msg) : (s.emit m).s0 = s.s0 := rfl
@[simp] theorem State.emit_s1 (s : State) (m : Msg) : (s.emit m).s1 = s.s1 := rfl
@[simp] theorem State.emit_shifts (s : State) (m : Msg) : (s.emit m).shifts = s.shifts := rfl
@[simp] theorem State.emit_samplers (s : State) (m : Msg) : (s.emit m).samplers = s.samplers := rfl
@[simp] theorem State.emit_tenants (s : State) (m : Msg) : (s.emit m).tenants = s.tenants := rfl
@[simp] theorem State.emit_kvShards (s : State) (m : Msg) : (s.emit m).kvShards = s.kvShards := rfl
@[simp] theorem State.emit_attRequests (s : State) (m : Msg) : (s.emit m).attRequests = s.attRequests := rfl
@[simp] theorem State.emit_splitSums (s : State) (m : Msg) : (s.emit m).splitSums = s.splitSums := rfl
@[simp] theorem State.emit_domains (s : State) (m : Msg) : (s.emit m).domains = s.domains := rfl
@[simp] theorem State.emit_guests (s : State) (m : Msg) : (s.emit m).guests = s.guests := rfl
@[simp] theorem State.emit_fns (s : State) (m : Msg) : (s.emit m).fns = s.fns := rfl
@[simp] theorem State.emit_expanders (s : State) (m : Msg) : (s.emit m).expanders = s.expanders := rfl
@[simp] theorem State.emit_drives (s : State) (m : Msg) : (s.emit m).drives = s.drives := rfl
@[simp] theorem State.emit_eths (s : State) (m : Msg) : (s.emit m).eths = s.eths := rfl
@[simp] theorem State.emit_models (s : State) (m : Msg) : (s.emit m).models = s.models := rfl
@[simp] theorem State.emit_profiles (s : State) (m : Msg) : (s.emit m).profiles = s.profiles := rfl
@[simp] theorem State.emit_seqLists (s : State) (m : Msg) : (s.emit m).seqLists = s.seqLists := rfl
@[simp] theorem State.emit_adapters (s : State) (m : Msg) : (s.emit m).adapters = s.adapters := rfl
@[simp] theorem State.emit_rotation (s : State) (m : Msg) : (s.emit m).rotation = s.rotation := rfl
@[simp] theorem State.emit_errLog (s : State) (m : Msg) : (s.emit m).errLog = s.errLog := rfl
@[simp] theorem State.emit_power (s : State) (m : Msg) : (s.emit m).power = s.power := rfl
@[simp] theorem State.emit_gallery (s : State) (m : Msg) : (s.emit m).gallery = s.gallery := rfl
@[simp] theorem State.emit_channels (s : State) (m : Msg) : (s.emit m).channels = s.channels := rfl
@[simp] theorem State.emit_hoistTurn (s : State) (m : Msg) : (s.emit m).hoistTurn = s.hoistTurn := rfl
@[simp] theorem State.emit_migrations (s : State) (m : Msg) : (s.emit m).migrations = s.migrations := rfl
@[simp] theorem State.emit_incoming (s : State) (m : Msg) : (s.emit m).incoming = s.incoming := rfl
@[simp] theorem State.emit_tables (s : State) (m : Msg) : (s.emit m).tables = s.tables := rfl
@[simp] theorem State.emit_checkpoint (s : State) (m : Msg) : (s.emit m).checkpoint = s.checkpoint := rfl
@[simp] theorem State.emit_energyPorts (s : State) (m : Msg) : (s.emit m).energyPorts = s.energyPorts := rfl
@[simp] theorem State.emit_security (s : State) (m : Msg) : (s.emit m).security = s.security := rfl
@[simp] theorem State.emit_boot (s : State) (m : Msg) : (s.emit m).boot = s.boot := rfl
@[simp] theorem State.emit_txns (s : State) (m : Msg) : (s.emit m).txns = s.txns := rfl
@[simp] theorem State.emit_ctResults (s : State) (m : Msg) : (s.emit m).ctResults = s.ctResults := rfl
@[simp] theorem State.emit_obs (s : State) (m : Msg) : (s.emit m).obs = s.obs := rfl
@[simp] theorem State.emit_cores (s : State) (m : Msg) : (s.emit m).cores = s.cores := rfl
@[simp] theorem State.emit_clusterSram (s : State) (m : Msg) : (s.emit m).clusterSram = s.clusterSram := rfl
@[simp] theorem State.emit_kernelFaults (s : State) (m : Msg) : (s.emit m).kernelFaults = s.kernelFaults := rfl
@[simp] theorem State.emit_appends (s : State) (m : Msg) : (s.emit m).appends = s.appends := rfl
@[simp] theorem State.emit_sequencers (s : State) (m : Msg) : (s.emit m).sequencers = s.sequencers := rfl
@[simp] theorem State.emit_programs (s : State) (m : Msg) : (s.emit m).programs = s.programs := rfl

/-! State.putSd -/

@[simp] theorem State.putSd_pending (s : State) (n : Nat) (d : StateDie) : (s.putSd n d).pending = s.pending := rfl
@[simp] theorem State.putSd_pt (s : State) (n : Nat) (d : StateDie) : (s.putSd n d).pt = s.pt := rfl
@[simp] theorem State.putSd_now (s : State) (n : Nat) (d : StateDie) : (s.putSd n d).now = s.now := rfl
@[simp] theorem State.putSd_draws (s : State) (n : Nat) (d : StateDie) : (s.putSd n d).draws = s.draws := rfl
@[simp] theorem State.putSd_regs (s : State) (n : Nat) (d : StateDie) : (s.putSd n d).regs = s.regs := rfl
@[simp] theorem State.putSd_sels (s : State) (n : Nat) (d : StateDie) : (s.putSd n d).sels = s.sels := rfl
@[simp] theorem State.putSd_flagSets (s : State) (n : Nat) (d : StateDie) : (s.putSd n d).flagSets = s.flagSets := rfl
@[simp] theorem State.putSd_flagClears (s : State) (n : Nat) (d : StateDie) : (s.putSd n d).flagClears = s.flagClears := rfl
@[simp] theorem State.putSd_out (s : State) (n : Nat) (d : StateDie) : (s.putSd n d).out = s.out := rfl
@[simp] theorem State.putSd_sessions (s : State) (n : Nat) (d : StateDie) : (s.putSd n d).sessions = s.sessions := rfl
@[simp] theorem State.putSd_sds (s : State) (n : Nat) (d : StateDie) : (s.putSd n d).sds = aset s.sds n d := rfl
@[simp] theorem State.putSd_leaves (s : State) (n : Nat) (d : StateDie) : (s.putSd n d).leaves = s.leaves := rfl
@[simp] theorem State.putSd_pools (s : State) (n : Nat) (d : StateDie) : (s.putSd n d).pools = s.pools := rfl
@[simp] theorem State.putSd_mem (s : State) (n : Nat) (d : StateDie) : (s.putSd n d).mem = s.mem := rfl
@[simp] theorem State.putSd_cages (s : State) (n : Nat) (d : StateDie) : (s.putSd n d).cages = s.cages := rfl
@[simp] theorem State.putSd_heldWrites (s : State) (n : Nat) (d : StateDie) : (s.putSd n d).heldWrites = s.heldWrites := rfl
@[simp] theorem State.putSd_s0 (s : State) (n : Nat) (d : StateDie) : (s.putSd n d).s0 = s.s0 := rfl
@[simp] theorem State.putSd_s1 (s : State) (n : Nat) (d : StateDie) : (s.putSd n d).s1 = s.s1 := rfl
@[simp] theorem State.putSd_shifts (s : State) (n : Nat) (d : StateDie) : (s.putSd n d).shifts = s.shifts := rfl
@[simp] theorem State.putSd_samplers (s : State) (n : Nat) (d : StateDie) : (s.putSd n d).samplers = s.samplers := rfl
@[simp] theorem State.putSd_tenants (s : State) (n : Nat) (d : StateDie) : (s.putSd n d).tenants = s.tenants := rfl
@[simp] theorem State.putSd_kvShards (s : State) (n : Nat) (d : StateDie) : (s.putSd n d).kvShards = s.kvShards := rfl
@[simp] theorem State.putSd_attRequests (s : State) (n : Nat) (d : StateDie) : (s.putSd n d).attRequests = s.attRequests := rfl
@[simp] theorem State.putSd_splitSums (s : State) (n : Nat) (d : StateDie) : (s.putSd n d).splitSums = s.splitSums := rfl
@[simp] theorem State.putSd_domains (s : State) (n : Nat) (d : StateDie) : (s.putSd n d).domains = s.domains := rfl
@[simp] theorem State.putSd_guests (s : State) (n : Nat) (d : StateDie) : (s.putSd n d).guests = s.guests := rfl
@[simp] theorem State.putSd_fns (s : State) (n : Nat) (d : StateDie) : (s.putSd n d).fns = s.fns := rfl
@[simp] theorem State.putSd_expanders (s : State) (n : Nat) (d : StateDie) : (s.putSd n d).expanders = s.expanders := rfl
@[simp] theorem State.putSd_drives (s : State) (n : Nat) (d : StateDie) : (s.putSd n d).drives = s.drives := rfl
@[simp] theorem State.putSd_eths (s : State) (n : Nat) (d : StateDie) : (s.putSd n d).eths = s.eths := rfl
@[simp] theorem State.putSd_models (s : State) (n : Nat) (d : StateDie) : (s.putSd n d).models = s.models := rfl
@[simp] theorem State.putSd_profiles (s : State) (n : Nat) (d : StateDie) : (s.putSd n d).profiles = s.profiles := rfl
@[simp] theorem State.putSd_seqLists (s : State) (n : Nat) (d : StateDie) : (s.putSd n d).seqLists = s.seqLists := rfl
@[simp] theorem State.putSd_adapters (s : State) (n : Nat) (d : StateDie) : (s.putSd n d).adapters = s.adapters := rfl
@[simp] theorem State.putSd_rotation (s : State) (n : Nat) (d : StateDie) : (s.putSd n d).rotation = s.rotation := rfl
@[simp] theorem State.putSd_errLog (s : State) (n : Nat) (d : StateDie) : (s.putSd n d).errLog = s.errLog := rfl
@[simp] theorem State.putSd_power (s : State) (n : Nat) (d : StateDie) : (s.putSd n d).power = s.power := rfl
@[simp] theorem State.putSd_gallery (s : State) (n : Nat) (d : StateDie) : (s.putSd n d).gallery = s.gallery := rfl
@[simp] theorem State.putSd_channels (s : State) (n : Nat) (d : StateDie) : (s.putSd n d).channels = s.channels := rfl
@[simp] theorem State.putSd_hoistTurn (s : State) (n : Nat) (d : StateDie) : (s.putSd n d).hoistTurn = s.hoistTurn := rfl
@[simp] theorem State.putSd_migrations (s : State) (n : Nat) (d : StateDie) : (s.putSd n d).migrations = s.migrations := rfl
@[simp] theorem State.putSd_incoming (s : State) (n : Nat) (d : StateDie) : (s.putSd n d).incoming = s.incoming := rfl
@[simp] theorem State.putSd_tables (s : State) (n : Nat) (d : StateDie) : (s.putSd n d).tables = s.tables := rfl
@[simp] theorem State.putSd_checkpoint (s : State) (n : Nat) (d : StateDie) : (s.putSd n d).checkpoint = s.checkpoint := rfl
@[simp] theorem State.putSd_energyPorts (s : State) (n : Nat) (d : StateDie) : (s.putSd n d).energyPorts = s.energyPorts := rfl
@[simp] theorem State.putSd_security (s : State) (n : Nat) (d : StateDie) : (s.putSd n d).security = s.security := rfl
@[simp] theorem State.putSd_boot (s : State) (n : Nat) (d : StateDie) : (s.putSd n d).boot = s.boot := rfl
@[simp] theorem State.putSd_txns (s : State) (n : Nat) (d : StateDie) : (s.putSd n d).txns = s.txns := rfl
@[simp] theorem State.putSd_ctResults (s : State) (n : Nat) (d : StateDie) : (s.putSd n d).ctResults = s.ctResults := rfl
@[simp] theorem State.putSd_obs (s : State) (n : Nat) (d : StateDie) : (s.putSd n d).obs = s.obs := rfl
@[simp] theorem State.putSd_cores (s : State) (n : Nat) (d : StateDie) : (s.putSd n d).cores = s.cores := rfl
@[simp] theorem State.putSd_clusterSram (s : State) (n : Nat) (d : StateDie) : (s.putSd n d).clusterSram = s.clusterSram := rfl
@[simp] theorem State.putSd_kernelFaults (s : State) (n : Nat) (d : StateDie) : (s.putSd n d).kernelFaults = s.kernelFaults := rfl
@[simp] theorem State.putSd_appends (s : State) (n : Nat) (d : StateDie) : (s.putSd n d).appends = s.appends := rfl
@[simp] theorem State.putSd_sequencers (s : State) (n : Nat) (d : StateDie) : (s.putSd n d).sequencers = s.sequencers := rfl
@[simp] theorem State.putSd_programs (s : State) (n : Nat) (d : StateDie) : (s.putSd n d).programs = s.programs := rfl

/-! State.putSess -/

@[simp] theorem State.putSess_pending (s : State) (slot : Nat) (x : Session) : (s.putSess slot x).pending = s.pending := rfl
@[simp] theorem State.putSess_pt (s : State) (slot : Nat) (x : Session) : (s.putSess slot x).pt = s.pt := rfl
@[simp] theorem State.putSess_now (s : State) (slot : Nat) (x : Session) : (s.putSess slot x).now = s.now := rfl
@[simp] theorem State.putSess_draws (s : State) (slot : Nat) (x : Session) : (s.putSess slot x).draws = s.draws := rfl
@[simp] theorem State.putSess_regs (s : State) (slot : Nat) (x : Session) : (s.putSess slot x).regs = s.regs := rfl
@[simp] theorem State.putSess_sels (s : State) (slot : Nat) (x : Session) : (s.putSess slot x).sels = s.sels := rfl
@[simp] theorem State.putSess_flagSets (s : State) (slot : Nat) (x : Session) : (s.putSess slot x).flagSets = s.flagSets := rfl
@[simp] theorem State.putSess_flagClears (s : State) (slot : Nat) (x : Session) : (s.putSess slot x).flagClears = s.flagClears := rfl
@[simp] theorem State.putSess_out (s : State) (slot : Nat) (x : Session) : (s.putSess slot x).out = s.out := rfl
@[simp] theorem State.putSess_sessions (s : State) (slot : Nat) (x : Session) : (s.putSess slot x).sessions = aset s.sessions slot x := rfl
@[simp] theorem State.putSess_sds (s : State) (slot : Nat) (x : Session) : (s.putSess slot x).sds = s.sds := rfl
@[simp] theorem State.putSess_leaves (s : State) (slot : Nat) (x : Session) : (s.putSess slot x).leaves = s.leaves := rfl
@[simp] theorem State.putSess_pools (s : State) (slot : Nat) (x : Session) : (s.putSess slot x).pools = s.pools := rfl
@[simp] theorem State.putSess_mem (s : State) (slot : Nat) (x : Session) : (s.putSess slot x).mem = s.mem := rfl
@[simp] theorem State.putSess_cages (s : State) (slot : Nat) (x : Session) : (s.putSess slot x).cages = s.cages := rfl
@[simp] theorem State.putSess_heldWrites (s : State) (slot : Nat) (x : Session) : (s.putSess slot x).heldWrites = s.heldWrites := rfl
@[simp] theorem State.putSess_s0 (s : State) (slot : Nat) (x : Session) : (s.putSess slot x).s0 = s.s0 := rfl
@[simp] theorem State.putSess_s1 (s : State) (slot : Nat) (x : Session) : (s.putSess slot x).s1 = s.s1 := rfl
@[simp] theorem State.putSess_shifts (s : State) (slot : Nat) (x : Session) : (s.putSess slot x).shifts = s.shifts := rfl
@[simp] theorem State.putSess_samplers (s : State) (slot : Nat) (x : Session) : (s.putSess slot x).samplers = s.samplers := rfl
@[simp] theorem State.putSess_tenants (s : State) (slot : Nat) (x : Session) : (s.putSess slot x).tenants = s.tenants := rfl
@[simp] theorem State.putSess_kvShards (s : State) (slot : Nat) (x : Session) : (s.putSess slot x).kvShards = s.kvShards := rfl
@[simp] theorem State.putSess_attRequests (s : State) (slot : Nat) (x : Session) : (s.putSess slot x).attRequests = s.attRequests := rfl
@[simp] theorem State.putSess_splitSums (s : State) (slot : Nat) (x : Session) : (s.putSess slot x).splitSums = s.splitSums := rfl
@[simp] theorem State.putSess_domains (s : State) (slot : Nat) (x : Session) : (s.putSess slot x).domains = s.domains := rfl
@[simp] theorem State.putSess_guests (s : State) (slot : Nat) (x : Session) : (s.putSess slot x).guests = s.guests := rfl
@[simp] theorem State.putSess_fns (s : State) (slot : Nat) (x : Session) : (s.putSess slot x).fns = s.fns := rfl
@[simp] theorem State.putSess_expanders (s : State) (slot : Nat) (x : Session) : (s.putSess slot x).expanders = s.expanders := rfl
@[simp] theorem State.putSess_drives (s : State) (slot : Nat) (x : Session) : (s.putSess slot x).drives = s.drives := rfl
@[simp] theorem State.putSess_eths (s : State) (slot : Nat) (x : Session) : (s.putSess slot x).eths = s.eths := rfl
@[simp] theorem State.putSess_models (s : State) (slot : Nat) (x : Session) : (s.putSess slot x).models = s.models := rfl
@[simp] theorem State.putSess_profiles (s : State) (slot : Nat) (x : Session) : (s.putSess slot x).profiles = s.profiles := rfl
@[simp] theorem State.putSess_seqLists (s : State) (slot : Nat) (x : Session) : (s.putSess slot x).seqLists = s.seqLists := rfl
@[simp] theorem State.putSess_adapters (s : State) (slot : Nat) (x : Session) : (s.putSess slot x).adapters = s.adapters := rfl
@[simp] theorem State.putSess_rotation (s : State) (slot : Nat) (x : Session) : (s.putSess slot x).rotation = s.rotation := rfl
@[simp] theorem State.putSess_errLog (s : State) (slot : Nat) (x : Session) : (s.putSess slot x).errLog = s.errLog := rfl
@[simp] theorem State.putSess_power (s : State) (slot : Nat) (x : Session) : (s.putSess slot x).power = s.power := rfl
@[simp] theorem State.putSess_gallery (s : State) (slot : Nat) (x : Session) : (s.putSess slot x).gallery = s.gallery := rfl
@[simp] theorem State.putSess_channels (s : State) (slot : Nat) (x : Session) : (s.putSess slot x).channels = s.channels := rfl
@[simp] theorem State.putSess_hoistTurn (s : State) (slot : Nat) (x : Session) : (s.putSess slot x).hoistTurn = s.hoistTurn := rfl
@[simp] theorem State.putSess_migrations (s : State) (slot : Nat) (x : Session) : (s.putSess slot x).migrations = s.migrations := rfl
@[simp] theorem State.putSess_incoming (s : State) (slot : Nat) (x : Session) : (s.putSess slot x).incoming = s.incoming := rfl
@[simp] theorem State.putSess_tables (s : State) (slot : Nat) (x : Session) : (s.putSess slot x).tables = s.tables := rfl
@[simp] theorem State.putSess_checkpoint (s : State) (slot : Nat) (x : Session) : (s.putSess slot x).checkpoint = s.checkpoint := rfl
@[simp] theorem State.putSess_energyPorts (s : State) (slot : Nat) (x : Session) : (s.putSess slot x).energyPorts = s.energyPorts := rfl
@[simp] theorem State.putSess_security (s : State) (slot : Nat) (x : Session) : (s.putSess slot x).security = s.security := rfl
@[simp] theorem State.putSess_boot (s : State) (slot : Nat) (x : Session) : (s.putSess slot x).boot = s.boot := rfl
@[simp] theorem State.putSess_txns (s : State) (slot : Nat) (x : Session) : (s.putSess slot x).txns = s.txns := rfl
@[simp] theorem State.putSess_ctResults (s : State) (slot : Nat) (x : Session) : (s.putSess slot x).ctResults = s.ctResults := rfl
@[simp] theorem State.putSess_obs (s : State) (slot : Nat) (x : Session) : (s.putSess slot x).obs = s.obs := rfl
@[simp] theorem State.putSess_cores (s : State) (slot : Nat) (x : Session) : (s.putSess slot x).cores = s.cores := rfl
@[simp] theorem State.putSess_clusterSram (s : State) (slot : Nat) (x : Session) : (s.putSess slot x).clusterSram = s.clusterSram := rfl
@[simp] theorem State.putSess_kernelFaults (s : State) (slot : Nat) (x : Session) : (s.putSess slot x).kernelFaults = s.kernelFaults := rfl
@[simp] theorem State.putSess_appends (s : State) (slot : Nat) (x : Session) : (s.putSess slot x).appends = s.appends := rfl
@[simp] theorem State.putSess_sequencers (s : State) (slot : Nat) (x : Session) : (s.putSess slot x).sequencers = s.sequencers := rfl
@[simp] theorem State.putSess_programs (s : State) (slot : Nat) (x : Session) : (s.putSess slot x).programs = s.programs := rfl

/-! State.putEntry -/

@[simp] theorem State.putEntry_pending (s : State) (slot : Nat) (e : Entry) : (s.putEntry slot e).pending = s.pending := rfl
@[simp] theorem State.putEntry_pt (s : State) (slot : Nat) (e : Entry) : (s.putEntry slot e).pt = s.pt := rfl
@[simp] theorem State.putEntry_now (s : State) (slot : Nat) (e : Entry) : (s.putEntry slot e).now = s.now := rfl
@[simp] theorem State.putEntry_draws (s : State) (slot : Nat) (e : Entry) : (s.putEntry slot e).draws = s.draws := rfl
@[simp] theorem State.putEntry_regs (s : State) (slot : Nat) (e : Entry) : (s.putEntry slot e).regs = s.regs := rfl
@[simp] theorem State.putEntry_sels (s : State) (slot : Nat) (e : Entry) : (s.putEntry slot e).sels = s.sels := rfl
@[simp] theorem State.putEntry_flagSets (s : State) (slot : Nat) (e : Entry) : (s.putEntry slot e).flagSets = s.flagSets := rfl
@[simp] theorem State.putEntry_flagClears (s : State) (slot : Nat) (e : Entry) : (s.putEntry slot e).flagClears = s.flagClears := rfl
@[simp] theorem State.putEntry_out (s : State) (slot : Nat) (e : Entry) : (s.putEntry slot e).out = s.out := rfl
@[simp] theorem State.putEntry_sessions (s : State) (slot : Nat) (e : Entry) : (s.putEntry slot e).sessions = aset s.sessions slot ((s.sess slot).withEntry e) := rfl
@[simp] theorem State.putEntry_sds (s : State) (slot : Nat) (e : Entry) : (s.putEntry slot e).sds = s.sds := rfl
@[simp] theorem State.putEntry_leaves (s : State) (slot : Nat) (e : Entry) : (s.putEntry slot e).leaves = s.leaves := rfl
@[simp] theorem State.putEntry_pools (s : State) (slot : Nat) (e : Entry) : (s.putEntry slot e).pools = s.pools := rfl
@[simp] theorem State.putEntry_mem (s : State) (slot : Nat) (e : Entry) : (s.putEntry slot e).mem = s.mem := rfl
@[simp] theorem State.putEntry_cages (s : State) (slot : Nat) (e : Entry) : (s.putEntry slot e).cages = s.cages := rfl
@[simp] theorem State.putEntry_heldWrites (s : State) (slot : Nat) (e : Entry) : (s.putEntry slot e).heldWrites = s.heldWrites := rfl
@[simp] theorem State.putEntry_s0 (s : State) (slot : Nat) (e : Entry) : (s.putEntry slot e).s0 = s.s0 := rfl
@[simp] theorem State.putEntry_s1 (s : State) (slot : Nat) (e : Entry) : (s.putEntry slot e).s1 = s.s1 := rfl
@[simp] theorem State.putEntry_shifts (s : State) (slot : Nat) (e : Entry) : (s.putEntry slot e).shifts = s.shifts := rfl
@[simp] theorem State.putEntry_samplers (s : State) (slot : Nat) (e : Entry) : (s.putEntry slot e).samplers = s.samplers := rfl
@[simp] theorem State.putEntry_tenants (s : State) (slot : Nat) (e : Entry) : (s.putEntry slot e).tenants = s.tenants := rfl
@[simp] theorem State.putEntry_kvShards (s : State) (slot : Nat) (e : Entry) : (s.putEntry slot e).kvShards = s.kvShards := rfl
@[simp] theorem State.putEntry_attRequests (s : State) (slot : Nat) (e : Entry) : (s.putEntry slot e).attRequests = s.attRequests := rfl
@[simp] theorem State.putEntry_splitSums (s : State) (slot : Nat) (e : Entry) : (s.putEntry slot e).splitSums = s.splitSums := rfl
@[simp] theorem State.putEntry_domains (s : State) (slot : Nat) (e : Entry) : (s.putEntry slot e).domains = s.domains := rfl
@[simp] theorem State.putEntry_guests (s : State) (slot : Nat) (e : Entry) : (s.putEntry slot e).guests = s.guests := rfl
@[simp] theorem State.putEntry_fns (s : State) (slot : Nat) (e : Entry) : (s.putEntry slot e).fns = s.fns := rfl
@[simp] theorem State.putEntry_expanders (s : State) (slot : Nat) (e : Entry) : (s.putEntry slot e).expanders = s.expanders := rfl
@[simp] theorem State.putEntry_drives (s : State) (slot : Nat) (e : Entry) : (s.putEntry slot e).drives = s.drives := rfl
@[simp] theorem State.putEntry_eths (s : State) (slot : Nat) (e : Entry) : (s.putEntry slot e).eths = s.eths := rfl
@[simp] theorem State.putEntry_models (s : State) (slot : Nat) (e : Entry) : (s.putEntry slot e).models = s.models := rfl
@[simp] theorem State.putEntry_profiles (s : State) (slot : Nat) (e : Entry) : (s.putEntry slot e).profiles = s.profiles := rfl
@[simp] theorem State.putEntry_seqLists (s : State) (slot : Nat) (e : Entry) : (s.putEntry slot e).seqLists = s.seqLists := rfl
@[simp] theorem State.putEntry_adapters (s : State) (slot : Nat) (e : Entry) : (s.putEntry slot e).adapters = s.adapters := rfl
@[simp] theorem State.putEntry_rotation (s : State) (slot : Nat) (e : Entry) : (s.putEntry slot e).rotation = s.rotation := rfl
@[simp] theorem State.putEntry_errLog (s : State) (slot : Nat) (e : Entry) : (s.putEntry slot e).errLog = s.errLog := rfl
@[simp] theorem State.putEntry_power (s : State) (slot : Nat) (e : Entry) : (s.putEntry slot e).power = s.power := rfl
@[simp] theorem State.putEntry_gallery (s : State) (slot : Nat) (e : Entry) : (s.putEntry slot e).gallery = s.gallery := rfl
@[simp] theorem State.putEntry_channels (s : State) (slot : Nat) (e : Entry) : (s.putEntry slot e).channels = s.channels := rfl
@[simp] theorem State.putEntry_hoistTurn (s : State) (slot : Nat) (e : Entry) : (s.putEntry slot e).hoistTurn = s.hoistTurn := rfl
@[simp] theorem State.putEntry_migrations (s : State) (slot : Nat) (e : Entry) : (s.putEntry slot e).migrations = s.migrations := rfl
@[simp] theorem State.putEntry_incoming (s : State) (slot : Nat) (e : Entry) : (s.putEntry slot e).incoming = s.incoming := rfl
@[simp] theorem State.putEntry_tables (s : State) (slot : Nat) (e : Entry) : (s.putEntry slot e).tables = s.tables := rfl
@[simp] theorem State.putEntry_checkpoint (s : State) (slot : Nat) (e : Entry) : (s.putEntry slot e).checkpoint = s.checkpoint := rfl
@[simp] theorem State.putEntry_energyPorts (s : State) (slot : Nat) (e : Entry) : (s.putEntry slot e).energyPorts = s.energyPorts := rfl
@[simp] theorem State.putEntry_security (s : State) (slot : Nat) (e : Entry) : (s.putEntry slot e).security = s.security := rfl
@[simp] theorem State.putEntry_boot (s : State) (slot : Nat) (e : Entry) : (s.putEntry slot e).boot = s.boot := rfl
@[simp] theorem State.putEntry_txns (s : State) (slot : Nat) (e : Entry) : (s.putEntry slot e).txns = s.txns := rfl
@[simp] theorem State.putEntry_ctResults (s : State) (slot : Nat) (e : Entry) : (s.putEntry slot e).ctResults = s.ctResults := rfl
@[simp] theorem State.putEntry_obs (s : State) (slot : Nat) (e : Entry) : (s.putEntry slot e).obs = s.obs := rfl
@[simp] theorem State.putEntry_cores (s : State) (slot : Nat) (e : Entry) : (s.putEntry slot e).cores = s.cores := rfl
@[simp] theorem State.putEntry_clusterSram (s : State) (slot : Nat) (e : Entry) : (s.putEntry slot e).clusterSram = s.clusterSram := rfl
@[simp] theorem State.putEntry_kernelFaults (s : State) (slot : Nat) (e : Entry) : (s.putEntry slot e).kernelFaults = s.kernelFaults := rfl
@[simp] theorem State.putEntry_appends (s : State) (slot : Nat) (e : Entry) : (s.putEntry slot e).appends = s.appends := rfl
@[simp] theorem State.putEntry_sequencers (s : State) (slot : Nat) (e : Entry) : (s.putEntry slot e).sequencers = s.sequencers := rfl
@[simp] theorem State.putEntry_programs (s : State) (slot : Nat) (e : Entry) : (s.putEntry slot e).programs = s.programs := rfl

/-! State.putFn -/

@[simp] theorem State.putFn_pending (s : State) (f : Nat) (h : HostFn) : (s.putFn f h).pending = s.pending := rfl
@[simp] theorem State.putFn_pt (s : State) (f : Nat) (h : HostFn) : (s.putFn f h).pt = s.pt := rfl
@[simp] theorem State.putFn_now (s : State) (f : Nat) (h : HostFn) : (s.putFn f h).now = s.now := rfl
@[simp] theorem State.putFn_draws (s : State) (f : Nat) (h : HostFn) : (s.putFn f h).draws = s.draws := rfl
@[simp] theorem State.putFn_regs (s : State) (f : Nat) (h : HostFn) : (s.putFn f h).regs = s.regs := rfl
@[simp] theorem State.putFn_sels (s : State) (f : Nat) (h : HostFn) : (s.putFn f h).sels = s.sels := rfl
@[simp] theorem State.putFn_flagSets (s : State) (f : Nat) (h : HostFn) : (s.putFn f h).flagSets = s.flagSets := rfl
@[simp] theorem State.putFn_flagClears (s : State) (f : Nat) (h : HostFn) : (s.putFn f h).flagClears = s.flagClears := rfl
@[simp] theorem State.putFn_out (s : State) (f : Nat) (h : HostFn) : (s.putFn f h).out = s.out := rfl
@[simp] theorem State.putFn_sessions (s : State) (f : Nat) (h : HostFn) : (s.putFn f h).sessions = s.sessions := rfl
@[simp] theorem State.putFn_sds (s : State) (f : Nat) (h : HostFn) : (s.putFn f h).sds = s.sds := rfl
@[simp] theorem State.putFn_leaves (s : State) (f : Nat) (h : HostFn) : (s.putFn f h).leaves = s.leaves := rfl
@[simp] theorem State.putFn_pools (s : State) (f : Nat) (h : HostFn) : (s.putFn f h).pools = s.pools := rfl
@[simp] theorem State.putFn_mem (s : State) (f : Nat) (h : HostFn) : (s.putFn f h).mem = s.mem := rfl
@[simp] theorem State.putFn_cages (s : State) (f : Nat) (h : HostFn) : (s.putFn f h).cages = s.cages := rfl
@[simp] theorem State.putFn_heldWrites (s : State) (f : Nat) (h : HostFn) : (s.putFn f h).heldWrites = s.heldWrites := rfl
@[simp] theorem State.putFn_s0 (s : State) (f : Nat) (h : HostFn) : (s.putFn f h).s0 = s.s0 := rfl
@[simp] theorem State.putFn_s1 (s : State) (f : Nat) (h : HostFn) : (s.putFn f h).s1 = s.s1 := rfl
@[simp] theorem State.putFn_shifts (s : State) (f : Nat) (h : HostFn) : (s.putFn f h).shifts = s.shifts := rfl
@[simp] theorem State.putFn_samplers (s : State) (f : Nat) (h : HostFn) : (s.putFn f h).samplers = s.samplers := rfl
@[simp] theorem State.putFn_tenants (s : State) (f : Nat) (h : HostFn) : (s.putFn f h).tenants = s.tenants := rfl
@[simp] theorem State.putFn_kvShards (s : State) (f : Nat) (h : HostFn) : (s.putFn f h).kvShards = s.kvShards := rfl
@[simp] theorem State.putFn_attRequests (s : State) (f : Nat) (h : HostFn) : (s.putFn f h).attRequests = s.attRequests := rfl
@[simp] theorem State.putFn_splitSums (s : State) (f : Nat) (h : HostFn) : (s.putFn f h).splitSums = s.splitSums := rfl
@[simp] theorem State.putFn_domains (s : State) (f : Nat) (h : HostFn) : (s.putFn f h).domains = s.domains := rfl
@[simp] theorem State.putFn_guests (s : State) (f : Nat) (h : HostFn) : (s.putFn f h).guests = s.guests := rfl
@[simp] theorem State.putFn_fns (s : State) (f : Nat) (h : HostFn) : (s.putFn f h).fns = aset s.fns f h := rfl
@[simp] theorem State.putFn_expanders (s : State) (f : Nat) (h : HostFn) : (s.putFn f h).expanders = s.expanders := rfl
@[simp] theorem State.putFn_drives (s : State) (f : Nat) (h : HostFn) : (s.putFn f h).drives = s.drives := rfl
@[simp] theorem State.putFn_eths (s : State) (f : Nat) (h : HostFn) : (s.putFn f h).eths = s.eths := rfl
@[simp] theorem State.putFn_models (s : State) (f : Nat) (h : HostFn) : (s.putFn f h).models = s.models := rfl
@[simp] theorem State.putFn_profiles (s : State) (f : Nat) (h : HostFn) : (s.putFn f h).profiles = s.profiles := rfl
@[simp] theorem State.putFn_seqLists (s : State) (f : Nat) (h : HostFn) : (s.putFn f h).seqLists = s.seqLists := rfl
@[simp] theorem State.putFn_adapters (s : State) (f : Nat) (h : HostFn) : (s.putFn f h).adapters = s.adapters := rfl
@[simp] theorem State.putFn_rotation (s : State) (f : Nat) (h : HostFn) : (s.putFn f h).rotation = s.rotation := rfl
@[simp] theorem State.putFn_errLog (s : State) (f : Nat) (h : HostFn) : (s.putFn f h).errLog = s.errLog := rfl
@[simp] theorem State.putFn_power (s : State) (f : Nat) (h : HostFn) : (s.putFn f h).power = s.power := rfl
@[simp] theorem State.putFn_gallery (s : State) (f : Nat) (h : HostFn) : (s.putFn f h).gallery = s.gallery := rfl
@[simp] theorem State.putFn_channels (s : State) (f : Nat) (h : HostFn) : (s.putFn f h).channels = s.channels := rfl
@[simp] theorem State.putFn_hoistTurn (s : State) (f : Nat) (h : HostFn) : (s.putFn f h).hoistTurn = s.hoistTurn := rfl
@[simp] theorem State.putFn_migrations (s : State) (f : Nat) (h : HostFn) : (s.putFn f h).migrations = s.migrations := rfl
@[simp] theorem State.putFn_incoming (s : State) (f : Nat) (h : HostFn) : (s.putFn f h).incoming = s.incoming := rfl
@[simp] theorem State.putFn_tables (s : State) (f : Nat) (h : HostFn) : (s.putFn f h).tables = s.tables := rfl
@[simp] theorem State.putFn_checkpoint (s : State) (f : Nat) (h : HostFn) : (s.putFn f h).checkpoint = s.checkpoint := rfl
@[simp] theorem State.putFn_energyPorts (s : State) (f : Nat) (h : HostFn) : (s.putFn f h).energyPorts = s.energyPorts := rfl
@[simp] theorem State.putFn_security (s : State) (f : Nat) (h : HostFn) : (s.putFn f h).security = s.security := rfl
@[simp] theorem State.putFn_boot (s : State) (f : Nat) (h : HostFn) : (s.putFn f h).boot = s.boot := rfl
@[simp] theorem State.putFn_txns (s : State) (f : Nat) (h : HostFn) : (s.putFn f h).txns = s.txns := rfl
@[simp] theorem State.putFn_ctResults (s : State) (f : Nat) (h : HostFn) : (s.putFn f h).ctResults = s.ctResults := rfl
@[simp] theorem State.putFn_obs (s : State) (f : Nat) (h : HostFn) : (s.putFn f h).obs = s.obs := rfl
@[simp] theorem State.putFn_cores (s : State) (f : Nat) (h : HostFn) : (s.putFn f h).cores = s.cores := rfl
@[simp] theorem State.putFn_clusterSram (s : State) (f : Nat) (h : HostFn) : (s.putFn f h).clusterSram = s.clusterSram := rfl
@[simp] theorem State.putFn_kernelFaults (s : State) (f : Nat) (h : HostFn) : (s.putFn f h).kernelFaults = s.kernelFaults := rfl
@[simp] theorem State.putFn_appends (s : State) (f : Nat) (h : HostFn) : (s.putFn f h).appends = s.appends := rfl
@[simp] theorem State.putFn_sequencers (s : State) (f : Nat) (h : HostFn) : (s.putFn f h).sequencers = s.sequencers := rfl
@[simp] theorem State.putFn_programs (s : State) (f : Nat) (h : HostFn) : (s.putFn f h).programs = s.programs := rfl

/-! State.putLeaf -/

@[simp] theorem State.putLeaf_pending (s : State) (page : Nat) (l : Leaf) : (s.putLeaf page l).pending = s.pending := rfl
@[simp] theorem State.putLeaf_pt (s : State) (page : Nat) (l : Leaf) : (s.putLeaf page l).pt = s.pt := rfl
@[simp] theorem State.putLeaf_now (s : State) (page : Nat) (l : Leaf) : (s.putLeaf page l).now = s.now := rfl
@[simp] theorem State.putLeaf_draws (s : State) (page : Nat) (l : Leaf) : (s.putLeaf page l).draws = s.draws := rfl
@[simp] theorem State.putLeaf_regs (s : State) (page : Nat) (l : Leaf) : (s.putLeaf page l).regs = s.regs := rfl
@[simp] theorem State.putLeaf_sels (s : State) (page : Nat) (l : Leaf) : (s.putLeaf page l).sels = s.sels := rfl
@[simp] theorem State.putLeaf_flagSets (s : State) (page : Nat) (l : Leaf) : (s.putLeaf page l).flagSets = s.flagSets := rfl
@[simp] theorem State.putLeaf_flagClears (s : State) (page : Nat) (l : Leaf) : (s.putLeaf page l).flagClears = s.flagClears := rfl
@[simp] theorem State.putLeaf_out (s : State) (page : Nat) (l : Leaf) : (s.putLeaf page l).out = s.out := rfl
@[simp] theorem State.putLeaf_sessions (s : State) (page : Nat) (l : Leaf) : (s.putLeaf page l).sessions = s.sessions := rfl
@[simp] theorem State.putLeaf_sds (s : State) (page : Nat) (l : Leaf) : (s.putLeaf page l).sds = s.sds := rfl
@[simp] theorem State.putLeaf_leaves (s : State) (page : Nat) (l : Leaf) : (s.putLeaf page l).leaves = aset s.leaves page l := rfl
@[simp] theorem State.putLeaf_pools (s : State) (page : Nat) (l : Leaf) : (s.putLeaf page l).pools = s.pools := rfl
@[simp] theorem State.putLeaf_mem (s : State) (page : Nat) (l : Leaf) : (s.putLeaf page l).mem = s.mem := rfl
@[simp] theorem State.putLeaf_cages (s : State) (page : Nat) (l : Leaf) : (s.putLeaf page l).cages = s.cages := rfl
@[simp] theorem State.putLeaf_heldWrites (s : State) (page : Nat) (l : Leaf) : (s.putLeaf page l).heldWrites = s.heldWrites := rfl
@[simp] theorem State.putLeaf_s0 (s : State) (page : Nat) (l : Leaf) : (s.putLeaf page l).s0 = s.s0 := rfl
@[simp] theorem State.putLeaf_s1 (s : State) (page : Nat) (l : Leaf) : (s.putLeaf page l).s1 = s.s1 := rfl
@[simp] theorem State.putLeaf_shifts (s : State) (page : Nat) (l : Leaf) : (s.putLeaf page l).shifts = s.shifts := rfl
@[simp] theorem State.putLeaf_samplers (s : State) (page : Nat) (l : Leaf) : (s.putLeaf page l).samplers = s.samplers := rfl
@[simp] theorem State.putLeaf_tenants (s : State) (page : Nat) (l : Leaf) : (s.putLeaf page l).tenants = s.tenants := rfl
@[simp] theorem State.putLeaf_kvShards (s : State) (page : Nat) (l : Leaf) : (s.putLeaf page l).kvShards = s.kvShards := rfl
@[simp] theorem State.putLeaf_attRequests (s : State) (page : Nat) (l : Leaf) : (s.putLeaf page l).attRequests = s.attRequests := rfl
@[simp] theorem State.putLeaf_splitSums (s : State) (page : Nat) (l : Leaf) : (s.putLeaf page l).splitSums = s.splitSums := rfl
@[simp] theorem State.putLeaf_domains (s : State) (page : Nat) (l : Leaf) : (s.putLeaf page l).domains = s.domains := rfl
@[simp] theorem State.putLeaf_guests (s : State) (page : Nat) (l : Leaf) : (s.putLeaf page l).guests = s.guests := rfl
@[simp] theorem State.putLeaf_fns (s : State) (page : Nat) (l : Leaf) : (s.putLeaf page l).fns = s.fns := rfl
@[simp] theorem State.putLeaf_expanders (s : State) (page : Nat) (l : Leaf) : (s.putLeaf page l).expanders = s.expanders := rfl
@[simp] theorem State.putLeaf_drives (s : State) (page : Nat) (l : Leaf) : (s.putLeaf page l).drives = s.drives := rfl
@[simp] theorem State.putLeaf_eths (s : State) (page : Nat) (l : Leaf) : (s.putLeaf page l).eths = s.eths := rfl
@[simp] theorem State.putLeaf_models (s : State) (page : Nat) (l : Leaf) : (s.putLeaf page l).models = s.models := rfl
@[simp] theorem State.putLeaf_profiles (s : State) (page : Nat) (l : Leaf) : (s.putLeaf page l).profiles = s.profiles := rfl
@[simp] theorem State.putLeaf_seqLists (s : State) (page : Nat) (l : Leaf) : (s.putLeaf page l).seqLists = s.seqLists := rfl
@[simp] theorem State.putLeaf_adapters (s : State) (page : Nat) (l : Leaf) : (s.putLeaf page l).adapters = s.adapters := rfl
@[simp] theorem State.putLeaf_rotation (s : State) (page : Nat) (l : Leaf) : (s.putLeaf page l).rotation = s.rotation := rfl
@[simp] theorem State.putLeaf_errLog (s : State) (page : Nat) (l : Leaf) : (s.putLeaf page l).errLog = s.errLog := rfl
@[simp] theorem State.putLeaf_power (s : State) (page : Nat) (l : Leaf) : (s.putLeaf page l).power = s.power := rfl
@[simp] theorem State.putLeaf_gallery (s : State) (page : Nat) (l : Leaf) : (s.putLeaf page l).gallery = s.gallery := rfl
@[simp] theorem State.putLeaf_channels (s : State) (page : Nat) (l : Leaf) : (s.putLeaf page l).channels = s.channels := rfl
@[simp] theorem State.putLeaf_hoistTurn (s : State) (page : Nat) (l : Leaf) : (s.putLeaf page l).hoistTurn = s.hoistTurn := rfl
@[simp] theorem State.putLeaf_migrations (s : State) (page : Nat) (l : Leaf) : (s.putLeaf page l).migrations = s.migrations := rfl
@[simp] theorem State.putLeaf_incoming (s : State) (page : Nat) (l : Leaf) : (s.putLeaf page l).incoming = s.incoming := rfl
@[simp] theorem State.putLeaf_tables (s : State) (page : Nat) (l : Leaf) : (s.putLeaf page l).tables = s.tables := rfl
@[simp] theorem State.putLeaf_checkpoint (s : State) (page : Nat) (l : Leaf) : (s.putLeaf page l).checkpoint = s.checkpoint := rfl
@[simp] theorem State.putLeaf_energyPorts (s : State) (page : Nat) (l : Leaf) : (s.putLeaf page l).energyPorts = s.energyPorts := rfl
@[simp] theorem State.putLeaf_security (s : State) (page : Nat) (l : Leaf) : (s.putLeaf page l).security = s.security := rfl
@[simp] theorem State.putLeaf_boot (s : State) (page : Nat) (l : Leaf) : (s.putLeaf page l).boot = s.boot := rfl
@[simp] theorem State.putLeaf_txns (s : State) (page : Nat) (l : Leaf) : (s.putLeaf page l).txns = s.txns := rfl
@[simp] theorem State.putLeaf_ctResults (s : State) (page : Nat) (l : Leaf) : (s.putLeaf page l).ctResults = s.ctResults := rfl
@[simp] theorem State.putLeaf_obs (s : State) (page : Nat) (l : Leaf) : (s.putLeaf page l).obs = s.obs := rfl
@[simp] theorem State.putLeaf_cores (s : State) (page : Nat) (l : Leaf) : (s.putLeaf page l).cores = s.cores := rfl
@[simp] theorem State.putLeaf_clusterSram (s : State) (page : Nat) (l : Leaf) : (s.putLeaf page l).clusterSram = s.clusterSram := rfl
@[simp] theorem State.putLeaf_kernelFaults (s : State) (page : Nat) (l : Leaf) : (s.putLeaf page l).kernelFaults = s.kernelFaults := rfl
@[simp] theorem State.putLeaf_appends (s : State) (page : Nat) (l : Leaf) : (s.putLeaf page l).appends = s.appends := rfl
@[simp] theorem State.putLeaf_sequencers (s : State) (page : Nat) (l : Leaf) : (s.putLeaf page l).sequencers = s.sequencers := rfl
@[simp] theorem State.putLeaf_programs (s : State) (page : Nat) (l : Leaf) : (s.putLeaf page l).programs = s.programs := rfl

/-! State.updLeaf -/

@[simp] theorem State.updLeaf_pending (s : State) (page : Nat) (f : Leaf → Leaf) : (s.updLeaf page f).pending = s.pending := rfl
@[simp] theorem State.updLeaf_pt (s : State) (page : Nat) (f : Leaf → Leaf) : (s.updLeaf page f).pt = s.pt := rfl
@[simp] theorem State.updLeaf_now (s : State) (page : Nat) (f : Leaf → Leaf) : (s.updLeaf page f).now = s.now := rfl
@[simp] theorem State.updLeaf_draws (s : State) (page : Nat) (f : Leaf → Leaf) : (s.updLeaf page f).draws = s.draws := rfl
@[simp] theorem State.updLeaf_regs (s : State) (page : Nat) (f : Leaf → Leaf) : (s.updLeaf page f).regs = s.regs := rfl
@[simp] theorem State.updLeaf_sels (s : State) (page : Nat) (f : Leaf → Leaf) : (s.updLeaf page f).sels = s.sels := rfl
@[simp] theorem State.updLeaf_flagSets (s : State) (page : Nat) (f : Leaf → Leaf) : (s.updLeaf page f).flagSets = s.flagSets := rfl
@[simp] theorem State.updLeaf_flagClears (s : State) (page : Nat) (f : Leaf → Leaf) : (s.updLeaf page f).flagClears = s.flagClears := rfl
@[simp] theorem State.updLeaf_out (s : State) (page : Nat) (f : Leaf → Leaf) : (s.updLeaf page f).out = s.out := rfl
@[simp] theorem State.updLeaf_sessions (s : State) (page : Nat) (f : Leaf → Leaf) : (s.updLeaf page f).sessions = s.sessions := rfl
@[simp] theorem State.updLeaf_sds (s : State) (page : Nat) (f : Leaf → Leaf) : (s.updLeaf page f).sds = s.sds := rfl
@[simp] theorem State.updLeaf_leaves (s : State) (page : Nat) (f : Leaf → Leaf) : (s.updLeaf page f).leaves = aupd s.leaves page f := rfl
@[simp] theorem State.updLeaf_pools (s : State) (page : Nat) (f : Leaf → Leaf) : (s.updLeaf page f).pools = s.pools := rfl
@[simp] theorem State.updLeaf_mem (s : State) (page : Nat) (f : Leaf → Leaf) : (s.updLeaf page f).mem = s.mem := rfl
@[simp] theorem State.updLeaf_cages (s : State) (page : Nat) (f : Leaf → Leaf) : (s.updLeaf page f).cages = s.cages := rfl
@[simp] theorem State.updLeaf_heldWrites (s : State) (page : Nat) (f : Leaf → Leaf) : (s.updLeaf page f).heldWrites = s.heldWrites := rfl
@[simp] theorem State.updLeaf_s0 (s : State) (page : Nat) (f : Leaf → Leaf) : (s.updLeaf page f).s0 = s.s0 := rfl
@[simp] theorem State.updLeaf_s1 (s : State) (page : Nat) (f : Leaf → Leaf) : (s.updLeaf page f).s1 = s.s1 := rfl
@[simp] theorem State.updLeaf_shifts (s : State) (page : Nat) (f : Leaf → Leaf) : (s.updLeaf page f).shifts = s.shifts := rfl
@[simp] theorem State.updLeaf_samplers (s : State) (page : Nat) (f : Leaf → Leaf) : (s.updLeaf page f).samplers = s.samplers := rfl
@[simp] theorem State.updLeaf_tenants (s : State) (page : Nat) (f : Leaf → Leaf) : (s.updLeaf page f).tenants = s.tenants := rfl
@[simp] theorem State.updLeaf_kvShards (s : State) (page : Nat) (f : Leaf → Leaf) : (s.updLeaf page f).kvShards = s.kvShards := rfl
@[simp] theorem State.updLeaf_attRequests (s : State) (page : Nat) (f : Leaf → Leaf) : (s.updLeaf page f).attRequests = s.attRequests := rfl
@[simp] theorem State.updLeaf_splitSums (s : State) (page : Nat) (f : Leaf → Leaf) : (s.updLeaf page f).splitSums = s.splitSums := rfl
@[simp] theorem State.updLeaf_domains (s : State) (page : Nat) (f : Leaf → Leaf) : (s.updLeaf page f).domains = s.domains := rfl
@[simp] theorem State.updLeaf_guests (s : State) (page : Nat) (f : Leaf → Leaf) : (s.updLeaf page f).guests = s.guests := rfl
@[simp] theorem State.updLeaf_fns (s : State) (page : Nat) (f : Leaf → Leaf) : (s.updLeaf page f).fns = s.fns := rfl
@[simp] theorem State.updLeaf_expanders (s : State) (page : Nat) (f : Leaf → Leaf) : (s.updLeaf page f).expanders = s.expanders := rfl
@[simp] theorem State.updLeaf_drives (s : State) (page : Nat) (f : Leaf → Leaf) : (s.updLeaf page f).drives = s.drives := rfl
@[simp] theorem State.updLeaf_eths (s : State) (page : Nat) (f : Leaf → Leaf) : (s.updLeaf page f).eths = s.eths := rfl
@[simp] theorem State.updLeaf_models (s : State) (page : Nat) (f : Leaf → Leaf) : (s.updLeaf page f).models = s.models := rfl
@[simp] theorem State.updLeaf_profiles (s : State) (page : Nat) (f : Leaf → Leaf) : (s.updLeaf page f).profiles = s.profiles := rfl
@[simp] theorem State.updLeaf_seqLists (s : State) (page : Nat) (f : Leaf → Leaf) : (s.updLeaf page f).seqLists = s.seqLists := rfl
@[simp] theorem State.updLeaf_adapters (s : State) (page : Nat) (f : Leaf → Leaf) : (s.updLeaf page f).adapters = s.adapters := rfl
@[simp] theorem State.updLeaf_rotation (s : State) (page : Nat) (f : Leaf → Leaf) : (s.updLeaf page f).rotation = s.rotation := rfl
@[simp] theorem State.updLeaf_errLog (s : State) (page : Nat) (f : Leaf → Leaf) : (s.updLeaf page f).errLog = s.errLog := rfl
@[simp] theorem State.updLeaf_power (s : State) (page : Nat) (f : Leaf → Leaf) : (s.updLeaf page f).power = s.power := rfl
@[simp] theorem State.updLeaf_gallery (s : State) (page : Nat) (f : Leaf → Leaf) : (s.updLeaf page f).gallery = s.gallery := rfl
@[simp] theorem State.updLeaf_channels (s : State) (page : Nat) (f : Leaf → Leaf) : (s.updLeaf page f).channels = s.channels := rfl
@[simp] theorem State.updLeaf_hoistTurn (s : State) (page : Nat) (f : Leaf → Leaf) : (s.updLeaf page f).hoistTurn = s.hoistTurn := rfl
@[simp] theorem State.updLeaf_migrations (s : State) (page : Nat) (f : Leaf → Leaf) : (s.updLeaf page f).migrations = s.migrations := rfl
@[simp] theorem State.updLeaf_incoming (s : State) (page : Nat) (f : Leaf → Leaf) : (s.updLeaf page f).incoming = s.incoming := rfl
@[simp] theorem State.updLeaf_tables (s : State) (page : Nat) (f : Leaf → Leaf) : (s.updLeaf page f).tables = s.tables := rfl
@[simp] theorem State.updLeaf_checkpoint (s : State) (page : Nat) (f : Leaf → Leaf) : (s.updLeaf page f).checkpoint = s.checkpoint := rfl
@[simp] theorem State.updLeaf_energyPorts (s : State) (page : Nat) (f : Leaf → Leaf) : (s.updLeaf page f).energyPorts = s.energyPorts := rfl
@[simp] theorem State.updLeaf_security (s : State) (page : Nat) (f : Leaf → Leaf) : (s.updLeaf page f).security = s.security := rfl
@[simp] theorem State.updLeaf_boot (s : State) (page : Nat) (f : Leaf → Leaf) : (s.updLeaf page f).boot = s.boot := rfl
@[simp] theorem State.updLeaf_txns (s : State) (page : Nat) (f : Leaf → Leaf) : (s.updLeaf page f).txns = s.txns := rfl
@[simp] theorem State.updLeaf_ctResults (s : State) (page : Nat) (f : Leaf → Leaf) : (s.updLeaf page f).ctResults = s.ctResults := rfl
@[simp] theorem State.updLeaf_obs (s : State) (page : Nat) (f : Leaf → Leaf) : (s.updLeaf page f).obs = s.obs := rfl
@[simp] theorem State.updLeaf_cores (s : State) (page : Nat) (f : Leaf → Leaf) : (s.updLeaf page f).cores = s.cores := rfl
@[simp] theorem State.updLeaf_clusterSram (s : State) (page : Nat) (f : Leaf → Leaf) : (s.updLeaf page f).clusterSram = s.clusterSram := rfl
@[simp] theorem State.updLeaf_kernelFaults (s : State) (page : Nat) (f : Leaf → Leaf) : (s.updLeaf page f).kernelFaults = s.kernelFaults := rfl
@[simp] theorem State.updLeaf_appends (s : State) (page : Nat) (f : Leaf → Leaf) : (s.updLeaf page f).appends = s.appends := rfl
@[simp] theorem State.updLeaf_sequencers (s : State) (page : Nat) (f : Leaf → Leaf) : (s.updLeaf page f).sequencers = s.sequencers := rfl
@[simp] theorem State.updLeaf_programs (s : State) (page : Nat) (f : Leaf → Leaf) : (s.updLeaf page f).programs = s.programs := rfl

/-! State.putTenant -/

@[simp] theorem State.putTenant_pending (s : State) (t : Nat) (x : Tenant) : (s.putTenant t x).pending = s.pending := rfl
@[simp] theorem State.putTenant_pt (s : State) (t : Nat) (x : Tenant) : (s.putTenant t x).pt = s.pt := rfl
@[simp] theorem State.putTenant_now (s : State) (t : Nat) (x : Tenant) : (s.putTenant t x).now = s.now := rfl
@[simp] theorem State.putTenant_draws (s : State) (t : Nat) (x : Tenant) : (s.putTenant t x).draws = s.draws := rfl
@[simp] theorem State.putTenant_regs (s : State) (t : Nat) (x : Tenant) : (s.putTenant t x).regs = s.regs := rfl
@[simp] theorem State.putTenant_sels (s : State) (t : Nat) (x : Tenant) : (s.putTenant t x).sels = s.sels := rfl
@[simp] theorem State.putTenant_flagSets (s : State) (t : Nat) (x : Tenant) : (s.putTenant t x).flagSets = s.flagSets := rfl
@[simp] theorem State.putTenant_flagClears (s : State) (t : Nat) (x : Tenant) : (s.putTenant t x).flagClears = s.flagClears := rfl
@[simp] theorem State.putTenant_out (s : State) (t : Nat) (x : Tenant) : (s.putTenant t x).out = s.out := rfl
@[simp] theorem State.putTenant_sessions (s : State) (t : Nat) (x : Tenant) : (s.putTenant t x).sessions = s.sessions := rfl
@[simp] theorem State.putTenant_sds (s : State) (t : Nat) (x : Tenant) : (s.putTenant t x).sds = s.sds := rfl
@[simp] theorem State.putTenant_leaves (s : State) (t : Nat) (x : Tenant) : (s.putTenant t x).leaves = s.leaves := rfl
@[simp] theorem State.putTenant_pools (s : State) (t : Nat) (x : Tenant) : (s.putTenant t x).pools = s.pools := rfl
@[simp] theorem State.putTenant_mem (s : State) (t : Nat) (x : Tenant) : (s.putTenant t x).mem = s.mem := rfl
@[simp] theorem State.putTenant_cages (s : State) (t : Nat) (x : Tenant) : (s.putTenant t x).cages = s.cages := rfl
@[simp] theorem State.putTenant_heldWrites (s : State) (t : Nat) (x : Tenant) : (s.putTenant t x).heldWrites = s.heldWrites := rfl
@[simp] theorem State.putTenant_s0 (s : State) (t : Nat) (x : Tenant) : (s.putTenant t x).s0 = s.s0 := rfl
@[simp] theorem State.putTenant_s1 (s : State) (t : Nat) (x : Tenant) : (s.putTenant t x).s1 = s.s1 := rfl
@[simp] theorem State.putTenant_shifts (s : State) (t : Nat) (x : Tenant) : (s.putTenant t x).shifts = s.shifts := rfl
@[simp] theorem State.putTenant_samplers (s : State) (t : Nat) (x : Tenant) : (s.putTenant t x).samplers = s.samplers := rfl
@[simp] theorem State.putTenant_tenants (s : State) (t : Nat) (x : Tenant) : (s.putTenant t x).tenants = aset s.tenants t x := rfl
@[simp] theorem State.putTenant_kvShards (s : State) (t : Nat) (x : Tenant) : (s.putTenant t x).kvShards = s.kvShards := rfl
@[simp] theorem State.putTenant_attRequests (s : State) (t : Nat) (x : Tenant) : (s.putTenant t x).attRequests = s.attRequests := rfl
@[simp] theorem State.putTenant_splitSums (s : State) (t : Nat) (x : Tenant) : (s.putTenant t x).splitSums = s.splitSums := rfl
@[simp] theorem State.putTenant_domains (s : State) (t : Nat) (x : Tenant) : (s.putTenant t x).domains = s.domains := rfl
@[simp] theorem State.putTenant_guests (s : State) (t : Nat) (x : Tenant) : (s.putTenant t x).guests = s.guests := rfl
@[simp] theorem State.putTenant_fns (s : State) (t : Nat) (x : Tenant) : (s.putTenant t x).fns = s.fns := rfl
@[simp] theorem State.putTenant_expanders (s : State) (t : Nat) (x : Tenant) : (s.putTenant t x).expanders = s.expanders := rfl
@[simp] theorem State.putTenant_drives (s : State) (t : Nat) (x : Tenant) : (s.putTenant t x).drives = s.drives := rfl
@[simp] theorem State.putTenant_eths (s : State) (t : Nat) (x : Tenant) : (s.putTenant t x).eths = s.eths := rfl
@[simp] theorem State.putTenant_models (s : State) (t : Nat) (x : Tenant) : (s.putTenant t x).models = s.models := rfl
@[simp] theorem State.putTenant_profiles (s : State) (t : Nat) (x : Tenant) : (s.putTenant t x).profiles = s.profiles := rfl
@[simp] theorem State.putTenant_seqLists (s : State) (t : Nat) (x : Tenant) : (s.putTenant t x).seqLists = s.seqLists := rfl
@[simp] theorem State.putTenant_adapters (s : State) (t : Nat) (x : Tenant) : (s.putTenant t x).adapters = s.adapters := rfl
@[simp] theorem State.putTenant_rotation (s : State) (t : Nat) (x : Tenant) : (s.putTenant t x).rotation = s.rotation := rfl
@[simp] theorem State.putTenant_errLog (s : State) (t : Nat) (x : Tenant) : (s.putTenant t x).errLog = s.errLog := rfl
@[simp] theorem State.putTenant_power (s : State) (t : Nat) (x : Tenant) : (s.putTenant t x).power = s.power := rfl
@[simp] theorem State.putTenant_gallery (s : State) (t : Nat) (x : Tenant) : (s.putTenant t x).gallery = s.gallery := rfl
@[simp] theorem State.putTenant_channels (s : State) (t : Nat) (x : Tenant) : (s.putTenant t x).channels = s.channels := rfl
@[simp] theorem State.putTenant_hoistTurn (s : State) (t : Nat) (x : Tenant) : (s.putTenant t x).hoistTurn = s.hoistTurn := rfl
@[simp] theorem State.putTenant_migrations (s : State) (t : Nat) (x : Tenant) : (s.putTenant t x).migrations = s.migrations := rfl
@[simp] theorem State.putTenant_incoming (s : State) (t : Nat) (x : Tenant) : (s.putTenant t x).incoming = s.incoming := rfl
@[simp] theorem State.putTenant_tables (s : State) (t : Nat) (x : Tenant) : (s.putTenant t x).tables = s.tables := rfl
@[simp] theorem State.putTenant_checkpoint (s : State) (t : Nat) (x : Tenant) : (s.putTenant t x).checkpoint = s.checkpoint := rfl
@[simp] theorem State.putTenant_energyPorts (s : State) (t : Nat) (x : Tenant) : (s.putTenant t x).energyPorts = s.energyPorts := rfl
@[simp] theorem State.putTenant_security (s : State) (t : Nat) (x : Tenant) : (s.putTenant t x).security = s.security := rfl
@[simp] theorem State.putTenant_boot (s : State) (t : Nat) (x : Tenant) : (s.putTenant t x).boot = s.boot := rfl
@[simp] theorem State.putTenant_txns (s : State) (t : Nat) (x : Tenant) : (s.putTenant t x).txns = s.txns := rfl
@[simp] theorem State.putTenant_ctResults (s : State) (t : Nat) (x : Tenant) : (s.putTenant t x).ctResults = s.ctResults := rfl
@[simp] theorem State.putTenant_obs (s : State) (t : Nat) (x : Tenant) : (s.putTenant t x).obs = s.obs := rfl
@[simp] theorem State.putTenant_cores (s : State) (t : Nat) (x : Tenant) : (s.putTenant t x).cores = s.cores := rfl
@[simp] theorem State.putTenant_clusterSram (s : State) (t : Nat) (x : Tenant) : (s.putTenant t x).clusterSram = s.clusterSram := rfl
@[simp] theorem State.putTenant_kernelFaults (s : State) (t : Nat) (x : Tenant) : (s.putTenant t x).kernelFaults = s.kernelFaults := rfl
@[simp] theorem State.putTenant_appends (s : State) (t : Nat) (x : Tenant) : (s.putTenant t x).appends = s.appends := rfl
@[simp] theorem State.putTenant_sequencers (s : State) (t : Nat) (x : Tenant) : (s.putTenant t x).sequencers = s.sequencers := rfl
@[simp] theorem State.putTenant_programs (s : State) (t : Nat) (x : Tenant) : (s.putTenant t x).programs = s.programs := rfl

/-! State.setReg -/

@[simp] theorem State.setReg_pending (s : State) (addr v : Nat) : (s.setReg addr v).pending = s.pending := rfl
@[simp] theorem State.setReg_pt (s : State) (addr v : Nat) : (s.setReg addr v).pt = s.pt := rfl
@[simp] theorem State.setReg_now (s : State) (addr v : Nat) : (s.setReg addr v).now = s.now := rfl
@[simp] theorem State.setReg_draws (s : State) (addr v : Nat) : (s.setReg addr v).draws = s.draws := rfl
@[simp] theorem State.setReg_regs (s : State) (addr v : Nat) : (s.setReg addr v).regs = aset s.regs addr v := rfl
@[simp] theorem State.setReg_sels (s : State) (addr v : Nat) : (s.setReg addr v).sels = s.sels := rfl
@[simp] theorem State.setReg_flagSets (s : State) (addr v : Nat) : (s.setReg addr v).flagSets = s.flagSets := rfl
@[simp] theorem State.setReg_flagClears (s : State) (addr v : Nat) : (s.setReg addr v).flagClears = s.flagClears := rfl
@[simp] theorem State.setReg_out (s : State) (addr v : Nat) : (s.setReg addr v).out = s.out := rfl
@[simp] theorem State.setReg_sessions (s : State) (addr v : Nat) : (s.setReg addr v).sessions = s.sessions := rfl
@[simp] theorem State.setReg_sds (s : State) (addr v : Nat) : (s.setReg addr v).sds = s.sds := rfl
@[simp] theorem State.setReg_leaves (s : State) (addr v : Nat) : (s.setReg addr v).leaves = s.leaves := rfl
@[simp] theorem State.setReg_pools (s : State) (addr v : Nat) : (s.setReg addr v).pools = s.pools := rfl
@[simp] theorem State.setReg_mem (s : State) (addr v : Nat) : (s.setReg addr v).mem = s.mem := rfl
@[simp] theorem State.setReg_cages (s : State) (addr v : Nat) : (s.setReg addr v).cages = s.cages := rfl
@[simp] theorem State.setReg_heldWrites (s : State) (addr v : Nat) : (s.setReg addr v).heldWrites = s.heldWrites := rfl
@[simp] theorem State.setReg_s0 (s : State) (addr v : Nat) : (s.setReg addr v).s0 = s.s0 := rfl
@[simp] theorem State.setReg_s1 (s : State) (addr v : Nat) : (s.setReg addr v).s1 = s.s1 := rfl
@[simp] theorem State.setReg_shifts (s : State) (addr v : Nat) : (s.setReg addr v).shifts = s.shifts := rfl
@[simp] theorem State.setReg_samplers (s : State) (addr v : Nat) : (s.setReg addr v).samplers = s.samplers := rfl
@[simp] theorem State.setReg_tenants (s : State) (addr v : Nat) : (s.setReg addr v).tenants = s.tenants := rfl
@[simp] theorem State.setReg_kvShards (s : State) (addr v : Nat) : (s.setReg addr v).kvShards = s.kvShards := rfl
@[simp] theorem State.setReg_attRequests (s : State) (addr v : Nat) : (s.setReg addr v).attRequests = s.attRequests := rfl
@[simp] theorem State.setReg_splitSums (s : State) (addr v : Nat) : (s.setReg addr v).splitSums = s.splitSums := rfl
@[simp] theorem State.setReg_domains (s : State) (addr v : Nat) : (s.setReg addr v).domains = s.domains := rfl
@[simp] theorem State.setReg_guests (s : State) (addr v : Nat) : (s.setReg addr v).guests = s.guests := rfl
@[simp] theorem State.setReg_fns (s : State) (addr v : Nat) : (s.setReg addr v).fns = s.fns := rfl
@[simp] theorem State.setReg_expanders (s : State) (addr v : Nat) : (s.setReg addr v).expanders = s.expanders := rfl
@[simp] theorem State.setReg_drives (s : State) (addr v : Nat) : (s.setReg addr v).drives = s.drives := rfl
@[simp] theorem State.setReg_eths (s : State) (addr v : Nat) : (s.setReg addr v).eths = s.eths := rfl
@[simp] theorem State.setReg_models (s : State) (addr v : Nat) : (s.setReg addr v).models = s.models := rfl
@[simp] theorem State.setReg_profiles (s : State) (addr v : Nat) : (s.setReg addr v).profiles = s.profiles := rfl
@[simp] theorem State.setReg_seqLists (s : State) (addr v : Nat) : (s.setReg addr v).seqLists = s.seqLists := rfl
@[simp] theorem State.setReg_adapters (s : State) (addr v : Nat) : (s.setReg addr v).adapters = s.adapters := rfl
@[simp] theorem State.setReg_rotation (s : State) (addr v : Nat) : (s.setReg addr v).rotation = s.rotation := rfl
@[simp] theorem State.setReg_errLog (s : State) (addr v : Nat) : (s.setReg addr v).errLog = s.errLog := rfl
@[simp] theorem State.setReg_power (s : State) (addr v : Nat) : (s.setReg addr v).power = s.power := rfl
@[simp] theorem State.setReg_gallery (s : State) (addr v : Nat) : (s.setReg addr v).gallery = s.gallery := rfl
@[simp] theorem State.setReg_channels (s : State) (addr v : Nat) : (s.setReg addr v).channels = s.channels := rfl
@[simp] theorem State.setReg_hoistTurn (s : State) (addr v : Nat) : (s.setReg addr v).hoistTurn = s.hoistTurn := rfl
@[simp] theorem State.setReg_migrations (s : State) (addr v : Nat) : (s.setReg addr v).migrations = s.migrations := rfl
@[simp] theorem State.setReg_incoming (s : State) (addr v : Nat) : (s.setReg addr v).incoming = s.incoming := rfl
@[simp] theorem State.setReg_tables (s : State) (addr v : Nat) : (s.setReg addr v).tables = s.tables := rfl
@[simp] theorem State.setReg_checkpoint (s : State) (addr v : Nat) : (s.setReg addr v).checkpoint = s.checkpoint := rfl
@[simp] theorem State.setReg_energyPorts (s : State) (addr v : Nat) : (s.setReg addr v).energyPorts = s.energyPorts := rfl
@[simp] theorem State.setReg_security (s : State) (addr v : Nat) : (s.setReg addr v).security = s.security := rfl
@[simp] theorem State.setReg_boot (s : State) (addr v : Nat) : (s.setReg addr v).boot = s.boot := rfl
@[simp] theorem State.setReg_txns (s : State) (addr v : Nat) : (s.setReg addr v).txns = s.txns := rfl
@[simp] theorem State.setReg_ctResults (s : State) (addr v : Nat) : (s.setReg addr v).ctResults = s.ctResults := rfl
@[simp] theorem State.setReg_obs (s : State) (addr v : Nat) : (s.setReg addr v).obs = s.obs := rfl
@[simp] theorem State.setReg_cores (s : State) (addr v : Nat) : (s.setReg addr v).cores = s.cores := rfl
@[simp] theorem State.setReg_clusterSram (s : State) (addr v : Nat) : (s.setReg addr v).clusterSram = s.clusterSram := rfl
@[simp] theorem State.setReg_kernelFaults (s : State) (addr v : Nat) : (s.setReg addr v).kernelFaults = s.kernelFaults := rfl
@[simp] theorem State.setReg_appends (s : State) (addr v : Nat) : (s.setReg addr v).appends = s.appends := rfl
@[simp] theorem State.setReg_sequencers (s : State) (addr v : Nat) : (s.setReg addr v).sequencers = s.sequencers := rfl
@[simp] theorem State.setReg_programs (s : State) (addr v : Nat) : (s.setReg addr v).programs = s.programs := rfl

/-! State.setSel -/

@[simp] theorem State.setSel_pending (s : State) (port addr v : Nat) : (s.setSel port addr v).pending = s.pending := rfl
@[simp] theorem State.setSel_pt (s : State) (port addr v : Nat) : (s.setSel port addr v).pt = s.pt := rfl
@[simp] theorem State.setSel_now (s : State) (port addr v : Nat) : (s.setSel port addr v).now = s.now := rfl
@[simp] theorem State.setSel_draws (s : State) (port addr v : Nat) : (s.setSel port addr v).draws = s.draws := rfl
@[simp] theorem State.setSel_regs (s : State) (port addr v : Nat) : (s.setSel port addr v).regs = s.regs := rfl
@[simp] theorem State.setSel_sels (s : State) (port addr v : Nat) : (s.setSel port addr v).sels = aset s.sels (port * 2 ^ 28 + addr) v := rfl
@[simp] theorem State.setSel_flagSets (s : State) (port addr v : Nat) : (s.setSel port addr v).flagSets = s.flagSets := rfl
@[simp] theorem State.setSel_flagClears (s : State) (port addr v : Nat) : (s.setSel port addr v).flagClears = s.flagClears := rfl
@[simp] theorem State.setSel_out (s : State) (port addr v : Nat) : (s.setSel port addr v).out = s.out := rfl
@[simp] theorem State.setSel_sessions (s : State) (port addr v : Nat) : (s.setSel port addr v).sessions = s.sessions := rfl
@[simp] theorem State.setSel_sds (s : State) (port addr v : Nat) : (s.setSel port addr v).sds = s.sds := rfl
@[simp] theorem State.setSel_leaves (s : State) (port addr v : Nat) : (s.setSel port addr v).leaves = s.leaves := rfl
@[simp] theorem State.setSel_pools (s : State) (port addr v : Nat) : (s.setSel port addr v).pools = s.pools := rfl
@[simp] theorem State.setSel_mem (s : State) (port addr v : Nat) : (s.setSel port addr v).mem = s.mem := rfl
@[simp] theorem State.setSel_cages (s : State) (port addr v : Nat) : (s.setSel port addr v).cages = s.cages := rfl
@[simp] theorem State.setSel_heldWrites (s : State) (port addr v : Nat) : (s.setSel port addr v).heldWrites = s.heldWrites := rfl
@[simp] theorem State.setSel_s0 (s : State) (port addr v : Nat) : (s.setSel port addr v).s0 = s.s0 := rfl
@[simp] theorem State.setSel_s1 (s : State) (port addr v : Nat) : (s.setSel port addr v).s1 = s.s1 := rfl
@[simp] theorem State.setSel_shifts (s : State) (port addr v : Nat) : (s.setSel port addr v).shifts = s.shifts := rfl
@[simp] theorem State.setSel_samplers (s : State) (port addr v : Nat) : (s.setSel port addr v).samplers = s.samplers := rfl
@[simp] theorem State.setSel_tenants (s : State) (port addr v : Nat) : (s.setSel port addr v).tenants = s.tenants := rfl
@[simp] theorem State.setSel_kvShards (s : State) (port addr v : Nat) : (s.setSel port addr v).kvShards = s.kvShards := rfl
@[simp] theorem State.setSel_attRequests (s : State) (port addr v : Nat) : (s.setSel port addr v).attRequests = s.attRequests := rfl
@[simp] theorem State.setSel_splitSums (s : State) (port addr v : Nat) : (s.setSel port addr v).splitSums = s.splitSums := rfl
@[simp] theorem State.setSel_domains (s : State) (port addr v : Nat) : (s.setSel port addr v).domains = s.domains := rfl
@[simp] theorem State.setSel_guests (s : State) (port addr v : Nat) : (s.setSel port addr v).guests = s.guests := rfl
@[simp] theorem State.setSel_fns (s : State) (port addr v : Nat) : (s.setSel port addr v).fns = s.fns := rfl
@[simp] theorem State.setSel_expanders (s : State) (port addr v : Nat) : (s.setSel port addr v).expanders = s.expanders := rfl
@[simp] theorem State.setSel_drives (s : State) (port addr v : Nat) : (s.setSel port addr v).drives = s.drives := rfl
@[simp] theorem State.setSel_eths (s : State) (port addr v : Nat) : (s.setSel port addr v).eths = s.eths := rfl
@[simp] theorem State.setSel_models (s : State) (port addr v : Nat) : (s.setSel port addr v).models = s.models := rfl
@[simp] theorem State.setSel_profiles (s : State) (port addr v : Nat) : (s.setSel port addr v).profiles = s.profiles := rfl
@[simp] theorem State.setSel_seqLists (s : State) (port addr v : Nat) : (s.setSel port addr v).seqLists = s.seqLists := rfl
@[simp] theorem State.setSel_adapters (s : State) (port addr v : Nat) : (s.setSel port addr v).adapters = s.adapters := rfl
@[simp] theorem State.setSel_rotation (s : State) (port addr v : Nat) : (s.setSel port addr v).rotation = s.rotation := rfl
@[simp] theorem State.setSel_errLog (s : State) (port addr v : Nat) : (s.setSel port addr v).errLog = s.errLog := rfl
@[simp] theorem State.setSel_power (s : State) (port addr v : Nat) : (s.setSel port addr v).power = s.power := rfl
@[simp] theorem State.setSel_gallery (s : State) (port addr v : Nat) : (s.setSel port addr v).gallery = s.gallery := rfl
@[simp] theorem State.setSel_channels (s : State) (port addr v : Nat) : (s.setSel port addr v).channels = s.channels := rfl
@[simp] theorem State.setSel_hoistTurn (s : State) (port addr v : Nat) : (s.setSel port addr v).hoistTurn = s.hoistTurn := rfl
@[simp] theorem State.setSel_migrations (s : State) (port addr v : Nat) : (s.setSel port addr v).migrations = s.migrations := rfl
@[simp] theorem State.setSel_incoming (s : State) (port addr v : Nat) : (s.setSel port addr v).incoming = s.incoming := rfl
@[simp] theorem State.setSel_tables (s : State) (port addr v : Nat) : (s.setSel port addr v).tables = s.tables := rfl
@[simp] theorem State.setSel_checkpoint (s : State) (port addr v : Nat) : (s.setSel port addr v).checkpoint = s.checkpoint := rfl
@[simp] theorem State.setSel_energyPorts (s : State) (port addr v : Nat) : (s.setSel port addr v).energyPorts = s.energyPorts := rfl
@[simp] theorem State.setSel_security (s : State) (port addr v : Nat) : (s.setSel port addr v).security = s.security := rfl
@[simp] theorem State.setSel_boot (s : State) (port addr v : Nat) : (s.setSel port addr v).boot = s.boot := rfl
@[simp] theorem State.setSel_txns (s : State) (port addr v : Nat) : (s.setSel port addr v).txns = s.txns := rfl
@[simp] theorem State.setSel_ctResults (s : State) (port addr v : Nat) : (s.setSel port addr v).ctResults = s.ctResults := rfl
@[simp] theorem State.setSel_obs (s : State) (port addr v : Nat) : (s.setSel port addr v).obs = s.obs := rfl
@[simp] theorem State.setSel_cores (s : State) (port addr v : Nat) : (s.setSel port addr v).cores = s.cores := rfl
@[simp] theorem State.setSel_clusterSram (s : State) (port addr v : Nat) : (s.setSel port addr v).clusterSram = s.clusterSram := rfl
@[simp] theorem State.setSel_kernelFaults (s : State) (port addr v : Nat) : (s.setSel port addr v).kernelFaults = s.kernelFaults := rfl
@[simp] theorem State.setSel_appends (s : State) (port addr v : Nat) : (s.setSel port addr v).appends = s.appends := rfl
@[simp] theorem State.setSel_sequencers (s : State) (port addr v : Nat) : (s.setSel port addr v).sequencers = s.sequencers := rfl
@[simp] theorem State.setSel_programs (s : State) (port addr v : Nat) : (s.setSel port addr v).programs = s.programs := rfl

/-! State.putBoot -/

@[simp] theorem State.putBoot_pending (s : State) (b : Boot) : (s.putBoot b).pending = s.pending := rfl
@[simp] theorem State.putBoot_pt (s : State) (b : Boot) : (s.putBoot b).pt = s.pt := rfl
@[simp] theorem State.putBoot_now (s : State) (b : Boot) : (s.putBoot b).now = s.now := rfl
@[simp] theorem State.putBoot_draws (s : State) (b : Boot) : (s.putBoot b).draws = s.draws := rfl
@[simp] theorem State.putBoot_regs (s : State) (b : Boot) : (s.putBoot b).regs = s.regs := rfl
@[simp] theorem State.putBoot_sels (s : State) (b : Boot) : (s.putBoot b).sels = s.sels := rfl
@[simp] theorem State.putBoot_flagSets (s : State) (b : Boot) : (s.putBoot b).flagSets = s.flagSets := rfl
@[simp] theorem State.putBoot_flagClears (s : State) (b : Boot) : (s.putBoot b).flagClears = s.flagClears := rfl
@[simp] theorem State.putBoot_out (s : State) (b : Boot) : (s.putBoot b).out = s.out := rfl
@[simp] theorem State.putBoot_sessions (s : State) (b : Boot) : (s.putBoot b).sessions = s.sessions := rfl
@[simp] theorem State.putBoot_sds (s : State) (b : Boot) : (s.putBoot b).sds = s.sds := rfl
@[simp] theorem State.putBoot_leaves (s : State) (b : Boot) : (s.putBoot b).leaves = s.leaves := rfl
@[simp] theorem State.putBoot_pools (s : State) (b : Boot) : (s.putBoot b).pools = s.pools := rfl
@[simp] theorem State.putBoot_mem (s : State) (b : Boot) : (s.putBoot b).mem = s.mem := rfl
@[simp] theorem State.putBoot_cages (s : State) (b : Boot) : (s.putBoot b).cages = s.cages := rfl
@[simp] theorem State.putBoot_heldWrites (s : State) (b : Boot) : (s.putBoot b).heldWrites = s.heldWrites := rfl
@[simp] theorem State.putBoot_s0 (s : State) (b : Boot) : (s.putBoot b).s0 = s.s0 := rfl
@[simp] theorem State.putBoot_s1 (s : State) (b : Boot) : (s.putBoot b).s1 = s.s1 := rfl
@[simp] theorem State.putBoot_shifts (s : State) (b : Boot) : (s.putBoot b).shifts = s.shifts := rfl
@[simp] theorem State.putBoot_samplers (s : State) (b : Boot) : (s.putBoot b).samplers = s.samplers := rfl
@[simp] theorem State.putBoot_tenants (s : State) (b : Boot) : (s.putBoot b).tenants = s.tenants := rfl
@[simp] theorem State.putBoot_kvShards (s : State) (b : Boot) : (s.putBoot b).kvShards = s.kvShards := rfl
@[simp] theorem State.putBoot_attRequests (s : State) (b : Boot) : (s.putBoot b).attRequests = s.attRequests := rfl
@[simp] theorem State.putBoot_splitSums (s : State) (b : Boot) : (s.putBoot b).splitSums = s.splitSums := rfl
@[simp] theorem State.putBoot_domains (s : State) (b : Boot) : (s.putBoot b).domains = s.domains := rfl
@[simp] theorem State.putBoot_guests (s : State) (b : Boot) : (s.putBoot b).guests = s.guests := rfl
@[simp] theorem State.putBoot_fns (s : State) (b : Boot) : (s.putBoot b).fns = s.fns := rfl
@[simp] theorem State.putBoot_expanders (s : State) (b : Boot) : (s.putBoot b).expanders = s.expanders := rfl
@[simp] theorem State.putBoot_drives (s : State) (b : Boot) : (s.putBoot b).drives = s.drives := rfl
@[simp] theorem State.putBoot_eths (s : State) (b : Boot) : (s.putBoot b).eths = s.eths := rfl
@[simp] theorem State.putBoot_models (s : State) (b : Boot) : (s.putBoot b).models = s.models := rfl
@[simp] theorem State.putBoot_profiles (s : State) (b : Boot) : (s.putBoot b).profiles = s.profiles := rfl
@[simp] theorem State.putBoot_seqLists (s : State) (b : Boot) : (s.putBoot b).seqLists = s.seqLists := rfl
@[simp] theorem State.putBoot_adapters (s : State) (b : Boot) : (s.putBoot b).adapters = s.adapters := rfl
@[simp] theorem State.putBoot_rotation (s : State) (b : Boot) : (s.putBoot b).rotation = s.rotation := rfl
@[simp] theorem State.putBoot_errLog (s : State) (b : Boot) : (s.putBoot b).errLog = s.errLog := rfl
@[simp] theorem State.putBoot_power (s : State) (b : Boot) : (s.putBoot b).power = s.power := rfl
@[simp] theorem State.putBoot_gallery (s : State) (b : Boot) : (s.putBoot b).gallery = s.gallery := rfl
@[simp] theorem State.putBoot_channels (s : State) (b : Boot) : (s.putBoot b).channels = s.channels := rfl
@[simp] theorem State.putBoot_hoistTurn (s : State) (b : Boot) : (s.putBoot b).hoistTurn = s.hoistTurn := rfl
@[simp] theorem State.putBoot_migrations (s : State) (b : Boot) : (s.putBoot b).migrations = s.migrations := rfl
@[simp] theorem State.putBoot_incoming (s : State) (b : Boot) : (s.putBoot b).incoming = s.incoming := rfl
@[simp] theorem State.putBoot_tables (s : State) (b : Boot) : (s.putBoot b).tables = s.tables := rfl
@[simp] theorem State.putBoot_checkpoint (s : State) (b : Boot) : (s.putBoot b).checkpoint = s.checkpoint := rfl
@[simp] theorem State.putBoot_energyPorts (s : State) (b : Boot) : (s.putBoot b).energyPorts = s.energyPorts := rfl
@[simp] theorem State.putBoot_security (s : State) (b : Boot) : (s.putBoot b).security = s.security := rfl
@[simp] theorem State.putBoot_boot (s : State) (b : Boot) : (s.putBoot b).boot = b := rfl
@[simp] theorem State.putBoot_txns (s : State) (b : Boot) : (s.putBoot b).txns = s.txns := rfl
@[simp] theorem State.putBoot_ctResults (s : State) (b : Boot) : (s.putBoot b).ctResults = s.ctResults := rfl
@[simp] theorem State.putBoot_obs (s : State) (b : Boot) : (s.putBoot b).obs = s.obs := rfl
@[simp] theorem State.putBoot_cores (s : State) (b : Boot) : (s.putBoot b).cores = s.cores := rfl
@[simp] theorem State.putBoot_clusterSram (s : State) (b : Boot) : (s.putBoot b).clusterSram = s.clusterSram := rfl
@[simp] theorem State.putBoot_kernelFaults (s : State) (b : Boot) : (s.putBoot b).kernelFaults = s.kernelFaults := rfl
@[simp] theorem State.putBoot_appends (s : State) (b : Boot) : (s.putBoot b).appends = s.appends := rfl
@[simp] theorem State.putBoot_sequencers (s : State) (b : Boot) : (s.putBoot b).sequencers = s.sequencers := rfl
@[simp] theorem State.putBoot_programs (s : State) (b : Boot) : (s.putBoot b).programs = s.programs := rfl

/-! State.putCkp -/

@[simp] theorem State.putCkp_pending (s : State) (c : Checkpoint) : (s.putCkp c).pending = s.pending := rfl
@[simp] theorem State.putCkp_pt (s : State) (c : Checkpoint) : (s.putCkp c).pt = s.pt := rfl
@[simp] theorem State.putCkp_now (s : State) (c : Checkpoint) : (s.putCkp c).now = s.now := rfl
@[simp] theorem State.putCkp_draws (s : State) (c : Checkpoint) : (s.putCkp c).draws = s.draws := rfl
@[simp] theorem State.putCkp_regs (s : State) (c : Checkpoint) : (s.putCkp c).regs = s.regs := rfl
@[simp] theorem State.putCkp_sels (s : State) (c : Checkpoint) : (s.putCkp c).sels = s.sels := rfl
@[simp] theorem State.putCkp_flagSets (s : State) (c : Checkpoint) : (s.putCkp c).flagSets = s.flagSets := rfl
@[simp] theorem State.putCkp_flagClears (s : State) (c : Checkpoint) : (s.putCkp c).flagClears = s.flagClears := rfl
@[simp] theorem State.putCkp_out (s : State) (c : Checkpoint) : (s.putCkp c).out = s.out := rfl
@[simp] theorem State.putCkp_sessions (s : State) (c : Checkpoint) : (s.putCkp c).sessions = s.sessions := rfl
@[simp] theorem State.putCkp_sds (s : State) (c : Checkpoint) : (s.putCkp c).sds = s.sds := rfl
@[simp] theorem State.putCkp_leaves (s : State) (c : Checkpoint) : (s.putCkp c).leaves = s.leaves := rfl
@[simp] theorem State.putCkp_pools (s : State) (c : Checkpoint) : (s.putCkp c).pools = s.pools := rfl
@[simp] theorem State.putCkp_mem (s : State) (c : Checkpoint) : (s.putCkp c).mem = s.mem := rfl
@[simp] theorem State.putCkp_cages (s : State) (c : Checkpoint) : (s.putCkp c).cages = s.cages := rfl
@[simp] theorem State.putCkp_heldWrites (s : State) (c : Checkpoint) : (s.putCkp c).heldWrites = s.heldWrites := rfl
@[simp] theorem State.putCkp_s0 (s : State) (c : Checkpoint) : (s.putCkp c).s0 = s.s0 := rfl
@[simp] theorem State.putCkp_s1 (s : State) (c : Checkpoint) : (s.putCkp c).s1 = s.s1 := rfl
@[simp] theorem State.putCkp_shifts (s : State) (c : Checkpoint) : (s.putCkp c).shifts = s.shifts := rfl
@[simp] theorem State.putCkp_samplers (s : State) (c : Checkpoint) : (s.putCkp c).samplers = s.samplers := rfl
@[simp] theorem State.putCkp_tenants (s : State) (c : Checkpoint) : (s.putCkp c).tenants = s.tenants := rfl
@[simp] theorem State.putCkp_kvShards (s : State) (c : Checkpoint) : (s.putCkp c).kvShards = s.kvShards := rfl
@[simp] theorem State.putCkp_attRequests (s : State) (c : Checkpoint) : (s.putCkp c).attRequests = s.attRequests := rfl
@[simp] theorem State.putCkp_splitSums (s : State) (c : Checkpoint) : (s.putCkp c).splitSums = s.splitSums := rfl
@[simp] theorem State.putCkp_domains (s : State) (c : Checkpoint) : (s.putCkp c).domains = s.domains := rfl
@[simp] theorem State.putCkp_guests (s : State) (c : Checkpoint) : (s.putCkp c).guests = s.guests := rfl
@[simp] theorem State.putCkp_fns (s : State) (c : Checkpoint) : (s.putCkp c).fns = s.fns := rfl
@[simp] theorem State.putCkp_expanders (s : State) (c : Checkpoint) : (s.putCkp c).expanders = s.expanders := rfl
@[simp] theorem State.putCkp_drives (s : State) (c : Checkpoint) : (s.putCkp c).drives = s.drives := rfl
@[simp] theorem State.putCkp_eths (s : State) (c : Checkpoint) : (s.putCkp c).eths = s.eths := rfl
@[simp] theorem State.putCkp_models (s : State) (c : Checkpoint) : (s.putCkp c).models = s.models := rfl
@[simp] theorem State.putCkp_profiles (s : State) (c : Checkpoint) : (s.putCkp c).profiles = s.profiles := rfl
@[simp] theorem State.putCkp_seqLists (s : State) (c : Checkpoint) : (s.putCkp c).seqLists = s.seqLists := rfl
@[simp] theorem State.putCkp_adapters (s : State) (c : Checkpoint) : (s.putCkp c).adapters = s.adapters := rfl
@[simp] theorem State.putCkp_rotation (s : State) (c : Checkpoint) : (s.putCkp c).rotation = s.rotation := rfl
@[simp] theorem State.putCkp_errLog (s : State) (c : Checkpoint) : (s.putCkp c).errLog = s.errLog := rfl
@[simp] theorem State.putCkp_power (s : State) (c : Checkpoint) : (s.putCkp c).power = s.power := rfl
@[simp] theorem State.putCkp_gallery (s : State) (c : Checkpoint) : (s.putCkp c).gallery = s.gallery := rfl
@[simp] theorem State.putCkp_channels (s : State) (c : Checkpoint) : (s.putCkp c).channels = s.channels := rfl
@[simp] theorem State.putCkp_hoistTurn (s : State) (c : Checkpoint) : (s.putCkp c).hoistTurn = s.hoistTurn := rfl
@[simp] theorem State.putCkp_migrations (s : State) (c : Checkpoint) : (s.putCkp c).migrations = s.migrations := rfl
@[simp] theorem State.putCkp_incoming (s : State) (c : Checkpoint) : (s.putCkp c).incoming = s.incoming := rfl
@[simp] theorem State.putCkp_tables (s : State) (c : Checkpoint) : (s.putCkp c).tables = s.tables := rfl
@[simp] theorem State.putCkp_checkpoint (s : State) (c : Checkpoint) : (s.putCkp c).checkpoint = c := rfl
@[simp] theorem State.putCkp_energyPorts (s : State) (c : Checkpoint) : (s.putCkp c).energyPorts = s.energyPorts := rfl
@[simp] theorem State.putCkp_security (s : State) (c : Checkpoint) : (s.putCkp c).security = s.security := rfl
@[simp] theorem State.putCkp_boot (s : State) (c : Checkpoint) : (s.putCkp c).boot = s.boot := rfl
@[simp] theorem State.putCkp_txns (s : State) (c : Checkpoint) : (s.putCkp c).txns = s.txns := rfl
@[simp] theorem State.putCkp_ctResults (s : State) (c : Checkpoint) : (s.putCkp c).ctResults = s.ctResults := rfl
@[simp] theorem State.putCkp_obs (s : State) (c : Checkpoint) : (s.putCkp c).obs = s.obs := rfl
@[simp] theorem State.putCkp_cores (s : State) (c : Checkpoint) : (s.putCkp c).cores = s.cores := rfl
@[simp] theorem State.putCkp_clusterSram (s : State) (c : Checkpoint) : (s.putCkp c).clusterSram = s.clusterSram := rfl
@[simp] theorem State.putCkp_kernelFaults (s : State) (c : Checkpoint) : (s.putCkp c).kernelFaults = s.kernelFaults := rfl
@[simp] theorem State.putCkp_appends (s : State) (c : Checkpoint) : (s.putCkp c).appends = s.appends := rfl
@[simp] theorem State.putCkp_sequencers (s : State) (c : Checkpoint) : (s.putCkp c).sequencers = s.sequencers := rfl
@[simp] theorem State.putCkp_programs (s : State) (c : Checkpoint) : (s.putCkp c).programs = s.programs := rfl

/-! State.putEth -/

@[simp] theorem State.putEth_pending (s : State) (p : Nat) (e : EthPort) : (s.putEth p e).pending = s.pending := rfl
@[simp] theorem State.putEth_pt (s : State) (p : Nat) (e : EthPort) : (s.putEth p e).pt = s.pt := rfl
@[simp] theorem State.putEth_now (s : State) (p : Nat) (e : EthPort) : (s.putEth p e).now = s.now := rfl
@[simp] theorem State.putEth_draws (s : State) (p : Nat) (e : EthPort) : (s.putEth p e).draws = s.draws := rfl
@[simp] theorem State.putEth_regs (s : State) (p : Nat) (e : EthPort) : (s.putEth p e).regs = s.regs := rfl
@[simp] theorem State.putEth_sels (s : State) (p : Nat) (e : EthPort) : (s.putEth p e).sels = s.sels := rfl
@[simp] theorem State.putEth_flagSets (s : State) (p : Nat) (e : EthPort) : (s.putEth p e).flagSets = s.flagSets := rfl
@[simp] theorem State.putEth_flagClears (s : State) (p : Nat) (e : EthPort) : (s.putEth p e).flagClears = s.flagClears := rfl
@[simp] theorem State.putEth_out (s : State) (p : Nat) (e : EthPort) : (s.putEth p e).out = s.out := rfl
@[simp] theorem State.putEth_sessions (s : State) (p : Nat) (e : EthPort) : (s.putEth p e).sessions = s.sessions := rfl
@[simp] theorem State.putEth_sds (s : State) (p : Nat) (e : EthPort) : (s.putEth p e).sds = s.sds := rfl
@[simp] theorem State.putEth_leaves (s : State) (p : Nat) (e : EthPort) : (s.putEth p e).leaves = s.leaves := rfl
@[simp] theorem State.putEth_pools (s : State) (p : Nat) (e : EthPort) : (s.putEth p e).pools = s.pools := rfl
@[simp] theorem State.putEth_mem (s : State) (p : Nat) (e : EthPort) : (s.putEth p e).mem = s.mem := rfl
@[simp] theorem State.putEth_cages (s : State) (p : Nat) (e : EthPort) : (s.putEth p e).cages = s.cages := rfl
@[simp] theorem State.putEth_heldWrites (s : State) (p : Nat) (e : EthPort) : (s.putEth p e).heldWrites = s.heldWrites := rfl
@[simp] theorem State.putEth_s0 (s : State) (p : Nat) (e : EthPort) : (s.putEth p e).s0 = s.s0 := rfl
@[simp] theorem State.putEth_s1 (s : State) (p : Nat) (e : EthPort) : (s.putEth p e).s1 = s.s1 := rfl
@[simp] theorem State.putEth_shifts (s : State) (p : Nat) (e : EthPort) : (s.putEth p e).shifts = s.shifts := rfl
@[simp] theorem State.putEth_samplers (s : State) (p : Nat) (e : EthPort) : (s.putEth p e).samplers = s.samplers := rfl
@[simp] theorem State.putEth_tenants (s : State) (p : Nat) (e : EthPort) : (s.putEth p e).tenants = s.tenants := rfl
@[simp] theorem State.putEth_kvShards (s : State) (p : Nat) (e : EthPort) : (s.putEth p e).kvShards = s.kvShards := rfl
@[simp] theorem State.putEth_attRequests (s : State) (p : Nat) (e : EthPort) : (s.putEth p e).attRequests = s.attRequests := rfl
@[simp] theorem State.putEth_splitSums (s : State) (p : Nat) (e : EthPort) : (s.putEth p e).splitSums = s.splitSums := rfl
@[simp] theorem State.putEth_domains (s : State) (p : Nat) (e : EthPort) : (s.putEth p e).domains = s.domains := rfl
@[simp] theorem State.putEth_guests (s : State) (p : Nat) (e : EthPort) : (s.putEth p e).guests = s.guests := rfl
@[simp] theorem State.putEth_fns (s : State) (p : Nat) (e : EthPort) : (s.putEth p e).fns = s.fns := rfl
@[simp] theorem State.putEth_expanders (s : State) (p : Nat) (e : EthPort) : (s.putEth p e).expanders = s.expanders := rfl
@[simp] theorem State.putEth_drives (s : State) (p : Nat) (e : EthPort) : (s.putEth p e).drives = s.drives := rfl
@[simp] theorem State.putEth_eths (s : State) (p : Nat) (e : EthPort) : (s.putEth p e).eths = aset s.eths p e := rfl
@[simp] theorem State.putEth_models (s : State) (p : Nat) (e : EthPort) : (s.putEth p e).models = s.models := rfl
@[simp] theorem State.putEth_profiles (s : State) (p : Nat) (e : EthPort) : (s.putEth p e).profiles = s.profiles := rfl
@[simp] theorem State.putEth_seqLists (s : State) (p : Nat) (e : EthPort) : (s.putEth p e).seqLists = s.seqLists := rfl
@[simp] theorem State.putEth_adapters (s : State) (p : Nat) (e : EthPort) : (s.putEth p e).adapters = s.adapters := rfl
@[simp] theorem State.putEth_rotation (s : State) (p : Nat) (e : EthPort) : (s.putEth p e).rotation = s.rotation := rfl
@[simp] theorem State.putEth_errLog (s : State) (p : Nat) (e : EthPort) : (s.putEth p e).errLog = s.errLog := rfl
@[simp] theorem State.putEth_power (s : State) (p : Nat) (e : EthPort) : (s.putEth p e).power = s.power := rfl
@[simp] theorem State.putEth_gallery (s : State) (p : Nat) (e : EthPort) : (s.putEth p e).gallery = s.gallery := rfl
@[simp] theorem State.putEth_channels (s : State) (p : Nat) (e : EthPort) : (s.putEth p e).channels = s.channels := rfl
@[simp] theorem State.putEth_hoistTurn (s : State) (p : Nat) (e : EthPort) : (s.putEth p e).hoistTurn = s.hoistTurn := rfl
@[simp] theorem State.putEth_migrations (s : State) (p : Nat) (e : EthPort) : (s.putEth p e).migrations = s.migrations := rfl
@[simp] theorem State.putEth_incoming (s : State) (p : Nat) (e : EthPort) : (s.putEth p e).incoming = s.incoming := rfl
@[simp] theorem State.putEth_tables (s : State) (p : Nat) (e : EthPort) : (s.putEth p e).tables = s.tables := rfl
@[simp] theorem State.putEth_checkpoint (s : State) (p : Nat) (e : EthPort) : (s.putEth p e).checkpoint = s.checkpoint := rfl
@[simp] theorem State.putEth_energyPorts (s : State) (p : Nat) (e : EthPort) : (s.putEth p e).energyPorts = s.energyPorts := rfl
@[simp] theorem State.putEth_security (s : State) (p : Nat) (e : EthPort) : (s.putEth p e).security = s.security := rfl
@[simp] theorem State.putEth_boot (s : State) (p : Nat) (e : EthPort) : (s.putEth p e).boot = s.boot := rfl
@[simp] theorem State.putEth_txns (s : State) (p : Nat) (e : EthPort) : (s.putEth p e).txns = s.txns := rfl
@[simp] theorem State.putEth_ctResults (s : State) (p : Nat) (e : EthPort) : (s.putEth p e).ctResults = s.ctResults := rfl
@[simp] theorem State.putEth_obs (s : State) (p : Nat) (e : EthPort) : (s.putEth p e).obs = s.obs := rfl
@[simp] theorem State.putEth_cores (s : State) (p : Nat) (e : EthPort) : (s.putEth p e).cores = s.cores := rfl
@[simp] theorem State.putEth_clusterSram (s : State) (p : Nat) (e : EthPort) : (s.putEth p e).clusterSram = s.clusterSram := rfl
@[simp] theorem State.putEth_kernelFaults (s : State) (p : Nat) (e : EthPort) : (s.putEth p e).kernelFaults = s.kernelFaults := rfl
@[simp] theorem State.putEth_appends (s : State) (p : Nat) (e : EthPort) : (s.putEth p e).appends = s.appends := rfl
@[simp] theorem State.putEth_sequencers (s : State) (p : Nat) (e : EthPort) : (s.putEth p e).sequencers = s.sequencers := rfl
@[simp] theorem State.putEth_programs (s : State) (p : Nat) (e : EthPort) : (s.putEth p e).programs = s.programs := rfl

/-! State.putEport -/

@[simp] theorem State.putEport_pending (s : State) (n : Nat) (p : EnergyPort) : (s.putEport n p).pending = s.pending := rfl
@[simp] theorem State.putEport_pt (s : State) (n : Nat) (p : EnergyPort) : (s.putEport n p).pt = s.pt := rfl
@[simp] theorem State.putEport_now (s : State) (n : Nat) (p : EnergyPort) : (s.putEport n p).now = s.now := rfl
@[simp] theorem State.putEport_draws (s : State) (n : Nat) (p : EnergyPort) : (s.putEport n p).draws = s.draws := rfl
@[simp] theorem State.putEport_regs (s : State) (n : Nat) (p : EnergyPort) : (s.putEport n p).regs = s.regs := rfl
@[simp] theorem State.putEport_sels (s : State) (n : Nat) (p : EnergyPort) : (s.putEport n p).sels = s.sels := rfl
@[simp] theorem State.putEport_flagSets (s : State) (n : Nat) (p : EnergyPort) : (s.putEport n p).flagSets = s.flagSets := rfl
@[simp] theorem State.putEport_flagClears (s : State) (n : Nat) (p : EnergyPort) : (s.putEport n p).flagClears = s.flagClears := rfl
@[simp] theorem State.putEport_out (s : State) (n : Nat) (p : EnergyPort) : (s.putEport n p).out = s.out := rfl
@[simp] theorem State.putEport_sessions (s : State) (n : Nat) (p : EnergyPort) : (s.putEport n p).sessions = s.sessions := rfl
@[simp] theorem State.putEport_sds (s : State) (n : Nat) (p : EnergyPort) : (s.putEport n p).sds = s.sds := rfl
@[simp] theorem State.putEport_leaves (s : State) (n : Nat) (p : EnergyPort) : (s.putEport n p).leaves = s.leaves := rfl
@[simp] theorem State.putEport_pools (s : State) (n : Nat) (p : EnergyPort) : (s.putEport n p).pools = s.pools := rfl
@[simp] theorem State.putEport_mem (s : State) (n : Nat) (p : EnergyPort) : (s.putEport n p).mem = s.mem := rfl
@[simp] theorem State.putEport_cages (s : State) (n : Nat) (p : EnergyPort) : (s.putEport n p).cages = s.cages := rfl
@[simp] theorem State.putEport_heldWrites (s : State) (n : Nat) (p : EnergyPort) : (s.putEport n p).heldWrites = s.heldWrites := rfl
@[simp] theorem State.putEport_s0 (s : State) (n : Nat) (p : EnergyPort) : (s.putEport n p).s0 = s.s0 := rfl
@[simp] theorem State.putEport_s1 (s : State) (n : Nat) (p : EnergyPort) : (s.putEport n p).s1 = s.s1 := rfl
@[simp] theorem State.putEport_shifts (s : State) (n : Nat) (p : EnergyPort) : (s.putEport n p).shifts = s.shifts := rfl
@[simp] theorem State.putEport_samplers (s : State) (n : Nat) (p : EnergyPort) : (s.putEport n p).samplers = s.samplers := rfl
@[simp] theorem State.putEport_tenants (s : State) (n : Nat) (p : EnergyPort) : (s.putEport n p).tenants = s.tenants := rfl
@[simp] theorem State.putEport_kvShards (s : State) (n : Nat) (p : EnergyPort) : (s.putEport n p).kvShards = s.kvShards := rfl
@[simp] theorem State.putEport_attRequests (s : State) (n : Nat) (p : EnergyPort) : (s.putEport n p).attRequests = s.attRequests := rfl
@[simp] theorem State.putEport_splitSums (s : State) (n : Nat) (p : EnergyPort) : (s.putEport n p).splitSums = s.splitSums := rfl
@[simp] theorem State.putEport_domains (s : State) (n : Nat) (p : EnergyPort) : (s.putEport n p).domains = s.domains := rfl
@[simp] theorem State.putEport_guests (s : State) (n : Nat) (p : EnergyPort) : (s.putEport n p).guests = s.guests := rfl
@[simp] theorem State.putEport_fns (s : State) (n : Nat) (p : EnergyPort) : (s.putEport n p).fns = s.fns := rfl
@[simp] theorem State.putEport_expanders (s : State) (n : Nat) (p : EnergyPort) : (s.putEport n p).expanders = s.expanders := rfl
@[simp] theorem State.putEport_drives (s : State) (n : Nat) (p : EnergyPort) : (s.putEport n p).drives = s.drives := rfl
@[simp] theorem State.putEport_eths (s : State) (n : Nat) (p : EnergyPort) : (s.putEport n p).eths = s.eths := rfl
@[simp] theorem State.putEport_models (s : State) (n : Nat) (p : EnergyPort) : (s.putEport n p).models = s.models := rfl
@[simp] theorem State.putEport_profiles (s : State) (n : Nat) (p : EnergyPort) : (s.putEport n p).profiles = s.profiles := rfl
@[simp] theorem State.putEport_seqLists (s : State) (n : Nat) (p : EnergyPort) : (s.putEport n p).seqLists = s.seqLists := rfl
@[simp] theorem State.putEport_adapters (s : State) (n : Nat) (p : EnergyPort) : (s.putEport n p).adapters = s.adapters := rfl
@[simp] theorem State.putEport_rotation (s : State) (n : Nat) (p : EnergyPort) : (s.putEport n p).rotation = s.rotation := rfl
@[simp] theorem State.putEport_errLog (s : State) (n : Nat) (p : EnergyPort) : (s.putEport n p).errLog = s.errLog := rfl
@[simp] theorem State.putEport_power (s : State) (n : Nat) (p : EnergyPort) : (s.putEport n p).power = s.power := rfl
@[simp] theorem State.putEport_gallery (s : State) (n : Nat) (p : EnergyPort) : (s.putEport n p).gallery = s.gallery := rfl
@[simp] theorem State.putEport_channels (s : State) (n : Nat) (p : EnergyPort) : (s.putEport n p).channels = s.channels := rfl
@[simp] theorem State.putEport_hoistTurn (s : State) (n : Nat) (p : EnergyPort) : (s.putEport n p).hoistTurn = s.hoistTurn := rfl
@[simp] theorem State.putEport_migrations (s : State) (n : Nat) (p : EnergyPort) : (s.putEport n p).migrations = s.migrations := rfl
@[simp] theorem State.putEport_incoming (s : State) (n : Nat) (p : EnergyPort) : (s.putEport n p).incoming = s.incoming := rfl
@[simp] theorem State.putEport_tables (s : State) (n : Nat) (p : EnergyPort) : (s.putEport n p).tables = s.tables := rfl
@[simp] theorem State.putEport_checkpoint (s : State) (n : Nat) (p : EnergyPort) : (s.putEport n p).checkpoint = s.checkpoint := rfl
@[simp] theorem State.putEport_energyPorts (s : State) (n : Nat) (p : EnergyPort) : (s.putEport n p).energyPorts = aset s.energyPorts n p := rfl
@[simp] theorem State.putEport_security (s : State) (n : Nat) (p : EnergyPort) : (s.putEport n p).security = s.security := rfl
@[simp] theorem State.putEport_boot (s : State) (n : Nat) (p : EnergyPort) : (s.putEport n p).boot = s.boot := rfl
@[simp] theorem State.putEport_txns (s : State) (n : Nat) (p : EnergyPort) : (s.putEport n p).txns = s.txns := rfl
@[simp] theorem State.putEport_ctResults (s : State) (n : Nat) (p : EnergyPort) : (s.putEport n p).ctResults = s.ctResults := rfl
@[simp] theorem State.putEport_obs (s : State) (n : Nat) (p : EnergyPort) : (s.putEport n p).obs = s.obs := rfl
@[simp] theorem State.putEport_cores (s : State) (n : Nat) (p : EnergyPort) : (s.putEport n p).cores = s.cores := rfl
@[simp] theorem State.putEport_clusterSram (s : State) (n : Nat) (p : EnergyPort) : (s.putEport n p).clusterSram = s.clusterSram := rfl
@[simp] theorem State.putEport_kernelFaults (s : State) (n : Nat) (p : EnergyPort) : (s.putEport n p).kernelFaults = s.kernelFaults := rfl
@[simp] theorem State.putEport_appends (s : State) (n : Nat) (p : EnergyPort) : (s.putEport n p).appends = s.appends := rfl
@[simp] theorem State.putEport_sequencers (s : State) (n : Nat) (p : EnergyPort) : (s.putEport n p).sequencers = s.sequencers := rfl
@[simp] theorem State.putEport_programs (s : State) (n : Nat) (p : EnergyPort) : (s.putEport n p).programs = s.programs := rfl

/-! State.putSec -/

@[simp] theorem State.putSec_pending (s : State) (x : Security) : (s.putSec x).pending = s.pending := rfl
@[simp] theorem State.putSec_pt (s : State) (x : Security) : (s.putSec x).pt = s.pt := rfl
@[simp] theorem State.putSec_now (s : State) (x : Security) : (s.putSec x).now = s.now := rfl
@[simp] theorem State.putSec_draws (s : State) (x : Security) : (s.putSec x).draws = s.draws := rfl
@[simp] theorem State.putSec_regs (s : State) (x : Security) : (s.putSec x).regs = s.regs := rfl
@[simp] theorem State.putSec_sels (s : State) (x : Security) : (s.putSec x).sels = s.sels := rfl
@[simp] theorem State.putSec_flagSets (s : State) (x : Security) : (s.putSec x).flagSets = s.flagSets := rfl
@[simp] theorem State.putSec_flagClears (s : State) (x : Security) : (s.putSec x).flagClears = s.flagClears := rfl
@[simp] theorem State.putSec_out (s : State) (x : Security) : (s.putSec x).out = s.out := rfl
@[simp] theorem State.putSec_sessions (s : State) (x : Security) : (s.putSec x).sessions = s.sessions := rfl
@[simp] theorem State.putSec_sds (s : State) (x : Security) : (s.putSec x).sds = s.sds := rfl
@[simp] theorem State.putSec_leaves (s : State) (x : Security) : (s.putSec x).leaves = s.leaves := rfl
@[simp] theorem State.putSec_pools (s : State) (x : Security) : (s.putSec x).pools = s.pools := rfl
@[simp] theorem State.putSec_mem (s : State) (x : Security) : (s.putSec x).mem = s.mem := rfl
@[simp] theorem State.putSec_cages (s : State) (x : Security) : (s.putSec x).cages = s.cages := rfl
@[simp] theorem State.putSec_heldWrites (s : State) (x : Security) : (s.putSec x).heldWrites = s.heldWrites := rfl
@[simp] theorem State.putSec_s0 (s : State) (x : Security) : (s.putSec x).s0 = s.s0 := rfl
@[simp] theorem State.putSec_s1 (s : State) (x : Security) : (s.putSec x).s1 = s.s1 := rfl
@[simp] theorem State.putSec_shifts (s : State) (x : Security) : (s.putSec x).shifts = s.shifts := rfl
@[simp] theorem State.putSec_samplers (s : State) (x : Security) : (s.putSec x).samplers = s.samplers := rfl
@[simp] theorem State.putSec_tenants (s : State) (x : Security) : (s.putSec x).tenants = s.tenants := rfl
@[simp] theorem State.putSec_kvShards (s : State) (x : Security) : (s.putSec x).kvShards = s.kvShards := rfl
@[simp] theorem State.putSec_attRequests (s : State) (x : Security) : (s.putSec x).attRequests = s.attRequests := rfl
@[simp] theorem State.putSec_splitSums (s : State) (x : Security) : (s.putSec x).splitSums = s.splitSums := rfl
@[simp] theorem State.putSec_domains (s : State) (x : Security) : (s.putSec x).domains = s.domains := rfl
@[simp] theorem State.putSec_guests (s : State) (x : Security) : (s.putSec x).guests = s.guests := rfl
@[simp] theorem State.putSec_fns (s : State) (x : Security) : (s.putSec x).fns = s.fns := rfl
@[simp] theorem State.putSec_expanders (s : State) (x : Security) : (s.putSec x).expanders = s.expanders := rfl
@[simp] theorem State.putSec_drives (s : State) (x : Security) : (s.putSec x).drives = s.drives := rfl
@[simp] theorem State.putSec_eths (s : State) (x : Security) : (s.putSec x).eths = s.eths := rfl
@[simp] theorem State.putSec_models (s : State) (x : Security) : (s.putSec x).models = s.models := rfl
@[simp] theorem State.putSec_profiles (s : State) (x : Security) : (s.putSec x).profiles = s.profiles := rfl
@[simp] theorem State.putSec_seqLists (s : State) (x : Security) : (s.putSec x).seqLists = s.seqLists := rfl
@[simp] theorem State.putSec_adapters (s : State) (x : Security) : (s.putSec x).adapters = s.adapters := rfl
@[simp] theorem State.putSec_rotation (s : State) (x : Security) : (s.putSec x).rotation = s.rotation := rfl
@[simp] theorem State.putSec_errLog (s : State) (x : Security) : (s.putSec x).errLog = s.errLog := rfl
@[simp] theorem State.putSec_power (s : State) (x : Security) : (s.putSec x).power = s.power := rfl
@[simp] theorem State.putSec_gallery (s : State) (x : Security) : (s.putSec x).gallery = s.gallery := rfl
@[simp] theorem State.putSec_channels (s : State) (x : Security) : (s.putSec x).channels = s.channels := rfl
@[simp] theorem State.putSec_hoistTurn (s : State) (x : Security) : (s.putSec x).hoistTurn = s.hoistTurn := rfl
@[simp] theorem State.putSec_migrations (s : State) (x : Security) : (s.putSec x).migrations = s.migrations := rfl
@[simp] theorem State.putSec_incoming (s : State) (x : Security) : (s.putSec x).incoming = s.incoming := rfl
@[simp] theorem State.putSec_tables (s : State) (x : Security) : (s.putSec x).tables = s.tables := rfl
@[simp] theorem State.putSec_checkpoint (s : State) (x : Security) : (s.putSec x).checkpoint = s.checkpoint := rfl
@[simp] theorem State.putSec_energyPorts (s : State) (x : Security) : (s.putSec x).energyPorts = s.energyPorts := rfl
@[simp] theorem State.putSec_security (s : State) (x : Security) : (s.putSec x).security = x := rfl
@[simp] theorem State.putSec_boot (s : State) (x : Security) : (s.putSec x).boot = s.boot := rfl
@[simp] theorem State.putSec_txns (s : State) (x : Security) : (s.putSec x).txns = s.txns := rfl
@[simp] theorem State.putSec_ctResults (s : State) (x : Security) : (s.putSec x).ctResults = s.ctResults := rfl
@[simp] theorem State.putSec_obs (s : State) (x : Security) : (s.putSec x).obs = s.obs := rfl
@[simp] theorem State.putSec_cores (s : State) (x : Security) : (s.putSec x).cores = s.cores := rfl
@[simp] theorem State.putSec_clusterSram (s : State) (x : Security) : (s.putSec x).clusterSram = s.clusterSram := rfl
@[simp] theorem State.putSec_kernelFaults (s : State) (x : Security) : (s.putSec x).kernelFaults = s.kernelFaults := rfl
@[simp] theorem State.putSec_appends (s : State) (x : Security) : (s.putSec x).appends = s.appends := rfl
@[simp] theorem State.putSec_sequencers (s : State) (x : Security) : (s.putSec x).sequencers = s.sequencers := rfl
@[simp] theorem State.putSec_programs (s : State) (x : Security) : (s.putSec x).programs = s.programs := rfl

/-! State.putTables -/

@[simp] theorem State.putTables_pending (s : State) (t : Tables) : (s.putTables t).pending = s.pending := rfl
@[simp] theorem State.putTables_pt (s : State) (t : Tables) : (s.putTables t).pt = s.pt := rfl
@[simp] theorem State.putTables_now (s : State) (t : Tables) : (s.putTables t).now = s.now := rfl
@[simp] theorem State.putTables_draws (s : State) (t : Tables) : (s.putTables t).draws = s.draws := rfl
@[simp] theorem State.putTables_regs (s : State) (t : Tables) : (s.putTables t).regs = s.regs := rfl
@[simp] theorem State.putTables_sels (s : State) (t : Tables) : (s.putTables t).sels = s.sels := rfl
@[simp] theorem State.putTables_flagSets (s : State) (t : Tables) : (s.putTables t).flagSets = s.flagSets := rfl
@[simp] theorem State.putTables_flagClears (s : State) (t : Tables) : (s.putTables t).flagClears = s.flagClears := rfl
@[simp] theorem State.putTables_out (s : State) (t : Tables) : (s.putTables t).out = s.out := rfl
@[simp] theorem State.putTables_sessions (s : State) (t : Tables) : (s.putTables t).sessions = s.sessions := rfl
@[simp] theorem State.putTables_sds (s : State) (t : Tables) : (s.putTables t).sds = s.sds := rfl
@[simp] theorem State.putTables_leaves (s : State) (t : Tables) : (s.putTables t).leaves = s.leaves := rfl
@[simp] theorem State.putTables_pools (s : State) (t : Tables) : (s.putTables t).pools = s.pools := rfl
@[simp] theorem State.putTables_mem (s : State) (t : Tables) : (s.putTables t).mem = s.mem := rfl
@[simp] theorem State.putTables_cages (s : State) (t : Tables) : (s.putTables t).cages = s.cages := rfl
@[simp] theorem State.putTables_heldWrites (s : State) (t : Tables) : (s.putTables t).heldWrites = s.heldWrites := rfl
@[simp] theorem State.putTables_s0 (s : State) (t : Tables) : (s.putTables t).s0 = s.s0 := rfl
@[simp] theorem State.putTables_s1 (s : State) (t : Tables) : (s.putTables t).s1 = s.s1 := rfl
@[simp] theorem State.putTables_shifts (s : State) (t : Tables) : (s.putTables t).shifts = s.shifts := rfl
@[simp] theorem State.putTables_samplers (s : State) (t : Tables) : (s.putTables t).samplers = s.samplers := rfl
@[simp] theorem State.putTables_tenants (s : State) (t : Tables) : (s.putTables t).tenants = s.tenants := rfl
@[simp] theorem State.putTables_kvShards (s : State) (t : Tables) : (s.putTables t).kvShards = s.kvShards := rfl
@[simp] theorem State.putTables_attRequests (s : State) (t : Tables) : (s.putTables t).attRequests = s.attRequests := rfl
@[simp] theorem State.putTables_splitSums (s : State) (t : Tables) : (s.putTables t).splitSums = s.splitSums := rfl
@[simp] theorem State.putTables_domains (s : State) (t : Tables) : (s.putTables t).domains = s.domains := rfl
@[simp] theorem State.putTables_guests (s : State) (t : Tables) : (s.putTables t).guests = s.guests := rfl
@[simp] theorem State.putTables_fns (s : State) (t : Tables) : (s.putTables t).fns = s.fns := rfl
@[simp] theorem State.putTables_expanders (s : State) (t : Tables) : (s.putTables t).expanders = s.expanders := rfl
@[simp] theorem State.putTables_drives (s : State) (t : Tables) : (s.putTables t).drives = s.drives := rfl
@[simp] theorem State.putTables_eths (s : State) (t : Tables) : (s.putTables t).eths = s.eths := rfl
@[simp] theorem State.putTables_models (s : State) (t : Tables) : (s.putTables t).models = s.models := rfl
@[simp] theorem State.putTables_profiles (s : State) (t : Tables) : (s.putTables t).profiles = s.profiles := rfl
@[simp] theorem State.putTables_seqLists (s : State) (t : Tables) : (s.putTables t).seqLists = s.seqLists := rfl
@[simp] theorem State.putTables_adapters (s : State) (t : Tables) : (s.putTables t).adapters = s.adapters := rfl
@[simp] theorem State.putTables_rotation (s : State) (t : Tables) : (s.putTables t).rotation = s.rotation := rfl
@[simp] theorem State.putTables_errLog (s : State) (t : Tables) : (s.putTables t).errLog = s.errLog := rfl
@[simp] theorem State.putTables_power (s : State) (t : Tables) : (s.putTables t).power = s.power := rfl
@[simp] theorem State.putTables_gallery (s : State) (t : Tables) : (s.putTables t).gallery = s.gallery := rfl
@[simp] theorem State.putTables_channels (s : State) (t : Tables) : (s.putTables t).channels = s.channels := rfl
@[simp] theorem State.putTables_hoistTurn (s : State) (t : Tables) : (s.putTables t).hoistTurn = s.hoistTurn := rfl
@[simp] theorem State.putTables_migrations (s : State) (t : Tables) : (s.putTables t).migrations = s.migrations := rfl
@[simp] theorem State.putTables_incoming (s : State) (t : Tables) : (s.putTables t).incoming = s.incoming := rfl
@[simp] theorem State.putTables_tables (s : State) (t : Tables) : (s.putTables t).tables = t := rfl
@[simp] theorem State.putTables_checkpoint (s : State) (t : Tables) : (s.putTables t).checkpoint = s.checkpoint := rfl
@[simp] theorem State.putTables_energyPorts (s : State) (t : Tables) : (s.putTables t).energyPorts = s.energyPorts := rfl
@[simp] theorem State.putTables_security (s : State) (t : Tables) : (s.putTables t).security = s.security := rfl
@[simp] theorem State.putTables_boot (s : State) (t : Tables) : (s.putTables t).boot = s.boot := rfl
@[simp] theorem State.putTables_txns (s : State) (t : Tables) : (s.putTables t).txns = s.txns := rfl
@[simp] theorem State.putTables_ctResults (s : State) (t : Tables) : (s.putTables t).ctResults = s.ctResults := rfl
@[simp] theorem State.putTables_obs (s : State) (t : Tables) : (s.putTables t).obs = s.obs := rfl
@[simp] theorem State.putTables_cores (s : State) (t : Tables) : (s.putTables t).cores = s.cores := rfl
@[simp] theorem State.putTables_clusterSram (s : State) (t : Tables) : (s.putTables t).clusterSram = s.clusterSram := rfl
@[simp] theorem State.putTables_kernelFaults (s : State) (t : Tables) : (s.putTables t).kernelFaults = s.kernelFaults := rfl
@[simp] theorem State.putTables_appends (s : State) (t : Tables) : (s.putTables t).appends = s.appends := rfl
@[simp] theorem State.putTables_sequencers (s : State) (t : Tables) : (s.putTables t).sequencers = s.sequencers := rfl
@[simp] theorem State.putTables_programs (s : State) (t : Tables) : (s.putTables t).programs = s.programs := rfl

/-! State.putChan -/

@[simp] theorem State.putChan_pending (s : State) (die chan : Nat) (c : Channel) : (s.putChan die chan c).pending = s.pending := rfl
@[simp] theorem State.putChan_pt (s : State) (die chan : Nat) (c : Channel) : (s.putChan die chan c).pt = s.pt := rfl
@[simp] theorem State.putChan_now (s : State) (die chan : Nat) (c : Channel) : (s.putChan die chan c).now = s.now := rfl
@[simp] theorem State.putChan_draws (s : State) (die chan : Nat) (c : Channel) : (s.putChan die chan c).draws = s.draws := rfl
@[simp] theorem State.putChan_regs (s : State) (die chan : Nat) (c : Channel) : (s.putChan die chan c).regs = s.regs := rfl
@[simp] theorem State.putChan_sels (s : State) (die chan : Nat) (c : Channel) : (s.putChan die chan c).sels = s.sels := rfl
@[simp] theorem State.putChan_flagSets (s : State) (die chan : Nat) (c : Channel) : (s.putChan die chan c).flagSets = s.flagSets := rfl
@[simp] theorem State.putChan_flagClears (s : State) (die chan : Nat) (c : Channel) : (s.putChan die chan c).flagClears = s.flagClears := rfl
@[simp] theorem State.putChan_out (s : State) (die chan : Nat) (c : Channel) : (s.putChan die chan c).out = s.out := rfl
@[simp] theorem State.putChan_sessions (s : State) (die chan : Nat) (c : Channel) : (s.putChan die chan c).sessions = s.sessions := rfl
@[simp] theorem State.putChan_sds (s : State) (die chan : Nat) (c : Channel) : (s.putChan die chan c).sds = s.sds := rfl
@[simp] theorem State.putChan_leaves (s : State) (die chan : Nat) (c : Channel) : (s.putChan die chan c).leaves = s.leaves := rfl
@[simp] theorem State.putChan_pools (s : State) (die chan : Nat) (c : Channel) : (s.putChan die chan c).pools = s.pools := rfl
@[simp] theorem State.putChan_mem (s : State) (die chan : Nat) (c : Channel) : (s.putChan die chan c).mem = s.mem := rfl
@[simp] theorem State.putChan_cages (s : State) (die chan : Nat) (c : Channel) : (s.putChan die chan c).cages = s.cages := rfl
@[simp] theorem State.putChan_heldWrites (s : State) (die chan : Nat) (c : Channel) : (s.putChan die chan c).heldWrites = s.heldWrites := rfl
@[simp] theorem State.putChan_s0 (s : State) (die chan : Nat) (c : Channel) : (s.putChan die chan c).s0 = s.s0 := rfl
@[simp] theorem State.putChan_s1 (s : State) (die chan : Nat) (c : Channel) : (s.putChan die chan c).s1 = s.s1 := rfl
@[simp] theorem State.putChan_shifts (s : State) (die chan : Nat) (c : Channel) : (s.putChan die chan c).shifts = s.shifts := rfl
@[simp] theorem State.putChan_samplers (s : State) (die chan : Nat) (c : Channel) : (s.putChan die chan c).samplers = s.samplers := rfl
@[simp] theorem State.putChan_tenants (s : State) (die chan : Nat) (c : Channel) : (s.putChan die chan c).tenants = s.tenants := rfl
@[simp] theorem State.putChan_kvShards (s : State) (die chan : Nat) (c : Channel) : (s.putChan die chan c).kvShards = s.kvShards := rfl
@[simp] theorem State.putChan_attRequests (s : State) (die chan : Nat) (c : Channel) : (s.putChan die chan c).attRequests = s.attRequests := rfl
@[simp] theorem State.putChan_splitSums (s : State) (die chan : Nat) (c : Channel) : (s.putChan die chan c).splitSums = s.splitSums := rfl
@[simp] theorem State.putChan_domains (s : State) (die chan : Nat) (c : Channel) : (s.putChan die chan c).domains = s.domains := rfl
@[simp] theorem State.putChan_guests (s : State) (die chan : Nat) (c : Channel) : (s.putChan die chan c).guests = s.guests := rfl
@[simp] theorem State.putChan_fns (s : State) (die chan : Nat) (c : Channel) : (s.putChan die chan c).fns = s.fns := rfl
@[simp] theorem State.putChan_expanders (s : State) (die chan : Nat) (c : Channel) : (s.putChan die chan c).expanders = s.expanders := rfl
@[simp] theorem State.putChan_drives (s : State) (die chan : Nat) (c : Channel) : (s.putChan die chan c).drives = s.drives := rfl
@[simp] theorem State.putChan_eths (s : State) (die chan : Nat) (c : Channel) : (s.putChan die chan c).eths = s.eths := rfl
@[simp] theorem State.putChan_models (s : State) (die chan : Nat) (c : Channel) : (s.putChan die chan c).models = s.models := rfl
@[simp] theorem State.putChan_profiles (s : State) (die chan : Nat) (c : Channel) : (s.putChan die chan c).profiles = s.profiles := rfl
@[simp] theorem State.putChan_seqLists (s : State) (die chan : Nat) (c : Channel) : (s.putChan die chan c).seqLists = s.seqLists := rfl
@[simp] theorem State.putChan_adapters (s : State) (die chan : Nat) (c : Channel) : (s.putChan die chan c).adapters = s.adapters := rfl
@[simp] theorem State.putChan_rotation (s : State) (die chan : Nat) (c : Channel) : (s.putChan die chan c).rotation = s.rotation := rfl
@[simp] theorem State.putChan_errLog (s : State) (die chan : Nat) (c : Channel) : (s.putChan die chan c).errLog = s.errLog := rfl
@[simp] theorem State.putChan_power (s : State) (die chan : Nat) (c : Channel) : (s.putChan die chan c).power = s.power := rfl
@[simp] theorem State.putChan_gallery (s : State) (die chan : Nat) (c : Channel) : (s.putChan die chan c).gallery = s.gallery := rfl
@[simp] theorem State.putChan_channels (s : State) (die chan : Nat) (c : Channel) : (s.putChan die chan c).channels = aset s.channels (chanKey die chan) c := rfl
@[simp] theorem State.putChan_hoistTurn (s : State) (die chan : Nat) (c : Channel) : (s.putChan die chan c).hoistTurn = s.hoistTurn := rfl
@[simp] theorem State.putChan_migrations (s : State) (die chan : Nat) (c : Channel) : (s.putChan die chan c).migrations = s.migrations := rfl
@[simp] theorem State.putChan_incoming (s : State) (die chan : Nat) (c : Channel) : (s.putChan die chan c).incoming = s.incoming := rfl
@[simp] theorem State.putChan_tables (s : State) (die chan : Nat) (c : Channel) : (s.putChan die chan c).tables = s.tables := rfl
@[simp] theorem State.putChan_checkpoint (s : State) (die chan : Nat) (c : Channel) : (s.putChan die chan c).checkpoint = s.checkpoint := rfl
@[simp] theorem State.putChan_energyPorts (s : State) (die chan : Nat) (c : Channel) : (s.putChan die chan c).energyPorts = s.energyPorts := rfl
@[simp] theorem State.putChan_security (s : State) (die chan : Nat) (c : Channel) : (s.putChan die chan c).security = s.security := rfl
@[simp] theorem State.putChan_boot (s : State) (die chan : Nat) (c : Channel) : (s.putChan die chan c).boot = s.boot := rfl
@[simp] theorem State.putChan_txns (s : State) (die chan : Nat) (c : Channel) : (s.putChan die chan c).txns = s.txns := rfl
@[simp] theorem State.putChan_ctResults (s : State) (die chan : Nat) (c : Channel) : (s.putChan die chan c).ctResults = s.ctResults := rfl
@[simp] theorem State.putChan_obs (s : State) (die chan : Nat) (c : Channel) : (s.putChan die chan c).obs = s.obs := rfl
@[simp] theorem State.putChan_cores (s : State) (die chan : Nat) (c : Channel) : (s.putChan die chan c).cores = s.cores := rfl
@[simp] theorem State.putChan_clusterSram (s : State) (die chan : Nat) (c : Channel) : (s.putChan die chan c).clusterSram = s.clusterSram := rfl
@[simp] theorem State.putChan_kernelFaults (s : State) (die chan : Nat) (c : Channel) : (s.putChan die chan c).kernelFaults = s.kernelFaults := rfl
@[simp] theorem State.putChan_appends (s : State) (die chan : Nat) (c : Channel) : (s.putChan die chan c).appends = s.appends := rfl
@[simp] theorem State.putChan_sequencers (s : State) (die chan : Nat) (c : Channel) : (s.putChan die chan c).sequencers = s.sequencers := rfl
@[simp] theorem State.putChan_programs (s : State) (die chan : Nat) (c : Channel) : (s.putChan die chan c).programs = s.programs := rfl

/-! State.putCore -/

@[simp] theorem State.putCore_pending (s : State) (i : Nat) (c : Core) : (s.putCore i c).pending = s.pending := rfl
@[simp] theorem State.putCore_pt (s : State) (i : Nat) (c : Core) : (s.putCore i c).pt = s.pt := rfl
@[simp] theorem State.putCore_now (s : State) (i : Nat) (c : Core) : (s.putCore i c).now = s.now := rfl
@[simp] theorem State.putCore_draws (s : State) (i : Nat) (c : Core) : (s.putCore i c).draws = s.draws := rfl
@[simp] theorem State.putCore_regs (s : State) (i : Nat) (c : Core) : (s.putCore i c).regs = s.regs := rfl
@[simp] theorem State.putCore_sels (s : State) (i : Nat) (c : Core) : (s.putCore i c).sels = s.sels := rfl
@[simp] theorem State.putCore_flagSets (s : State) (i : Nat) (c : Core) : (s.putCore i c).flagSets = s.flagSets := rfl
@[simp] theorem State.putCore_flagClears (s : State) (i : Nat) (c : Core) : (s.putCore i c).flagClears = s.flagClears := rfl
@[simp] theorem State.putCore_out (s : State) (i : Nat) (c : Core) : (s.putCore i c).out = s.out := rfl
@[simp] theorem State.putCore_sessions (s : State) (i : Nat) (c : Core) : (s.putCore i c).sessions = s.sessions := rfl
@[simp] theorem State.putCore_sds (s : State) (i : Nat) (c : Core) : (s.putCore i c).sds = s.sds := rfl
@[simp] theorem State.putCore_leaves (s : State) (i : Nat) (c : Core) : (s.putCore i c).leaves = s.leaves := rfl
@[simp] theorem State.putCore_pools (s : State) (i : Nat) (c : Core) : (s.putCore i c).pools = s.pools := rfl
@[simp] theorem State.putCore_mem (s : State) (i : Nat) (c : Core) : (s.putCore i c).mem = s.mem := rfl
@[simp] theorem State.putCore_cages (s : State) (i : Nat) (c : Core) : (s.putCore i c).cages = s.cages := rfl
@[simp] theorem State.putCore_heldWrites (s : State) (i : Nat) (c : Core) : (s.putCore i c).heldWrites = s.heldWrites := rfl
@[simp] theorem State.putCore_s0 (s : State) (i : Nat) (c : Core) : (s.putCore i c).s0 = s.s0 := rfl
@[simp] theorem State.putCore_s1 (s : State) (i : Nat) (c : Core) : (s.putCore i c).s1 = s.s1 := rfl
@[simp] theorem State.putCore_shifts (s : State) (i : Nat) (c : Core) : (s.putCore i c).shifts = s.shifts := rfl
@[simp] theorem State.putCore_samplers (s : State) (i : Nat) (c : Core) : (s.putCore i c).samplers = s.samplers := rfl
@[simp] theorem State.putCore_tenants (s : State) (i : Nat) (c : Core) : (s.putCore i c).tenants = s.tenants := rfl
@[simp] theorem State.putCore_kvShards (s : State) (i : Nat) (c : Core) : (s.putCore i c).kvShards = s.kvShards := rfl
@[simp] theorem State.putCore_attRequests (s : State) (i : Nat) (c : Core) : (s.putCore i c).attRequests = s.attRequests := rfl
@[simp] theorem State.putCore_splitSums (s : State) (i : Nat) (c : Core) : (s.putCore i c).splitSums = s.splitSums := rfl
@[simp] theorem State.putCore_domains (s : State) (i : Nat) (c : Core) : (s.putCore i c).domains = s.domains := rfl
@[simp] theorem State.putCore_guests (s : State) (i : Nat) (c : Core) : (s.putCore i c).guests = s.guests := rfl
@[simp] theorem State.putCore_fns (s : State) (i : Nat) (c : Core) : (s.putCore i c).fns = s.fns := rfl
@[simp] theorem State.putCore_expanders (s : State) (i : Nat) (c : Core) : (s.putCore i c).expanders = s.expanders := rfl
@[simp] theorem State.putCore_drives (s : State) (i : Nat) (c : Core) : (s.putCore i c).drives = s.drives := rfl
@[simp] theorem State.putCore_eths (s : State) (i : Nat) (c : Core) : (s.putCore i c).eths = s.eths := rfl
@[simp] theorem State.putCore_models (s : State) (i : Nat) (c : Core) : (s.putCore i c).models = s.models := rfl
@[simp] theorem State.putCore_profiles (s : State) (i : Nat) (c : Core) : (s.putCore i c).profiles = s.profiles := rfl
@[simp] theorem State.putCore_seqLists (s : State) (i : Nat) (c : Core) : (s.putCore i c).seqLists = s.seqLists := rfl
@[simp] theorem State.putCore_adapters (s : State) (i : Nat) (c : Core) : (s.putCore i c).adapters = s.adapters := rfl
@[simp] theorem State.putCore_rotation (s : State) (i : Nat) (c : Core) : (s.putCore i c).rotation = s.rotation := rfl
@[simp] theorem State.putCore_errLog (s : State) (i : Nat) (c : Core) : (s.putCore i c).errLog = s.errLog := rfl
@[simp] theorem State.putCore_power (s : State) (i : Nat) (c : Core) : (s.putCore i c).power = s.power := rfl
@[simp] theorem State.putCore_gallery (s : State) (i : Nat) (c : Core) : (s.putCore i c).gallery = s.gallery := rfl
@[simp] theorem State.putCore_channels (s : State) (i : Nat) (c : Core) : (s.putCore i c).channels = s.channels := rfl
@[simp] theorem State.putCore_hoistTurn (s : State) (i : Nat) (c : Core) : (s.putCore i c).hoistTurn = s.hoistTurn := rfl
@[simp] theorem State.putCore_migrations (s : State) (i : Nat) (c : Core) : (s.putCore i c).migrations = s.migrations := rfl
@[simp] theorem State.putCore_incoming (s : State) (i : Nat) (c : Core) : (s.putCore i c).incoming = s.incoming := rfl
@[simp] theorem State.putCore_tables (s : State) (i : Nat) (c : Core) : (s.putCore i c).tables = s.tables := rfl
@[simp] theorem State.putCore_checkpoint (s : State) (i : Nat) (c : Core) : (s.putCore i c).checkpoint = s.checkpoint := rfl
@[simp] theorem State.putCore_energyPorts (s : State) (i : Nat) (c : Core) : (s.putCore i c).energyPorts = s.energyPorts := rfl
@[simp] theorem State.putCore_security (s : State) (i : Nat) (c : Core) : (s.putCore i c).security = s.security := rfl
@[simp] theorem State.putCore_boot (s : State) (i : Nat) (c : Core) : (s.putCore i c).boot = s.boot := rfl
@[simp] theorem State.putCore_txns (s : State) (i : Nat) (c : Core) : (s.putCore i c).txns = s.txns := rfl
@[simp] theorem State.putCore_ctResults (s : State) (i : Nat) (c : Core) : (s.putCore i c).ctResults = s.ctResults := rfl
@[simp] theorem State.putCore_obs (s : State) (i : Nat) (c : Core) : (s.putCore i c).obs = s.obs := rfl
@[simp] theorem State.putCore_cores (s : State) (i : Nat) (c : Core) : (s.putCore i c).cores = aset s.cores i c := rfl
@[simp] theorem State.putCore_clusterSram (s : State) (i : Nat) (c : Core) : (s.putCore i c).clusterSram = s.clusterSram := rfl
@[simp] theorem State.putCore_kernelFaults (s : State) (i : Nat) (c : Core) : (s.putCore i c).kernelFaults = s.kernelFaults := rfl
@[simp] theorem State.putCore_appends (s : State) (i : Nat) (c : Core) : (s.putCore i c).appends = s.appends := rfl
@[simp] theorem State.putCore_sequencers (s : State) (i : Nat) (c : Core) : (s.putCore i c).sequencers = s.sequencers := rfl
@[simp] theorem State.putCore_programs (s : State) (i : Nat) (c : Core) : (s.putCore i c).programs = s.programs := rfl

/-! State.putSeqr -/

@[simp] theorem State.putSeqr_pending (s : State) (i : Nat) (q : Sequencer) : (s.putSeqr i q).pending = s.pending := rfl
@[simp] theorem State.putSeqr_pt (s : State) (i : Nat) (q : Sequencer) : (s.putSeqr i q).pt = s.pt := rfl
@[simp] theorem State.putSeqr_now (s : State) (i : Nat) (q : Sequencer) : (s.putSeqr i q).now = s.now := rfl
@[simp] theorem State.putSeqr_draws (s : State) (i : Nat) (q : Sequencer) : (s.putSeqr i q).draws = s.draws := rfl
@[simp] theorem State.putSeqr_regs (s : State) (i : Nat) (q : Sequencer) : (s.putSeqr i q).regs = s.regs := rfl
@[simp] theorem State.putSeqr_sels (s : State) (i : Nat) (q : Sequencer) : (s.putSeqr i q).sels = s.sels := rfl
@[simp] theorem State.putSeqr_flagSets (s : State) (i : Nat) (q : Sequencer) : (s.putSeqr i q).flagSets = s.flagSets := rfl
@[simp] theorem State.putSeqr_flagClears (s : State) (i : Nat) (q : Sequencer) : (s.putSeqr i q).flagClears = s.flagClears := rfl
@[simp] theorem State.putSeqr_out (s : State) (i : Nat) (q : Sequencer) : (s.putSeqr i q).out = s.out := rfl
@[simp] theorem State.putSeqr_sessions (s : State) (i : Nat) (q : Sequencer) : (s.putSeqr i q).sessions = s.sessions := rfl
@[simp] theorem State.putSeqr_sds (s : State) (i : Nat) (q : Sequencer) : (s.putSeqr i q).sds = s.sds := rfl
@[simp] theorem State.putSeqr_leaves (s : State) (i : Nat) (q : Sequencer) : (s.putSeqr i q).leaves = s.leaves := rfl
@[simp] theorem State.putSeqr_pools (s : State) (i : Nat) (q : Sequencer) : (s.putSeqr i q).pools = s.pools := rfl
@[simp] theorem State.putSeqr_mem (s : State) (i : Nat) (q : Sequencer) : (s.putSeqr i q).mem = s.mem := rfl
@[simp] theorem State.putSeqr_cages (s : State) (i : Nat) (q : Sequencer) : (s.putSeqr i q).cages = s.cages := rfl
@[simp] theorem State.putSeqr_heldWrites (s : State) (i : Nat) (q : Sequencer) : (s.putSeqr i q).heldWrites = s.heldWrites := rfl
@[simp] theorem State.putSeqr_s0 (s : State) (i : Nat) (q : Sequencer) : (s.putSeqr i q).s0 = s.s0 := rfl
@[simp] theorem State.putSeqr_s1 (s : State) (i : Nat) (q : Sequencer) : (s.putSeqr i q).s1 = s.s1 := rfl
@[simp] theorem State.putSeqr_shifts (s : State) (i : Nat) (q : Sequencer) : (s.putSeqr i q).shifts = s.shifts := rfl
@[simp] theorem State.putSeqr_samplers (s : State) (i : Nat) (q : Sequencer) : (s.putSeqr i q).samplers = s.samplers := rfl
@[simp] theorem State.putSeqr_tenants (s : State) (i : Nat) (q : Sequencer) : (s.putSeqr i q).tenants = s.tenants := rfl
@[simp] theorem State.putSeqr_kvShards (s : State) (i : Nat) (q : Sequencer) : (s.putSeqr i q).kvShards = s.kvShards := rfl
@[simp] theorem State.putSeqr_attRequests (s : State) (i : Nat) (q : Sequencer) : (s.putSeqr i q).attRequests = s.attRequests := rfl
@[simp] theorem State.putSeqr_splitSums (s : State) (i : Nat) (q : Sequencer) : (s.putSeqr i q).splitSums = s.splitSums := rfl
@[simp] theorem State.putSeqr_domains (s : State) (i : Nat) (q : Sequencer) : (s.putSeqr i q).domains = s.domains := rfl
@[simp] theorem State.putSeqr_guests (s : State) (i : Nat) (q : Sequencer) : (s.putSeqr i q).guests = s.guests := rfl
@[simp] theorem State.putSeqr_fns (s : State) (i : Nat) (q : Sequencer) : (s.putSeqr i q).fns = s.fns := rfl
@[simp] theorem State.putSeqr_expanders (s : State) (i : Nat) (q : Sequencer) : (s.putSeqr i q).expanders = s.expanders := rfl
@[simp] theorem State.putSeqr_drives (s : State) (i : Nat) (q : Sequencer) : (s.putSeqr i q).drives = s.drives := rfl
@[simp] theorem State.putSeqr_eths (s : State) (i : Nat) (q : Sequencer) : (s.putSeqr i q).eths = s.eths := rfl
@[simp] theorem State.putSeqr_models (s : State) (i : Nat) (q : Sequencer) : (s.putSeqr i q).models = s.models := rfl
@[simp] theorem State.putSeqr_profiles (s : State) (i : Nat) (q : Sequencer) : (s.putSeqr i q).profiles = s.profiles := rfl
@[simp] theorem State.putSeqr_seqLists (s : State) (i : Nat) (q : Sequencer) : (s.putSeqr i q).seqLists = s.seqLists := rfl
@[simp] theorem State.putSeqr_adapters (s : State) (i : Nat) (q : Sequencer) : (s.putSeqr i q).adapters = s.adapters := rfl
@[simp] theorem State.putSeqr_rotation (s : State) (i : Nat) (q : Sequencer) : (s.putSeqr i q).rotation = s.rotation := rfl
@[simp] theorem State.putSeqr_errLog (s : State) (i : Nat) (q : Sequencer) : (s.putSeqr i q).errLog = s.errLog := rfl
@[simp] theorem State.putSeqr_power (s : State) (i : Nat) (q : Sequencer) : (s.putSeqr i q).power = s.power := rfl
@[simp] theorem State.putSeqr_gallery (s : State) (i : Nat) (q : Sequencer) : (s.putSeqr i q).gallery = s.gallery := rfl
@[simp] theorem State.putSeqr_channels (s : State) (i : Nat) (q : Sequencer) : (s.putSeqr i q).channels = s.channels := rfl
@[simp] theorem State.putSeqr_hoistTurn (s : State) (i : Nat) (q : Sequencer) : (s.putSeqr i q).hoistTurn = s.hoistTurn := rfl
@[simp] theorem State.putSeqr_migrations (s : State) (i : Nat) (q : Sequencer) : (s.putSeqr i q).migrations = s.migrations := rfl
@[simp] theorem State.putSeqr_incoming (s : State) (i : Nat) (q : Sequencer) : (s.putSeqr i q).incoming = s.incoming := rfl
@[simp] theorem State.putSeqr_tables (s : State) (i : Nat) (q : Sequencer) : (s.putSeqr i q).tables = s.tables := rfl
@[simp] theorem State.putSeqr_checkpoint (s : State) (i : Nat) (q : Sequencer) : (s.putSeqr i q).checkpoint = s.checkpoint := rfl
@[simp] theorem State.putSeqr_energyPorts (s : State) (i : Nat) (q : Sequencer) : (s.putSeqr i q).energyPorts = s.energyPorts := rfl
@[simp] theorem State.putSeqr_security (s : State) (i : Nat) (q : Sequencer) : (s.putSeqr i q).security = s.security := rfl
@[simp] theorem State.putSeqr_boot (s : State) (i : Nat) (q : Sequencer) : (s.putSeqr i q).boot = s.boot := rfl
@[simp] theorem State.putSeqr_txns (s : State) (i : Nat) (q : Sequencer) : (s.putSeqr i q).txns = s.txns := rfl
@[simp] theorem State.putSeqr_ctResults (s : State) (i : Nat) (q : Sequencer) : (s.putSeqr i q).ctResults = s.ctResults := rfl
@[simp] theorem State.putSeqr_obs (s : State) (i : Nat) (q : Sequencer) : (s.putSeqr i q).obs = s.obs := rfl
@[simp] theorem State.putSeqr_cores (s : State) (i : Nat) (q : Sequencer) : (s.putSeqr i q).cores = s.cores := rfl
@[simp] theorem State.putSeqr_clusterSram (s : State) (i : Nat) (q : Sequencer) : (s.putSeqr i q).clusterSram = s.clusterSram := rfl
@[simp] theorem State.putSeqr_kernelFaults (s : State) (i : Nat) (q : Sequencer) : (s.putSeqr i q).kernelFaults = s.kernelFaults := rfl
@[simp] theorem State.putSeqr_appends (s : State) (i : Nat) (q : Sequencer) : (s.putSeqr i q).appends = s.appends := rfl
@[simp] theorem State.putSeqr_sequencers (s : State) (i : Nat) (q : Sequencer) : (s.putSeqr i q).sequencers = aset s.sequencers i q := rfl
@[simp] theorem State.putSeqr_programs (s : State) (i : Nat) (q : Sequencer) : (s.putSeqr i q).programs = s.programs := rfl

/-! ### What a named part reads after its update -/

@[simp] theorem State.sd_putSd (s : State) (n : Nat) (d : StateDie) : (s.putSd n d).sd n = d := by simp [State.sd]
@[simp] theorem State.sess_putSess (s : State) (i : Nat) (x : Session) : (s.putSess i x).sess i = x := by simp [State.sess]
@[simp] theorem State.entry_putEntry (s : State) (i : Nat) (e : Entry) : (s.putEntry i e).entry i = e := by
  simp [State.entry, State.sess, Session.withEntry]
@[simp] theorem State.fn_putFn (s : State) (f : Nat) (h : HostFn) : (s.putFn f h).fn f = h := by simp [State.fn]
@[simp] theorem State.leaf_putLeaf (s : State) (p : Nat) (l : Leaf) : (s.putLeaf p l).leaf p = some l := by simp [State.leaf]
@[simp] theorem State.tenant_putTenant (s : State) (t : Nat) (x : Tenant) : (s.putTenant t x).tenant t = x := by
  simp [State.tenant]
@[simp] theorem State.reg_setReg (s : State) (a v : Nat) : (s.setReg a v).reg a = v := by simp [State.reg]
@[simp] theorem State.eth_putEth (s : State) (p : Nat) (e : EthPort) : (s.putEth p e).eth p = e := by simp [State.eth]
@[simp] theorem State.eport_putEport (s : State) (n : Nat) (p : EnergyPort) : (s.putEport n p).eport n = p := by
  simp [State.eport]
@[simp] theorem State.chan_putChan (s : State) (d n : Nat) (c : Channel) : (s.putChan d n c).chan d n = c := by
  simp [State.chan]
@[simp] theorem State.core_putCore (s : State) (i : Nat) (c : Core) : (s.putCore i c).core i = c := by simp [State.core]
@[simp] theorem State.seqr_putSeqr (s : State) (i : Nat) (q : Sequencer) : (s.putSeqr i q).seqr i = q := by
  simp [State.seqr]

/-- A register other than the one written reads as before. -/
theorem State.reg_setReg_other (s : State) {a b : Nat} (v : Nat) (h : b ≠ a) : (s.setReg a v).reg b = s.reg b := by
  simp [State.reg, agetD_aset_other _ _ _ h]

/-- A session other than the one written stands as before. -/
theorem State.sess_putSess_other (s : State) {i j : Nat} (x : Session) (h : j ≠ i) : (s.putSess i x).sess j = s.sess j := by
  simp [State.sess, agetD_aset_other _ _ _ h]

/-- A core other than the one written stands as before. -/
theorem State.core_putCore_other (s : State) {i j : Nat} (c : Core) (h : j ≠ i) : (s.putCore i c).core j = s.core j := by
  simp [State.core, agetD_aset_other _ _ _ h]

/-- A sequencer other than the one written stands as before. -/
theorem State.seqr_putSeqr_other (s : State) {i j : Nat} (q : Sequencer) (h : j ≠ i) :
    (s.putSeqr i q).seqr j = s.seqr j := by
  simp [State.seqr, agetD_aset_other _ _ _ h]

end Sys2Proof.Machine
end

