-- ==== Sys2Proof/Laws/Ops.lean ====
section
/-! SUPPORT. What each shared operation does, said once: a lemma named `<operation>_frame` names the parts of the state that
the operation may change; `<operation>_cases` lists its outcomes. -/
namespace Sys2Proof.Machine

/-! ### Registers and flags -/

theorem reg_setReg (s : State) (a v b : Nat) : (s.setReg a v).reg b = if b = a then v else s.reg b := by
  simp only [State.reg, State.setReg, agetD, aget_aset]
  split <;> rfl

/-- A write of a field changes no register but its own. -/
theorem reg_setRegFld_other (s : State) (blk inst off hi lo v : Nat) {b : Nat} (h : b ≠ pcs blk inst off) :
    (s.setRegFld blk inst off hi lo v).reg b = s.reg b := by
  simp [State.setRegFld, reg_setReg, h]

theorem State.setFlag_frame (s : State) (f : FlagId) (inst : Nat) :
    ∃ r a, s.setFlag f inst = { s with regs := r, flagSets := a } := by
  unfold State.setFlag
  simp only []
  split <;> exact ⟨_, _, rfl⟩

/-- A flag set at a stamp no clear has overtaken reads 1 (R513, R514). -/
theorem State.setFlag_sets (s : State) (f : FlagId) (inst : Nat)
    (h : agetD s.flagClears (flagKey (pcs f.blk inst f.off) f.bit) 0 ≤ s.now) :
    ∃ v, (s.setFlag f inst).reg (pcs f.blk inst f.off) = setFld v f.bit f.bit 1 := by
  refine ⟨(s.addRegFld f.blk inst (f.off + 8) (8 * f.bit + 7) (8 * f.bit) 1).reg (pcs f.blk inst f.off), ?_⟩
  generalize hs : s.addRegFld f.blk inst (f.off + 8) (8 * f.bit + 7) (8 * f.bit) 1 = u
  have hn : agetD u.flagClears (flagKey (pcs f.blk inst f.off) f.bit) 0 ≤ u.now := by subst hs; exact h
  unfold State.setFlag
  simp only [hs]
  rw [if_neg (not_lt.mpr hn)]
  generalize setFld _ f.bit f.bit 1 = v
  unfold State.reg
  rw [agetD, aget_aset, if_pos rfl, Option.getD_some]

theorem State.flagIf_frame (s : State) (c : Bool) (f : FlagId) (inst : Nat) :
    ∃ r a, s.flagIf c f inst = { s with regs := r, flagSets := a } := by
  unfold State.flagIf
  split
  · exact s.setFlag_frame f inst
  · exact ⟨_, _, rfl⟩

theorem State.clearFlag_frame (s : State) (addr bit : Nat) :
    ∃ r b, s.clearFlag addr bit = { s with regs := r, flagClears := b } := by
  unfold State.clearFlag
  simp only []
  split <;> exact ⟨_, _, rfl⟩

theorem State.markReg_frame (s : State) (blk inst off hi lo v : Nat) :
    ∃ r, s.markReg blk inst off hi lo v = { s with regs := r } := by
  unfold State.markReg
  split <;> exact ⟨_, rfl⟩

/-! ### Records -/

theorem State.completeWith_frame (s : State) (f : Frame) (r : Record) : ∃ h, s.completeWith f r = { s with fns := h } := by
  unfold State.completeWith
  split <;> exact ⟨_, rfl⟩

/-- The record of a frame of a dispatch queue joins the completions that wait at its result queue (R407). -/
theorem State.completeWith_waits (s : State) (f : Frame) (r : Record) (h : f.queue < deviceQueue) :
    (((s.completeWith f r).fn f.function).rq ((s.fn f.function).dq f.queue).rq).waiting =
      ((s.fn f.function).rq ((s.fn f.function).dq f.queue).rq).waiting ++ [(r, f.notify)] := by
  simp [State.completeWith, Nat.not_le.mpr h, State.fn, State.putFn, HostFn.rq, agetD]

/-- A frame that the package made itself completes without a record (R274). -/
theorem State.completeWith_device (s : State) (f : Frame) (r : Record) (h : deviceQueue ≤ f.queue) : s.completeWith f r = s := by
  simp [State.completeWith, h]

theorem State.complete_frame (s : State) (f : Frame) (status : Nat) : ∃ h, s.complete f status = { s with fns := h } :=
  s.completeWith_frame f _

theorem State.eventTo_frame (s : State) (fn code : Nat) (fields : List (Nat × Nat × Nat)) :
    ∃ h, s.eventTo fn code fields = { s with fns := h } := ⟨_, rfl⟩

theorem State.deviceEvent_frame (s : State) (code : Nat) (fields : List (Nat × Nat × Nat)) :
    ∃ h, s.deviceEvent code fields = { s with fns := h } := ⟨_, rfl⟩

theorem State.checkOutboxLow_frame (s : State) (sd before : Nat) :
    ∃ r a, s.checkOutboxLow sd before = { s with regs := r, flagSets := a } := by
  unfold State.checkOutboxLow
  exact s.flagIf_frame _ _ _

theorem State.putRecord_frame (s : State) (slot : Nat) (r : Record) :
    ∃ g a x d, s.putRecord slot r = { s with regs := g, flagSets := a, sessions := x, sds := d } := by
  unfold State.putRecord
  simp only []
  split
  · exact ⟨_, _, _, _, rfl⟩
  · split
    · exact ⟨_, _, _, _, rfl⟩
    · obtain ⟨g, a, h⟩ := State.checkOutboxLow_frame
        (State.putSess (s.putSd _ _) slot _) (tableSd slot) (s.sd (tableSd slot)).outboxFree
      exact ⟨g, a, _, _, h⟩

theorem State.sessionRecord_frame (s : State) (slot type status : Nat) (body text : List Byte) :
    ∃ g a x d, s.sessionRecord slot type status body text = { s with regs := g, flagSets := a, sessions := x, sds := d } :=
  s.putRecord_frame slot _

theorem State.sessionEvent_frame (s : State) (slot code : Nat) (fields : List (Nat × Nat × Nat)) :
    ∃ g a x d, s.sessionEvent slot code fields = { s with regs := g, flagSets := a, sessions := x, sds := d } :=
  s.putRecord_frame slot _

/-! ### The error log -/

theorem State.countError_frame (s : State) (cls : Nat) : ∃ r a, s.countError cls = { s with regs := r, flagSets := a } := by
  unfold State.countError
  split
  · exact ⟨_, _, rfl⟩
  · split
    · exact (s.addRegFld 0x1e 0 0x38 47 32 1).setFlag_frame _ _
    · split
      · exact (s.addRegFld 0x1e 0 0x38 63 48 1).setFlag_frame _ _
      · exact ⟨_, _, rfl⟩

theorem State.logError_write_frame (cls die blk inst code detail : Nat) (s : State) (l : ErrLog) :
    ∃ r a e h, State.logError.write cls die blk inst code detail s l =
      { s with regs := r, flagSets := a, errLog := e, fns := h } := by
  unfold State.logError.write
  simp only []
  split
  · obtain ⟨r, a, h⟩ := s.setFlag_frame fCeStorm 0
    exact ⟨r, a, _, _, h⟩
  · obtain ⟨r, a, h⟩ := s.flagIf_frame (decide (l.count ≥ 4096)) fErrOverwrite 0
    rw [h]
    split <;> exact ⟨_, _, _, _, rfl⟩

/-- Logging an error changes registers, flags, the log, and what waits at the event function's result queue 0. -/
theorem State.logError_frame (s : State) (cls die blk inst code detail : Nat) :
    ∃ r a e h, s.logError cls die blk inst code detail = { s with regs := r, flagSets := a, errLog := e, fns := h } := by
  unfold State.logError
  simp only []
  obtain ⟨r, a, h⟩ := s.countError_frame cls
  rw [h]
  split
  · split
    · exact ⟨_, _, _, _, rfl⟩
    · obtain ⟨r', a', e', h', q⟩ := State.logError_write_frame cls die blk inst code detail { s with regs := r, flagSets := a } s.errLog
      exact ⟨r', a', e', h', q⟩
  · obtain ⟨r', a', e', h', q⟩ := State.logError_write_frame cls die blk inst code detail { s with regs := r, flagSets := a } s.errLog
    exact ⟨r', a', e', h', q⟩

/-! ### Pools and quotas -/

theorem State.takeFrame_frame {s s' : State} {sd tier pool cls f : Nat} (h : s.takeFrame sd tier pool cls = some (f, s')) :
    ∃ p, s' = { s with pools := p } := by
  unfold State.takeFrame at h
  simp only [] at h
  split at h
  · cases h
  · cases h; exact ⟨_, rfl⟩

theorem State.takeScale_frame {s s' : State} {sd i : Nat} (h : s.takeScale sd = some (i, s')) : ∃ p, s' = { s with pools := p } := by
  unfold State.takeScale at h
  simp only [] at h
  split at h
  · cases h
  · cases h; exact ⟨_, rfl⟩

theorem State.giveFrame_frame (s : State) (sd tier pool cls frame : Nat) :
    ∃ p, s.giveFrame sd tier pool cls frame = { s with pools := p } := by
  unfold State.giveFrame
  simp only []
  split <;> exact ⟨_, rfl⟩

theorem State.giveScale_frame (s : State) (sd : Nat) (i : Option Nat) : ∃ p, s.giveScale sd i = { s with pools := p } := by
  unfold State.giveScale
  split <;> exact ⟨_, rfl⟩

theorem State.addUse_frame (s : State) (t tier n : Nat) : ∃ x, s.addUse t tier n = { s with tenants := x } := by
  unfold State.addUse
  split <;> exact ⟨_, rfl⟩

theorem State.dropUse_frame (s : State) (t tier n : Nat) : ∃ x, s.dropUse t tier n = { s with tenants := x } := by
  unfold State.dropUse
  split <;> exact ⟨_, rfl⟩

theorem State.charge_frame (s : State) (t counter amount : Nat) : ∃ x, s.charge t counter amount = { s with tenants := x } := by
  unfold State.charge
  split <;> exact ⟨_, rfl⟩

/-! ### Gates -/

/-- A session command is answered, held, or passed to its row of R44. -/
theorem State.commandFor_cases (s : State) (f : Frame) (a b c : Bool) (n : Option Nat) (act : Nat → State → State) :
    (∃ st, s.commandFor f a b c n act = s.complete f st) ∨ (∃ i, s.commandFor f a b c n act = s.completeMoved f i) ∨
    (∃ i, s.commandFor f a b c n act = (s.putEntry i { s.entry i with lockReport := false }).complete f stLockBroken) ∨
    (∃ i, s.commandFor f a b c n act = s.waitFor i f n) ∨
    (∃ i, s.gate f a b c = .pass i ∧ s.commandFor f a b c n act = act i s) := by
  unfold State.commandFor
  split
  · exact .inl ⟨_, rfl⟩
  · exact .inr (.inl ⟨_, rfl⟩)
  · exact .inr (.inr (.inl ⟨_, rfl⟩))
  · exact .inr (.inr (.inr (.inl ⟨_, rfl⟩)))
  · exact .inr (.inr (.inr (.inr ⟨_, ‹_›, rfl⟩)))

/-- The same of a command that opens no session. -/
theorem State.command_cases (s : State) (f : Frame) (a b c : Bool) (act : Nat → State → State) :
    (∃ st, s.command f a b c act = s.complete f st) ∨ (∃ i, s.command f a b c act = s.completeMoved f i) ∨
    (∃ i, s.command f a b c act = (s.putEntry i { s.entry i with lockReport := false }).complete f stLockBroken) ∨
    (∃ i, s.command f a b c act = s.waitFor i f none) ∨ (∃ i, s.gate f a b c = .pass i ∧ s.command f a b c act = act i s) :=
  s.commandFor_cases f a b c none act

theorem State.countDrop_frame (s : State) (port kind : Nat) : ∃ r a, s.countDrop port kind = { s with regs := r, flagSets := a } := by
  unfold State.countDrop
  simp only []
  split
  · exact (s.addRegFld 0x12 (port % 2) 0x58 (16 * kind + 15) (16 * kind) 1).setFlag_frame _ _
  · split
    · exact (s.addRegFld 0x12 (port % 2) 0x58 (16 * kind + 15) (16 * kind) 1).setFlag_frame _ _
    · split
      · exact (s.addRegFld 0x12 (port % 2) 0x58 (16 * kind + 15) (16 * kind) 1).setFlag_frame _ _
      · exact ⟨_, _, rfl⟩

/-- A packet for this package is dropped and counted, or its message acts (R331, R438). -/
theorem State.receive_cases (s : State) (h : Head) (op : Nat) (act : State → State) :
    (∃ k, s.receive h op act = s.countDrop h.port k) ∨ s.receive h op act = act s := by
  unfold State.receive
  split
  · exact .inl ⟨_, rfl⟩
  · split
    · exact .inl ⟨_, rfl⟩
    · split
      · exact .inl ⟨_, rfl⟩
      · exact .inr rfl

/-- A packet that passes the checks acts. -/
theorem State.receive_acts (s : State) (h : Head) (op : Nat) (act : State → State) (ha : s.authentic h op = true)
    (he : s.epochOk h = true) (hf : formOk h op = true) : s.receive h op act = act s := by
  simp [State.receive, ha, he, hf]

end Sys2Proof.Machine
end

