-- ==== Sys2Proof/Laws/Zynut.lean ====
section
/-! SUPPORT. What the shared steps of Zynut-M and Zynut-W do: one word of a running sequencer, and the issue of a bundle of
one slot. -/
namespace Sys2Proof.Machine

theorem seqr_putSeqr_at (s : State) (i j : Nat) (q : Sequencer) : (s.putSeqr i q).seqr j = if j = i then q else s.seqr j := by
  simp only [State.seqr, State.putSeqr, agetD, aget_aset]
  split <;> rfl

theorem core_putCore_at (s : State) (i j : Nat) (c : Core) : (s.putCore i c).core j = if j = i then c else s.core j := by
  simp only [State.core, State.putCore, agetD, aget_aset]
  split <;> rfl

/-- A running sequencer at a legal word within its limit does what the word's instruction gives (R220, R223). -/
theorem State.zmRun_at {s : State} {i w : Nat} {q : Sequencer} (h : ZmAt s i w q) {op : Nat} {fs : List (Nat × Nat × Nat)}
    (hw : wordIs w op fs = true) (t : Nat) (f : Sequencer → ZmOut) :
    s.zmRun ⟨i, none⟩ t op fs f = .next (match f { q with count := q.count + 1 } with
      | .next r => (s.stamp t).putSeqr i r
      | .full r => ((s.stamp t).putSeqr i r).setFlag fZymFull (i / 16)
      | .ended => (s.stamp t).zmEnd i { q with count := q.count + 1 }
      | .fault code trap => (s.stamp t).zmFault i code trap) := by
  obtain ⟨hx, hq, hr, _, z, hz, hc, hl, hi⟩ := h
  have hq' : (s.stamp t).seqr i = q := hq
  have hl' : ¬ z.limit ≤ q.count := Nat.not_le.mpr hl
  simp only [State.zmRun, hx, Bool.not_true, Bool.false_eq_true, if_false, hq', hr, if_true, State.zmStep, hz, hc, hl', hi, hw] <;> rfl

/-- An instruction that writes rd and goes on: the sequencer's registers, count and pc change, and nothing else but time. -/
theorem State.zmRun_put {s : State} {i w : Nat} {q : Sequencer} (h : ZmAt s i w q) {op : Nat} {fs : List (Nat × Nat × Nat)}
    (hw : wordIs w op fs = true) (t : Nat) {f : Sequencer → ZmOut} {r : Sequencer}
    (hf : f { q with count := q.count + 1 } = .next r) : s.zmRun ⟨i, none⟩ t op fs f = .next ((s.stamp t).putSeqr i r) := by
  rw [State.zmRun_at h hw, hf]

theorem needed_none : ∀ l : List MatCmd, needed [] [] l = ([], l)
  | [] => rfl
  | m :: r => by simp [needed, needed_none r]

/-- A bundle that waits for no engine lets none complete. -/
theorem State.matWait_none (s : State) (i : Nat) : s.matWait i [] = s.putCore i (s.core i) := by
  simp [State.matWait, State.matComplete, needed_none]

/-- The slot of a bundle of one slot reads the registers as they stood when the bundle issued, and the bundle is open and
empty (R210). -/
theorem State.zwSlot_issue {s : State} {i : Nat} {c : Core} (h : ZwReady s i c) (t slot : Nat) (f : State → WRegs → ZwOut) :
    ∃ u : State, u.core i = { c with bundle := some ⟨false, [], []⟩ } ∧ (∀ j, j ≠ i → u.core j = s.core j) ∧
      u = { s with pt := max s.pt t, now := t, cores := u.cores } ∧
      s.zwSlot (zwOne i) t slot f = .next (u.zwExec i slot true ⟨false, [], []⟩ (f u c.regs)) := by
  obtain ⟨hi, hin, hc, hs, hb, hu, _, _⟩ := h
  have hc' : (s.stamp t).core i = c := hc
  have hin' : (s.stamp t).coreIn i = true := hin
  refine ⟨((s.stamp t).putCore i c).putCore i { c with bundle := some ⟨false, [], []⟩ }, ?_, ?_, rfl, ?_⟩
  · simp
  · intro j hj
    rw [core_putCore_at, if_neg hj, core_putCore_at, if_neg hj]
    rfl
  · have hz : (s.stamp t).zwBegin (zwOne i) =
        ((s.stamp t).putCore i c).putCore i { c with bundle := some ⟨false, [], []⟩ } := by
      have he : ((List.range 4).filter fun e => bitOf 0 e) = [] := by decide
      have hd : (c.deferred.find? fun _ => false) = none := by simp
      simp [State.zwBegin, zwOne, he, State.matWait_none, hc', hd]
    have hi' : ¬ 516 ≤ i := Nat.not_le.mpr hi
    simp only [State.zwSlot]
    have h1 : (zwOne i).core = i := rfl
    have h2 : (zwOne i).start = none := rfl
    have h3 : (zwOne i).last = true := rfl
    simp only [h1, h2, h3, hi', if_false, hin', hc', hs, hb, hu, Option.isSome_none, Option.isNone_none,
      Bool.not_true, Bool.false_eq_true, bne_self_eq_false, Bool.or_false, if_true, hz, core_putCore_at]

end Sys2Proof.Machine
end

