-- ==== Sys2Proof/Tests/Slice0.lean ====
section
/-! SUPPORT. Tests: an ill-formed term for each check of WellFormed, the spec's worked examples, and for each statement
`Obligations.<Name>` a witness `w_<Name>_<clause>`: a concrete state and operands that meet all hypotheses of that clause
together. -/
open Sys2Proof Sys2Proof.Machine
namespace Sys2Proof.Tests
set_option Elab.async false

/-! ### States and operands the tests start from -/

/-- An enabled result queue and dispatch queue of 64 entries, and an enabled function that has them. -/
def wRq : ResultQueue := { ResultQueue.reset with log2 := 6, enabled := true }
def wDq : DispatchQueue := { DispatchQueue.reset with log2 := 6, enabled := true }
def wFn : HostFn := { HostFn.absent with state := .enabled, dqs := [(0, wDq)], rqs := [(0, wRq)] }

/-- A tenant bound to functions 1 and 2. -/
def wTenant : Tenant :=
  { Tenant.undeclared with declared := true, functions := [1, 2], maxSessions := 8, maxRunning := 8, tokenLimit := 1000, models := [0],
                           quota := ⟨1048576, 1048576, 1048576⟩ }

/-- The package with that function and tenant 1. -/
def wHost : State := { State.reset with fns := [(1, wFn)], tenants := [(1, wTenant)] }
def wFnIs (h : HostFn) : State := { State.reset with fns := [(1, h)] }

/-- A frame of function 1, queue 0. -/
def wF (op handle param : Nat) (body payload : List Byte) : Frame :=
  { function := 1, queue := 0, seq := 0, len := 64 + payload.length, opcode := op, flags := 0, handle := handle, tag := 9,
    param := param, body := body ++ List.replicate (32 - body.length) 0, payload := payload }

/-- The handle of slot 5, and a session there in a state. -/
def wHandle : Nat := 5 * 2 ^ 28 + 1
def wEntry (st : SState) (w : WaitReason) : Entry :=
  { Entry.free 5 with state := st, waitReason := w, tenant := 1, function := 1, callId := 3 }
def wIn (e : Entry) (g : Session → Session) : State := { wHost with sessions := [(5, g ((Session.free 5).withEntry e))] }
def wIs (e : Entry) : State := wIn e id

/-- A packet header of one flit from package 2 by port 3, sealed. -/
def wHead : Head := { port := 3, srcPkg := 2, srcDie := 28, dstDie := 28, tc := 0, job := 0, phase := 0, epoch := 0, len := 1, payBytes := 0, reservedZero := true, tagOk := true }

/-- A small vocabulary, a model instance of one layer with one KV head and pages of 4 KiB, and a sampler profile. -/
def wVocab : Vocab :=
  { pieces := [⟨0, [], true⟩, ⟨-1, [65], false⟩, ⟨-2, [66], false⟩, ⟨-1, [65, 66], false⟩], maxPiece := 2, byteBase := 4, byteScore := -100 }
def wModel : Model :=
  { layers := 1, dModel := 64, qHeads := 1, kvHeads := 1, headDim := 64, contextLimit := 4096, kvFormat := 3, kvPageClass := 0,
    groupHeads := 1, spanPages := 8, rotaryDims := 64, ropePairing := 0, ropeTurns := [], smoothExp := [], softmaxScale := 0x3f800000,
    window := [0], exact := 1, formats := [0], draftHead := false, experts := 0, topK := 0, sharedExperts := 1, vocab := wVocab,
    defaultLists := [0, 0, 0, 0], remoteGroups := [], remoteExperts := [], params := [] }
def wProfile : Profile :=
  { temperature := 0, topP := 0x3f800000, minP := 0, repPenalty := 0x3f800000, presence := 0, frequency := 0, topK := 0,
    penaltyWindow := 0, hookId := 0, drafts := 0, maxNew := 16, hookArgs := [] }

/-- SD0 in service with free slots, text pages and frames. -/
def wSd : StateDie := { StateDie.reset 0 with inService := true, textFree := 64, textTotal := 64, mapFree := 64, mapTotal := 64, dirFree := 64, dirTotal := 64, guestTotal := 8, outbox := Pool.new 64 }
def wMem (s : State) : State :=
  { s with sds := [(0, wSd)], models := [(0, wModel)], profiles := [(0, wProfile)],
           pools := [(0, { base := 0, pool := Pool.new 64 }), (256, { base := 0, pool := Pool.new 64 })] }

/-- The fabric with job 0 keyed and packages 0 and 2 in the group. -/
def wFab (s : State) : State :=
  { s with security := { Security.reset with jobs := [(0, ⟨0, ⟨.loaded, 1⟩, ⟨.empty, 0⟩, 0⟩)] },
           gallery := { Gallery.reset with members := [0, 2] } }

/-- The session of slot 5 migrates to package 2. -/
def wMig (p : MigPhase) : Migration :=
  { frame := none, dest := 2, homeSd := 0, tier := 0, function := 1, queue := 0, phase := p, state := .ready, wait := .none,
    moveSeq := 4, since := 0, freezeAt := 0, repeated := false, sent := 0, attached := [] }
def wMoving (p : MigPhase) : State :=
  { wFab (wMem (wIs (wEntry .moving .none))) with migrations := [(5, wMig p)] }

/-- What package 2 moves to this package: its session of slot 7, taken into slot 24. -/
def wGuestHandle : Nat := mkHandle 2 12 1
def wPrepare : PrepareMsg :=
  { handle := wGuestHandle, moveSeq := 3, tenant := 1, model := 0, kvParams := wModel.signature, homeSd := 0, function := 1,
    queue := 0, pages := [(0, 1)], metaTier := 1, textPages := 4, push := false }
def wIncoming : Incoming :=
  { src := 2, slot := 24, homeSd := 0, tenant := 1, model := 0, moveSeq := 3, function := 1, queue := 0, metaUsa := 0, textPages := 4,
    pages := [], staged := [], attached := [], accepted := 1, lastMsg := 0, push := false, held := none }
def wArriving : State :=
  { wFab (wMem wHost) with incoming := [(wGuestHandle, wIncoming)], guests := [(wGuestHandle, ⟨24, 1, true⟩)] }

/-- A page of 4 KiB in T0 that a session of slot 5 owns, and a package that has such pages at 4096 and 8192. -/
def wLeaf : Leaf :=
  { tier := 0, sizeClass := 0, pinned := false, cage := .resident, dirtyCkp := false, dirtyDur := false, poison := false,
    frozen := false, pool := 0, frame := 1, tenant := 1, refIndex := 0, access := 4, cageId := 0, scale := none, scaleBytes := 0,
    touched := false, pins := 0, orphan := false, owner := some 5 }
def wPages (s : State) : State :=
  { s with leaves := [(4096, wLeaf), (8192, { wLeaf with frame := 2 })] }

/-- A table of eight rows of 8 bytes at 8192, and a package whose table 1 it is. -/
def wTable : RowTable :=
  { tenant := 1, numeric := true, format := 0, rowBytes := 8, rowCount := 8, log2Block := 3, map := 4096, version := 1,
    blocks := [⟨0, 0, 8192⟩], pending := none, retiring := [], updates := [], hotAddr := 0, hotCount := 2, reading := [0],
    copies := [], lookedUp := [(0, 1)], lookups := [], queueHwm := [] }
def wIndex : RecallIndex :=
  { tenant := 1, dim := 2, subspaces := 1, innerProduct := false, sds := [0], capacity := 4, codebook := [[]],
    shards := [(0, [⟨3, 0, [0], false⟩])], queries := [], scanned := [] }
def wTables (f : Tables → Tables) : State :=
  let s := wPages (wMem wHost)
  { s with tables := f { Tables.empty with tables := [(1, wTable)], indexes := [(1, wIndex)] } }
def wFabTables (f : Tables → Tables) : State := wFab (wTables f)
def wRowFrame : Frame := { wF 0x0201 0 0 [1, 0, 0, 0, 0, 0, 0, 0, 1, 0, 1, 0] [7, 0, 0, 0] with handle := 0 }
def wQueryFrame : Frame := wF 0x0301 0 0 [1, 0, 1, 0, 0, 0, 0, 0, 0, 0, 0, 0, 1, 0] (List.replicate 104 0)
def wVersion : AdapterVersion :=
  { current := false, tenant := 1, model := 0, rank := 8, scale := 0, format := 2, targets := [], pages := [8192] }
def wImage : List Byte := leBytes 4 0x50414441 ++ leBytes 2 8 ++ leBytes 2 1 ++ leBytes 4 0 ++ [2] ++ List.replicate 27 0

/-- A member of slot 5 in a decode step on cluster 0, ready to draw, and the step with it. -/
def wMember : Member :=
  { slot := 5, tenant := 1, decode := true, drafts := 0, carried := 0, counted := 1, worst := 1, matched := 0, cluster := 0,
    draftTokens := [], draws := [], cows := [], newPages := [], mapBlocks := 0, dirPages := 0, appended := [(0, 1)], attention := [],
    attnBytes := 0, remote := [], experts := [], out := none, removed := false, applied := false, cancelled := false, lateFence := none }
def wRun : StepRun :=
  { number := 7, members := [wMember], startPt := 0, sealPt := none, budgetUsed := 1, suspended := false, suspensions := 0,
    preempted := 0, layer := 0, commitAtSeal := false, energy := 0 }

/-- A READY session of slot 5 with an open token, its metadata page at 4096 and one KV page at 8192. -/
def wDecoder : Session :=
  let x := (Session.free 5).withEntry { wEntry .ready .none with metaUsa := 4096, committed := 1 }
  { x with cur := { x.cur with openToken := some 1, kvMap := [(0, ⟨none, [⟨0, 1, 0, 8192⟩]⟩)] },
           mapHeld := 1, dirHeld := 1 }
def wReady (s : State) : State :=
  let s := { s with boot := { Boot.reset with ready := true, cdMap := [0], clusterMap := [(0, [0, 1])] } }
  (s.setReg (pcs 3 0 0x10) 0x12)
def wStepping (x : Session) (r : StepRun) : State :=
  wReady (wPages (wMem { wHost with sessions := [(5, x)], s0 := { Stream.reset with step := 7, run := some r } }))
def wRunning : Session := wDecoder.withEntry { wDecoder.cur.entry with state := .running, holder := .stepFormer false }
def wOut : MemberOut := { tokens := [2], accepted := 0, ending := .stop, text := TextBlock.empty, call := [] }

/-- A cage that moves the page at 8192 to T1, and the package it moves on. -/
def wCage : Cage :=
  { usa := 8192, up := false, tier := 1, pool := 0, frame := 4, scale := none, source := .policy, urgent := false, start := 0,
    c5 := none, c7 := none, oldTier := 0, oldPool := 0, oldFrame := 2, oldScale := none, marked := [], pins := 0 }
def wCaged (c : Cage) (l : Leaf) : State :=
  { wMem wHost with leaves := [(8192, l)], cages := [(3, c)],
                    pools := [(0, { base := 0, pool := Pool.new 64 }), (poolKey 0 1 0 0, { base := 0, pool := Pool.new 64 })] }

/-- A descriptor that moves 8 KiB of state memory at 4096 to host memory, the window it goes through, and its channel. -/
def wDesc : Descriptor :=
  { usa := 0, next := 0, src := 4096, dst := 65536, len := 8192, srcSpace := 0, dstSpace := 1, op := 0, urgent := false, mark := false,
    notify := false, tenant := 1, remotePkg := 0, remoteDie := 0, tc := 0, prog := 0, handle := 0, tag := 6, function := 1,
    reservedZero := true }
def wHoist (c : Channel) : State :=
  let s := wPages { State.reset with fns := [(1, { wFn with windows := [(0, ⟨65536, 65536, 0, none⟩)] })], tenants := [(1, wTenant)] }
  { s with channels := [(chanKey 17 15, c)] }
def wBusy : Channel := { Channel.reset with desc := some wDesc, state := 1 }
/-- The attention of the member's inputs in layer-group 0: one query head, one span, not yet folded. -/
def wWork : AttnWork :=
  { layerGroup := 0, start := 0, queries := [[List.replicate 64 0]], spans := 1, units := [(0, 0)], pins := [], next := 0, received := [],
    folded := [Partial.empty 64], output := none }
def wWith (f : Member → Member) : State := wStepping wRunning { wRun with members := [f wMember] }

/-- Port 15 in a state, and the package whose ports are all enabled with it. -/
def wPort (st : PortState) : GalPort := { GalPort.reset with state := st, lanes := 4, credits := [1, 1, 1, 1, 1, 1, 1, 1] }
def wLink (g : GalPort) : State :=
  { (State.reset.setReg (pcs 0x12 1 0x70) 0xffff) with gallery := { Gallery.reset with ports := [(15, g)] } }

/-- A packet from package `src` to package `dst`, and the package with port 15 UP as the way to package 2. -/
def wPacket (src dst : Nat) : Packet := ⟨dst, 28, 4, src, 28, 0, 0x50, 0, 0, 0, 0, 0, [], [], []⟩
def wRoute (g : GalPort) (sending : List Packet) : State :=
  let s := wLink g
  { s with gallery := { s.gallery with routes := [(2, 2 ^ 15)], sending := sending } }
def wQueued (x : Packet) : GalPort := { wPort .up with queues := [(4, [⟨x, 0⟩])] }

/-- An epoch that waits for its cut, and one that is cut with the page at 4096 still frozen. -/
def wEpoch : EpochRun :=
  { frame := wF 0x0501 0 90 [1] [], epoch := 1, cutPt := 90, full := true, keepFrom := 0, cut := none, recorded := [], froze := false,
    frozen := [], staged := [], stored := [], sessions := [], ledger := [], drained := 0 }
def wCut : EpochRun := { wEpoch with cut := some (90, 0), recorded := List.range 12, froze := true }
def wEpochs (r : EpochRun) (s : State) : State :=
  { s with checkpoint := { Checkpoint.reset with lastEpoch := 1, run := some r, stageFree := 65536, stageTotal := 65536 } }
def wRecord : PageRecord := { usa := 4096, sizeClass := 0, tier := 0, tenant := 1, scaleBytes := 0, bytes := [], scale := [] }

/-- A DORMANT session of slot 5 whose restore is in progress. -/
def wDormant : Entry := { wEntry .ready .none with residence := .dormant }
def wRestore : RestoreRun :=
  { frame := wF 0x010c wHandle 0 [] [], session := (Session.free 5).withEntry (wEntry .waiting .tool), homeSd := 0, metaUsa := 4096,
    pages := [] }
def wRestoring (e : Entry) : State :=
  { wMem (wIs e) with checkpoint := { Checkpoint.reset with restores := [(5, wRestore)], sources := [(5, .epoch 1 0)] } }
def wImageOf (xs : List Recorded) : EpochImage :=
  { epoch := 1, nsid := 0, full := true, xts := false, parent := 0, base := 1, cutPt := 90, cutStep := 0, layout := wHost.layoutSig,
    records := [], sessions := xs, ledger := [] }
def wRecorded : Recorded := ⟨5, (Session.free 5).withEntry (wEntry .ready .none), none⟩
def wDorm : State := { wMem (wIs wDormant) with checkpoint := { Checkpoint.reset with sources := [(5, .epoch 1 0)] } }

/-- The page that a restore of that session takes lies in the region of its home SD, wherever it is. -/
theorem wFreshUsa (s : State) (h : s.leaves = []) : ownerSd (s.freshUsa 0 0).1 = 0 := by
  simp [State.freshUsa, State.draw, h, freeRange, overlapsPage, ownerSd, fld, pageSize]
  omega
theorem wAllocAt (u : Nat) (h : ownerSd u = 0) :
    (((wDorm.stamp 0).draw.2).allocAt u 0 0 1 (some 5)).isSome = true := by
  unfold State.allocAt
  rw [h]
  rfl
theorem wRestoreStarts :
    ((wDorm.stamp 0).restoreStart (wF 0x010c wHandle 0 [] []) 5 ((wDorm).sess 5)).1 = stOk := by
  obtain ⟨v, hv⟩ := Option.isSome_iff_exists.1 (wAllocAt _ (wFreshUsa (wDorm.stamp 0) rfl))
  have ha : (wDorm.stamp 0).allocPage 0 0 0 1 (some 5) = some (((wDorm.stamp 0).freshUsa 0 0).1, v) := by
    simp only [State.allocPage]
    rw [show ((wDorm.stamp 0).freshUsa 0 0).2 = ((wDorm.stamp 0).draw.2) from rfl, hv]
    rfl
  have hr : (wDorm.stamp 0).restoreReserve 5 0 (wDorm.sess 5) wModel
      = (stOk, some (((wDorm.stamp 0).freshUsa 0 0).1, [], v)) := by
    unfold State.restoreReserve
    rw [if_neg (by decide +kernel), if_neg (by decide +kernel)]
    have e : ((wDorm.sess 5).cur.entry.tenant) = 1 := rfl
    simp only [e, ha]
    rfl
  have hm : aget (wDorm.stamp 0).models (wDorm.sess 5).cur.entry.model = some wModel := rfl
  have hh : (wF 0x010c wHandle 0 [] []).field 33 1 = 0 := by decide +kernel
  simp only [State.restoreStart, hm, hh]
  rw [if_neg (by decide +kernel)]
  simp [hr]

/-- A durable parked session with a changed metadata page, a journal with room, an entry being written. -/
def wParked : Session := (Session.free 5).withEntry { wEntry .waiting .tool with classD := true, residence := .parked, metaUsa := 4096 }
def wDurable : State :=
  { wHost with sessions := [(5, wParked)], leaves := [(4096, { wLeaf with dirtyDur := true })],
               power := { Power.reset with drainEnabled := true, journalTotal := 1024 } }
def wJournal : JournalWrite :=
  { entry := { kind := .base, seq := 3, boot := 0, handle := wHandle, lastSeal := 0, raw := 0, prev := 0, sessions := [], ledger := [],
               records := [], committed := false }, slot := 5, toCapture := [], payloadDone := false }
def wWriting (w : JournalWrite) : State :=
  { wDurable with power := { wDurable.power with jseq := 3, writes := [w] } }

/-- Energy port 1 with a store of profile 1 with two cells, in a phase, and the package with it. -/
def wStore (ph : PortPhase) : EnergyPort :=
  { EnergyPort.reset with phase := ph, healthy := true, taps := [2700, 2700], ntcs := [250], rating := 100, testPassed := true, storeV := 540 }
def wEid (p : EnergyPort) : State :=
  { (State.reset.setReg (pcs 0x16 1 0) (1 + 2 * 4 + 100 * 2 ^ 8 + 2700 * 2 ^ 24 + 1000 * 2 ^ 36 + 90 * 2 ^ 48)) with
    energyPorts := [(1, p)] }

/-- A package in bring-up whose phase `n` is next, and an image signature that the root of trust admits. -/
def wBoot (n : Nat) (f : Boot → Boot) : State :=
  { State.reset with boot := f { Boot.reset with pwrgd := true, resetN := true, phase := n } }
def wSig : ImageSig := ⟨0, 0, false, true, false, true⟩
def wBadSig : ImageSig := { wSig with svn := 65 }

/-- A journal whose committed TABLE records the parked session and whose FINAL entry holds its image. -/
def wKept : Session := (Session.free 5).withEntry { wEntry .ready .none with classD := true }
def wTableEntry : JournalEntry := { wJournal.entry with kind := .table, boot := 2, sessions := [⟨5, wKept, none⟩], committed := true }
def wRecovering : State :=
  { wBoot 6 id with
    power := { Power.reset with drainEnabled := true, boot := 3,
                                journal := [wTableEntry, { wJournal.entry with kind := .final, seq := 4, boot := 2, committed := true }] } }

/-- An SPDM connection with session 70000 set up, and a package whose root of trust holds it. -/
def wSession : SpdmSession := ⟨70000, true, 0, false⟩
def wSec (f : Security → Security) : State := { State.reset with security := f Security.reset }
def wSecure : State := wSec fun x => { x with spdm := .algorithms, sessions := [wSession] }

/-- A transaction of function 0 and scope, and a package that is ready with it. -/
def wTxn (sc : CtScope) : CtTxn := CtTxn.begin sc 0
def wReadyBoot : State := { wHost with boot := { Boot.reset with ready := true } }
def wWithTxn (x : CtTxn) : State := { wReadyBoot with txns := [x] }

/-- The same with a host window, a stream of steps and a snapshot being written. -/
def wHostPf : State := { wReadyBoot with fns := [(0, { wFn with windows := [(0, ⟨4096, 4194304, 0, none⟩)] })] }
def wSnap : Snapshot :=
  { fn := 0, blocks := 0, addr := 4096, len := 0, probes := [], atPt := none, mark := none, owners := [], regs := [], results := [], copied := [] }

theorem wOk {ε α : Type} {e : Except ε α} (h : (match e with | .ok _ => true | .error _ => false) = true) : ∃ a, e = .ok a := by
  cases e with
  | ok a => exact ⟨a, rfl⟩
  | error => cases h

/-- A Zynut-W core at a bundle with some registers set, and a package whose core 3 it is. -/
def wCore : Core :=
  { Core.reset with state := .running, pc := 128, regs := { WRegs.zero with scalar := [(1, 64), (2, 128), (3, 2 ^ 64 - 1), (4, 64)] } }
def wMapped : State := { State.reset with boot := { Boot.reset with cdMap := [0], clusterMap := [(0, [0, 1, 2, 3])] } }
def wZw (c : Core) : State := { wMapped with cores := [(3, c)] }

theorem wSmall {l : List (Nat × Nat)} {n : Nat} (hn : 0 < n) (h : ∀ p ∈ l, p.2 < n) (r : Nat) : agetD l r 0 < n := by
  induction l with
  | nil => exact hn
  | cons p l ih =>
    rw [agetD, aget]
    by_cases hp : p.1 = r
    · simp [hp]; exact h p (List.mem_cons_self ..)
    · simpa [hp, agetD] using ih fun q hq => h q (List.mem_cons_of_mem _ hq)

theorem wZwReady {s : State} {i : Nat} {c : Core}
    (h : (i < 516 ∧ s.coreIn i = true ∧ s.core i = c ∧ c.state = .running ∧ c.barrier = none ∧ c.bundle = none ∧ c.loops = []) ∧
      ∀ p ∈ c.regs.scalar, p.2 < 2 ^ 64) : ZwReady s i c :=
  let ⟨⟨a, b, d, e, f, g, k⟩, l⟩ := h
  ⟨a, b, d, e, f, g, k, fun r => by
    unfold WRegs.s
    split
    · decide
    · exact wSmall (by decide) l r⟩

/-- Core 3 reaches the barrier at which the other seven cores of its cluster stand. -/
def wBar : State := { wMapped with cores := (3, wCore) :: [0, 1, 2, 4, 5, 6, 7].map fun j => (j, { wCore with barrier := some (15, 9), bundle := some ⟨false, [], [.bar 15]⟩ }) }

theorem wBarred : ∀ j, j < 8 → j ≠ 3 → (wBar.core j).loops = [] ∧ (wBar.core j).bundle = some ⟨false, [], [.bar 15]⟩ ∧
    (wBar.core j).barrier = some (15, 9) := by
  decide +kernel

/-- A core with lanes in vector registers and a predicate that leaves two lanes out. -/
def wVec : Core := { wCore with regs := { WRegs.zero with scalar := [(1, 512), (2, 1024)], vector := [(0, 0x3f8000003f800000), (1, 0x7f800001), (30, 0x40000000), (31, 5)], pred := [(0, 2 ^ 128 - 4), (1, 2 ^ 128 - 1)] }, sram := memWrite [] 512 (List.replicate 100 7) }

/-- The same core with bytes in its SRAM. -/
def wFilled : Core := { wCore with sram := memWrite [] 64 (List.replicate 64 9) }

/-- A place's program of one word, and a package whose hoist sequencer 130 of HMC 8 is about to execute it. -/
def wZmImage (w : Nat) : ZmImage := { code := [w, 0], entry := 0, limit := 4, place := .hoist, scratch := [] }
def wSeqr (w : Nat) : Sequencer :=
  { Sequencer.reset with running := true, image := some (wZmImage w), runs := 5, regs := [(1, 2 ^ 32 - 1), (2, 33), (3, 1023), (4, 4096)],
                         views := [(2, [7, 8, 9])], inputs := [(0, [6, 5])] }
def wZm (q : Sequencer) : State := { State.reset with sequencers := [(130, q)] }

theorem wZmAt {s : State} {i w : Nat} {q : Sequencer} (z : ZmImage)
    (h : (seqrExists s.cds i = true ∧ s.seqr i = q ∧ q.running = true) ∧ (∀ p ∈ q.regs, p.2 < 2 ^ 32) ∧
      q.image = some z ∧ z.code[q.pc]? = some w ∧ q.count < z.limit ∧ zmIllegal z.place w = false) : ZmAt s i w q :=
  let ⟨⟨a, b, d⟩, l, e⟩ := h
  ⟨a, b, d, fun r => by
    unfold Sequencer.reg
    split
    · decide
    · exact wSmall (by decide) l r, z, e⟩

/-- A state with a byte of memory, a core with SRAM and a register, a cluster byte, and a command waiting. -/
def wSound : State :=
  { wZw wFilled with mem := [(4096, 5)], clusterSram := [(0, [(clusterBase, 7)])], sequencers := [(130, wSeqr 0)], pending := [.s1Resume 9] }

/-! ### Ill-formed terms -/

/-- The terms from which the ill-formed ones below differ in one operand. -/
theorem test_wellFormed_accepts : ([
    .dqTailWrite 0 0 0 0,
    .textHeadWrite 0 0 0,
    .dqCtlEnableWrite 0 .text 0 0,
    .recordDeliver 0 0,
    .vfDisable 1 0,
    .surpriseDown 0 0,
    .hostAttach 0 0 0,
    .drainTimeout (.nsa 0) 0,
    .rowLookup (wF 0 0 0 [] []) 0 0,
    .quotaRelease 0 0 0 0,
    .kvAppend false 0 0 [] 0,
    .remoteTimeout false 0 0 0 false 0,
    .hoistSegmentDone 0 0 [] false 0,
    .abortReq wHead 0 0 0,
    .codewordUncorrectable 0 0 0,
    .rollCall wHead 0 0 0 0 0 0 0,
    .transitCreditTimeout 0 0 0,
    .segData wHead 0 0 0 0 false [] 0,
    .attReq wHead 0 0 0 0 0 0 0 0 0 0 0 [] 0,
    .stagingCopyDone 0 0,
    .uvDetect 0 0 0,
    .thermtrip 0 0,
    .expanderAttach 0 0 0 false 0,
    .driveDown 0 0,
    .p0Done 0 0,
    .romSelftestDone 0 0 0,
    .firmwareFetch 0 0 false 0,
    .getCertificate 0 0,
    .keyManifest 0 false 0,
    .ideKm 0 0 0 [] false 0,
    .ctBegin 0 1 0,
    .ctCommit 0 2 0,
    .ctAbort 0 3 0,
    .ctLoadPatch 0 4 0,
    .ctCmdInvalidOp 0 0 0,
    .ctStageWrite 0 (pcs 6 0 0) 0 0,
    .errorDetect 0 0 0 0 0 0 0,
    .zwBarrierTimeout 0 0,
    .zwMatrixDone 0 0 0,
    .zwAdd (zwOne 0) 0 0 0 0,
    .zwAddi (zwOne 0) 0 0 0 0,
    .zwBr (zwOne 0) 0 0,
    .zwBrp (zwOne 0) 0 0 0,
    .zwLoop (zwOne 0) 0 0 0,
    .zwTzero (zwOne 0) 0 0 0 0,
    .zwMma (zwOne 0) 0 0 0 0 0 0 0 0,
    .zwVadd (zwOne 0) 0 0 0 0 false 0,
    .zwVcvt (zwOne 0) 0 0 0 false 0 0 0,
    .zwXcopy (zwOne 0) 0 0 0 0,
    .zwXsend (zwOne 0) 0 0 0 0 0,
    .zwXgallery (zwOne 0) 0 0 0 0 0 0,
    .zmAdd ⟨0, none⟩ 0 0 0 0,
    .zmAddi ⟨0, none⟩ 0 0 0 0,
    .zmBeq ⟨0, none⟩ 0 0 0 0,
    .zmJal ⟨0, none⟩ 0 0] : List Instr).all (fun c => c.wellFormed) = true := by
  decide +kernel

/-- One ill-formed term for each check of an operand. -/
theorem test_wellFormed_refuses_operands : ([
    .dqTailWrite 0 64 0 0,
    .dqTailWrite 128 0 0 0,
    .dqTailWrite 0 0 (2 ^ 64) 0,
    .dqTailWrite 0 0 0 (2 ^ 64),
    .textHeadWrite 128 0 0,
    .dqCtlEnableWrite 0 (.dispatch 64) 0 0,
    .dqCtlEnableWrite 0 (.result 64) 0 0,
    .recordDeliver (2 ^ 22) 0,
    .vfDisable 64 0,
    .surpriseDown 2 0,
    .hostAttach 0 64 0,
    .drainTimeout (.function 128) 0,
    .drainTimeout (.queue 0 64) 0,
    .drainTimeout (.cluster 64) 0,
    .drainTimeout (.nsa 12) 0,
    .drainTimeout (.galleryPort 16) 0,
    .rowLookup (wF 0 0 0 [] []) 12 0,
    .quotaRelease (2 ^ 16) 0 0 0,
    .quotaRelease 0 3 0 0,
    .kvAppend false 0 (2 ^ 16) [] 0,
    .remoteTimeout false 0 (2 ^ 32) 0 false 0,
    .hoistSegmentDone 0 32 [] false 0,
    .hoistSegmentDone 16 16 [] false 0,
    .hoistSegmentDone 12 0 [] false 0,
    .abortReq wHead (2 ^ 64) 0 0,
    .codewordUncorrectable 16 0 0,
    .rollCall wHead 0 0 0 0 0 (2 ^ 64) 0,
    .transitCreditTimeout 0 8 0,
    .segData wHead 0 0 0 (2 ^ 48) false [] 0,
    .attReq wHead 0 0 0 0 0 0 0 0 0 (2 ^ 16) 0 [] 0,
    .stagingCopyDone (2 ^ 48) 0,
    .uvDetect 2 0 0,
    .thermtrip 32 0,
    .expanderAttach 8 0 0 false 0,
    .driveDown 2 0,
    .p0Done 4 0,
    .romSelftestDone 2 0 0,
    .firmwareFetch 30 0 false 0,
    .firmwareFetch 0 64 false 0,
    .firmwareFetch 15 36 false 0,
    .getCertificate 256 0,
    .keyManifest 4 false 0] : List Instr).all (fun c => !c.wellFormed) = true := by
  decide +kernel

/-- One ill-formed term for each further check of an operand. -/
theorem test_wellFormed_refuses_more_operands : ([
    .ideKm 0 0 9 [] false 0,
    .ctBegin 1 1 0,
    .ctBegin 0 7 0,
    .ctCommit 0 7 0,
    .ctAbort 0 7 0,
    .ctLoadPatch 0 7 0,
    .ctCmdInvalidOp 0 1 0,
    .ctStageWrite 0 (pcs 5 0 16) 0 0,
    .errorDetect 4 0 0 0 0 0 0,
    .zwBarrierTimeout 516 0,
    .zwMatrixDone 0 4 0,
    .zwAdd (zwOne 0) 32 0 0 0,
    .zwAdd (zwOne 0) 0 32 0 0,
    .zwAdd (zwOne 0) 0 0 32 0,
    .zwAddi (zwOne 0) 0 0 (2 ^ 41) 0,
    .zwBr (zwOne 0) (2 ^ 20) 0,
    .zwBrp (zwOne 0) 8 0 0,
    .zwLoop (zwOne 0) 32 0 0,
    .zwTzero (zwOne 0) 4 0 0 0,
    .zwTzero (zwOne 0) 0 8 0 0,
    .zwTzero (zwOne 0) 0 0 32 0,
    .zwMma (zwOne 0) 0 0 16 0 0 0 0 0,
    .zwMma (zwOne 0) 0 0 0 16 0 0 0 0,
    .zwMma (zwOne 0) 0 0 0 0 0 32 0 0,
    .zwMma (zwOne 0) 0 0 0 0 0 0 32 0,
    .zwVadd (zwOne 0) 32 0 0 0 false 0,
    .zwVadd (zwOne 0) 0 32 0 0 false 0,
    .zwVadd (zwOne 0) 0 0 32 0 false 0,
    .zwVcvt (zwOne 0) 0 0 0 false 16 0 0,
    .zwVcvt (zwOne 0) 0 0 0 false 0 (2 ^ 33) 0,
    .zwXcopy (zwOne 0) 32 0 0 0,
    .zwXcopy (zwOne 0) 0 32 0 0,
    .zwXcopy (zwOne 0) 0 0 32 0,
    .zwXsend (zwOne 0) 0 0 0 32 0,
    .zwXgallery (zwOne 0) 0 0 0 (2 ^ 14) 0 0,
    .zmAdd ⟨0, none⟩ 16 0 0 0,
    .zmAdd ⟨0, none⟩ 0 16 0 0,
    .zmAdd ⟨0, none⟩ 0 0 16 0,
    .zmAddi ⟨0, none⟩ 0 0 (2 ^ 18) 0,
    .zmBeq ⟨0, none⟩ 0 0 (2 ^ 18) 0,
    .zmJal ⟨0, none⟩ (2 ^ 26) 0] : List Instr).all (fun c => !c.wellFormed) = true := by
  decide +kernel

/-- One ill-formed term for each check of a frame, a packet header, a slot and a sequencer. -/
theorem test_wellFormed_refuses_headers : ([
    .sessionOpen { wF 0 0 0 [] [] with function := 128 } 0,
    .sessionOpen { wF 0 0 0 [] [] with queue := 65 } 0,
    .sessionOpen { wF 0 0 0 [] [] with len := 2 ^ 32 } 0,
    .sessionOpen { wF 0 0 0 [] [] with opcode := 2 ^ 16 } 0,
    .sessionOpen { wF 0 0 0 [] [] with flags := 2 ^ 16 } 0,
    .sessionOpen { wF 0 0 0 [] [] with handle := 2 ^ 64 } 0,
    .sessionOpen { wF 0 0 0 [] [] with tag := 2 ^ 64 } 0,
    .sessionOpen { wF 0 0 0 [] [] with param := 2 ^ 64 } 0,
    .sessionOpen { wF 0 0 0 [] [] with body := [] } 0,
    .aborted { wHead with port := 16 } 0 0,
    .aborted { wHead with srcPkg := 2 ^ 14 } 0 0,
    .aborted { wHead with srcDie := 32 } 0 0,
    .aborted { wHead with dstDie := 32 } 0 0,
    .aborted { wHead with tc := 8 } 0 0,
    .zwHalt (zwOne 516) 0,
    .zwHalt { zwOne 0 with cond := some (8, true) } 0,
    .zwHalt { zwOne 0 with wait := 128 } 0,
    .zwHalt { zwOne 0 with illegal := some 9 } 0,
    .zmEnd ⟨8, none⟩ 0,
    .zmEnd ⟨16 * 12 + 16, none⟩ 0] : List Instr).all (fun c => !c.wellFormed) = true := by
  decide +kernel

/-! ### The spec's worked examples -/

/-- R7's example (spec/00_scope.md) and the example of spec/21_register_index.md: addresses of registers. -/
theorem test_pcs_addresses :
    pcs 0x02 5 0x40 = 0x00850040 ∧ pcs 0x15 0 0x18 = 0x05400018 ∧ pcs 0x04 0 0x48 = 0x01000048 ∧ pcs 0x02 6 0x18 = 0x00860018 := by
  decide

/-- PWR_HOLD resets to 0x0000_9700_1F42_A410 (spec/21_register_index.md). -/
theorem test_pwr_hold_resets : resetReg (pcs 0x15 0 0x18) = 0x000097001f42a410 := by decide +kernel

/-- Three dot products, first: FCT4 by FCT4, one block, gives −8.5 as BF16 (spec/07_arithmetic.md). -/
theorem test_facet_dot_product :
    reduce fmtBF16 2 [[blockElem 0 127 3, blockElem 0 130 10], [blockElem 0 127 11, blockElem 0 130 4],
      [blockElem 0 127 7, blockElem 0 130 1], [blockElem 0 127 2, blockElem 0 130 7]] = (0xc108, false) := by
  decide +kernel

/-- Three dot products, second: (2^40, 1.5, −2^40, 2^−100) by ones gives 1.5, in this order and in another. -/
theorem test_bf16_order_and_truncation :
    let a := fun x => [scalarOpd fmtBF16 x, scalarOpd fmtBF16 0x3f80]
    reduce fmtBF16 2 [a 0x5380, a 0x3fc0, a 0xd380, a 0x0d80] = (0x3fc0, false) ∧
    reduce fmtBF16 2 [a 0x5380, a 0xd380, a 0x0d80, a 0x3fc0] = (0x3fc0, false) := by
  decide +kernel

/-- Three dot products, third: the sum of both packages' images at A = 8 rounds to 0x3F82_C500. -/
theorem test_split_reduction :
    roundAcc fmtFP32 8 (sumAcc [some (-299 * 2 ^ 105), some (2111 * 2 ^ 109)]) Val.one = (0x3f82c500, false) := by
  decide +kernel

/-- The wake filter of spec/08_zynut.md: each word is the instruction listed. -/
theorem test_wake_filter_words :
    wordIs 0x90408008 0x24 (fieldsI 1 0 (2 * 2 ^ 14 + 8)) = true ∧ wordIs 0x444400ff 0x11 (fieldsI 1 1 0xff) = true ∧
    wordIs 0x60840001 0x18 (fieldsI 2 1 1) = true ∧ wordIs 0xe0080000 0x38 [(21, 18, 2), (17, 0, 0)] = true ∧
    wordIs 0xf8000000 0x3e [] = true := by
  decide

/-- The wake filter's word 1 as one command: ANDI m1, m1, 0xFF keeps the low byte and goes on. -/
theorem test_zm_andi_keeps_the_low_byte :
    (match exec (.zmAndi ⟨130, none⟩ 1 1 0xff 0) (wZm { wSeqr 0x444400ff with regs := [(1, 0x1234)] }) with
      | .next s => ((s.seqr 130).reg 1, (s.seqr 130).pc)
      | _ => (0, 0)) = (0x34, 1) := by
  decide +kernel

/-- The vocabulary of the example of spec/09_text_sampling.md: IDs 0 to 13 in its order, then byte fallback. -/
def wTokens : Vocab :=
  let p := fun (s : Int) (b : List Byte) => (⟨s, b, false⟩ : Piece)
  { pieces := [p (-4) [0x74], p (-4) [0x6f], p (-4) [0x6b], p (-4) [0x65], p (-4) [0x6e], p (-2) [0x73], p (-1) [0x20],
               p (-3) [0x74, 0x6f], p (-3) [0x6f, 0x6b], p (-5) [0x6b, 0x65], p (-3) [0x65, 0x6e], p (-4) [0x6e, 0x73],
               p (-6) [0x74, 0x6f, 0x6b], p (-5) [0x65, 0x6e, 0x73]],
    maxPiece := 3, byteBase := 14, byteScore := -20 }

/-- "tokens ok" has the best scores of the example's table. -/
theorem test_tokens_ok_scores :
    (bestPaths wTokens [0x74, 0x6f, 0x6b, 0x65, 0x6e, 0x73, 0x20, 0x6f, 0x6b]).map PathNode.score =
      [0, -4, -3, -6, -8, -9, -11, -12, -16, -15] := by
  decide +kernel

def wText : TextInput :=
  { unread := [], window := [], base := 0, closed := false, opcode := 0x0102, function := 1, queue := 0, fresh := false, stalled := false,
    waits := [] }

/-- At frontier 4 nothing settles; at frontier 8 tok and ens do, with the settle point at 6. -/
theorem test_tokens_ok_settles :
    (TextInput.settle wTokens { wText with window := [0x74, 0x6f, 0x6b, 0x65] }).1 = [] ∧
    (TextInput.settle wTokens { wText with window := [0x74, 0x6f, 0x6b, 0x65, 0x6e, 0x73, 0x20, 0x6f] }).1 = [12, 13] := by
  decide +kernel

/-- The LTO store of spec/14_power_energy.md, full, by its check line: 3,278,880 J. -/
theorem test_lto_store_energy :
    ({ EnergyPort.reset with rating := 20, soc := 1000, storeV := 5940 } : EnergyPort).usable
      (2 + 22 * 4 + 20 * 2 ^ 8 + 2700 * 2 ^ 24 + 1800 * 2 ^ 36 + 92 * 2 ^ 48) = 3278880 := by
  decide +kernel

/-- The shared page of spec/05_prefixes.md: four tenants pay 105 eighths each at a tick, the originator 108. -/
theorem test_shared_page_charges :
    let s := State.reset.chargePageTier 0 67584 ([41, 42, 43, 44, 40], 40)
    [40, 41, 42, 43, 44].map (fun t => ((s.tenant t).charges.map fun c => if c.1 = 6 then c.2.1 else 0).sum) = [108, 105, 105, 105, 105] := by
  decide +kernel

/-! ### Witnesses -/

theorem w_QueuesAreDrivenByTheirRegisters_0 : ∃ (s : State) (fn : Nat) (q : Nat),
      fn < 128 ∧
      q < 64 ∧
      ((s.fn fn).dq q).enabled = true :=
  ⟨wHost, 1, 0, by decide +kernel⟩

theorem w_QueuesAreDrivenByTheirRegisters_1 : ∃ (s : State) (fn : Nat) (q : Nat),
      fn < 128 ∧
      q < 64 ∧
      ((s.fn fn).rq q).enabled = true :=
  ⟨wHost, 1, 0, by decide +kernel⟩

theorem w_QueuesAreDrivenByTheirRegisters_2 : ∃ (s : State) (fn : Nat) (q : Nat),
      fn < 128 ∧
      q < 64 ∧
      (s.fn fn).text.enabled = true :=
  ⟨wFnIs { wFn with text := { TextRing.reset with log2 := 12, enabled := true } }, 1, 0, by decide +kernel⟩

theorem w_QueuesAreDrivenByTheirRegisters_3 : ∃ (s : State) (fn : Nat) (q : Nat) (v : Nat),
      fn < 128 ∧
      q < 64 ∧
      s.tdiLocked fn = false ∧
      ((s.fn fn).dq q).enabled = false ∧
      ((s.fn fn).dq q).fault = false ∧
      bitOf v 16 = true ∧
      6 ≤ fld v 4 0 ∧
      fld v 4 0 ≤ 16 :=
  ⟨wFnIs { wFn with dqs := [(63, { wDq with enabled := false })] }, 1, 63, 65536 + 16, by decide +kernel⟩

theorem w_QueuesAreDrivenByTheirRegisters_4 : ∃ (s : State) (fn : Nat) (q : Nat) (v : Nat),
      fn < 128 ∧
      q < 64 ∧
      s.tdiLocked fn = false ∧
      ((s.fn fn).dq q).enabled = false ∧
      ((s.fn fn).dq q).fault = false ∧
      bitOf v 16 = true ∧
      (fld v 4 0 < 6 ∨ 16 < fld v 4 0) :=
  ⟨wFnIs { wFn with dqs := [(63, { wDq with enabled := false })] }, 1, 63, 65536 + 17, by decide +kernel⟩

theorem w_QueuesAreDrivenByTheirRegisters_5 : ∃ (s : State) (fn : Nat) (q : Nat) (v : Nat),
      fn < 128 ∧
      q < 64 ∧
      s.tdiLocked fn = false ∧
      (((s.fn fn).dq q).enabled = true ∨ ((s.fn fn).dq q).fault = true) ∧
      bitOf v 16 = false :=
  ⟨wFnIs { wFn with dqs := [(63, { wDq with fault := true, enabled := false })] }, 1, 63, 0, by decide +kernel⟩

theorem w_FramesAndRecordsPassTheQueues_0 : ∃ (s : State) (fn : Nat) (q : Nat) (bs : List Byte) (slots : Nat),
      fn < 128 ∧
      q < 64 ∧
      ((s.fn fn).dq q).enabled = true ∧
      ((s.fn fn).dq q).fault = false ∧
      (s.fn fn).state = .enabled ∧
      ((s.fn fn).dq q).inFlight.length < 256 ∧
      s.boot.ready = true ∧
      s.security.conf = false ∧
      headerCheck (2 ^ ((s.fn fn).dq q).log2) (leAt bs 0 4) (parseFrame fn q ((s.fn fn).dq q).fetched bs) = .pass slots ∧
      (parseFrame fn q ((s.fn fn).dq q).fetched bs).timed = false ∧
      0 < slots ∧
      slots ≤ (((s.fn fn).dq q).tail + 2 ^ ((s.fn fn).dq q).log2 - ((s.fn fn).dq q).head % 2 ^ ((s.fn fn).dq q).log2) % 2 ^ ((s.fn fn).dq q).log2 :=
  ⟨{ wReadyBoot with fns := [(1, { wFn with dqs := [(0, { wDq with tail := 1 })] })] }, 1, 0, leBytes 4 64 ++ leBytes 4 0x0104 ++ List.replicate 56 0, 1, by decide +kernel⟩

theorem w_FramesAndRecordsPassTheQueues_1 : ∃ (fn : Nat) (q : Nat),
      fn < 128 ∧
      q < 64 :=
  ⟨1, 0, by decide +kernel⟩

theorem w_FramesAndRecordsPassTheQueues_2 : ∃ (s : State) (fn : Nat) (q : Nat) (r : Record) (notify : Bool) (rest : List (Record × Bool)),
      fn < 128 ∧
      q < 64 ∧
      ((s.fn fn).rq q).waiting = (r, notify) :: rest ∧
      (s.fn fn).hasRoom q r = true ∧
      r.text = [] :=
  ⟨wFnIs { wFn with rqs := [(0, { wRq with waiting := [(⟨4, 0, 0x0104, 0, 9, [], []⟩, false)], tail := 63, head := 1 })] }, 1, 0, ⟨4, 0, 0x0104, 0, 9, [], []⟩, false, [], by decide +kernel⟩

theorem w_FramesAndRecordsPassTheQueues_3 : ∃ (s : State) (fn : Nat) (q : Nat) (t : Nat),
      fn < 128 ∧
      q < 64 ∧
      ((s.fn fn).rq q).since ≠ 0 ∧
      ((s.fn fn).rq q).modUs ≠ 0 ∧
      ((s.fn fn).rq q).pendingRecords ≠ 0 ∧
      ((s.fn fn).rq q).since + ((s.fn fn).rq q).modUs * 1000 ≤ t ∧
      (s.fn fn).masked ((s.fn fn).rq q).vector = false :=
  ⟨wFnIs { wFn with rqs := [(0, { wRq with since := 5, modUs := 2, tail := 1 })], msix := [(1, 0)] }, 1, 0, 2005, by decide +kernel⟩

theorem w_FunctionsAttachDrainResetAndStop_0 : ∃ (s : State) (fn : Nat),
      fn < 128 ∧
      (s.fn fn).state ≠ .absent :=
  ⟨wHost, 1, by decide +kernel⟩

theorem w_FunctionsAttachDrainResetAndStop_1 : ∃ (s : State) (fn : Nat),
      fn < 128 ∧
      (s.fn fn).state ≠ .absent ∧
      fn % 64 ≠ 0 :=
  ⟨wHost, 1, by decide +kernel⟩

theorem w_FunctionsAttachDrainResetAndStop_2 : ∃ (port : Nat),
      port < 2 :=
  ⟨1, by decide +kernel⟩

theorem w_FunctionsAttachDrainResetAndStop_3 : ∃ (port : Nat) (vfs : Nat),
      port < 2 ∧
      vfs < 64 :=
  ⟨1, 63, by decide +kernel⟩

theorem w_FunctionsAttachDrainResetAndStop_4 : ∃ (s : State) (fn : Nat) (t : Nat),
      fn < 128 ∧
      (s.fn fn).state = .resetting ∧
      (s.fn fn).drainEnd ≤ t :=
  ⟨wFnIs { wFn with state := .resetting, drainEnd := 7 }, 1, 7, by decide +kernel⟩

theorem w_FunctionsAttachDrainResetAndStop_5 : ∃ (fn : Nat),
      fn < 128 :=
  ⟨1, by decide +kernel⟩

theorem w_RebindMovesTheTenantsSessions_0 : ∃ (s : State) (fn : Nat) (v : Nat) (slot : Nat) (x : Session),
      fn < 128 ∧
      bitOf v 63 = true ∧
      s.bound (fld v 11 0) (fld v 30 24) = true ∧
      aget s.sessions slot = some x ∧
      x.cur.entry.state ≠ .free :=
  ⟨wIs (wEntry .ready .none), 0, 2 ^ 63 + 2 * 2 ^ 24 + 1 * 2 ^ 16 + 1, 5, (Session.free 5).withEntry (wEntry .ready .none), by decide +kernel⟩

theorem w_TextIsTakenUnderTheLock_0 : ∃ (s : State) (f : Frame) (slot : Nat),
      Reaches s f slot ∧
      (s.entry slot).inputOpen = false ∧
      (s.entry slot).peer = 0 ∧
      (s.entry slot).state = .waiting ∧
      f.payload ≠ [] ∧
      f.timed = false ∧
      (s.entry slot).waitReason = .input ∧
      f.opcode = 0x0102 ∧
      f.plainOk = true :=
  ⟨wIs (wEntry .waiting .input), wF 0x0102 wHandle 0 [] [65], 5, by unfold Reaches; decide +kernel⟩

theorem w_TextIsTakenUnderTheLock_1 : ∃ (s : State) (f : Frame) (slot : Nat) (t : Nat),
      Reaches s f slot ∧
      (s.entry slot).inputOpen = false ∧
      (s.entry slot).peer = 0 ∧
      (s.entry slot).state = .waiting ∧
      f.payload ≠ [] ∧
      f.timed = false ∧
      (s.entry slot).waitReason = .tool ∧
      f.opcode = 0x0103 ∧
      f.resumeOk = true ∧
      f.field 32 4 = (s.entry slot).callId ∧
      ((s.entry slot).deadline = 0 ∨ t ≤ (s.entry slot).deadline) :=
  ⟨wIs { wEntry .waiting .tool with deadline := 9 }, wF 0x0103 wHandle 0 [3] [65], 5, 9, by unfold Reaches; decide +kernel⟩

theorem w_TextIsTakenUnderTheLock_2 : ∃ (s : State) (f : Frame) (slot : Nat) (t : Nat),
      Reaches s f slot ∧
      (s.entry slot).inputOpen = false ∧
      (s.entry slot).peer = 0 ∧
      (s.entry slot).state = .waiting ∧
      f.payload ≠ [] ∧
      f.timed = false ∧
      (s.entry slot).waitReason = .tool ∧
      f.opcode = 0x0103 ∧
      f.resumeOk = true ∧
      f.field 32 4 = (s.entry slot).callId ∧
      (s.entry slot).deadline ≠ 0 ∧
      (s.entry slot).deadline < t :=
  ⟨wIs { wEntry .waiting .tool with deadline := 9 }, wF 0x0103 wHandle 0 [3] [65], 5, 10, by unfold Reaches; decide +kernel⟩

theorem w_SessionsHoldParkCancelAndClose_0 : ∃ (s : State) (f : Frame) (slot : Nat),
      Reaches s f slot ∧
      f.paramOk = true ∧
      f.zeros 32 63 = true ∧
      f.opcode = 0x0104 ∧
      ((s.entry slot).state = .ready ∨ (s.entry slot).state = .waiting) :=
  ⟨wIs (wEntry .waiting .tool), wF 0x0104 wHandle 0 [] [], 5, by unfold Reaches; decide +kernel⟩

theorem w_SessionsHoldParkCancelAndClose_1 : ∃ (s : State) (f : Frame) (slot : Nat),
      Reaches s f slot ∧
      f.paramOk = true ∧
      f.zeros 32 63 = true ∧
      f.opcode = 0x0105 ∧
      (s.entry slot).state = .held ∧
      (s.entry slot).prior = .ready ∧
      (s.entry slot).timedOut = false :=
  ⟨wIs { wEntry .held .none with prior := .ready }, wF 0x0105 wHandle 0 [] [], 5, by unfold Reaches; decide +kernel⟩

theorem w_SessionsHoldParkCancelAndClose_2 : ∃ (s : State) (f : Frame) (slot : Nat),
      Reaches s f slot ∧
      f.paramOk = true ∧
      f.zeros 32 63 = true ∧
      f.opcode = 0x0106 ∧
      ((s.entry slot).state = .ready ∨ (s.entry slot).state = .waiting ∨ (s.entry slot).state = .held) :=
  ⟨wIs (wEntry .held .none), wF 0x0106 wHandle 0 [] [], 5, by unfold Reaches; decide +kernel⟩

theorem w_SessionsHoldParkCancelAndClose_3 : ∃ (s : State) (f : Frame) (slot : Nat),
      Reaches s f slot ∧
      f.paramOk = true ∧
      f.zeros 32 63 = true ∧
      f.opcode = 0x0107 ∧
      (s.entry slot).state = .waiting ∧
      (s.entry slot).waitReason = .tool ∧
      (s.entry slot).peer = 0 ∧
      (s.sess slot).inputs.flatMap TextInput.waits = [] ∧
      aget s.migrations slot = none :=
  ⟨wIs (wEntry .waiting .tool), wF 0x0107 wHandle 0 [] [], 5, by unfold Reaches; decide +kernel⟩

theorem w_SessionsHoldParkCancelAndClose_4 : ∃ (s : State) (f : Frame) (slot : Nat),
      Reaches s f slot ∧
      f.opcode = 0x0108 ∧
      f.plainOk = true ∧
      aget s.migrations slot = none ∧
      ((s.entry slot).state = .ready ∨ (s.entry slot).state = .waiting ∨ (s.entry slot).state = .held ∨ (s.entry slot).state = .fenced) :=
  ⟨wIs (wEntry .fenced .none), wF 0x0108 wHandle 0 [] [], 5, by unfold Reaches; decide +kernel⟩

theorem w_SessionsHoldParkCancelAndClose_5 : ∃ (s : State) (slot : Nat),
      (s.entry slot).state = .closing ∧
      hOrigin (s.entry slot).handle = s.pkg :=
  ⟨wIs { wEntry .closing .none with handle := 5 * 2 ^ 28 + 0x0ffffffe }, 5, by decide +kernel⟩

theorem w_SessionsOpenAndFork_0 : ∃ (s : State) (f : Frame) (n : Nat) (p : Nat × Pool) (m : Model) (q : Profile),
      f.opcode = 0x0101 ∧
      openFieldsOk f = true ∧
      s.bound (f.field 32 2) f.function = true ∧
      aget s.models (f.field 34 2) = some m ∧
      fld f.param 47 32 = 0 ∧
      f.field 56 8 = 0 ∧
      (s.tenant (f.field 32 2)).models.contains (f.field 34 2) = true ∧
      aget s.profiles (fld f.param 31 0) = some q ∧
      s.nextTableSd 12 s.rotation = some n ∧
      (s.sd n).slots.take = some p :=
  ⟨wMem wHost, wF 0x0101 0 0 [1, 0, 0, 0, 0, 0, 0xff] [0, 0], 0, (0, { Pool.new 349526 with fresh := 1 }), wModel, wProfile, by decide +kernel⟩

theorem w_SessionsOpenAndFork_1 : ∃ (s : State) (f : Frame) (slot : Nat),
      (s.entry slot).state = .opening ∧
      (s.entry slot).metaUsa ≠ noPage ∧
      (s.sess slot).owner = some f ∧
      (s.sess slot).waiting = [] :=
  ⟨wIn { wEntry .opening .none with metaUsa := 4096 } fun x => { x with owner := some (wF 0x0101 wHandle 0 [] []) }, wF 0x0101 wHandle 0 [] [], 5, by decide +kernel⟩

theorem w_SessionsOpenAndFork_2 : ∃ (s : State) (f : Frame) (slot : Nat) (n : Nat) (p : Nat × Pool) (p' : Nat × Pool),
      Reaches s f slot ∧
      f.opcode = 0x0109 ∧
      f.forkOk = true ∧
      ((s.entry slot).state = .ready ∨ (s.entry slot).state = .waiting ∨ (s.entry slot).state = .held) ∧
      (s.sess slot).cur.kvMap = [] ∧
      s.tenantSlots (s.entry slot).tenant < (s.tenant (s.entry slot).tenant).maxSessions ∧
      s.nextTableSd 12 s.rotation = some n ∧
      (s.sd n).slots.take = some p ∧
      n + 12 * p.1 ≠ slot ∧
      s.quotaFits (s.entry slot).tenant 0 4096 = true ∧
      4 ≤ (s.sd (s.entry slot).homeSd).textFree ∧
      (s.entry slot).homeSd < 12 ∧
      s.leaves.length < 2 ^ 30 ∧
      (s.pool (poolKey (s.entry slot).homeSd 0 (s.entry slot).homeSd 0)).pool.take = some p' :=
  ⟨wMem (wIs (wEntry .ready .none)), wF 0x0109 wHandle 0 [] [], 5, 0, (0, { Pool.new 349526 with fresh := 1 }), (0, { Pool.new 64 with fresh := 1 }), by unfold Reaches; decide +kernel⟩

theorem w_PeersWaitAndWake_0 : ∃ (s : State) (f : Frame) (slot : Nat) (b : Nat) (edges : Nat),
      Reaches s f slot ∧
      f.opcode = 0x010b ∧
      f.waitPeerOk = true ∧
      (s.entry slot).state = .waiting ∧
      ((s.entry slot).waitReason = .input ∨ (s.entry slot).waitReason = .tool) ∧
      (s.entry slot).callId < 0xffffffff ∧
      s.findHandle (f.field 32 8) = some b ∧
      s.bound (s.entry b).tenant f.function = true ∧
      (s.entry b).state ≠ .away ∧
      s.walkPeers slot 65 b = (edges, false) ∧
      (s.entry slot).height + 1 + edges ≤ 64 :=
  ⟨{ wHost with sessions := [(5, (Session.free 5).withEntry (wEntry .waiting .input)), (6, (Session.free 6).withEntry { Entry.free 6 with state := .ready, tenant := 1 })] }, wF 0x010b wHandle 100 (leBytes 8 (6 * 2 ^ 28 + 1)) [], 5, 6, 0, by unfold Reaches; decide +kernel⟩

theorem w_PeersWaitAndWake_2 : ∃ (s : State) (f : Frame) (slot : Nat) (b : Nat),
      Reaches s f slot ∧
      f.opcode = 0x010b ∧
      f.waitPeerOk = true ∧
      (s.entry slot).state = .waiting ∧
      ((s.entry slot).waitReason = .input ∨ (s.entry slot).waitReason = .tool) ∧
      (s.entry slot).callId < 0xffffffff ∧
      s.findHandle (f.field 32 8) = some b ∧
      s.bound (s.entry b).tenant f.function = false :=
  ⟨{ wHost with sessions := [(5, (Session.free 5).withEntry (wEntry .waiting .input)), (6, (Session.free 6).withEntry { Entry.free 6 with state := .ready, tenant := 9 })] }, wF 0x010b wHandle 100 (leBytes 8 (6 * 2 ^ 28 + 1)) [], 5, 6, by unfold Reaches; decide +kernel⟩

theorem w_PeersWaitAndWake_1 : ∃ (s : State) (slot : Nat) (w : Nat) (rejects : List Nat),
      (s.sess slot).peerDone = true ∧
      s.waiters slot = [w] ∧
      w ≠ slot ∧
      rejects.contains w = false ∧
      (s.entry w).state = .waiting :=
  ⟨{ wHost with sessions := [(5, { (Session.free 5).withEntry { wEntry .closing .none with firstWaiter := some 6 } with peerDone := true }), (6, (Session.free 6).withEntry { Entry.free 6 with state := .waiting, waitReason := .peer, peer := wHandle, tenant := 1 })] }, 5, 6, [], by decide +kernel⟩

theorem w_TimersAndLeasesEndWaits_0 : ∃ (s : State) (slot : Nat) (t : Nat),
      (s.entry slot).state = .waiting ∧
      (s.sess slot).timer = some .deadline ∧
      (s.sess slot).staged = none ∧
      (s.entry slot).deadline + s.regFld 0x02 0 0x00 25 16 * 1000 ≤ t :=
  ⟨wIn { wEntry .waiting .tool with deadline := 7 } fun x => { x with timer := some .deadline }, 5, 1000007, by decide +kernel⟩

theorem w_TimersAndLeasesEndWaits_1 : ∃ (s : State) (slot : Nat) (d : Nat),
      (s.entry slot).state = .waiting ∧
      (s.sess slot).staged = some d ∧
      (s.sess slot).waiting = [] ∧
      (s.entry slot).holder = .none ∧
      ((s.entry slot).waitReason = .tool ∨ (s.entry slot).waitReason = .peer) :=
  ⟨wIn { wEntry .waiting .tool with deadline := 7 } fun x => { x with staged := some 7 }, 5, 7, by decide +kernel⟩

theorem w_TimersAndLeasesEndWaits_2 : ∃ (s : State) (slot : Nat) (t : Nat),
      (s.entry slot).state = .waiting ∧
      (s.entry slot).waitReason = .timer ∧
      (s.entry slot).deadline ≤ t :=
  ⟨wIn { wEntry .waiting .timer with deadline := 7 } fun x => { x with timer := some .notBefore }, 5, 7, by decide +kernel⟩

theorem w_TimersAndLeasesEndWaits_3 : ∃ (s : State) (slot : Nat) (t : Nat) (fn : Nat) (q : Nat),
      (s.entry slot).holder = .host fn q ∧
      (s.entry slot).leaseEnd ≤ t ∧
      (s.sess slot).waiting = [] ∧
      aget s.migrations slot = none :=
  ⟨wIs { wEntry .ready .none with holder := .host 1 0, leaseEnd := 7 }, 5, 7, 1, 0, by decide +kernel⟩

theorem w_TextIsTakenAndRecordsLeave_0 : ∃ (s : State) (slot : Nat) (t : Nat) (w : Waiting),
      (s.sess slot).timed = [w] ∧
      w.frame.param ≤ t ∧
      w.frame.opcode = 0x0102 ∧
      w.frame.timed = true ∧
      w.frame.zeros 32 63 = true ∧
      w.frame.payload ≠ [] ∧
      Reaches s w.frame slot ∧
      (s.entry slot).inputOpen = false ∧
      (s.entry slot).state = .ready :=
  ⟨wIn (wEntry .ready .none) fun x => { x with timed := [⟨{ wF 0x0102 wHandle 7 [] [65] with flags := 8 }, 0, none⟩] }, 5, 7, ⟨{ wF 0x0102 wHandle 7 [] [65] with flags := 8 }, 0, none⟩, by unfold Reaches; decide +kernel⟩

theorem w_TextIsTakenAndRecordsLeave_1 : ∃ (s : State) (slot : Nat) (t : Nat) (c : Instr) (i : TextInput) (rest : List TextInput) (m : Model) (count : Nat),
      (c = .textInput slot count t ∨ (c = .textFrameResume slot t ∧ i.stalled = true ∧ count = i.unread.length)) ∧
      (s.sess slot).inputs = i :: rest ∧
      s.modelOf slot = some m ∧
      i.closed = false ∧
      (s.sess slot).owner = none ∧
      i.waits = [] ∧
      (ceilDiv ((s.sess slot).pending.length + (i.feed m.vocab (i.unread.take count)).1.length) 1024 + ceilDiv ((i.feed m.vocab (i.unread.take count)).2.1.window.length + sumBy (fun k => k.window.length) rest) 4096 + 4 ≤ (s.sess slot).textHeld + (s.sd (s.entry slot).homeSd).textFree) :=
  ⟨wMem (wIn (wEntry .ready .none) fun x => { x with inputs := [⟨[65, 66, 65, 66], [], 0, false, 0x0102, 1, 0, true, true, []⟩] }), 5, 0, .textFrameResume 5 0, ⟨[65, 66, 65, 66], [], 0, false, 0x0102, 1, 0, true, true, []⟩, [], wModel, 4, by decide +kernel⟩

theorem w_TextIsTakenAndRecordsLeave_2 : ∃ (s : State) (slot : Nat) (o : OutEntry) (rest : List OutEntry),
      (s.sess slot).outbox = o :: rest ∧
      (s.entry slot).detached = false ∧
      (s.fn (s.entry slot).function).hasRoom (s.entry slot).resultQueue o.record = true ∧
      o.record.text = [] :=
  ⟨wIn (wEntry .ready .none) fun x => { x with outbox := [⟨0, ⟨1, 0, 0, wHandle, 0, [], []⟩⟩] }, 5, ⟨0, ⟨1, 0, 0, wHandle, 0, [], []⟩⟩, [], by decide +kernel⟩

theorem w_TextIsTakenAndRecordsLeave_3 : ∃ (s : State) (slot : Nat) (r : Record) (rest : List Record) (i : Nat) (p : Pool),
      (s.sess slot).unpooled = r :: rest ∧
      (s.sd (tableSd slot)).outboxFree ≠ 0 ∧
      (s.sd (tableSd slot)).outbox.take = some (i, p) :=
  ⟨{ wHost with sessions := [(12, { (Session.free 12).withEntry { Entry.free 12 with state := .ready, tenant := 1 } with unpooled := [⟨1, 0, 0, wHandle, 0, [], []⟩] })], sds := [(0, { wSd with outbox := { Pool.new 64 with fresh := 63 } })] }, 12, ⟨1, 0, 0, wHandle, 0, [], []⟩, [], 63, { Pool.new 64 with fresh := 64 }, by decide +kernel⟩

theorem w_MigrationLeavesTheSource_0 : ∃ (s : State) (f : Frame) (slot : Nat),
      Reaches s f slot ∧
      f.opcode = 0x010a ∧
      f.migrateOk s.pkg = true ∧
      (s.entry slot).state = .ready ∧
      (s.entry slot).peer = 0 ∧
      (s.entry slot).firstWaiter = none ∧
      (s.entry slot).inputOpen = false ∧
      (s.sess slot).moveSeq < 0xffffffff ∧
      s.migrationsOut < s.regFld 0x11 0 0x00 39 32 :=
  ⟨wFab (wIs (wEntry .ready .none)), wF 0x010a wHandle 0 [2] [], 5, by unfold Reaches; decide +kernel⟩

theorem w_MigrationLeavesTheSource_1 : ∃ (s : State) (h : Head) (slot : Nat) (t : Nat) (m : Migration),
      aget s.migrations slot = some m ∧
      (s.sess slot).waiting = [] ∧
      m.phase = .prepare ∧
      Accepted (s.stamp t) h 0x11 :=
  ⟨wMoving .prepare, wHead, 5, 0, wMig .prepare, by unfold Accepted; decide +kernel⟩

theorem w_MigrationLeavesTheSource_2 : ∃ (s : State) (slot : Nat) (m : Migration),
      aget s.migrations slot = some m ∧
      (s.sess slot).waiting = [] ∧
      m.phase = .copy ∧
      s.cutPending (tableSd slot) = false :=
  ⟨wMoving .copy, 5, wMig .copy, by decide +kernel⟩

theorem w_MigrationLeavesTheSource_3 : ∃ (s : State) (h : Head) (slot : Nat) (t : Nat) (m : Migration),
      aget s.migrations slot = some m ∧
      (s.sess slot).waiting = [] ∧
      m.phase = .handover ∧
      Accepted (s.stamp t) h 0x11 :=
  ⟨wMoving .handover, wHead, 5, 0, wMig .handover, by unfold Accepted; decide +kernel⟩

theorem w_MigrationsAbort_0 : ∃ (s : State) (h : Head) (slot : Nat) (t : Nat) (m : Migration),
      aget s.migrations slot = some m ∧
      (s.sess slot).waiting = [] ∧
      m.phase = .handover ∧
      (s.entry slot).state = .moving ∧
      Accepted (s.stamp t) h 0x11 :=
  ⟨wMoving .handover, wHead, 5, 0, wMig .handover, by unfold Accepted; decide +kernel⟩

theorem w_MigrationsAbort_1 : ∃ (s : State) (slot : Nat) (t : Nat) (m : Migration),
      aget s.migrations slot = some m ∧
      (s.sess slot).waiting = [] ∧
      m.since + s.phaseTimeout ≤ t ∧
      m.phase = .copy ∧
      (s.entry slot).state = .moving :=
  ⟨wMoving .copy, 5, 20000000, wMig .copy, by decide +kernel⟩

theorem w_MigrationsAbort_2 : ∃ (s : State) (slot : Nat) (t : Nat) (m : Migration),
      aget s.migrations slot = some m ∧
      (s.sess slot).waiting = [] ∧
      m.since + s.phaseTimeout ≤ t ∧
      m.phase = .handover :=
  ⟨wMoving .handover, 5, 20000000, wMig .handover, by decide +kernel⟩

theorem w_MigrationReachesItsDestination_0 : ∃ (s : State) (h : Head) (t : Nat) (p : PrepareMsg),
      Accepted (s.stamp t) h 0x11 ∧
      ((s.stamp t).prepare h.srcPkg p).1 = stOk :=
  ⟨wFab (wMem wHost), wHead, 0, wPrepare, by unfold Accepted; decide +kernel⟩

theorem w_MigrationReachesItsDestination_1 : ∃ (s : State) (h : Head) (handle : Nat) (count : Nat) (t : Nat) (m : Model) (i : Incoming),
      aget s.incoming handle = some i ∧
      Accepted (s.stamp t) h 0x11 ∧
      s.cutPending (tableSd i.slot) = false ∧
      count ≤ i.accepted ∧
      aget s.models i.model = some m :=
  ⟨wArriving, wHead, wGuestHandle, 1, 0, wModel, wIncoming, by unfold Accepted; decide +kernel⟩

theorem w_MigrationReachesItsDestination_2 : ∃ (s : State) (handle : Nat) (t : Nat) (i : Incoming),
      aget s.incoming handle = some i ∧
      i.held = none ∧
      i.lastMsg + s.phaseTimeout ≤ t :=
  ⟨wArriving, wGuestHandle, 20000000, wIncoming, by decide +kernel⟩

theorem w_MigrationReachesItsDestination_3 : ∃ (s : State) (h : Head) (handle : Nat) (seq : Nat) (t : Nat),
      Accepted (s.stamp t) h 0x11 ∧
      s.holds handle seq = false :=
  ⟨wArriving, wHead, wGuestHandle, 3, 0, by unfold Accepted; decide +kernel⟩

theorem w_StubsAndPushedPagesFollowTheSession_0 : ∃ (s : State) (h : Head) (handle : Nat) (seq : Nat) (t : Nat),
      Accepted (s.stamp t) h 0x11 ∧
      hOrigin handle = s.pkg ∧
      (s.entry (hSlot handle)).state = .away ∧
      (s.entry (hSlot handle)).handle = handle ∧
      (s.sess (hSlot handle)).moveSeq < seq :=
  ⟨wFab (wIn (wEntry .away .none) fun x => { x with moveSeq := 2, fwdPkg := 3 }), wHead, wHandle, 3, 0, by unfold Accepted; decide +kernel⟩

theorem w_StubsAndPushedPagesFollowTheSession_1 : ∃ (s : State) (h : Head) (handle : Nat) (t : Nat),
      Accepted (s.stamp t) h 0x11 ∧
      hOrigin handle = s.pkg ∧
      (s.entry (hSlot handle)).state = .away ∧
      (s.entry (hSlot handle)).handle = handle ∧
      hGen handle + 1 < 0x0fffffff :=
  ⟨wFab (wIn (wEntry .away .none) fun x => { x with moveSeq := 2, fwdPkg := 3 }), wHead, wHandle, 0, by unfold Accepted; decide +kernel⟩

theorem w_StubsAndPushedPagesFollowTheSession_2 : ∃ (s : State) (h : Head) (handle : Nat) (t : Nat) (g : Guest),
      Accepted (s.stamp t) h 0x11 ∧
      aget s.guests handle = some g ∧
      g.stub = true :=
  ⟨wArriving, wHead, wGuestHandle, 0, ⟨24, 1, true⟩, by unfold Accepted; decide +kernel⟩

theorem w_StubsAndPushedPagesFollowTheSession_3 : ∃ (s : State) (h : Head) (t : Nat),
      Accepted (s.stamp t) h 0x11 :=
  ⟨wArriving, wHead, 0, by unfold Accepted; decide +kernel⟩

theorem w_StubsAndPushedPagesFollowTheSession_4 : ∃ (s : State) (handle : Nat),
      aget s.gallery.closeNotes handle ≠ none :=
  ⟨{ wFab wHost with gallery := { Gallery.reset with closeNotes := [(wGuestHandle, 0)] } }, wGuestHandle, by decide +kernel⟩

theorem w_StubsAndPushedPagesFollowTheSession_5 : ∃ (s : State) (h : Head) (handle : Nat) (t : Nat) (i : Incoming),
      aget s.incoming handle = some i ∧
      Accepted (s.stamp t) h 0x40 ∧
      i.held = none ∧
      ((s.gallery.held.all fun q => q.1 != handle) = true) :=
  ⟨{ wArriving with incoming := [(wGuestHandle, { wIncoming with staged := [(0, 0, [1])], pages := [(0, 0, 4096)] })] }, { wHead with tc := 4, len := 2, payBytes := 64 }, wGuestHandle, 0, { wIncoming with staged := [(0, 0, [1])], pages := [(0, 0, 4096)] }, by unfold Accepted; decide +kernel⟩

theorem w_StubsAndPushedPagesFollowTheSession_6 : ∃ (s : State) (h : Head) (handle : Nat) (count : Nat) (t : Nat) (i : Incoming),
      aget s.incoming handle = some i ∧
      Accepted (s.stamp t) h 0x11 ∧
      count ≤ i.accepted :=
  ⟨{ wArriving with incoming := [(wGuestHandle, { wIncoming with staged := [(0, 0, [1])], pages := [(0, 0, 4096)] })] }, wHead, wGuestHandle, 1, 0, { wIncoming with staged := [(0, 0, [1])], pages := [(0, 0, 4096)] }, by unfold Accepted; decide +kernel⟩

theorem w_StubsAndPushedPagesFollowTheSession_7 : ∃ (s : State) (h : Head) (handle : Nat) (count : Nat) (t : Nat) (i : Incoming),
      aget s.incoming handle = some i ∧
      Accepted (s.stamp t) h 0x11 ∧
      count ≤ i.accepted :=
  ⟨{ wArriving with incoming := [(wGuestHandle, { wIncoming with staged := [(0, 0, [1])], pages := [(0, 0, 4096)] })] }, wHead, wGuestHandle, 1, 0, { wIncoming with staged := [(0, 0, [1])], pages := [(0, 0, 4096)] }, by unfold Accepted; decide +kernel⟩

theorem w_LookupsAnswerRowsAndHotRowsAreCopied_0 : ∃ (s : State) (f : Frame) (sd : Nat) (r : Nat) (b : RowBlock) (tt : RowTable),
      sd < 12 ∧
      f.opcode = 0x0201 ∧
      f.queue < 64 ∧
      s.bound (f.field 42 2) f.function = true ∧
      f.rowLookupOk = true ∧
      f.field 35 1 = 0 ∧
      aget s.tables.tables (f.field 32 2) = some tt ∧
      tt.tenant = f.field 42 2 ∧
      (f.field 34 1 = 0 ∨ tt.numeric = true) ∧
      ((f.bag.all fun r => decide (r < tt.rowCount) && (tt.blockOf r).any fun b => b.pkg == s.pkg && !(s.pageOf (tt.addr b r)).any (·.2.poison)) = true) :=
  ⟨wTables id, wRowFrame, 0, 0, ⟨0, 0, 0⟩, wTable, by decide +kernel⟩

theorem w_LookupsAnswerRowsAndHotRowsAreCopied_1 : ∃ (s : State) (h : Head) (t : Nat) (id : Nat) (r : Nat) (b : RowBlock) (tt : RowTable),
      Accepted (s.stamp t) h 0x34 ∧
      aget s.tables.tables id = some tt ∧
      tt.blockOf r = some b ∧
      b.pkg = s.pkg ∧
      1 ≤ tt.rowBytes ∧
      tt.rowBytes ≤ 4096 :=
  ⟨wFabTables id, { wHead with tc := 3 }, 0, 1, 7, ⟨0, 0, 8192⟩, wTable, by unfold Accepted; decide +kernel⟩

theorem w_LookupsAnswerRowsAndHotRowsAreCopied_2 : ∃ (s : State) (h : Head) (t : Nat) (request : Nat) (tt : RowTable) (k : Nat) (w : LookupWait) (places : List Nat) (bytes : List Byte),
      Accepted (s.stamp t) h 0x35 ∧
      s.tables.lookups = [(k, w)] ∧
      w.requests = [(request, places, [])] ∧
      aget s.tables.tables w.table = some tt ∧
      places.length * tt.rowBytes ≤ bytes.length ∧
      w.frame.opcode = 0x0201 ∧
      w.frame.field 35 1 = 0 :=
  ⟨wFabTables fun x => { x with lookups := [(1, { frame := wRowFrame, sd := 0, table := 1, version := 1, bag := [7], rows := [], requests := [(4, [0], [])] })] }, { wHead with tc := 3, len := 2, payBytes := 8 }, 0, 4, wTable, 1, { frame := wRowFrame, sd := 0, table := 1, version := 1, bag := [7], rows := [], requests := [(4, [0], [])] }, [0], [1, 2, 3, 4, 5, 6, 7, 8], by unfold Accepted; decide +kernel⟩

theorem w_LookupsAnswerRowsAndHotRowsAreCopied_3 : ∃ (s : State) (sd : Nat) (id : Nat) (tt : RowTable),
      sd < 12 ∧
      aget s.tables.tables id = some tt ∧
      tt.hotCount ≠ 0 :=
  ⟨wTables id, 11, 1, wTable, by decide +kernel⟩

theorem w_LookupsAnswerRowsAndHotRowsAreCopied_4 : ∃ (s : State) (sd : Nat) (id : Nat) (tt : RowTable),
      sd < 12 ∧
      aget s.tables.tables id = some tt ∧
      tt.reading.contains sd = true :=
  ⟨wTables id, 0, 1, wTable, by decide +kernel⟩

theorem w_LookupsAnswerRowsAndHotRowsAreCopied_5 : ∃ (s : State) (sd : Nat) (id : Nat) (tt : RowTable),
      sd < 12 ∧
      aget s.tables.tables id = some tt ∧
      tt.reading.contains sd = true :=
  ⟨wTables id, 0, 1, wTable, by decide +kernel⟩

theorem w_TableUpdatesAndAdaptersWaitForASeal_0 : ∃ (s : State) (f : Frame) (tt : RowTable),
      s.bound (f.field 44 2) f.function = true ∧
      f.paramOk = true ∧
      1 ≤ f.field 32 2 ∧
      f.field 32 2 ≤ 4095 ∧
      f.field 34 1 = 0 ∧
      f.zeros 35 35 = true ∧
      f.zeros 46 63 = true ∧
      aget s.tables.tables (f.field 32 2) = some tt ∧
      tt.tenant = f.field 44 2 ∧
      f.field 40 4 < tt.rowCount ∧
      f.payload.length = tt.rowBytes ∧
      ((tt.blockOf (f.field 40 4)).any (fun b => b.pkg == s.pkg) = true) :=
  ⟨wTables id, wF 0x0202 0 0 [1, 0, 0, 0, 9, 0, 0, 0, 7, 0, 0, 0, 1, 0] [1, 2, 3, 4, 5, 6, 7, 8], wTable, by decide +kernel⟩

theorem w_TableUpdatesAndAdaptersWaitForASeal_1 : ∃ (s : State) (h : Head) (t : Nat) (id : Nat) (tt : RowTable),
      Accepted (s.stamp t) h 0x36 ∧
      aget s.tables.tables id = some tt :=
  ⟨wFabTables id, { wHead with tc := 3, len := 2, payBytes := 8 }, 0, 1, wTable, by unfold Accepted; decide +kernel⟩

theorem w_TableUpdatesAndAdaptersWaitForASeal_2 : ∃ (s : State) (f : Frame) (tt : RowTable),
      s.bound (f.field 36 2) f.function = true ∧
      f.paramOk = true ∧
      f.handle = 0 ∧
      1 ≤ f.field 32 2 ∧
      f.field 32 2 ≤ 4095 ∧
      f.field 34 1 ≤ 3 ∧
      f.zeros 35 35 = true ∧
      f.zeros 38 39 = true ∧
      f.zeros 48 63 = true ∧
      aget s.tables.tables (f.field 32 2) = some tt ∧
      tt.tenant = f.field 36 2 ∧
      tt.pending = none ∧
      (s.pageOf (f.field 40 8)).isSome = true :=
  ⟨wTables id, wF 0x0203 0 0 [1, 0, 0, 0, 1, 0, 0, 0, 0, 0x20] [], wTable, by decide +kernel⟩

theorem w_TableUpdatesAndAdaptersWaitForASeal_3 : ∃ (s : State) (f : Frame) (m : Model),
      s.bound (f.field 36 2) f.function = true ∧
      f.paramOk = true ∧
      f.handle = 0 ∧
      1 ≤ f.field 32 2 ∧
      f.field 40 8 % 64 = 0 ∧
      f.zeros 56 63 = true ∧
      aget s.models (f.field 38 2) = some m ∧
      aget s.adapters (f.field 32 2 * 65536 + f.field 34 2) = none ∧
      s.tables.loads = [] ∧
      s.adapters.length < 4096 :=
  ⟨wTables id, wF 0x0401 0 0 [1, 0, 0, 0, 1, 0, 0, 0, 0, 0x20] [], wModel, by decide +kernel⟩

theorem w_TableUpdatesAndAdaptersWaitForASeal_4 : ∃ (s : State) (sd : Nat) (k : Nat) (l : AdapterLoad),
      sd < 12 ∧
      aget s.tables.loads k = some l :=
  ⟨wTables fun x => { x with loads := [(1, ⟨wF 0x0401 0 0 [1, 0, 0, 0, 1, 0, 0, 0, 0, 0x20] [], 65536⟩)] }, 11, 1, ⟨wF 0x0401 0 0 [1, 0, 0, 0, 1, 0, 0, 0, 0, 0x20] [], 65536⟩, by decide +kernel⟩

theorem w_TableUpdatesAndAdaptersWaitForASeal_5 : ∃ (s : State) (sd : Nat) (k : Nat) (c : Nat) (bytes : List Byte) (m : Model) (l : AdapterLoad),
      sd < 12 ∧
      aget s.tables.loads k = some l ∧
      aget s.models (l.frame.field 38 2) = some m ∧
      adapterImageOk m bytes = true ∧
      imageClasses bytes.length = [c] ∧
      s.quotaFits (l.frame.field 36 2) 0 (pageSize c) = true ∧
      s.leaves.length < 2 ^ 20 ∧
      c < 10 ∧
      (s.pool (poolKey sd 0 sd c)).pool.take.isSome = true :=
  ⟨wTables fun x => { x with loads := [(1, ⟨wF 0x0401 0 0 [1, 0, 0, 0, 1, 0, 0, 0, 0, 0x20] [], 65536⟩)] }, 0, 1, 0, wImage, wModel, ⟨wF 0x0401 0 0 [1, 0, 0, 0, 1, 0, 0, 0, 0, 0x20] [], 65536⟩, by decide +kernel⟩

theorem w_TableUpdatesAndAdaptersWaitForASeal_6 : ∃ (s : State) (f : Frame) (a : AdapterVersion),
      aget s.adapters (f.field 32 2 * 65536 + f.field 34 2) = some a ∧
      a.tenant = f.field 38 2 ∧
      f.adapterSwitchOk = true ∧
      f.handle = 0 ∧
      s.bound (f.field 38 2) f.function = true :=
  ⟨{ wTables id with adapters := [(65536 + 0, wVersion)] }, wF 0x0402 0 0 [1, 0, 0, 0, 0, 0, 1, 0] [], wVersion, by decide +kernel⟩

theorem w_TableUpdatesAndAdaptersWaitForASeal_7 : ∃ (s : State) (f : Frame) (slot : Nat) (a : AdapterVersion),
      aget s.adapters (f.field 32 2 * 65536 + f.field 34 2) = some a ∧
      a.tenant = f.field 38 2 ∧
      f.adapterSwitchOk = true ∧
      Reaches s f slot ∧
      f.opcode = 0x0402 ∧
      (s.entry slot).tenant = a.tenant ∧
      (s.entry slot).state = .ready :=
  ⟨{ wIs (wEntry .ready .none) with adapters := [(65536 + 0, wVersion)] }, wF 0x0402 wHandle 0 [1, 0, 0, 0, 1, 0, 1, 0] [], 5, wVersion, by unfold Reaches; decide +kernel⟩

theorem w_RecallScansAndInserts_0 : ∃ (s : State) (f : Frame) (sd : Nat) (i : RecallIndex),
      sd < 12 ∧
      s.bound (f.field 44 2) f.function = true ∧
      aget s.tables.indexes (f.field 32 2) = some i ∧
      f.queryOk i.dim = true ∧
      i.tenant = f.field 44 2 ∧
      f.opcode = 0x0301 ∧
      f.field 38 1 = 0 :=
  ⟨wTables id, wQueryFrame, 11, wIndex, by decide +kernel⟩

theorem w_RecallScansAndInserts_1 : ∃ (s : State) (sd : Nat) (k : Nat) (i : RecallIndex) (w : QueryWait),
      sd < 12 ∧
      aget s.tables.queries k = some w ∧
      aget s.tables.indexes w.index = some i ∧
      w.open_ = [sd] ∧
      s.tables.shardInserts = [] ∧
      w.frame.opcode = 0x0301 ∧
      w.frame.field 38 1 = 0 ∧
      w.frame.queue < 64 :=
  ⟨wTables fun x => { x with queries := [(1, { frame := wQueryFrame, index := 1, sd := 0, stamp := 0, open_ := [0], dist := [], results := [] })] }, 0, 1, wIndex, { frame := wQueryFrame, index := 1, sd := 0, stamp := 0, open_ := [0], dist := [], results := [] }, by decide +kernel⟩

theorem w_RecallScansAndInserts_2 : ∃ (s : State) (f : Frame) (sd : Nat) (i : RecallIndex) (r : RecallRecord),
      s.bound (f.field 44 2) f.function = true ∧
      aget s.tables.indexes (f.field 32 2) = some i ∧
      f.paramOk = true ∧
      f.handle = 0 ∧
      f.field 34 2 = 1 ∧
      f.field 36 1 ≤ 1 ∧
      f.zeros 37 43 = true ∧
      f.zeros 46 63 = true ∧
      f.payload.length = 16 + i.subspaces ∧
      i.subspaces ≤ 1000 ∧
      i.tenant = f.field 44 2 ∧
      i.sds = [sd] ∧
      s.tables.queries = [] ∧
      s.tables.shardInserts = [] ∧
      f.recallRecords i.subspaces = [r] :=
  ⟨wTables id, wF 0x0302 0 0 [1, 0, 1, 0, 0, 0, 0, 0, 0, 0, 0, 0, 1, 0] (leBytes 8 4 ++ leBytes 8 0 ++ [1]), 0, wIndex, ⟨4, 0, [1], false⟩, by decide +kernel⟩

theorem w_StepsFormAndLoseMembers_0 : ∃ (s : State) (slot : Nat) (x : Session) (m : Model),
      s.mayForm false = true ∧
      s.s1.run = none ∧
      s.sessions = [(slot, x)] ∧
      s.eligible false slot = true ∧
      x.pending = [] ∧
      x.cur.openToken.isSome = true ∧
      x.cur.entry.inputOpen = false ∧
      aget s.models x.cur.entry.model = some m ∧
      m.draftHead = false ∧
      s.outboxTest slot = true ∧
      1 ≤ s.regFld 0x03 0 0x00 15 0 ∧
      1 ≤ s.regFld 0x03 0 0x00 63 48 ∧
      1 ≤ (s.tenant x.cur.entry.tenant).remaining ∧
      (s.tenant x.cur.entry.tenant).bucketRate = 0 ∧
      1 ≤ (s.tenant x.cur.entry.tenant).maxRunning ∧
      x.cur.entry.classD = false ∧
      (((List.range m.layerGroups).all fun g => (m.remoteOf g).isSome || decide (ceilDiv (x.cur.kvLen + 1) m.pageTokens ≤ (x.cur.lg g).usas.length)) = true) ∧
      (((x.cur.writtenPages m x.cur.kvLen 1).all fun p => decide (s.refCount p.2 ≤ 1) && (s.leaf p.2).any fun l => l.tier == 0) = true) ∧
      ((s.leaf x.cur.entry.metaUsa).any (fun l => l.tier == 0) = true) ∧
      x.mapHeld = mapBlocksOf x.cur.kvMap ∧
      x.dirHeld = dirPagesOf x.cur.kvMap :=
  ⟨wReady (wPages (wMem { wHost with sessions := [(5, wDecoder)], sds := [] })) |> fun s => { s with sds := [(0, wSd), (5, { wSd with inService := true })] }, 5, wDecoder, wModel, by decide +kernel⟩

theorem w_StepsFormAndLoseMembers_1 : ∃ (s : State) (slot : Nat) (s1 : Bool) (m : Member) (r : StepRun),
      (s.stream s1).run = some r ∧
      r.sealPt = none ∧
      s.member s1 slot = some m ∧
      m.out = none ∧
      (s.sess slot).waiting = [] ∧
      aget s.migrations slot = none :=
  ⟨wStepping wRunning wRun, 5, false, wMember, wRun, by decide +kernel⟩

theorem w_StepsFormAndLoseMembers_2 : ∃ (s : State) (s1 : Bool) (m : Member) (r : StepRun),
      (s.stream s1).run = some r ∧
      r.sealPt = none ∧
      r.live = [m] ∧
      (s.sess m.slot).waiting = [] ∧
      aget s.migrations m.slot = none :=
  ⟨wStepping wRunning wRun, false, wMember, wRun, by decide +kernel⟩

theorem w_S1GivesWayAndTicksFillBuckets_0 : ∃ (s : State) (r : StepRun),
      s.s1.run = some r ∧
      r.suspended = false ∧
      r.sealPt = none ∧
      (((r.live.map Member.cluster).any fun l => (s.heldClusters false).contains l) = true) :=
  ⟨{ wStepping wRunning wRun with s1 := { Stream.reset with run := some wRun } }, wRun, by decide +kernel⟩

theorem w_S1GivesWayAndTicksFillBuckets_1 : ∃ (s : State) (r : StepRun),
      s.s1.run = some r ∧
      r.suspended = true ∧
      (((r.live.map Member.cluster).any fun l => (s.heldClusters false).contains l) = false) :=
  ⟨{ State.reset with s1 := { Stream.reset with run := some { wRun with suspended := true } } }, { wRun with suspended := true }, by decide +kernel⟩

theorem w_S1GivesWayAndTicksFillBuckets_2 : ∃ (s : State) (t : Nat) (s1 : Bool),
      (s.stream s1).paceUntil ≤ t :=
  ⟨{ State.reset with s1 := { Stream.reset with paceUntil := 9 } }, 9, true, by decide +kernel⟩

theorem w_S1GivesWayAndTicksFillBuckets_3 : ∃ (s : State) (k : Nat) (v : Tenant),
      aget s.tenants k = some v :=
  ⟨wHost, 1, wTenant, by decide +kernel⟩

theorem w_SamplersDraw_0 : ∃ (s : State) (slot : Nat) (i : Nat) (m : Member) (md : Model) (p : Profile),
      s.member false slot = some m ∧
      s.modelOf slot = some md ∧
      aget s.profiles (s.entry slot).profile = some p ∧
      m.samples false (s.sess slot) = true ∧
      m.draws.length = i ∧
      i ≤ m.drafts ∧
      m.layersDone md (m.inputs (s.sess slot)) = true :=
  ⟨wStepping wRunning wRun, 5, 0, wMember, wModel, wProfile, by decide +kernel⟩

theorem w_SealsCommitAStep_0 : ∃ (s : State) (t : Nat) (s1 : Bool) (r : StepRun),
      (s.stream s1).run = some r ∧
      r.sealPt = none ∧
      r.suspended = false ∧
      s.power.drain.isNone = true ∧
      r.live.all (s.memberDone s1) = true ∧
      s.ctDue t = false ∧
      s.checkpoint.run = none :=
  ⟨wStepping wRunning { wRun with members := [{ wMember with out := some wOut }] }, 50, false, { wRun with members := [{ wMember with out := some wOut }] }, by decide +kernel⟩

theorem w_SealsCommitAStep_1 : ∃ (s : State) (sd : Nat) (r : StepRun) (m : Member) (o : MemberOut) (md : Model) (pt : Nat),
      sd < 12 ∧
      s.s0.run = some r ∧
      r.sealPt = some pt ∧
      ((r.live.filter fun m => tableSd m.slot == sd) = [m]) ∧
      m.out = some o ∧
      o.ending = .stop ∧
      o.tokens ≠ [] ∧
      s.modelOf m.slot = some md ∧
      (s.sess m.slot).waiting = [] ∧
      m.lateFence = none ∧
      s.migrations = [] ∧
      s.incoming = [] ∧
      s.checkpoint.run = none :=
  ⟨wStepping wRunning { wRun with sealPt := some 50, members := [{ wMember with out := some wOut }] }, 5, { wRun with sealPt := some 50, members := [{ wMember with out := some wOut }] }, { wMember with out := some wOut }, wOut, wModel, 50, by decide +kernel⟩

theorem w_SealsCommitAStep_2 : ∃ (s : State) (s1 : Bool) (r : StepRun) (pt : Nat) (k : Nat) (v : Tenant),
      (s.stream s1).run = some r ∧
      r.sealPt = some pt ∧
      r.live = [] ∧
      aget s.tenants k = some v :=
  ⟨wStepping wRunning { wRun with sealPt := some 50, members := [] }, false, { wRun with sealPt := some 50, members := [] }, 50, 1, wTenant, by decide +kernel⟩

theorem w_CagesMovePages_0 : ∃ (s : State) (page : Nat) (tier : Nat) (p : Nat) (c : Cage) (l : Leaf),
      s.leaf page = some l ∧
      c.usa = page ∧
      l.pinned = false ∧
      l.orphan = false ∧
      l.frozen = false ∧
      l.cage = .resident ∧
      l.tier = 0 ∧
      (tier = 1 ∨ tier = 2) ∧
      s.writtenInFlight page = false ∧
      s.cages = [] ∧
      1 ≤ s.regFld 0x05 0 0x20 5 0 ∧
      (s.tierPools (ownerSd page) tier).contains p = true ∧
      l.tenant ≠ 0 ∧
      s.quotaFits l.tenant tier (pageUse l.sizeClass l.scaleBytes) = true ∧
      (s.pool (poolKey (ownerSd page) tier p l.sizeClass)).pool.take.isSome = true :=
  ⟨{ wCaged wCage wLeaf with cages := [] }, 8192, 1, 0, wCage, wLeaf, by decide +kernel⟩

theorem w_CagesMovePages_1 : ∃ (s : State) (page : Nat) (id : Nat) (c : Cage) (l : Leaf),
      s.leaf page = some l ∧
      c.usa = page ∧
      aget s.cages id = some c ∧
      c.c5 = none :=
  ⟨wCaged wCage { wLeaf with cage := .down, cageId := 3 }, 8192, 3, wCage, { wLeaf with cage := .down, cageId := 3 }, by decide +kernel⟩

theorem w_CagesMovePages_2 : ∃ (s : State) (page : Nat) (id : Nat) (t5 : Nat) (c : Cage) (l : Leaf),
      s.leaf page = some l ∧
      c.usa = page ∧
      aget s.cages id = some c ∧
      c.c5 = some t5 ∧
      c.c7 = none :=
  ⟨wCaged { wCage with c5 := some 5 } { wLeaf with cage := .down, cageId := 3 }, 8192, 3, 5, { wCage with c5 := some 5 }, { wLeaf with cage := .down, cageId := 3 }, by decide +kernel⟩

theorem w_CagesMovePages_3 : ∃ (s : State) (page : Nat) (id : Nat) (c : Cage) (l : Leaf),
      s.leaf page = some l ∧
      c.usa = page ∧
      aget s.cages id = some c ∧
      c.c7.isSome = true ∧
      c.pins = 0 ∧
      (s.sd (ownerSd page)).cageWaiting = [] ∧
      l.tenant ≠ 0 ∧
      c.oldTier < 3 :=
  ⟨wCaged { wCage with c5 := some 5, c7 := some 9 } wLeaf, 8192, 3, { wCage with c5 := some 5, c7 := some 9 }, wLeaf, by decide +kernel⟩

theorem w_SweepsPolicyRunsAndQuotas_0 : ∃ (s : State) (sd : Nat) (page : Nat) (l : Leaf),
      sd < 12 ∧
      s.leaf page = some l :=
  ⟨wPages State.reset, 0, 8192, { wLeaf with frame := 2 }, by decide +kernel⟩

theorem w_SweepsPolicyRunsAndQuotas_1 : ∃ (s : State) (sd : Nat),
      sd < 12 ∧
      (s.sd sd).policyRunning = false :=
  ⟨wPages State.reset, 11, by decide +kernel⟩

theorem w_SweepsPolicyRunsAndQuotas_2 : ∃ (sd : Nat),
      sd < 12 :=
  ⟨11, by decide +kernel⟩

theorem w_SweepsPolicyRunsAndQuotas_3 : ∃ (s : State) (tenant : Nat) (tier : Nat) (bytes : Nat),
      tenant ≠ 0 ∧
      tier < 3 ∧
      s.quotaFits tenant tier bytes = true :=
  ⟨wHost, 1, 2, 1073741824, by decide +kernel⟩

theorem w_SweepsPolicyRunsAndQuotas_4 : ∃ (s : State) (tenant : Nat) (tier : Nat) (bytes : Nat),
      tenant ≠ 0 ∧
      tier < 3 ∧
      s.quotaFits tenant tier bytes = false :=
  ⟨wHost, 1, 2, 1073741825, by decide +kernel⟩

theorem w_SweepsPolicyRunsAndQuotas_5 : ∃ (s : State) (tenant : Nat) (tier : Nat) (bytes : Nat) (slot : Nat),
      tenant ≠ 0 ∧
      tier < 3 ∧
      s.quotaFits tenant tier bytes = false ∧
      (s.entry slot).state = .ready :=
  ⟨wIs (wEntry .ready .none), 1, 0, 1073741825, 5, by decide +kernel⟩

theorem w_SweepsPolicyRunsAndQuotas_6 : ∃ (tenant : Nat) (tier : Nat),
      tenant ≠ 0 ∧
      tier < 3 :=
  ⟨1, 2, by decide +kernel⟩

theorem w_AttentionOfAMember_0 : ∃ (s : State) (s1 : Bool) (slot : Nat) (layer : Nat) (m : Member) (md : Model) (kv : List (List (List Nat × List Nat))),
      s.member s1 slot = some m ∧
      s.modelOf slot = some md ∧
      s1 = false ∧
      kv.length = m.inputs (s.sess slot) ∧
      (((List.range md.groups).all fun g => (md.remoteOf (layer * md.groups + g)).isNone) = true) :=
  ⟨wWith fun m => { m with appended := [] }, false, 5, 0, { wMember with appended := [] }, wModel, [[(List.replicate 64 0, List.replicate 64 0)]], by decide +kernel⟩

theorem w_AttentionOfAMember_1 : ∃ (s : State) (s1 : Bool) (slot : Nat) (lg : Nat) (m : Member) (md : Model) (queries : List (List (List Nat))),
      s.member s1 slot = some m ∧
      s.modelOf slot = some md ∧
      ((m.attention.any fun a => a.layerGroup == lg) = false) ∧
      queries.length = m.inputs (s.sess slot) ∧
      md.remoteOf lg = none ∧
      aget m.appended lg ≠ none ∧
      s.heldWrites = [] :=
  ⟨wWith id, false, 5, 0, wMember, wModel, [[List.replicate 64 0]], by decide +kernel⟩

theorem w_AttentionOfAMember_2 : ∃ (s : State) (s1 : Bool) (slot : Nat) (lg : Nat) (m : Member) (md : Model) (queries : List (List (List Nat))) (pkg : Nat),
      s.member s1 slot = some m ∧
      s.modelOf slot = some md ∧
      ((m.attention.any fun a => a.layerGroup == lg) = false) ∧
      queries.length = m.inputs (s.sess slot) ∧
      md.remoteOf lg = some pkg :=
  ⟨{ wWith id with models := [(0, { wModel with remoteGroups := [(0, 2)] })] }, false, 5, 0, wMember, { wModel with remoteGroups := [(0, 2)] }, [[List.replicate 64 0]], 2, by decide +kernel⟩

theorem w_AttentionOfAMember_3 : ∃ (s : State) (s1 : Bool) (slot : Nat) (lg : Nat) (m : Member) (md : Model) (w : AttnWork) (unit : Nat),
      s.member s1 slot = some m ∧
      s.modelOf slot = some md ∧
      ((m.attention.find? fun w => w.layerGroup == lg) = some w) ∧
      w.spans = 1 ∧
      w.next = 0 ∧
      w.output = none ∧
      aget w.units 0 = some unit ∧
      aget w.received 0 = none ∧
      (((md.spanUsas ((s.sess slot).cur.lg lg).usas 0).any fun u => (s.leaf u).any Leaf.poison) = false) :=
  ⟨wWith fun m => { m with attention := [wWork] }, false, 5, 0, { wMember with attention := [wWork] }, wModel, wWork, 0, by decide +kernel⟩

theorem w_RemoteAttention_0 : ∃ (s : State) (h : Head) (handle : Nat) (request : Nat) (model : Nat) (sd : Nat) (t : Nat) (md : Model),
      Accepted (s.stamp t) h 0x20 ∧
      sd < 12 ∧
      aget s.kvShards handle = none ∧
      aget s.models model = some md ∧
      aget s.attRequests (h.srcPkg * 2 ^ 32 + request) = none ∧
      aget s.gallery.homes handle = none :=
  ⟨wFab (wMem wHost), { wHead with tc := 2, len := 2, payBytes := 64 }, wGuestHandle, 4, 0, 11, 0, wModel, by unfold Accepted; decide +kernel⟩

theorem w_RemoteAttention_1 : ∃ (s : State) (handle : Nat) (request : Nat) (t : Nat) (set : PartSet),
      aget s.attRequests (handle * 2 ^ 32 + request) = some set ∧
      set.since + s.remoteLimit < t :=
  ⟨{ State.reset with attRequests := [(2 * 2 ^ 32 + 4, ⟨0, []⟩)] }, 2, 4, 10000000001, ⟨0, []⟩, by decide +kernel⟩

theorem w_RemoteAttention_2 : ∃ (s : State) (h : Head) (request : Nat) (t : Nat) (s1 : Bool) (payload : List Byte) (m : Member) (md : Model) (w : RemoteWait),
      Accepted (s.stamp t) h 0x21 ∧
      s.waiterOf request = some (s1, m, w) ∧
      t ≤ w.issued + s.remoteLimit ∧
      w.parts = [] ∧
      leAt payload 24 2 = stOk ∧
      s.modelOf m.slot = some md :=
  ⟨{ wStepping wRunning { wRun with members := [{ wMember with remote := [⟨4, 0, 0, []⟩] }] } with security := { Security.reset with jobs := [(0, ⟨0, ⟨.loaded, 1⟩, ⟨.empty, 0⟩, 0⟩)] }, gallery := { Gallery.reset with members := [0, 2] } }, { wHead with tc := 2, len := 2, payBytes := 64 }, 4, 1, false, List.replicate 64 0, { wMember with remote := [⟨4, 0, 0, []⟩] }, wModel, ⟨4, 0, 0, []⟩, by unfold Accepted; decide +kernel⟩

theorem w_RemoteAttention_3 : ∃ (s : State) (request : Nat) (slot : Nat) (issued : Nat) (t : Nat) (s1 : Bool) (m : Member) (w : RemoteWait),
      s.member s1 slot = some m ∧
      m.out = none ∧
      ((s.stream s1).run.all (fun r => r.sealPt.isNone) = true) ∧
      ((m.remote.any fun w => w.request == request && w.issued == issued) = true) ∧
      issued + s.remoteLimit < t ∧
      (s.sess slot).waiting = [] ∧
      aget s.migrations slot = none :=
  ⟨{ wStepping wRunning { wRun with members := [{ wMember with remote := [⟨4, 0, 0, []⟩] }] } with security := { Security.reset with jobs := [(0, ⟨0, ⟨.loaded, 1⟩, ⟨.empty, 0⟩, 0⟩)] }, gallery := { Gallery.reset with members := [0, 2] } }, 4, 5, 0, 10000000001, false, { wMember with remote := [⟨4, 0, 0, []⟩] }, ⟨0, 0, 0, []⟩, by decide +kernel⟩

theorem w_ExpertsAndSplitReductions_0 : ∃ (s : State) (h : Head) (t : Nat),
      Accepted (s.stamp t) h 0x30 :=
  ⟨wFab wHost, { wHead with tc := 3, len := 2, payBytes := 64 }, 0, by unfold Accepted; decide +kernel⟩

theorem w_ExpertsAndSplitReductions_1 : ∃ (s : State) (h : Head) (s1 : Bool) (slot : Nat) (issued : Nat) (t : Nat) (m : Member),
      Accepted (s.stamp t) h 0x31 ∧
      s.member s1 slot = some m ∧
      t ≤ issued + s.remoteLimit :=
  ⟨{ wStepping wRunning { wRun with members := [{ wMember with remote := [⟨4, 0, 0, []⟩] }] } with security := { Security.reset with jobs := [(0, ⟨0, ⟨.loaded, 1⟩, ⟨.empty, 0⟩, 0⟩)] }, gallery := { Gallery.reset with members := [0, 2] } }, { wHead with tc := 3, len := 2, payBytes := 64 }, false, 5, 0, 1, { wMember with remote := [⟨4, 0, 0, []⟩] }, by unfold Accepted; decide +kernel⟩

theorem w_ExpertsAndSplitReductions_2 : ∃ (s : State) (h : Head) (reduction : Nat) (t : Nat),
      Accepted (s.stamp t) h 0x33 ∧
      aget s.splitSums reduction = none :=
  ⟨wFab wHost, { wHead with tc := 3, len := 2, payBytes := 64 }, 5, 0, by unfold Accepted; decide +kernel⟩

theorem w_ExpertsAndSplitReductions_3 : ∃ (s : State) (h : Head) (reduction : Nat) (t : Nat) (info : SplitInfo),
      Accepted (s.stamp t) h 0x32 ∧
      aget s.splitSums reduction = none ∧
      info.exact = true ∧
      1 < info.peers :=
  ⟨wFab wHost, { wHead with tc := 3, len := 2, payBytes := 64 }, 5, 0, ⟨true, [(1, List.replicate 19 0)], 2, 0, 0, 0, 0⟩, by unfold Accepted; decide +kernel⟩

theorem w_SegmentsMoveOnPackageAndBetweenPackages_0 : ∃ (s : State) (die : Nat) (chan : Nat) (d : Descriptor) (c : Channel),
      chanExists die chan = true ∧
      s.chan die chan = c ∧
      c.busy = false ∧
      d.len % 64 ≠ 0 :=
  ⟨wHoist Channel.reset, 17, 15, { wDesc with len := 4097 }, Channel.reset, by decide +kernel⟩

theorem w_SegmentsMoveOnPackageAndBetweenPackages_1 : ∃ (s : State) (die : Nat) (chan : Nat) (d : Descriptor) (c : Channel),
      chanExists die chan = true ∧
      s.chan die chan = c ∧
      c.busy = false ∧
      d.len % 64 = 0 ∧
      0 < d.len ∧
      d.len ≤ 0xffffffc0 ∧
      d.reservedZero = true ∧
      d.srcSpace ≤ 3 ∧
      d.dstSpace ≤ 3 ∧
      d.op ≤ 3 ∧
      (d.op ≠ 3 → s.rangeFault d die d.srcSpace d.src d.len = none) ∧
      s.rangeFault d die d.dstSpace d.dst d.len = none :=
  ⟨wHoist Channel.reset, 17, 15, wDesc, Channel.reset, by decide +kernel⟩

theorem w_SegmentsMoveOnPackageAndBetweenPackages_2 : ∃ (s : State) (die : Nat) (chan : Nat) (a : Nat) (d : Descriptor) (c : Channel),
      chanExists die chan = true ∧
      s.chan die chan = c ∧
      c.busy = false ∧
      d.len % 64 = 0 ∧
      0 < d.len ∧
      d.len ≤ 0xffffffc0 ∧
      d.reservedZero = true ∧
      d.srcSpace ≤ 3 ∧
      d.dstSpace ≤ 3 ∧
      d.op ≤ 3 ∧
      (d.op ≠ 3 → s.rangeFault d die d.srcSpace d.src d.len = none) ∧
      s.rangeFault d die d.dstSpace d.dst d.len = some a :=
  ⟨wHoist Channel.reset, 17, 15, 131072, { wDesc with dst := 131072 - 4096 }, Channel.reset, by decide +kernel⟩

theorem w_SegmentsMoveOnPackageAndBetweenPackages_3 : ∃ (s : State) (die : Nat) (chan : Nat) (d : Descriptor) (c : Channel),
      chanExists die chan = true ∧
      s.chan die chan = c ∧
      c.desc = some d ∧
      c.state = 1 ∧
      d.op = 0 ∧
      d.prog = 0 ∧
      d.srcSpace = 0 ∧
      d.dstSpace = 1 ∧
      c.nextSeg + 1 < d.segments ∧
      s.poisonIn (d.src + 4096 * c.nextSeg) 4096 = none :=
  ⟨wHoist wBusy, 17, 15, wDesc, wBusy, by decide +kernel⟩

theorem w_SegmentsMoveOnPackageAndBetweenPackages_4 : ∃ (s : State) (die : Nat) (chan : Nat) (a : Nat) (d : Descriptor) (c : Channel),
      chanExists die chan = true ∧
      s.chan die chan = c ∧
      c.desc = some d ∧
      c.state = 1 ∧
      d.op = 0 ∧
      d.prog = 0 ∧
      d.srcSpace = 0 ∧
      d.dstSpace = 1 ∧
      c.nextSeg + 1 < d.segments ∧
      s.poisonIn (d.src + 4096 * c.nextSeg) 4096 = some a :=
  ⟨{ wHoist wBusy with leaves := [(4096, { wLeaf with poison := true }), (8192, wLeaf)] }, 17, 15, 4096, wDesc, wBusy, by decide +kernel⟩

theorem w_SegmentsMoveOnPackageAndBetweenPackages_5 : ∃ (s : State) (die : Nat) (chan : Nat) (d : Descriptor) (c : Channel) (fault : Bool) (segs : List (Nat × Nat)),
      chanExists die chan = true ∧
      s.chan die chan = c ∧
      c.desc = some d ∧
      c.busy = true ∧
      d.prog ≠ 0 ∧
      c.order = [] ∧
      segs.length ≤ 64 ∧
      ((segs.all fun p => decide (p.1 < d.segments ∧ p.2 < d.segments)) = true) ∧
      fault = false :=
  ⟨wHoist { Channel.reset with desc := some { wDesc with prog := 3 }, state := 1 }, 17, 15, { wDesc with prog := 3 }, { Channel.reset with desc := some { wDesc with prog := 3 }, state := 1 }, false, [(1, 1), (0, 0)], by decide +kernel⟩

theorem w_SegmentsMoveOnPackageAndBetweenPackages_6 : ∃ (s : State) (die : Nat) (chan : Nat) (d : Descriptor) (c : Channel) (fault : Bool),
      chanExists die chan = true ∧
      s.chan die chan = c ∧
      c.desc = some d ∧
      c.busy = true ∧
      d.prog ≠ 0 ∧
      c.order = [] ∧
      fault = true :=
  ⟨wHoist { Channel.reset with desc := some { wDesc with prog := 3 }, state := 1 }, 17, 15, { wDesc with prog := 3 }, { Channel.reset with desc := some { wDesc with prog := 3 }, state := 1 }, true, by decide +kernel⟩

theorem w_SegmentsMoveOnPackageAndBetweenPackages_7 : ∃ (s : State) (die : Nat) (chan : Nat) (d : Descriptor) (c : Channel),
      chanExists die chan = true ∧
      s.chan die chan = c ∧
      c.desc = some d ∧
      c.busy = true ∧
      ((s.slotsWhere fun x => x.cur.entry.holder == .hoist die chan) = []) :=
  ⟨wHoist wBusy, 17, 15, wDesc, wBusy, by decide +kernel⟩

theorem w_SegmentsMoveOnPackageAndBetweenPackages_8 : ∃ (s : State) (h : Head) (addr : Nat) (u : Nat) (t : Nat) (bs : List Byte) (l : Leaf),
      Accepted (s.stamp t) h 0x50 ∧
      s.incoming = [] ∧
      s.usaFault addr bs.length 0 = none ∧
      0 < bs.length ∧
      addr % 4096 + bs.length ≤ 4096 ∧
      s.pageOf addr = some (u, l) ∧
      aget s.leaves u = some l ∧
      l.frozen = false ∧
      l.tier = 0 ∧
      aget s.cages l.cageId = none :=
  ⟨wFab (wPages wHost), { wHead with tc := 4, len := 2, payBytes := 64 }, 4096, 4096, 0, List.replicate 64 7, wLeaf, by unfold Accepted; decide +kernel⟩

theorem w_SegmentsMoveOnPackageAndBetweenPackages_9 : ∃ (s : State) (h : Head) (addr : Nat) (t : Nat) (bs : List Byte),
      Accepted (s.stamp t) h 0x50 ∧
      s.incoming = [] ∧
      (s.usaFault addr bs.length 0).isSome = true :=
  ⟨wFab (wPages wHost), { wHead with tc := 4, len := 2, payBytes := 64 }, 2 ^ 47, 0, List.replicate 64 7, by unfold Accepted; decide +kernel⟩

theorem w_SegmentsMoveOnPackageAndBetweenPackages_10 : ∃ (s : State) (die : Nat) (chan : Nat) (seg : Nat) (t : Nat) (issued : Nat) (p : Packet),
      chanExists die chan = true ∧
      aget s.gallery.unacked (chanKey die chan * 2 ^ 32 + seg) = some (p, issued) ∧
      issued + s.regFld 0x12 0 0x00 47 32 * 1000 ≤ t :=
  ⟨{ State.reset with gallery := { Gallery.reset with unacked := [(chanKey 17 15 * 2 ^ 32 + 1, ⟨2, 28, 4, 0, 28, 0, 0x50, 0, 0, 0, 0, 0, [], [], []⟩, 0)] } }, 17, 15, 1, 10000000000, 0, ⟨2, 28, 4, 0, 28, 0, 0x50, 0, 0, 0, 0, 0, [], [], []⟩, by decide +kernel⟩

theorem w_SegmentsMoveOnPackageAndBetweenPackages_11 : ∃ (s : State) (h : Head) (die : Nat) (chan : Nat) (tag : Nat) (seg : Nat) (t : Nat) (issued : Nat) (p : Packet) (c : Channel) (d : Descriptor),
      Accepted (s.stamp t) h 0x10 ∧
      chanExists die chan = true ∧
      s.chan die chan = c ∧
      c.desc = some d ∧
      c.busy = true ∧
      d.tag = tag ∧
      s.gallery.unacked = [(chanKey die chan * 2 ^ 32 + seg, (p, issued))] ∧
      seg < 2 ^ 32 ∧
      c.marked = [] ∧
      d.segments ≤ c.nextSeg :=
  ⟨let s := wFab (wHoist { wBusy with desc := some { wDesc with remotePkg := 2 }, nextSeg := 2, done := 4096 }); { s with gallery := { s.gallery with unacked := [(chanKey 17 15 * 2 ^ 32 + 1, ⟨2, 28, 4, 0, 28, 0, 0x50, 0, 0, 0, 0, 0, [], [], []⟩, 0)] } }, wHead, 17, 15, 6, 1, 0, 0, ⟨2, 28, 4, 0, 28, 0, 0x50, 0, 0, 0, 0, 0, [], [], []⟩, { wBusy with desc := some { wDesc with remotePkg := 2 }, nextSeg := 2, done := 4096 }, { wDesc with remotePkg := 2 }, by unfold Accepted; decide +kernel⟩

theorem w_LinksTrainAndRollCall_0 : ∃ (s : State) (port : Nat) (g : GalPort),
      port < 16 ∧
      s.port port = g :=
  ⟨wLink (wPort .up), 15, wPort .up, by decide +kernel⟩

theorem w_LinksTrainAndRollCall_1 : ∃ (s : State) (port : Nat) (g : GalPort),
      port < 16 ∧
      s.port port = g :=
  ⟨wLink (wPort .up), 15, wPort .up, by decide +kernel⟩

theorem w_LinksTrainAndRollCall_2 : ∃ (s : State) (port : Nat) (g : GalPort),
      port < 16 ∧
      s.port port = g ∧
      g.tries = 7 :=
  ⟨wLink { wPort .up with tries := 7 }, 15, { wPort .up with tries := 7 }, by decide +kernel⟩

theorem w_LinksTrainAndRollCall_3 : ∃ (s : State) (port : Nat) (g : GalPort),
      port < 16 ∧
      s.port port = g ∧
      s.portEnabled port = true ∧
      g.state = .training :=
  ⟨wLink (wPort .training), 15, wPort .training, by decide +kernel⟩

theorem w_LinksTrainAndRollCall_4 : ∃ (s : State) (port : Nat) (g : GalPort),
      port < 16 ∧
      s.port port = g ∧
      g.state = .up :=
  ⟨wLink (wPort .up), 15, wPort .up, by decide +kernel⟩

theorem w_LinksTrainAndRollCall_5 : ∃ (s : State) (port : Nat) (g : GalPort),
      port < 16 ∧
      s.port port = g ∧
      g.state = .up :=
  ⟨wLink (wPort .up), 15, wPort .up, by decide +kernel⟩

theorem w_LinksTrainAndRollCall_6 : ∃ (s : State) (port : Nat) (g : GalPort),
      port < 16 ∧
      s.port port = g ∧
      g.state = .up :=
  ⟨wLink (wPort .up), 15, wPort .up, by decide +kernel⟩

theorem w_LinksTrainAndRollCall_7 : ∃ (s : State) (h : Head) (port : Nat) (pkg : Nat) (g : GalPort),
      port < 16 ∧
      s.port port = g ∧
      h.port = port ∧
      s.authentic h 0x08 = true ∧
      formOk h 0x08 = true ∧
      g.state = .rollCall ∧
      pkg ≠ s.pkg ∧
      3 ≤ port :=
  ⟨wLink (wPort .rollCall), { wHead with port := 15, tc := 7, len := 2, payBytes := 64 }, 15, 2, wPort .rollCall, by decide +kernel⟩

theorem w_LinksTrainAndRollCall_8 : ∃ (s : State) (h : Head) (port : Nat) (pkg : Nat) (g : GalPort),
      port < 16 ∧
      s.port port = g ∧
      h.port = port ∧
      s.authentic h 0x08 = true ∧
      formOk h 0x08 = true ∧
      g.state = .rollCall ∧
      pkg = s.pkg :=
  ⟨wLink (wPort .rollCall), { wHead with port := 15, tc := 7, len := 2, payBytes := 64 }, 15, 0, wPort .rollCall, by decide +kernel⟩

theorem w_PacketsAndMessagesFindTheirUnits_0 : ∃ (s : State) (port : Nat) (index : Nat) (x : Packet),
      port < 16 ∧
      s.gallery.sending[index]? = some x ∧
      x.dstPkg ≠ s.pkg ∧
      s.route x = some port :=
  ⟨wRoute (wPort .up) [wPacket 0 2], 15, 0, wPacket 0 2, by decide +kernel⟩

theorem w_PacketsAndMessagesFindTheirUnits_1 : ∃ (s : State) (port : Nat) (index : Nat) (x : Packet),
      port < 16 ∧
      s.gallery.sending[index]? = some x ∧
      x.dstPkg = s.pkg :=
  ⟨wRoute (wPort .up) [wPacket 0 0], 15, 0, wPacket 0 0, by decide +kernel⟩

theorem w_PacketsAndMessagesFindTheirUnits_2 : ∃ (s : State) (port : Nat) (index : Nat) (x : Packet),
      port < 16 ∧
      s.gallery.sending[index]? = some x ∧
      x.dstPkg ≠ s.pkg ∧
      s.route x = none :=
  ⟨wRoute (wPort .up) [wPacket 0 9], 15, 0, wPacket 0 9, by decide +kernel⟩

theorem w_PacketsAndMessagesFindTheirUnits_3 : ∃ (s : State) (port : Nat) (fq : Nat) (t : Nat) (q : Queued),
      port < 16 ∧
      (s.port port).state = .up ∧
      (s.stamp t).pickEgress port = some (fq, q) ∧
      q.packet.srcPkg ≠ s.pkg :=
  ⟨wRoute (wQueued (wPacket 7 2)) [], 15, 256 * 4 + 7, 0, ⟨wPacket 7 2, 0⟩, by decide +kernel⟩

theorem w_PacketsAndMessagesFindTheirUnits_4 : ∃ (s : State) (port : Nat) (fq : Nat) (t : Nat) (y : Packet) (q : Queued),
      port < 16 ∧
      (s.port port).state = .up ∧
      (s.stamp t).pickEgress port = some (fq, q) ∧
      q.packet.srcPkg = s.pkg ∧
      ((s.stamp t).protect q.packet).1 = some y :=
  ⟨wRoute (wQueued { wPacket 0 2 with opcode := 0x08 }) [], 15, 256 * 4, 0, ((((wRoute (wQueued { wPacket 0 2 with opcode := 0x08 }) []).stamp 0).protect { wPacket 0 2 with opcode := 0x08 }).1).getD (wPacket 0 0), ⟨{ wPacket 0 2 with opcode := 0x08 }, 0⟩, by decide +kernel⟩

theorem w_PacketsAndMessagesFindTheirUnits_5 : ∃ (s : State) (port : Nat) (x : Packet),
      port < 16 ∧
      x.dstPkg ≠ s.pkg ∧
      x.hops < 15 ∧
      s.route { x with hops := x.hops + 1 } = some port :=
  ⟨wRoute (wPort .up) [], 15, { wPacket 7 2 with hops := 14 }, by decide +kernel⟩

theorem w_PacketsAndMessagesFindTheirUnits_6 : ∃ (s : State) (port : Nat) (x : Packet),
      port < 16 ∧
      x.dstPkg ≠ s.pkg ∧
      15 ≤ x.hops :=
  ⟨wRoute (wPort .up) [], 15, { wPacket 7 2 with hops := 15 }, by decide +kernel⟩

theorem w_PacketsAndMessagesFindTheirUnits_7 : ∃ (s : State) (port : Nat) (t : Nat) (x : Packet) (q : Queued),
      port < 16 ∧
      x.tc < 8 ∧
      ((((s.port port).queue x.tc).find? fun z => z.packet.srcPkg != s.pkg && z.stamp + 1000000 < t) = some q) :=
  ⟨wRoute (wQueued (wPacket 7 2)) [], 15, 1000001, wPacket 7 2, ⟨wPacket 7 2, 0⟩, by decide +kernel⟩

theorem w_PacketsAndMessagesFindTheirUnits_8 : ∃ (port : Nat) (x : Packet),
      port < 16 ∧
      x.tc < 8 :=
  ⟨15, wPacket 7 2, by decide +kernel⟩

theorem w_PacketsAndMessagesFindTheirUnits_9 : ∃ (s : State) (h : Head) (count : Nat) (t : Nat),
      Accepted (s.stamp t) h 0x12 ∧
      count ≤ agetD s.gallery.dataCounts h.srcPkg 0 :=
  ⟨wFab wHost, wHead, 0, 0, by unfold Accepted; decide +kernel⟩

theorem w_PacketsAndMessagesFindTheirUnits_10 : ∃ (s : State) (h : Head) (count : Nat) (t : Nat),
      Accepted (s.stamp t) h 0x12 ∧
      agetD s.gallery.dataCounts h.srcPkg 0 < count :=
  ⟨wFab wHost, wHead, 1, 0, by unfold Accepted; decide +kernel⟩

theorem w_PacketsAndMessagesFindTheirUnits_11 : ∃ (s : State) (h : Head) (t : Nat),
      Accepted (s.stamp t) h 0x37 :=
  ⟨wFab wHost, { wHead with tc := 3, len := 2, payBytes := 64 }, 0, by unfold Accepted; decide +kernel⟩

theorem w_PacketsAndMessagesFindTheirUnits_12 : ∃ (s : State) (h : Head),
      h.port < 16 ∧
      s.authentic h 0x09 = true ∧
      formOk h 0x09 = true :=
  ⟨wFab wHost, { wHead with tc := 7, len := 2, payBytes := 64 }, by decide +kernel⟩

theorem w_PackageTimeIsSynchronised_0 : ∃ (s : State) (port : Nat),
      s.upstream = some port :=
  ⟨wRoute { wPort .up with peerPkg := 6 } [] |> fun s => (s.setReg (pcs 0x12 0 0x08) (2 * 2 ^ 32)), 15, by decide +kernel⟩

theorem w_PackageTimeIsSynchronised_1 : ∃ (s : State),
      s.upstream = none :=
  ⟨State.reset, by decide +kernel⟩

theorem w_PackageTimeIsSynchronised_2 : ∃ (s : State) (h : Head),
      h.port < 16 ∧
      s.authentic h 0x01 = true ∧
      formOk h 0x01 = true :=
  ⟨wFab wHost, { wHead with tc := 1 }, by decide +kernel⟩

theorem w_PackageTimeIsSynchronised_3 : ∃ (s : State) (h : Head) (t : Nat) (t1 : Nat) (t2 : Nat) (t3 : Nat) (off : Int),
      h.port < 16 ∧
      s.authentic h 0x02 = true ∧
      formOk h 0x02 = true ∧
      off = (((t2 : Int) - t1) - ((t : Int) - t3)) / 2 + agetD s.gallery.asymmetry h.port 0 :=
  ⟨wFab wHost, { wHead with tc := 1 }, 7, 5, 2010, 2010, 2004, by decide +kernel⟩

theorem w_EpochsAreCutStagedAndEnded_0 : ∃ (s : State) (f : Frame),
      f.cutOk = true ∧
      s.regFld 0x14 0 0x10 31 0 ≠ 0 ∧
      s.checkpoint.run = none ∧
      s.checkpoint.lastEpoch < f.field 32 8 :=
  ⟨wHost.setReg (pcs 0x14 0 0x10) 1, { wF 0x0501 0 90 [1] [] with flags := 8 }, by decide +kernel⟩

theorem w_EpochsAreCutStagedAndEnded_1 : ∃ (s : State) (f : Frame),
      f.cutOk = true ∧
      s.regFld 0x14 0 0x10 31 0 = 0 :=
  ⟨wHost, { wF 0x0501 0 90 [1] [] with flags := 8 }, by decide +kernel⟩

theorem w_EpochsAreCutStagedAndEnded_2 : ∃ (s : State) (t : Nat) (l : Leaf) (scope : List Nat) (r : EpochRun),
      s.checkpoint.run = some r ∧
      s.migrations = [] ∧
      s.incoming = [] ∧
      s.hasS0 = false ∧
      r.cut = none ∧
      r.cutPt ≤ t ∧
      r.recorded = [] ∧
      (scope = s.pagesInScope.filter (fun u => r.full || (s.leaf u).any (·.dirtyCkp))) ∧
      (sumBy (fun u => ((s.leaf u).map fun l => pageUse l.sizeClass l.scaleBytes).getD 0) scope ≤ s.checkpoint.stageFree) ∧
      (s.checkpoint.extentsUsed + ceilDiv (sumBy (fun u => ((s.leaf u).map fun l => pageUse l.sizeClass l.scaleBytes).getD 0) scope) 1048576 ≤ Config.storeExtents) :=
  ⟨wEpochs wEpoch State.reset, 90, wLeaf, [], wEpoch, by decide +kernel, by decide +kernel, by decide +kernel, by decide +kernel, by decide +kernel, by decide +kernel, by decide +kernel, by decide +kernel, by decide +kernel, Nat.zero_le _⟩

theorem w_EpochsAreCutStagedAndEnded_3 : ∃ (s : State) (page : Nat) (l : Leaf) (r : EpochRun),
      s.checkpoint.run = some r ∧
      s.migrations = [] ∧
      s.incoming = [] ∧
      s.leaf page = some l ∧
      l.frozen = true ∧
      l.orphan = false ∧
      (s.sd (ownerSd page)).cageWaiting = [] ∧
      (s.isKvPage page = true → pageUse l.sizeClass l.scaleBytes ≤ s.checkpoint.stageFree) :=
  ⟨{ wEpochs { wCut with frozen := [4096] } State.reset with leaves := [(4096, { wLeaf with frozen := true })] }, 4096, { wLeaf with frozen := true }, { wCut with frozen := [4096] }, by decide +kernel⟩

theorem w_EpochsAreCutStagedAndEnded_4 : ∃ (s : State) (r : EpochRun),
      s.checkpoint.run = some r ∧
      s.migrations = [] ∧
      s.incoming = [] :=
  ⟨wEpochs { wCut with staged := [wRecord] } State.reset, { wCut with staged := [wRecord] }, by decide +kernel⟩

theorem w_EpochsAreCutStagedAndEnded_5 : ∃ (s : State) (r : EpochRun),
      s.checkpoint.run = some r ∧
      s.migrations = [] ∧
      s.incoming = [] ∧
      r.frozen = [] :=
  ⟨wEpochs wCut wHost, wCut, by decide +kernel⟩

theorem w_EpochsAreCutStagedAndEnded_6 : ∃ (s : State) (r : EpochRun),
      s.checkpoint.run = some r ∧
      s.migrations = [] ∧
      s.incoming = [] ∧
      r.frozen = [] :=
  ⟨wEpochs wCut wHost, wCut, by decide +kernel⟩

theorem w_EpochsAreCutStagedAndEnded_7 : ∃ (s : State) (pt : Nat) (step : Nat) (r : EpochRun),
      s.checkpoint.run = some r ∧
      s.migrations = [] ∧
      s.incoming = [] ∧
      r.cut = some (pt, step) ∧
      r.frozen = [] ∧
      r.staged = [] ∧
      (((List.range 12).all fun k => !(s.sd k).inService || r.recorded.contains k) = true) ∧
      r.keepFrom ≤ r.epoch ∧
      s.checkpoint.lastDurable ≤ r.epoch :=
  ⟨wEpochs { wCut with stored := [wRecord] } wHost, 90, 0, { wCut with stored := [wRecord] }, by decide +kernel⟩

theorem w_RestoresBringSessionsBack_0 : ∃ (s : State) (f : Frame) (slot : Nat) (t : Nat),
      s.findHandle f.handle = some slot ∧
      s.bound (s.entry slot).tenant f.function = true ∧
      (s.entry slot).detached = false ∧
      (s.entry slot).state = .ready ∧
      (s.entry slot).holder = .none ∧
      (s.entry slot).lockReport = false ∧
      (s.entry slot).residence = .dormant ∧
      (s.sess slot).frozen = false ∧
      (s.sess slot).waiting = [] ∧
      f.opcode = 0x010c ∧
      f.restoreOk = true ∧
      f.field 32 1 = 0 ∧
      aget s.migrations slot = none ∧
      ((s.stamp t).restoreStart f slot (s.sess slot)).1 = stOk :=
  ⟨wDorm, wF 0x010c wHandle 0 [] [], 5, 0, by decide +kernel, by decide +kernel, by decide +kernel, by decide +kernel, by decide +kernel, by decide +kernel, by decide +kernel, by decide +kernel, by decide +kernel, by decide +kernel, by decide +kernel, by decide +kernel, by decide +kernel, wRestoreStarts⟩

theorem w_RestoresBringSessionsBack_1 : ∃ (s : State) (slot : Nat) (r : RestoreRun),
      aget s.checkpoint.restores slot = some r ∧
      (s.sess slot).waiting = [] :=
  ⟨wRestoring wDormant, 5, wRestore, by decide +kernel⟩

theorem w_RestoresBringSessionsBack_2 : ∃ (s : State) (slot : Nat) (r : RestoreRun),
      aget s.checkpoint.restores slot = some r ∧
      (s.sess slot).waiting = [] ∧
      r.session.cur.entry.deadline = 0 :=
  ⟨wRestoring wDormant, 5, wRestore, by decide +kernel⟩

theorem w_RestoresBringSessionsBack_3 : ∃ (s : State) (f : Frame),
      f.paramOk = true ∧
      f.handle = 0 ∧
      f.zeros 44 63 = true ∧
      (∀ p ∈ s.sessions, p.2.cur.entry.state = .free) :=
  ⟨wHost, wF 0x0502 0 0 [1] [], by decide +kernel⟩

theorem w_RestoresBringSessionsBack_4 : ∃ (s : State) (f : Frame) (i : EpochImage) (x : Recorded),
      f.paramOk = true ∧
      f.handle = 0 ∧
      f.zeros 44 63 = true ∧
      (∀ p ∈ s.sessions, p.2.cur.entry.state = .free) ∧
      i.xts = s.security.conf ∧
      i.layout = s.layoutSig ∧
      i.sessions = [x] ∧
      x.session.cur.entry.state = .ready ∧
      x.undecided = none :=
  ⟨wHost, wF 0x0502 0 0 [1] [], wImageOf [wRecorded], wRecorded, by decide +kernel, by decide +kernel, by decide +kernel, by decide +kernel, by decide +kernel, rfl, rfl, rfl, rfl⟩

theorem w_TheJournalCommitsAndTheDrainEnds_0 : ∃ (s : State) (slot : Nat),
      s.power.drainEnabled = true ∧
      s.power.drain = none ∧
      (s.sess slot).durable = true ∧
      s.power.writes = [] ∧
      s.power.journal = [] ∧
      (s.entry slot).residence = .parked ∧
      0 < s.changedBytes slot ∧
      (s.openEntry .base slot (s.entryPages (s.sess slot) true) []).power.journalUsed ≤ s.power.journalTotal * 2 ^ 20 :=
  ⟨wDurable, 5, by decide +kernel⟩

theorem w_TheJournalCommitsAndTheDrainEnds_1 : ∃ (s : State) (seq : Nat) (page : Nat) (w : JournalWrite) (l : Leaf),
      s.journalWrite seq = some w ∧
      w.toCapture.contains page = true ∧
      s.leaf page = some l ∧
      s.power.captured + pageUse l.sizeClass l.scaleBytes ≤ 2 ^ 30 :=
  ⟨wWriting { wJournal with toCapture := [4096] }, 3, 4096, { wJournal with toCapture := [4096] }, { wLeaf with dirtyDur := true }, by decide +kernel⟩

theorem w_TheJournalCommitsAndTheDrainEnds_2 : ∃ (s : State) (seq : Nat) (w : JournalWrite),
      s.journalWrite seq = some w ∧
      w.toCapture = [] ∧
      w.payloadDone = false :=
  ⟨wWriting wJournal, 3, wJournal, by decide +kernel⟩

theorem w_TheJournalCommitsAndTheDrainEnds_3 : ∃ (s : State) (seq : Nat) (w : JournalWrite),
      s.journalWrite seq = some w ∧
      w.toCapture = [] ∧
      w.payloadDone = false ∧
      s.power.drain = none :=
  ⟨wWriting wJournal, 3, wJournal, by decide +kernel⟩

theorem w_TheJournalCommitsAndTheDrainEnds_4 : ∃ (s : State) (seq : Nat) (w : JournalWrite),
      s.journalWrite seq = some w ∧
      w.payloadDone = true ∧
      s.power.drain = none :=
  ⟨wWriting { wJournal with payloadDone := true }, 3, { wJournal with payloadDone := true }, by decide +kernel⟩

theorem w_TheJournalCommitsAndTheDrainEnds_5 : ∃ (s : State) (seq : Nat) (w : JournalWrite) (d : Drain),
      s.journalWrite seq = some w ∧
      w.payloadDone = true ∧
      s.power.drain = some d ∧
      d.todo = [] :=
  ⟨let s := wWriting { wJournal with payloadDone := true }; { s with power := { s.power with drain := some ⟨false, 0, []⟩ } }, 3, { wJournal with payloadDone := true }, ⟨false, 0, []⟩, by decide +kernel⟩

theorem w_TheJournalCommitsAndTheDrainEnds_6 : ∃ (s : State) (eid : Nat) (fell : Nat) (t : Nat),
      eid < 2 ∧
      (s.eport eid).supply = true ∧
      fell + 1000 * s.regFld 0x15 0 0x18 19 16 ≤ t ∧
      (s.eport eid).rose ≤ fell :=
  ⟨{ State.reset with energyPorts := [(1, { EnergyPort.reset with phase := .ready })] }, 1, 5, 15005, by decide +kernel⟩

theorem w_TheJournalCommitsAndTheDrainEnds_7 : ∃ (s : State) (eid : Nat) (d : Nat) (t : Nat),
      eid < 2 ∧
      (s.eport eid).detected = some d ∧
      t ≤ d ∧
      s.power.drain = none :=
  ⟨{ State.reset with energyPorts := [(1, { EnergyPort.reset with detected := some 9 })] }, 1, 9, 9, by decide +kernel⟩

theorem w_TheJournalCommitsAndTheDrainEnds_8 : ∃ (s : State),
      s.power.drain = none ∧
      s.s0.run = none ∧
      s.s1.run = none ∧
      s.checkpoint.run = none ∧
      s.power.writes = [] ∧
      (s.energyPorts.any (fun p => p.2.detected.isSome) = true) :=
  ⟨{ wLink (wPort .up) with energyPorts := [(1, { EnergyPort.reset with detected := some 9, phase := .ready })], power := { Power.reset with drainEnabled := true } }, by decide +kernel⟩

theorem w_TheJournalCommitsAndTheDrainEnds_9 : ∃ (s : State) (junction : Nat) (dram : Nat),
      s.power.drain = none ∧
      s.s0.run = none ∧
      s.s1.run = none ∧
      s.checkpoint.run = none ∧
      s.power.writes = [] ∧
      (110 ≤ junction ∨ 100 ≤ dram) :=
  ⟨State.reset, 0, 100, by decide +kernel⟩

theorem w_TheJournalCommitsAndTheDrainEnds_10 : ∃ (s : State) (q : Drain),
      s.power.drain = some q ∧
      q.todo = [] ∧
      s.power.writes = [] :=
  ⟨{ wDurable with power := { wDurable.power with drain := some ⟨false, 5, []⟩ } }, ⟨false, 5, []⟩, by decide +kernel⟩

theorem w_EnergyPortsFollowTheirPhases_0 : ∃ (s : State) (eid : Nat) (p : EnergyPort),
      eid < 2 ∧
      s.eport eid = p ∧
      p.supply = true ∧
      (p.phase = .ready ∨ p.phase = .charging) :=
  ⟨wEid (wStore .charging), 1, wStore .charging, by decide +kernel⟩

theorem w_EnergyPortsFollowTheirPhases_1 : ∃ (s : State) (eid : Nat) (p : EnergyPort),
      eid < 2 ∧
      s.eport eid = p ∧
      p.supply = true :=
  ⟨wEid (wStore .ready), 1, wStore .ready, by decide +kernel⟩

theorem w_EnergyPortsFollowTheirPhases_2 : ∃ (s : State) (eid : Nat) (p : EnergyPort),
      eid < 2 ∧
      s.eport eid = p ∧
      p.phase = .ready :=
  ⟨wEid (wStore .ready), 1, wStore .ready, by decide +kernel⟩

theorem w_EnergyPortsFollowTheirPhases_3 : ∃ (s : State) (eid : Nat) (t : Nat) (p : EnergyPort) (q : Nat),
      eid < 2 ∧
      s.eport eid = p ∧
      p.swapSince = some q ∧
      q + 200000 ≤ t :=
  ⟨wEid ({ wStore .ready with swapSince := some 5 }), 1, 200005, { wStore .ready with swapSince := some 5 }, 5, by decide +kernel⟩

theorem w_EnergyPortsFollowTheirPhases_4 : ∃ (s : State) (eid : Nat) (nodeV : Nat) (p : EnergyPort),
      eid < 2 ∧
      s.eport eid = p ∧
      p.phase = .precharge ∧
      nodeV ≤ p.storeV + 100 ∧
      p.storeV ≤ nodeV + 100 :=
  ⟨wEid (wStore .precharge), 1, 640, wStore .precharge, by decide +kernel⟩

theorem w_EnergyPortsFollowTheirPhases_5 : ∃ (s : State) (eid : Nat) (p : EnergyPort),
      eid < 2 ∧
      s.eport eid = p ∧
      p.phase = .charging ∧
      p.testPassed = true ∧
      cfgCells (s.eidCfg eid) * p.chargeMv (s.eidCfg eid) ≤ 10 * p.storeV :=
  ⟨wEid (wStore .charging), 1, wStore .charging, by decide +kernel⟩

theorem w_EnergyPortsFollowTheirPhases_6 : ∃ (s : State) (eid : Nat) (p : EnergyPort),
      eid < 2 ∧
      s.eport eid = p ∧
      p.phase = .retiring ∧
      p.current.natAbs ≤ 500 :=
  ⟨wEid ({ wStore .retiring with current := -500 }), 1, { wStore .retiring with current := -500 }, by decide +kernel⟩

theorem w_EnergyPortsFollowTheirPhases_7 : ∃ (s : State) (eid : Nat) (p : EnergyPort),
      eid < 2 ∧
      s.eport eid = p ∧
      p.phase = .ready ∧
      (s.eport (1 - eid)).counts = true :=
  ⟨{ wEid (wStore .ready) with energyPorts := [(0, wStore .ready), (1, wStore .ready)] }, 1, wStore .ready, by decide +kernel⟩

theorem w_EnergyPortsFollowTheirPhases_8 : ∃ (s : State) (eid : Nat) (p : EnergyPort),
      eid < 2 ∧
      s.eport eid = p ∧
      p.phase = .ready ∧
      (s.eport (1 - eid)).counts = false :=
  ⟨wEid (wStore .ready), 1, wStore .ready, by decide +kernel⟩

theorem w_EnergyPortsFollowTheirPhases_9 : ∃ (s : State) (eid : Nat) (p : EnergyPort),
      eid < 2 ∧
      s.eport eid = p ∧
      (p.phase = .absent ∨ p.phase = .removable ∨ p.phase = .safe) ∧
      p.supply = true ∧
      p.admissible (s.eidCfg eid) = true :=
  ⟨wEid (wStore .safe), 1, wStore .safe, by decide +kernel⟩

theorem w_EnergyPortsFollowTheirPhases_10 : ∃ (s : State) (eid : Nat) (p : EnergyPort),
      eid < 2 ∧
      s.eport eid = p ∧
      (p.phase = .absent ∨ p.phase = .removable ∨ p.phase = .safe) ∧
      p.admissible (s.eidCfg eid) = false :=
  ⟨wEid ({ wStore .safe with taps := [2700] }), 1, { wStore .safe with taps := [2700] }, by decide +kernel⟩

theorem w_EnergyPortsFollowTheirPhases_11 : ∃ (s : State) (eid : Nat) (p : EnergyPort),
      eid < 2 ∧
      s.eport eid = p :=
  ⟨wEid (wStore .ready), 1, wStore .ready, by decide +kernel⟩

theorem w_EnergyPortsFollowTheirPhases_12 : ∃ (s : State) (eid : Nat) (p : EnergyPort),
      eid < 2 ∧
      s.eport eid = p :=
  ⟨wEid (wStore .safe), 1, wStore .safe, by decide +kernel⟩

theorem w_PowerKeepsItsLimits_0 : ∃ (s : State),
      s.power.holdSince = none :=
  ⟨State.reset, by decide +kernel⟩

theorem w_PowerKeepsItsLimits_1 : ∃ (s : State),
      s.power.holdSince = none :=
  ⟨State.reset, by decide +kernel⟩

theorem w_PowerKeepsItsLimits_2 : ∃ (s : State) (held : Nat) (t : Nat),
      s.power.holdSince = some held ∧
      held + 1000000000 ≤ t :=
  ⟨{ State.reset with power := { Power.reset with holdSince := some 5 } }, 5, 1000000005, by decide +kernel⟩

theorem w_PowerKeepsItsLimits_3 : ∃ (s : State),
      s.power.loopStopped = false :=
  ⟨State.reset, by decide +kernel⟩

theorem w_PowerKeepsItsLimits_4 : ∃ (s : State),
      s.power.loopStopped = false :=
  ⟨{ State.reset with power := { Power.reset with freqCd := [(0, 2000)] } }, by decide +kernel⟩

theorem w_PowerKeepsItsLimits_5 : ∃ (s : State) (watts : Nat),
      s.power.loopStopped = false ∧
      100 * watts < 97 * s.regFld 0x15 0 0x00 10 0 ∧
      s.power.pacing = true :=
  ⟨{ State.reset with power := { Power.reset with pacing := true, freqCd := [(0, 900)] } }, 1454, by decide +kernel⟩

theorem w_PowerKeepsItsLimits_6 : ∃ (s : State) (watts : Nat),
      s.power.loopStopped = false ∧
      100 * watts < 97 * s.regFld 0x15 0 0x00 10 0 ∧
      s.power.pacing = false :=
  ⟨{ State.reset with power := { Power.reset with freqCd := [(0, 900)] } }, 1454, by decide +kernel⟩

theorem w_PowerKeepsItsLimits_9 : ∃ (s : State) (a : EnergyPort) (b : EnergyPort) (e : Nat),
      s.energyPorts = [(0, a), (1, b)] ∧
      e = (if a.counts then a.usable (s.eidCfg 0) else 0) + (if b.counts then b.usable (s.eidCfg 1) else 0) :=
  ⟨{ wEid (wStore .ready) with energyPorts := [(0, wStore .safe), (1, wStore .ready)] }, wStore .safe, wStore .ready, (wStore .ready).usable ((wEid (wStore .ready)).eidCfg 1), by decide +kernel⟩

theorem w_DevicesComeAndGo_0 : ∃ (s : State) (pool : Nat) (gib : Nat),
      pool < 8 ∧
      0 < s.poolDemand 2 pool ∧
      s.poolDemand 2 pool ≤ gib * 2 ^ 30 :=
  ⟨{ State.reset with expanders := [(7, ⟨0, 3, 256⟩)], pools := [(poolKey 0 2 7 0, { base := 0, pool := Pool.new 64 })] }, 7, 1, by decide +kernel⟩

theorem w_DevicesComeAndGo_1 : ∃ (s : State) (pool : Nat) (gib : Nat),
      pool < 8 ∧
      gib * 2 ^ 30 < s.poolDemand 2 pool :=
  ⟨{ State.reset with expanders := [(7, ⟨0, 3, 256⟩)], pools := [(poolKey 0 2 7 0, { base := 0, pool := Pool.new 64 })] }, 7, 0, by decide +kernel⟩

theorem w_DevicesComeAndGo_2 : ∃ (s : State) (pool : Nat),
      pool < 8 ∧
      (s.expander pool).state = 1 :=
  ⟨{ State.reset with expanders := [(7, ⟨1, 3, 256⟩)], pools := [(poolKey 0 2 7 0, { base := 0, pool := Pool.new 64 })] }, 7, by decide +kernel⟩

theorem w_DevicesComeAndGo_3 : ∃ (s : State) (pool : Nat) (page : Nat) (l : Leaf),
      pool < 8 ∧
      (s.expander pool).state = 1 ∧
      s.sessions = [] ∧
      s.cages = [] ∧
      s.leaf page = some l ∧
      l.tier = 2 ∧
      l.pool = pool :=
  ⟨{ { State.reset with expanders := [(7, ⟨1, 3, 256⟩)], pools := [(poolKey 0 2 7 0, { base := 0, pool := Pool.new 64 })] } with leaves := [(4096, { wLeaf with tier := 2, pool := 7 })] }, 7, 4096, { wLeaf with tier := 2, pool := 7 }, by decide +kernel⟩

theorem w_DevicesComeAndGo_4 : ∃ (s : State) (pool : Nat),
      pool < 8 ∧
      (s.expander pool).state = 2 :=
  ⟨{ State.reset with expanders := [(7, ⟨2, 3, 256⟩)], pools := [(poolKey 0 2 7 0, { base := 0, pool := Pool.new 64 })] }, 7, by decide +kernel⟩

theorem w_DevicesComeAndGo_5 : ∃ (s : State) (pool : Nat),
      pool < 8 ∧
      (s.expander pool).state = 2 ∧
      s.cages = [] ∧
      s.poolPages 2 pool = [] :=
  ⟨{ State.reset with expanders := [(7, ⟨2, 3, 256⟩)], pools := [(poolKey 0 2 7 0, { base := 0, pool := Pool.new 64 })] }, 7, by decide +kernel⟩

theorem w_DevicesComeAndGo_6 : ∃ (drive : Nat),
      drive < 2 :=
  ⟨1, by decide +kernel⟩

theorem w_DevicesComeAndGo_7 : ∃ (drive : Nat),
      drive < 2 :=
  ⟨1, by decide +kernel⟩

theorem w_DevicesComeAndGo_8 : ∃ (port : Nat),
      port < 2 :=
  ⟨1, by decide +kernel⟩

theorem w_DevicesComeAndGo_9 : ∃ (s : State) (port : Nat) (bytes : List Byte),
      port < 2 ∧
      (s.eth port).link = true ∧
      bytes.length < 64 :=
  ⟨{ State.reset with eths := [(1, { EthPort.reset with link := true, mac := 7, ipv4 := 9 })] }, 1, List.replicate 63 0, by decide +kernel⟩

theorem w_DevicesComeAndGo_10 : ∃ (s : State) (port : Nat) (bytes : List Byte),
      port < 2 ∧
      (s.eth port).link = true ∧
      9216 < bytes.length :=
  ⟨{ State.reset with eths := [(1, { EthPort.reset with link := true, mac := 7, ipv4 := 9 })] }, 1, List.replicate 9217 0, by decide +kernel⟩

theorem w_DevicesComeAndGo_11 : ∃ (s : State) (port : Nat) (bytes : List Byte),
      port < 2 ∧
      (s.eth port).link = true ∧
      64 ≤ bytes.length ∧
      bytes.length ≤ 9216 :=
  ⟨{ State.reset with eths := [(1, { EthPort.reset with link := true, mac := 7, ipv4 := 9 })] }, 1, List.replicate 64 0, by decide +kernel⟩

theorem w_DevicesComeAndGo_12 : ∃ (s : State) (port : Nat) (bytes : List Byte),
      port < 2 ∧
      (s.eth port).link = true ∧
      64 ≤ bytes.length ∧
      bytes.length ≤ 9216 ∧
      (s.eth port).classify bytes = .rdma :=
  ⟨{ State.reset with eths := [(1, { EthPort.reset with link := true, mac := 7, ipv4 := 9 })] }, 1, List.replicate 12 0 ++ [8, 0] ++ [0x45] ++ List.replicate 8 0 ++ [17] ++ List.replicate 10 0 ++ [0, 0, 0x12, 0xb7] ++ List.replicate 40 0, by decide +kernel⟩

theorem w_DevicesComeAndGo_13 : ∃ (s : State) (port : Nat) (bytes : List Byte),
      port < 2 ∧
      (s.eth port).link = true ∧
      64 ≤ bytes.length ∧
      bytes.length ≤ 9216 ∧
      (s.eth port).classify bytes = .arp :=
  ⟨{ State.reset with eths := [(1, { EthPort.reset with link := true, mac := 7, ipv4 := 9 })] }, 1, List.replicate 12 0 ++ [8, 6] ++ [0, 1, 8, 0, 6, 4, 0, 1] ++ List.replicate 16 1 ++ [0, 0, 0, 9] ++ List.replicate 22 0, by decide +kernel⟩

theorem w_StopsLeaveWhatSurvives_0 : ∃ (s : State),
      s.draining = false :=
  ⟨wDurable, by decide +kernel⟩

theorem w_StopsLeaveWhatSurvives_1 : ∃ (s : State),
      s.draining = false :=
  ⟨wDurable, by decide +kernel⟩

theorem w_StopsLeaveWhatSurvives_2 : ∃ (s : State),
      s.draining = false ∧
      (s.boot.pwrgd && s.boot.resetN) = false :=
  ⟨State.reset, by decide +kernel⟩

theorem w_StopsLeaveWhatSurvives_3 : ∃ (s : State),
      s.draining = true :=
  ⟨{ wDurable with power := { wDurable.power with drain := some ⟨false, 0, []⟩ } }, by decide +kernel⟩

theorem w_StopsLeaveWhatSurvives_4 : ∃ (s : State),
      s.draining = true :=
  ⟨{ wDurable with power := { wDurable.power with drain := some ⟨false, 0, []⟩ } }, by decide +kernel⟩

theorem w_BringUpPassesItsPhasesAndRecovers_0 : ∃ (s : State) (pos : Nat),
      s.boot.halted = false ∧
      s.boot.pwrgd = true ∧
      s.boot.resetN = true ∧
      s.boot.phase = 0 ∧
      pos < 4 :=
  ⟨wBoot 0 id, 3, by decide +kernel⟩

theorem w_BringUpPassesItsPhasesAndRecovers_1 : ∃ (s : State) (t : Nat),
      s.boot.halted = false ∧
      s.boot.pwrgd = true ∧
      s.boot.resetN = true ∧
      s.boot.phase = 1 ∧
      s.boot.leader = none ∧
      t ≤ 25000000 :=
  ⟨wBoot 1 id, 25000000, by decide +kernel⟩

theorem w_BringUpPassesItsPhasesAndRecovers_2 : ∃ (s : State) (t : Nat),
      s.boot.halted = false ∧
      s.boot.pwrgd = true ∧
      s.boot.resetN = true ∧
      s.boot.phase = 1 ∧
      s.boot.leader = none ∧
      25000000 < t ∧
      s.boot.romPassed.contains 1 = true :=
  ⟨wBoot 1 fun b => { b with romPassed := [1] }, 25000001, by decide +kernel⟩

theorem w_BringUpPassesItsPhasesAndRecovers_3 : ∃ (s : State) (t : Nat),
      s.boot.halted = false ∧
      s.boot.pwrgd = true ∧
      s.boot.resetN = true ∧
      s.boot.phase = 1 ∧
      s.boot.leader = none ∧
      50000000 < t ∧
      s.boot.romPassed.contains 1 = false :=
  ⟨wBoot 1 id, 50000001, by decide +kernel⟩

theorem w_BringUpPassesItsPhasesAndRecovers_4 : ∃ (s : State) (a : ImageSig),
      s.boot.halted = false ∧
      s.boot.pwrgd = true ∧
      s.boot.resetN = true ∧
      s.boot.phase = 2 ∧
      s.boot.stage1Copy = false ∧
      s.security.admits a = true :=
  ⟨wBoot 2 id, wSig, by decide +kernel⟩

theorem w_BringUpPassesItsPhasesAndRecovers_5 : ∃ (s : State) (a : ImageSig) (b : ImageSig),
      s.boot.halted = false ∧
      s.boot.pwrgd = true ∧
      s.boot.resetN = true ∧
      s.boot.phase = 2 ∧
      s.boot.stage1Copy = false ∧
      s.security.admits a = false ∧
      s.security.admits b = true :=
  ⟨wBoot 2 id, wBadSig, wSig, by decide +kernel⟩

theorem w_BringUpPassesItsPhasesAndRecovers_6 : ∃ (s : State) (a : ImageSig) (b : ImageSig),
      s.boot.halted = false ∧
      s.boot.pwrgd = true ∧
      s.boot.resetN = true ∧
      s.boot.phase = 2 ∧
      s.boot.stage1Copy = false ∧
      s.security.admits a = false ∧
      s.security.admits b = false :=
  ⟨wBoot 2 id, wBadSig, wBadSig, by decide +kernel⟩

theorem w_BringUpPassesItsPhasesAndRecovers_7 : ∃ (s : State) (a : ImageSig),
      s.boot.halted = false ∧
      s.boot.pwrgd = true ∧
      s.boot.resetN = true ∧
      s.boot.phase = 15 ∧
      s.security.admits a = true :=
  ⟨wBoot 15 id, wSig, by decide +kernel⟩

theorem w_BringUpPassesItsPhasesAndRecovers_8 : ∃ (s : State),
      s.boot.halted = false ∧
      s.boot.pwrgd = true ∧
      s.boot.resetN = true ∧
      s.boot.phase = 3 :=
  ⟨wBoot 3 fun b => { b with defects := [⟨3, 0, 1, 0⟩] }, by decide +kernel⟩

theorem w_BringUpPassesItsPhasesAndRecovers_9 : ∃ (s : State),
      s.boot.halted = false ∧
      s.boot.pwrgd = true ∧
      s.boot.resetN = true ∧
      s.boot.phase = 4 ∧
      s.boot.defects = [] ∧
      s.cds ≤ 16 :=
  ⟨wBoot 4 id, by decide +kernel⟩

theorem w_BringUpPassesItsPhasesAndRecovers_10 : ∃ (s : State) (a : ImageSig),
      s.boot.halted = false ∧
      s.boot.pwrgd = true ∧
      s.boot.resetN = true ∧
      s.boot.phase = 5 ∧
      s.boot.bundleCopy = false ∧
      s.security.admits a = true :=
  ⟨wBoot 5 id, wSig, by decide +kernel⟩

theorem w_BringUpPassesItsPhasesAndRecovers_11 : ∃ (s : State) (die : Nat) (unit : Nat),
      s.boot.halted = false ∧
      s.boot.pwrgd = true ∧
      s.boot.resetN = true ∧
      (s.boot.phase = 5 ∨ s.boot.phase = 6) ∧
      die < 16 ∧
      unit < 36 :=
  ⟨wBoot 5 id, 15, 35, by decide +kernel⟩

theorem w_BringUpPassesItsPhasesAndRecovers_12 : ∃ (s : State) (die : Nat) (unit : Nat),
      s.boot.halted = false ∧
      s.boot.pwrgd = true ∧
      s.boot.resetN = true ∧
      (s.boot.phase = 5 ∨ s.boot.phase = 6) ∧
      die < 16 ∧
      unit < 36 ∧
      agetD s.boot.fetches (64 * die + unit) 0 = 2 :=
  ⟨wBoot 6 fun b => { b with fetches := [(64 * 15 + 35, 2)] }, 15, 35, by decide +kernel⟩

theorem w_BringUpPassesItsPhasesAndRecovers_13 : ∃ (s : State) (e : JournalEntry) (r : Recorded),
      s.boot.halted = false ∧
      s.boot.pwrgd = true ∧
      s.boot.resetN = true ∧
      s.boot.phase = 6 ∧
      s.power.drainEnabled = true ∧
      (s.power.committedOf .table (s.power.boot - 1)).getLast? = some e ∧
      e.sessions = [r] ∧
      s.power.hasImage (s.power.boot - 1) r = true ∧
      r.session.cur.entry.state = .ready ∧
      r.undecided = none :=
  ⟨wRecovering, wTableEntry, ⟨5, wKept, none⟩, by decide +kernel⟩

theorem w_BringUpPassesItsPhasesAndRecovers_14 : ∃ (s : State),
      s.boot.halted = false ∧
      s.boot.pwrgd = true ∧
      s.boot.resetN = true ∧
      s.boot.phase = 6 ∧
      s.power.drainEnabled = false :=
  ⟨wBoot 6 id, by decide +kernel⟩

theorem w_BringUpPassesItsPhasesAndRecovers_15 : ∃ (s : State),
      s.boot.halted = false ∧
      s.boot.pwrgd = true ∧
      s.boot.resetN = true ∧
      s.boot.phase = 7 :=
  ⟨wBoot 7 id, by decide +kernel⟩

theorem w_BringUpPassesItsPhasesAndRecovers_16 : ∃ (s : State) (image : List Byte) (sig : ImageSig),
      s.boot.halted = false ∧
      s.boot.pwrgd = true ∧
      s.boot.resetN = true ∧
      s.boot.phase = 7 ∧
      image ≠ [] ∧
      s.security.admits sig = false :=
  ⟨wBoot 7 id, [1], wBadSig, by decide +kernel⟩

theorem w_BringUpPassesItsPhasesAndRecovers_17 : ∃ (s : State) (model : Nat) (shard : Nat) (h : Shard),
      ((s.boot.shards.find? fun x => x.model == model && x.shard == shard && !x.loaded && x.errors ≤ 3) = some h) :=
  ⟨wBoot 8 fun b => { b with shards := [⟨1, 2, 0, 0, 0, 64, 4096, 0, false⟩] }, 1, 2, ⟨1, 2, 0, 0, 0, 64, 4096, 0, false⟩, by decide +kernel⟩

theorem w_BringUpPassesItsPhasesAndRecovers_18 : ∃ (s : State) (model : Nat) (shard : Nat) (h : Shard),
      ((s.boot.shards.find? fun x => x.model == model && x.shard == shard && !x.loaded && x.errors ≤ 3) = some h) ∧
      h.errors < 3 :=
  ⟨wBoot 8 fun b => { b with shards := [⟨1, 2, 0, 0, 0, 64, 4096, 2, false⟩] }, 1, 2, ⟨1, 2, 0, 0, 0, 64, 4096, 2, false⟩, by decide +kernel⟩

theorem w_BringUpPassesItsPhasesAndRecovers_19 : ∃ (s : State) (v : Nat),
      bitOf v 8 = true ∧
      fld v 1 0 ≠ 3 ∧
      (s.fw (fld v 1 0)).stagedVersion ≠ 0 ∧
      s.hasS0 = true :=
  ⟨(wMem State.reset) |> fun s => { s with boot := { s.boot with firmware := [(2, { FwClass.none with runVersion := 3, stagedVersion := 4 })] } }, 256 + 2, by decide +kernel⟩

theorem w_BringUpPassesItsPhasesAndRecovers_20 : ∃ (s : State) (v : Nat),
      bitOf v 8 = true ∧
      fld v 1 0 ≠ 3 ∧
      (s.fw (fld v 1 0)).stagedVersion ≠ 0 ∧
      s.hasS0 = false :=
  ⟨wBoot 8 fun b => { b with firmware := [(2, { FwClass.none with runVersion := 3, stagedVersion := 4 })] }, 256 + 2, by decide +kernel⟩

theorem w_AttestationIsAnswered_1 : ∃ (s : State),
      s.security.spdm = .version :=
  ⟨wSec fun x => { x with spdm := .version }, by decide +kernel⟩

theorem w_AttestationIsAnswered_2 : ∃ (s : State),
      s.security.spdm = .capabilities :=
  ⟨wSec fun x => { x with spdm := .capabilities }, by decide +kernel⟩

theorem w_AttestationIsAnswered_3 : ∃ (s : State),
      s.security.spdm ≠ .algorithms :=
  ⟨State.reset, by decide +kernel⟩

theorem w_AttestationIsAnswered_4 : ∃ (s : State),
      s.security.spdm = .algorithms :=
  ⟨wSecure, by decide +kernel⟩

theorem w_AttestationIsAnswered_5 : ∃ (s : State) (slot : Nat) (chain : Nat),
      s.security.spdm = .algorithms ∧
      s.chain slot = some chain :=
  ⟨wSecure, 0, 0, by decide +kernel⟩

theorem w_AttestationIsAnswered_6 : ∃ (s : State) (slot : Nat) (chain : Nat),
      s.security.spdm = .algorithms ∧
      s.chain slot = some chain :=
  ⟨wSecure, 0, 0, by decide +kernel⟩

theorem w_AttestationIsAnswered_7 : ∃ (s : State) (index : Nat),
      s.security.spdm = .algorithms ∧
      0 < index ∧
      index ≤ 11 :=
  ⟨wSecure, 11, by decide +kernel⟩

theorem w_AttestationIsAnswered_8 : ∃ (s : State),
      s.security.spdm = .algorithms ∧
      s.security.sessions.length < 4 :=
  ⟨wSecure, by decide +kernel⟩

theorem w_AttestationIsAnswered_9 : ∃ (s : State) (session : Nat) (x : SpdmSession),
      ((s.security.sessions.find? fun y => y.id == session && !y.finished) = some x) ∧
      s.security.owned = false :=
  ⟨wSec fun x => { x with spdm := .algorithms, sessions := [{ wSession with finished := false }] }, 70000, { wSession with finished := false }, by decide +kernel⟩

theorem w_AttestationIsAnswered_10 : ∃ (s : State) (session : Nat) (x : SpdmSession),
      ((s.security.sessions.find? fun y => y.id == session && y.finished) = some x) :=
  ⟨wSecure, 70000, wSession, by decide +kernel⟩

theorem w_AttestationIsAnswered_11 : ∃ (s : State) (session : Nat) (x : SpdmSession),
      ((s.security.sessions.find? fun y => y.id == session && y.finished) = some x) :=
  ⟨wSecure, 70000, wSession, by decide +kernel⟩

theorem w_AttestationIsAnswered_12 : ∃ (s : State) (session : Nat) (x : SpdmSession),
      ((s.security.sessions.find? fun y => y.id == session && y.finished) = some x) :=
  ⟨wSecure, 70000, wSession, by decide +kernel⟩

theorem w_SecureSessionsInstallKeysAndImages_0 : ∃ (s : State) (session : Nat) (job : Nat) (phase : Nat) (i : Nat) (x : SpdmSession),
      ((s.security.sessions.find? fun y => y.id == session && y.finished) = some x) ∧
      s.security.slotFor job = some i ∧
      phase < 2 ∧
      phase ≠ (agetD s.security.jobs i JobSlot.free).txPhase :=
  ⟨wSecure, 70000, 5, 1, 1, wSession, by decide +kernel⟩

theorem w_SecureSessionsInstallKeysAndImages_1 : ∃ (s : State) (session : Nat) (job : Nat) (x : SpdmSession),
      ((s.security.sessions.find? fun y => y.id == session && y.finished) = some x) ∧
      s.security.slotFor job = none :=
  ⟨wSec fun x => { x with spdm := .algorithms, sessions := [wSession], jobs := (List.range 64).map fun i => (i, { JobSlot.free with job := 100 + i }) }, 70000, 5, wSession, by decide +kernel⟩

theorem w_SecureSessionsInstallKeysAndImages_2 : ∃ (s : State) (session : Nat) (phase : Nat) (x : SpdmSession),
      ((s.security.sessions.find? fun y => y.id == session && y.finished) = some x) ∧
      phase < 2 :=
  ⟨wSecure, 70000, 1, wSession, by decide +kernel⟩

theorem w_SecureSessionsInstallKeysAndImages_3 : ∃ (s : State) (session : Nat) (x : SpdmSession),
      ((s.security.sessions.find? fun y => y.id == session && y.finished) = some x) :=
  ⟨wSecure, 70000, wSession, by decide +kernel⟩

theorem w_SecureSessionsInstallKeysAndImages_4 : ∃ (s : State) (session : Nat) (x : SpdmSession),
      ((s.security.sessions.find? fun y => y.id == session && y.finished) = some x) ∧
      s.security.owners.length < 2 :=
  ⟨wSecure, 70000, wSession, by decide +kernel⟩

theorem w_SecureSessionsInstallKeysAndImages_5 : ∃ (s : State) (session : Nat) (port : Nat) (stream : Nat) (x : SpdmSession),
      ((s.security.sessions.find? fun y => y.id == session && y.finished) = some x) ∧
      port < 2 ∧
      stream ≤ 8 :=
  ⟨wSecure, 70000, 1, 8, wSession, by decide +kernel⟩

theorem w_SecureSessionsInstallKeysAndImages_6 : ∃ (s : State) (session : Nat),
      ((s.security.sessions.find? fun y => y.id == session && y.finished) = none) :=
  ⟨wSecure, 1, by decide +kernel⟩

theorem w_SecureSessionsInstallKeysAndImages_7 : ∃ (s : State) (position : Nat),
      position < 4 ∧
      (s.security.position position).revoked = false ∧
      position ≠ s.security.active :=
  ⟨State.reset, 3, by decide +kernel⟩

theorem w_SecureSessionsInstallKeysAndImages_8 : ∃ (s : State) (cls : Nat) (sig : ImageSig),
      cls < 5 ∧
      s.security.admits sig = true :=
  ⟨State.reset, 4, wSig, by decide +kernel⟩

theorem w_SecureSessionsInstallKeysAndImages_9 : ∃ (s : State) (cls : Nat) (sig : ImageSig),
      cls < 5 ∧
      s.security.admits sig = false :=
  ⟨State.reset, 4, wBadSig, by decide +kernel⟩

theorem w_SecureSessionsInstallKeysAndImages_11 : ∃ (s : State) (fn : Nat),
      fn < 128 ∧
      fn % 64 ≠ 0 ∧
      s.tdi fn = .unlocked :=
  ⟨State.reset, 127, by decide +kernel⟩

theorem w_SecureSessionsInstallKeysAndImages_12 : ∃ (s : State) (fn : Nat),
      fn < 128 ∧
      fn % 64 ≠ 0 ∧
      s.tdi fn = .locked :=
  ⟨wSec fun x => { x with tdis := [(127, .locked)] }, 127, by decide +kernel⟩

theorem w_SecureSessionsInstallKeysAndImages_13 : ∃ (fn : Nat),
      fn < 128 ∧
      fn % 64 ≠ 0 :=
  ⟨127, by decide +kernel⟩

theorem w_SecureSessionsInstallKeysAndImages_14 : ∃ (s : State) (sensor : Nat) (value : Nat),
      s.sensor sensor = some value :=
  ⟨State.reset, 6, (State.reset.sensor 6).getD 0, by decide +kernel⟩

theorem w_SecureSessionsInstallKeysAndImages_15 : ∃ (s : State),
      s.security.conf = false :=
  ⟨State.reset, by decide +kernel⟩

theorem w_SecureSessionsInstallKeysAndImages_16 : ∃ (s : State),
      s.security.conf = true :=
  ⟨wSec fun x => { x with conf := true }, by decide +kernel⟩

theorem w_TransactionsOpenStageAndCommit_0 : ∃ (s : State) (fn : Nat) (v : Nat) (n : Nat),
      isPf fn = true ∧
      s.boot.ready = true ∧
      (agetD s.ctResults fn (0, 0, 0)).2.2 = n ∧
      v % 8 = 1 ∧
      scopeOf v ≠ .tenant 0 ∧
      (s.txn (scopeOf v)).filter CtTxn.busy = none :=
  ⟨wReadyBoot, 64, 1 + 16 + 255 * 65536, 0, by decide +kernel⟩

theorem w_TransactionsOpenStageAndCommit_1 : ∃ (s : State) (fn : Nat) (v : Nat) (n : Nat) (x : CtTxn),
      isPf fn = true ∧
      s.boot.ready = true ∧
      (agetD s.ctResults fn (0, 0, 0)).2.2 = n ∧
      v % 8 = 1 ∧
      scopeOf v ≠ .tenant 0 ∧
      s.txn (scopeOf v) = some x ∧
      x.busy = true :=
  ⟨wWithTxn (wTxn .package), 64, 1, 0, wTxn .package, by decide +kernel⟩

theorem w_TransactionsOpenStageAndCommit_2 : ∃ (s : State) (fn : Nat) (v : Nat) (a : Nat) (n : Nat) (t : Nat) (x : CtTxn) (s1 : State),
      isPf fn = true ∧
      s.boot.ready = true ∧
      (agetD s.ctResults fn (0, 0, 0)).2.2 = n ∧
      s.txn (scopeOf v) = some x ∧
      x.state = 1 ∧
      x.owner = fn ∧
      x.loading = false ∧
      s1 = (s.stamp t).setReg (pcs 0x1b 0 0) (v &&& 0x10fff0037) ∧
      v % 8 = 2 ∧
      bitOf v 32 = false ∧
      (s1.ctAhead none).ctBuild x = .error a :=
  ⟨wWithTxn { wTxn .package with overflow := true, overflowAddr := 8 }, 0, 2, 8, 0, 0, { wTxn .package with overflow := true, overflowAddr := 8 }, ((wWithTxn { wTxn .package with overflow := true, overflowAddr := 8 }).stamp 0).setReg (pcs 0x1b 0 0) 2, by decide +kernel⟩

theorem w_TransactionsOpenStageAndCommit_3 : ∃ (s : State) (fn : Nat) (v : Nat) (n : Nat) (t : Nat) (x : CtTxn) (s1 : State),
      isPf fn = true ∧
      s.boot.ready = true ∧
      (agetD s.ctResults fn (0, 0, 0)).2.2 = n ∧
      s.txn (scopeOf v) = some x ∧
      x.state = 1 ∧
      x.owner = fn ∧
      x.loading = false ∧
      s1 = (s.stamp t).setReg (pcs 0x1b 0 0) (v &&& 0x10fff0037) ∧
      v % 8 = 2 ∧
      bitOf v 32 = false ∧
      ((s1.ctAhead none).ctBuild x).isOk = true ∧
      s.hasS0 = true :=
  ⟨{ wWithTxn (wTxn .package) with models := [(0, wModel)] }, 0, 2, 0, 0, wTxn .package, ({ wWithTxn (wTxn .package) with models := [(0, wModel)] }.stamp 0).setReg (pcs 0x1b 0 0) 2, by decide +kernel⟩

theorem w_TransactionsOpenStageAndCommit_4 : ∃ (s : State) (fn : Nat) (v : Nat) (n : Nat) (t : Nat) (x : CtTxn) (s1 : State),
      isPf fn = true ∧
      s.boot.ready = true ∧
      (agetD s.ctResults fn (0, 0, 0)).2.2 = n ∧
      s.txn (scopeOf v) = some x ∧
      x.state = 1 ∧
      x.owner = fn ∧
      x.loading = false ∧
      s1 = (s.stamp t).setReg (pcs 0x1b 0 0) (v &&& 0x10fff0037) ∧
      v % 8 = 3 :=
  ⟨wWithTxn (wTxn .package), 0, 3, 0, 0, wTxn .package, ((wWithTxn (wTxn .package)).stamp 0).setReg (pcs 0x1b 0 0) 3, by decide +kernel⟩

theorem w_TransactionsOpenStageAndCommit_5 : ∃ (s : State) (fn : Nat) (v : Nat) (n : Nat) (t : Nat) (x : CtTxn) (s1 : State),
      isPf fn = true ∧
      s.boot.ready = true ∧
      (agetD s.ctResults fn (0, 0, 0)).2.2 = n ∧
      s.txn (scopeOf v) = some x ∧
      x.state = 1 ∧
      x.owner = fn ∧
      x.loading = false ∧
      s1 = (s.stamp t).setReg (pcs 0x1b 0 0) (v &&& 0x10fff0037) ∧
      v % 8 = 4 ∧
      s.reg (pcs 0x1b 0 0x40) % 64 = 0 ∧
      ((s.fn fn).windowOf (s.reg (pcs 0x1b 0 0x40)) (fld (s.reg (pcs 0x1b 0 0x48)) 31 0)).isSome = true :=
  ⟨{ wHostPf with txns := [wTxn .package], regs := [(pcs 0x1b 0 0x40, 4096), (pcs 0x1b 0 0x48, 8192)] }, 0, 4, 0, 0, wTxn .package, ({ wHostPf with txns := [wTxn .package], regs := [(pcs 0x1b 0 0x40, 4096), (pcs 0x1b 0 0x48, 8192)] }.stamp 0).setReg (pcs 0x1b 0 0) 4, by decide +kernel⟩

theorem w_TransactionsOpenStageAndCommit_6 : ∃ (s : State) (fn : Nat) (v : Nat) (n : Nat),
      isPf fn = true ∧
      s.boot.ready = true ∧
      (agetD s.ctResults fn (0, 0, 0)).2.2 = n ∧
      (v % 8 = 0 ∨ 5 ≤ v % 8) :=
  ⟨wReadyBoot, 64, 5, 0, by decide +kernel⟩

theorem w_TransactionsOpenStageAndCommit_7 : ∃ (s : State) (fn : Nat) (a : Nat) (n : Nat) (x : CtTxn) (y : CtTxn) (bytes : List Byte) (sig : ImageSig),
      isPf fn = true ∧
      s.boot.ready = true ∧
      (agetD s.ctResults fn (0, 0, 0)).2.2 = n ∧
      ((s.txns.find? fun z => z.owner == fn && z.loading) = some x) ∧
      s.loadImage x bytes (s.security.admits sig) = (a, y) ∧
      y.scope = x.scope :=
  ⟨wWithTxn { wTxn .package with loading := true }, 0, stCtInvalid, 0, { wTxn .package with loading := true }, { wTxn .package with loading := true, failAddr := 2 ^ 63 }, [], wSig, by decide +kernel⟩

theorem w_TransactionsOpenStageAndCommit_8 : ∃ (s : State) (fn : Nat) (n : Nat) (x : CtTxn),
      isPf fn = true ∧
      s.boot.ready = true ∧
      (agetD s.ctResults fn (0, 0, 0)).2.2 = n ∧
      ((s.txns.find? fun z => z.owner == fn && z.loading) = some x) :=
  ⟨wWithTxn { wTxn .package with loading := true }, 0, 0, { wTxn .package with loading := true }, by decide +kernel⟩

theorem w_TransactionsOpenStageAndCommit_9 : ∃ (s : State) (fn : Nat) (addr : Nat) (n : Nat) (x : CtTxn) (d : RegDesc),
      isPf fn = true ∧
      s.boot.ready = true ∧
      (agetD s.ctResults fn (0, 0, 0)).2.2 = n ∧
      regAt s.cds addr = some d ∧
      d.ct ≠ 0 ∧
      s.stageInto fn addr = some x ∧
      x.staged < 65536 :=
  ⟨wWithTxn (wTxn .package), 0, pcs 6 0 0, 0, wTxn .package, ⟨6, 0, true, 0, 4294901763, 0, 39321603⟩, by decide +kernel⟩

theorem w_TransactionsOpenStageAndCommit_10 : ∃ (s : State) (fn : Nat) (addr : Nat) (n : Nat) (d : RegDesc),
      isPf fn = true ∧
      s.boot.ready = true ∧
      (agetD s.ctResults fn (0, 0, 0)).2.2 = n ∧
      regAt s.cds addr = some d ∧
      d.ct ≠ 0 ∧
      s.stageInto fn addr = none :=
  ⟨wReadyBoot, 0, pcs 6 0 0, 0, ⟨6, 0, true, 0, 4294901763, 0, 39321603⟩, by decide +kernel⟩

theorem w_TransactionsOpenStageAndCommit_11 : ∃ (s : State) (t : Nat) (x : CtTxn) (s1 : State),
      s.boot.ready = true ∧ s.hasS0 = false ∧ s.txns = [x] ∧ x.due t = true ∧ (s.stamp t).ctBuild x = .ok s1 :=
  let ⟨s1, h⟩ := wOk (e := ((wWithTxn { wTxn .package with state := 2, applyPt := some 9 }).stamp 9).ctBuild
    { wTxn .package with state := 2, applyPt := some 9 }) (by decide +kernel)
  ⟨wWithTxn { wTxn .package with state := 2, applyPt := some 9 }, 9, { wTxn .package with state := 2, applyPt := some 9 }, s1,
    by decide, by decide, by decide, by decide, h⟩

theorem w_SnapshotsAndDumps_0 : ∃ (s : State) (fn : Nat),
      isPf fn = true ∧
      s.obs.snap = none ∧
      s.hasS0 = true ∧
      s.snapTotal (s.reg (pcs 0x1d 0 0)) [] ≤ s.reg (pcs 0x1d 0 0x10) ∧
      ((s.fn fn).windowOf (s.reg (pcs 0x1d 0 0x08)) (s.reg (pcs 0x1d 0 0x10))).isSome = true :=
  ⟨{ wHostPf with models := [(0, wModel)], regs := [(pcs 0x1d 0 0x08, 4096), (pcs 0x1d 0 0x10, 65536)] }, 0, by decide +kernel⟩

theorem w_SnapshotsAndDumps_1 : ∃ (s : State) (fn : Nat) (n : Snapshot),
      isPf fn = true ∧
      s.obs.snap = some n :=
  ⟨{ wHostPf with obs := { Obs.reset with snap := some wSnap } }, 0, wSnap, by decide +kernel⟩

theorem w_SnapshotsAndDumps_2 : ∃ (s : State) (fn : Nat) (v : Nat),
      isPf fn = true ∧
      v % 2 = 1 ∧
      s.obs.dump = none ∧
      ((s.fn fn).windowOf (s.reg (pcs 0x1c 0 0x48)) (2 ^ 20)).isSome = true :=
  ⟨{ wHostPf with regs := [(pcs 0x1c 0 0x48, 4096)] }, 0, 1, by decide +kernel⟩

theorem w_SnapshotsAndDumps_3 : ∃ (s : State) (t : Nat) (n : Snapshot),
      s.obs.snap = some n ∧
      n.mark = none ∧
      n.copied = [] ∧
      s.hasS0 = false ∧
      n.atPt.all (· ≤ t) = true :=
  ⟨{ wHostPf with obs := { Obs.reset with snap := some wSnap } }, 0, wSnap, by decide +kernel⟩

theorem w_SnapshotsAndDumps_4 : ∃ (s : State) (step : Nat) (pt : Nat) (n : Snapshot),
      s.obs.snap = some n ∧
      n.mark = some (step, pt) ∧
      (List.range 12).all n.copied.contains = true :=
  ⟨{ wHostPf with obs := { Obs.reset with snap := some { wSnap with mark := some (3, 9), copied := List.range 12 } } }, 3, 9, { wSnap with mark := some (3, 9), copied := List.range 12 }, by decide +kernel⟩

theorem w_SnapshotsAndDumps_5 : ∃ (s : State) (fn : Nat) (addr : Nat) (bytes : List Byte),
      s.obs.dump = some (fn, addr, bytes) :=
  ⟨{ wHostPf with obs := { Obs.reset with dump := some (0, 4096, [1]) } }, 0, 4096, [1], by decide +kernel⟩

theorem w_SnapshotsAndDumps_6 : ∃ (s : State) (fn : Nat) (addr : Nat) (bytes : List Byte),
      s.obs.dump = some (fn, addr, bytes) :=
  ⟨{ wHostPf with obs := { Obs.reset with dump := some (0, 4096, [1]) } }, 0, 4096, [1], by decide +kernel⟩

theorem w_SnapshotsAndDumps_7 : ∃ (port : Nat),
      port < 2 :=
  ⟨1, by decide +kernel⟩

theorem w_RegistersFlagsAndProbes_0 : ∃ (s : State) (addr : Nat) (i : Nat) (t : Nat) (d : RegDesc),
      regAt s.cds addr = some d ∧
      s.boot.ready = true ∧
      i < 64 ∧
      bitOf d.w1c i = true ∧
      (aget s.flagSets (flagKey addr i)).any (t ≤ ·) = false :=
  ⟨{ wReadyBoot with regs := [(pcs 5 11 16, 15)] }, pcs 5 11 16, 3, 0, ⟨5, 16, false, 0, 0, 15, 0⟩, by decide +kernel⟩

theorem w_RegistersFlagsAndProbes_1 : ∃ (s : State) (fn : Nat) (addr : Nat) (v : Nat) (i : Nat) (d : RegDesc),
      isPf fn = true ∧
      bitOf v 63 = true ∧
      addr = fld v 27 0 ∧
      i = fld v 37 32 ∧
      regAt s.cds addr = some d ∧
      bitOf d.w1c i = true ∧
      addr ≠ pcs 0x1d 0 0x38 ∧
      addr + 8 ≠ pcs 0x1d 0 0x38 ∧
      fld (s.reg (addr + 8)) (8 * i + 7) (8 * i) = fld v 47 40 :=
  ⟨{ wReadyBoot with regs := [(pcs 5 11 16, 15), (pcs 5 11 24, 7 * 2 ^ 24)] }, 64, pcs 5 11 16, 2 ^ 63 + 7 * 2 ^ 40 + 3 * 2 ^ 32 + pcs 5 11 16, 3, ⟨5, 16, false, 0, 0, 15, 0⟩, by decide +kernel⟩

theorem w_RegistersFlagsAndProbes_2 : ∃ (s : State) (fn : Nat) (addr : Nat) (v : Nat) (i : Nat) (d : RegDesc),
      isPf fn = true ∧
      bitOf v 63 = true ∧
      addr = fld v 27 0 ∧
      i = fld v 37 32 ∧
      regAt s.cds addr = some d ∧
      bitOf d.w1c i = true ∧
      addr ≠ pcs 0x1d 0 0x38 ∧
      addr + 8 ≠ pcs 0x1d 0 0x38 ∧
      fld (s.reg (addr + 8)) (8 * i + 7) (8 * i) ≠ fld v 47 40 :=
  ⟨{ wReadyBoot with regs := [(pcs 5 11 16, 15), (pcs 5 11 24, 8 * 2 ^ 24)] }, 64, pcs 5 11 16, 2 ^ 63 + 7 * 2 ^ 40 + 3 * 2 ^ 32 + pcs 5 11 16, 3, ⟨5, 16, false, 0, 0, 15, 0⟩, by decide +kernel⟩

theorem w_RegistersFlagsAndProbes_3 : ∃ (s : State) (fn : Nat) (sd : Nat),
      isPf fn = true ∧
      sd < 12 ∧
      (regAt s.cds (pcs 0x02 sd 0x30)).isSome = true :=
  ⟨{ State.reset with regs := [(pcs 2 11 0x30, 2 ^ 32 * 9 + 4)] }, 0, 11, by decide +kernel⟩

theorem w_RegistersFlagsAndProbes_4 : ∃ (s : State) (port : Nat) (v : Nat) (e : ErrEntry),
      port < 2 ∧
      aget s.errLog.ring (v % 4096) = some e :=
  ⟨{ State.reset with errLog := { ErrLog.empty with count := 1, ring := [(0, ⟨5, 0, 1, 2, 3, 4, 0x0101, 0, 7⟩)] } }, 1, 4096, ⟨5, 0, 1, 2, 3, 4, 0x0101, 0, 7⟩, by decide +kernel⟩

theorem w_RegistersFlagsAndProbes_5 : ∃ (v : Nat),
      v % 2 = 1 :=
  ⟨3, by decide +kernel⟩

theorem w_RegistersFlagsAndProbes_6 : ∃ (s : State) (fn : Nat) (addr : Nat) (d : RegDesc),
      isPf fn = true ∧
      regAt s.cds addr = some d ∧
      s.served d.blk = true ∧
      ownRow d.blk d.off = false ∧
      isSel d.blk d.off = false ∧
      ¬ (d.blk = 0x19 ∧ d.off = 0) ∧
      d.blk ≠ 0x0d ∧
      d.rw ≠ 0 ∧
      addr % 8 = 0 :=
  ⟨wReadyBoot, 64, pcs 0x1b 0 0x40, ⟨27, 64, true, 18446744073709551615, 0, 0, 0⟩, by decide +kernel⟩

theorem w_RegistersFlagsAndProbes_7 : ∃ (s : State) (fn : Nat) (addr : Nat) (d : RegDesc),
      isPf fn = true ∧
      regAt s.cds addr = some d ∧
      s.served d.blk = true ∧
      ownRow d.blk d.off = false ∧
      isSel d.blk d.off = false ∧
      ¬ (d.blk = 0x19 ∧ d.off = 0) ∧
      d.blk ≠ 0x0d ∧
      d.rw ≠ 0 :=
  ⟨wReadyBoot, 64, pcs 0x1b 0 0x40, ⟨27, 64, true, 18446744073709551615, 0, 0, 0⟩, by decide +kernel⟩

theorem w_RegistersFlagsAndProbes_8 : ∃ (s : State) (slot : Nat) (f : Frame),
      f.queue < 64 ∧
      f.target = 0x01 ∧
      f.probeOk = true ∧
      s.findHandle f.handle = some slot ∧
      s.bound (s.entry slot).tenant f.function = true :=
  ⟨wIs (wEntry .ready .none), 5, wF 0x0601 wHandle 0 [1] [], by decide +kernel⟩

theorem w_RegistersFlagsAndProbes_9 : ∃ (s : State) (f : Frame),
      f.queue < 64 ∧
      f.target = 0x01 ∧
      f.probeOk = true ∧
      s.findHandle f.handle = none :=
  ⟨wIs (wEntry .ready .none), wF 0x0601 0x77 0 [1] [], by decide +kernel⟩

theorem w_ErrorsAreContained_0 : ∃ (s : State) (die blk inst code detail t : Nat),
      die < 32 ∧
      (∀ e, aget s.errLog.ring ((s.errLog.count - 1) % 4096) = some e → s.errLog.count = 0 ∨ e.merges t 1 die blk inst code detail = false) ∧
      code ≠ 0x0101 ∧ code ≠ 0x0102 :=
  ⟨State.reset, 31, 5, 11, 0x0401, 7, 0, by decide, fun _ _ => Or.inl rfl, by decide, by decide⟩

theorem w_ErrorsAreContained_1 : ∃ (s : State) (detail : Nat) (l : Leaf), s.leaf detail = some l ∧ l.poison = false :=
  ⟨{ State.reset with leaves := [(7, wLeaf)] }, 7, wLeaf, by decide +kernel⟩

theorem w_ErrorsAreContained_2 : ∃ (s : State) (die : Nat),
      die < 16 ∧
      s.s0.run = none ∧
      s.s1.run = none ∧
      s.boot.diesOut.contains die = false :=
  ⟨{ State.reset with cores := [(15 * 32 + 1, Core.reset), (3, Core.reset)] }, 15, by decide +kernel⟩

theorem w_ErrorsAreContained_3 : ∃ (s : State) (die : Nat),
      die < 16 ∧
      s.s0.run = none ∧
      s.s1.run = none ∧
      s.boot.diesOut.contains die = false :=
  ⟨{ State.reset with cores := [(15 * 32 + 1, Core.reset), (3, Core.reset)] }, 15, by decide +kernel⟩

theorem w_ErrorsAreContained_4 : ∃ (s : State) (v : Nat),
      v < 32 ∧
      s.boot.diesOut.contains v = true :=
  ⟨{ State.reset with boot := { Boot.reset with diesOut := [31] } }, 31, by decide +kernel⟩

theorem w_ErrorsAreContained_5 : ∃ (die : Nat),
      die < 32 :=
  ⟨31, by decide +kernel⟩

theorem w_ErrorsAreContained_6 : ∃ (s : State) (iod : Nat),
      s.s0.run = none ∧
      s.s1.run = none ∧
      s.boot.leader = some iod ∧
      s.boot.standbyOk = true :=
  ⟨{ State.reset with boot := { Boot.reset with leader := some 1, standbyOk := true } }, 1, by decide +kernel⟩

theorem w_ErrorsAreContained_7 : ∃ (s : State) (iod : Nat),
      s.s0.run = none ∧
      s.s1.run = none ∧
      s.boot.leader = some iod ∧
      s.boot.standbyOk = false :=
  ⟨{ State.reset with boot := { Boot.reset with leader := some 1 } }, 1, by decide +kernel⟩

theorem w_ZwScalarAndBranchSlots_0 : ∃ (s : State) (i : Nat) (rd : Nat) (ra : Nat) (rb : Nat) (imm : Nat) (c : Core) (a : BitVec 64) (b : BitVec 64) (x : BitVec 41) (op : ZwIssue → Nat → Nat → Nat → Nat → Instr) (v : BitVec 64),
      ZwReady s i c ∧
      rd < 32 ∧
      a = .ofNat 64 (c.regs.s ra) ∧
      b = .ofNat 64 (c.regs.s rb) ∧
      x = .ofNat 41 imm ∧
      (op, v) ∈ [(Instr.zwAdd, a + b), (Instr.zwSub, a - b), (Instr.zwAnd, a &&& b), (Instr.zwOr, a ||| b), (Instr.zwXor, a ^^^ b), (Instr.zwShl, a <<< (b.toNat % 64)), (Instr.zwShr, a >>> (b.toNat % 64)), (Instr.zwSar, a.sshiftRight (b.toNat % 64)), (Instr.zwMul, a * b), (Instr.zwMin, if a.sle b then a else b), (Instr.zwMax, if a.sle b then b else a)] :=
  ⟨wZw wCore, 3, 31, 3, 2, 2 ^ 41 - 8, wCore, BitVec.ofNat 64 (wCore.regs.s 3), BitVec.ofNat 64 (wCore.regs.s 2), BitVec.ofNat 41 (2 ^ 41 - 8), Instr.zwAdd, BitVec.ofNat 64 (wCore.regs.s 3) + BitVec.ofNat 64 (wCore.regs.s 2), wZwReady (by decide +kernel), by decide, rfl, rfl, rfl, List.mem_cons_self ..⟩

theorem w_ZwScalarAndBranchSlots_1 : ∃ (s : State) (i : Nat) (rd : Nat) (ra : Nat) (rb : Nat) (imm : Nat) (c : Core) (a : BitVec 64) (b : BitVec 64) (x : BitVec 41) (op : ZwIssue → Nat → Nat → Nat → Nat → Instr) (v : Bool),
      ZwReady s i c ∧
      rd < 32 ∧
      a = .ofNat 64 (c.regs.s ra) ∧
      b = .ofNat 64 (c.regs.s rb) ∧
      x = .ofNat 41 imm ∧
      (op, v) ∈ [(Instr.zwCmpeq, a == b), (Instr.zwCmplt, a.slt b), (Instr.zwCmpltu, a.ult b)] :=
  ⟨wZw wCore, 3, 31, 3, 2, 2 ^ 41 - 8, wCore, BitVec.ofNat 64 (wCore.regs.s 3), BitVec.ofNat 64 (wCore.regs.s 2), BitVec.ofNat 41 (2 ^ 41 - 8), Instr.zwCmpeq, BitVec.ofNat 64 (wCore.regs.s 3) == BitVec.ofNat 64 (wCore.regs.s 2), wZwReady (by decide +kernel), by decide, rfl, rfl, rfl, List.mem_cons_self ..⟩

theorem w_ZwScalarAndBranchSlots_2 : ∃ (s : State) (i : Nat) (rd : Nat) (ra : Nat) (rb : Nat) (imm : Nat) (c : Core) (a : BitVec 64) (b : BitVec 64) (x : BitVec 41),
      ZwReady s i c ∧
      rd < 32 ∧
      a = .ofNat 64 (c.regs.s ra) ∧
      b = .ofNat 64 (c.regs.s rb) ∧
      x = .ofNat 41 imm :=
  ⟨wZw wCore, 3, 31, 3, 2, 2 ^ 41 - 8, wCore, BitVec.ofNat 64 (wCore.regs.s 3), BitVec.ofNat 64 (wCore.regs.s 2), BitVec.ofNat 41 (2 ^ 41 - 8), wZwReady (by decide +kernel), by decide +kernel⟩

theorem w_ZwScalarAndBranchSlots_3 : ∃ (s : State) (i : Nat) (rd : Nat) (ra : Nat) (rb : Nat) (imm : Nat) (c : Core) (a : BitVec 64) (b : BitVec 64) (x : BitVec 41),
      ZwReady s i c ∧
      rd < 32 ∧
      a = .ofNat 64 (c.regs.s ra) ∧
      b = .ofNat 64 (c.regs.s rb) ∧
      x = .ofNat 41 imm :=
  ⟨wZw wCore, 3, 31, 3, 2, 2 ^ 41 - 8, wCore, BitVec.ofNat 64 (wCore.regs.s 3), BitVec.ofNat 64 (wCore.regs.s 2), BitVec.ofNat 41 (2 ^ 41 - 8), wZwReady (by decide +kernel), by decide +kernel⟩

theorem w_ZwScalarAndBranchSlots_4 : ∃ (s : State) (i : Nat) (rd : Nat) (ra : Nat) (rb : Nat) (imm : Nat) (addr : Nat) (c : Core) (a : BitVec 64) (b : BitVec 64) (x : BitVec 41),
      ZwReady s i c ∧
      rd < 32 ∧
      a = .ofNat 64 (c.regs.s ra) ∧
      b = .ofNat 64 (c.regs.s rb) ∧
      x = .ofNat 41 imm ∧
      addr = (a + x.signExtend 64).toNat ∧
      addr % 8 = 0 ∧
      zwRange i addr 8 = true :=
  ⟨wZw wCore, 3, 31, 1, 2, 8, 72, wCore, BitVec.ofNat 64 (wCore.regs.s 1), BitVec.ofNat 64 (wCore.regs.s 2), BitVec.ofNat 41 8, wZwReady (by decide +kernel), by decide +kernel⟩

theorem w_ZwScalarAndBranchSlots_5 : ∃ (s : State) (i : Nat) (rd : Nat) (ra : Nat) (rb : Nat) (imm : Nat) (addr : Nat) (c : Core) (a : BitVec 64) (b : BitVec 64) (x : BitVec 41),
      ZwReady s i c ∧
      rd < 32 ∧
      a = .ofNat 64 (c.regs.s ra) ∧
      b = .ofNat 64 (c.regs.s rb) ∧
      x = .ofNat 41 imm ∧
      addr = (a + x.signExtend 64).toNat ∧
      addr % 8 = 0 ∧
      zwRange i addr 8 = true ∧
      addr + 8 ≤ 0x400000 :=
  ⟨wZw wCore, 3, 31, 1, 2, 8, 72, wCore, BitVec.ofNat 64 (wCore.regs.s 1), BitVec.ofNat 64 (wCore.regs.s 2), BitVec.ofNat 41 8, wZwReady (by decide +kernel), by decide +kernel⟩

theorem w_ZwScalarAndBranchSlots_6 : ∃ (s : State) (i : Nat) (rd : Nat) (ra : Nat) (rb : Nat) (imm : Nat) (addr : Nat) (c : Core) (a : BitVec 64) (b : BitVec 64) (x : BitVec 41),
      ZwReady s i c ∧
      rd < 32 ∧
      a = .ofNat 64 (c.regs.s ra) ∧
      b = .ofNat 64 (c.regs.s rb) ∧
      x = .ofNat 41 imm ∧
      addr = (a + x.signExtend 64).toNat ∧
      addr % 8 = 0 ∧
      zwRange i addr 8 = true ∧
      clusterBase ≤ addr :=
  ⟨wZw wCore, 3, 31, 0, 2, 0x40000000, 0x40000000, wCore, BitVec.ofNat 64 (wCore.regs.s 0), BitVec.ofNat 64 (wCore.regs.s 2), BitVec.ofNat 41 0x40000000, wZwReady (by decide +kernel), by decide +kernel⟩

theorem w_ZwScalarAndBranchSlots_7 : ∃ (s : State) (i : Nat) (rd : Nat) (ra : Nat) (rb : Nat) (imm : Nat) (addr : Nat) (c : Core) (a : BitVec 64) (b : BitVec 64) (x : BitVec 41),
      ZwReady s i c ∧
      rd < 32 ∧
      a = .ofNat 64 (c.regs.s ra) ∧
      b = .ofNat 64 (c.regs.s rb) ∧
      x = .ofNat 41 imm ∧
      addr = (a + x.signExtend 64).toNat ∧
      (addr % 8 ≠ 0 ∨ zwRange i addr 8 = false) ∧
      s.s0.run = none ∧
      s.s1.run = none :=
  ⟨wZw wCore, 3, 31, 1, 2, 4, 68, wCore, BitVec.ofNat 64 (wCore.regs.s 1), BitVec.ofNat 64 (wCore.regs.s 2), BitVec.ofNat 41 4, wZwReady (by decide +kernel), by decide +kernel⟩

theorem w_ZwScalarAndBranchSlots_8 : ∃ (s : State) (i : Nat) (rd : Nat) (ra : Nat) (rb : Nat) (imm : Nat) (addr : Nat) (c : Core) (a : BitVec 64) (b : BitVec 64) (x : BitVec 41),
      ZwReady s i c ∧
      rd < 32 ∧
      a = .ofNat 64 (c.regs.s ra) ∧
      b = .ofNat 64 (c.regs.s rb) ∧
      x = .ofNat 41 imm ∧
      addr = (a + x.signExtend 64).toNat ∧
      (addr % 8 ≠ 0 ∨ zwRange i addr 8 = false) ∧
      s.s0.run = none ∧
      s.s1.run = none :=
  ⟨wZw wCore, 3, 31, 1, 2, 4, 68, wCore, BitVec.ofNat 64 (wCore.regs.s 1), BitVec.ofNat 64 (wCore.regs.s 2), BitVec.ofNat 41 4, wZwReady (by decide +kernel), by decide +kernel⟩

theorem w_ZwScalarAndBranchSlots_9 : ∃ (s : State) (i : Nat) (off : Nat) (c : Core) (target : Int),
      ZwReady s i c ∧
      target = ((c.pc : Int) + 64 * (BitVec.ofNat 20 off).toInt) % 2 ^ 64 :=
  ⟨wZw wCore, 3, 2 ^ 20 - 1, wCore, 64, wZwReady (by decide +kernel), by decide +kernel⟩

theorem w_ZwScalarAndBranchSlots_10 : ∃ (s : State) (i : Nat) (off : Nat) (c : Core) (target : Int),
      ZwReady s i c ∧
      target = ((c.pc : Int) + 64 * (BitVec.ofNat 20 off).toInt) % 2 ^ 64 :=
  ⟨wZw wCore, 3, 2 ^ 20 - 1, wCore, 64, wZwReady (by decide +kernel), by decide +kernel⟩

theorem w_ZwScalarAndBranchSlots_11 : ∃ (s : State) (i : Nat) (off : Nat) (c : Core) (target : Int),
      ZwReady s i c ∧
      target = ((c.pc : Int) + 64 * (BitVec.ofNat 20 off).toInt) % 2 ^ 64 :=
  ⟨wZw wCore, 3, 2 ^ 20 - 1, wCore, 64, wZwReady (by decide +kernel), by decide +kernel⟩

theorem w_ZwScalarAndBranchSlots_12 : ∃ (s : State) (i : Nat) (off : Nat) (sr : Nat) (c : Core) (target : Int),
      ZwReady s i c ∧
      target = ((c.pc : Int) + 64 * (BitVec.ofNat 20 off).toInt) % 2 ^ 64 ∧
      c.pc < target.toNat ∧
      0 < c.regs.s sr :=
  ⟨wZw wCore, 3, 4, 1, wCore, 384, wZwReady (by decide +kernel), by decide +kernel⟩

theorem w_ZwScalarAndBranchSlots_13 : ∃ (s : State) (i : Nat) (off : Nat) (sr : Nat) (c : Core) (target : Int),
      ZwReady s i c ∧
      target = ((c.pc : Int) + 64 * (BitVec.ofNat 20 off).toInt) % 2 ^ 64 ∧
      c.pc < target.toNat ∧
      c.regs.s sr = 0 :=
  ⟨wZw wCore, 3, 4, 0, wCore, 384, wZwReady (by decide +kernel), by decide +kernel⟩

theorem w_ZwScalarAndBranchSlots_14 : ∃ (s : State) (i : Nat) (off : Nat) (c : Core) (target : Int),
      ZwReady s i c ∧
      target = ((c.pc : Int) + 64 * (BitVec.ofNat 20 off).toInt) % 2 ^ 64 ∧
      c.depth < 16 :=
  ⟨wZw { wCore with depth := 15 }, 3, 4, { wCore with depth := 15 }, 384, wZwReady (by decide +kernel), by decide +kernel⟩

theorem w_ZwScalarAndBranchSlots_15 : ∃ (s : State) (i : Nat) (off : Nat) (c : Core) (target : Int),
      ZwReady s i c ∧
      target = ((c.pc : Int) + 64 * (BitVec.ofNat 20 off).toInt) % 2 ^ 64 ∧
      s.s0.run = none ∧
      s.s1.run = none ∧
      16 ≤ c.depth :=
  ⟨wZw { wCore with depth := 16 }, 3, 4, { wCore with depth := 16 }, 384, wZwReady (by decide +kernel), by decide +kernel⟩

theorem w_ZwScalarAndBranchSlots_16 : ∃ (s : State) (i : Nat) (off : Nat) (c : Core) (target : Int),
      ZwReady s i c ∧
      target = ((c.pc : Int) + 64 * (BitVec.ofNat 20 off).toInt) % 2 ^ 64 :=
  ⟨wZw { wCore with depth := 16 }, 3, 4, { wCore with depth := 16 }, 384, wZwReady (by decide +kernel), by decide +kernel⟩

theorem w_ZwScalarAndBranchSlots_17 : ∃ (s : State) (i : Nat) (off : Nat) (c : Core) (target : Int),
      ZwReady s i c ∧
      target = ((c.pc : Int) + 64 * (BitVec.ofNat 20 off).toInt) % 2 ^ 64 ∧
      512 ≤ i :=
  ⟨{ State.reset with cores := [(515, wCore)] }, 515, 15, wCore, 128 + 64 * 15, wZwReady (by decide +kernel), by decide +kernel⟩

theorem w_ZwScalarAndBranchSlots_18 : ∃ (s : State) (i : Nat) (off : Nat) (c : Core) (target : Int),
      ZwReady s i c ∧
      target = ((c.pc : Int) + 64 * (BitVec.ofNat 20 off).toInt) % 2 ^ 64 ∧
      i < 512 ∧
      (∃ j, j / 8 = i / 8 ∧ j ≠ i ∧ (s.core j).barrier = none) :=
  ⟨wZw wCore, 3, 15, wCore, 1088, wZwReady (by decide +kernel), rfl, by decide, ⟨0, by decide +kernel⟩⟩

theorem w_ZwScalarAndBranchSlots_19 : ∃ (s : State) (i : Nat) (off : Nat) (c : Core) (target : Int),
      ZwReady s i c ∧
      target = ((c.pc : Int) + 64 * (BitVec.ofNat 20 off).toInt) % 2 ^ 64 ∧
      i < 512 ∧
      (∀ j, j / 8 = i / 8 → j ≠ i → (s.core j).loops = [] ∧ (s.core j).bundle = some ⟨false, [], [.bar (off % 16)]⟩ ∧ ∃ u, (s.core j).barrier = some (off % 16, u)) :=
  ⟨wBar, 3, 15, wCore, 1088, wZwReady (by decide +kernel), rfl, by decide, fun j h hj => let ⟨a, b, d⟩ := wBarred j (by omega) hj; ⟨a, b, 9, d⟩⟩

theorem w_ZwScalarAndBranchSlots_20 : ∃ (s : State) (i : Nat) (off : Nat) (c : Core) (target : Int),
      ZwReady s i c ∧
      target = ((c.pc : Int) + 64 * (BitVec.ofNat 20 off).toInt) % 2 ^ 64 ∧
      c.matrix = [] ∧
      c.deferred = [] :=
  ⟨wZw wCore, 3, 0, wCore, 128, wZwReady (by decide +kernel), by decide +kernel⟩

theorem w_ZwScalarAndBranchSlots_21 : ∃ (s : State) (i : Nat) (t : Nat) (since : Nat) (code : Nat),
      i < 516 ∧
      s.coreIn i = true ∧
      s.s0.run = none ∧
      s.s1.run = none ∧
      (s.core i).barrier = some (code, since) ∧
      since + 1000000 < t :=
  ⟨{ wMapped with cores := [(3, { wCore with barrier := some (5, 7), bundle := some ⟨false, [], [.bar 5]⟩ })] }, 3, 1000008, 7, 5, by decide +kernel⟩

theorem w_ZwScalarAndBranchSlots_22 : ∃ (s : State) (i : Nat) (t : Nat),
      i < 516 ∧
      s.coreIn i = true ∧
      s.s0.run = none ∧
      s.s1.run = none ∧
      (s.core i).state = .running ∧
      (s.core i).layerStart + 1000 * s.regFld 0x0a 0 0x20 23 0 < t :=
  ⟨{ wMapped with cores := [(3, { wCore with barrier := some (5, 7), bundle := some ⟨false, [], [.bar 5]⟩ })] }, 3, 2 ^ 40, by decide +kernel⟩

theorem w_ZwVectorSlots_0 : ∃ (s : State) (i : Nat) (vd : Nat) (va : Nat) (vb : Nat) (pair : Bool) (c : Core) (old : Nat → Nat) (a : Nat → Nat) (b : Nat → Nat) (op : ZwIssue → Nat → Nat → Nat → Nat → Bool → Nat → Instr) (f : Nat → Nat → Nat → Nat),
      ZwReady s i c ∧
      vd < 32 ∧
      va < 32 ∧
      vb < 32 ∧
      pairBad pair [vd, va, vb] = false ∧
      (∀ k, old k = (c.regs.lanes vd pair).getD k 0) ∧
      (∀ k, a k = (c.regs.lanes va pair).getD k 0) ∧
      (∀ k, b k = (c.regs.lanes vb pair).getD k 0) ∧
      ((op, f) ∈ [(Instr.zwVadd, fun x y _ => fp32Add x y), (Instr.zwVsub, fun x y _ => fp32Sub x y), (Instr.zwVmul, fun x y _ => fp32Mul x y), (Instr.zwVfma, fp32Fma)]) :=
  ⟨wZw wVec, 3, 0, 0, 30, true, wVec, fun k => (wVec.regs.lanes 0 true).getD k 0, fun k => (wVec.regs.lanes 0 true).getD k 0, fun k => (wVec.regs.lanes 30 true).getD k 0, Instr.zwVadd, fun x y _ => fp32Add x y, wZwReady (by decide +kernel), by decide +kernel, by decide +kernel, by decide +kernel, by decide +kernel, fun _ => rfl, fun _ => rfl, fun _ => rfl, List.mem_cons_self ..⟩

theorem w_ZwVectorSlots_1 : ∃ (s : State) (i : Nat) (vd : Nat) (va : Nat) (vb : Nat) (pair : Bool) (c : Core) (old : Nat → Nat) (a : Nat → Nat) (b : Nat → Nat) (op : ZwIssue → Nat → Nat → Nat → Nat → Bool → Nat → Instr) (greater : Bool),
      ZwReady s i c ∧
      vd < 32 ∧
      va < 32 ∧
      vb < 32 ∧
      pairBad pair [vd, va, vb] = false ∧
      (∀ k, old k = (c.regs.lanes vd pair).getD k 0) ∧
      (∀ k, a k = (c.regs.lanes va pair).getD k 0) ∧
      (∀ k, b k = (c.regs.lanes vb pair).getD k 0) ∧
      (op, greater) ∈ [(Instr.zwVmax, true), (Instr.zwVmin, false)] :=
  ⟨wZw wVec, 3, 0, 0, 30, true, wVec, fun k => (wVec.regs.lanes 0 true).getD k 0, fun k => (wVec.regs.lanes 0 true).getD k 0, fun k => (wVec.regs.lanes 30 true).getD k 0, Instr.zwVmax, true, wZwReady (by decide +kernel), by decide +kernel, by decide +kernel, by decide +kernel, by decide +kernel, fun _ => rfl, fun _ => rfl, fun _ => rfl, List.mem_cons_self ..⟩

theorem w_ZwVectorSlots_2 : ∃ (s : State) (i : Nat) (vd : Nat) (va : Nat) (vb : Nat) (sr : Nat) (addr : Nat) (pair : Bool) (c : Core) (old : Nat → Nat) (a : Nat → Nat) (b : Nat → Nat),
      ZwReady s i c ∧
      vd < 32 ∧
      va < 32 ∧
      vb < 32 ∧
      pairBad pair [vd, va, vb] = false ∧
      (∀ k, old k = (c.regs.lanes vd pair).getD k 0) ∧
      (∀ k, a k = (c.regs.lanes va pair).getD k 0) ∧
      (∀ k, b k = (c.regs.lanes vb pair).getD k 0) ∧
      addr = c.regs.s sr ∧
      addr % vecBytes pair = 0 ∧
      zwRange i addr (vecBytes pair) = true :=
  ⟨wZw wVec, 3, 2, 0, 30, 1, 512, true, wVec, fun k => (wVec.regs.lanes 2 true).getD k 0, fun k => (wVec.regs.lanes 0 true).getD k 0, fun k => (wVec.regs.lanes 30 true).getD k 0, wZwReady (by decide +kernel), by decide +kernel, by decide +kernel, by decide +kernel, by decide +kernel, fun _ => rfl, fun _ => rfl, fun _ => rfl, by decide +kernel⟩

theorem w_ZwVectorSlots_3 : ∃ (s : State) (i : Nat) (vd : Nat) (va : Nat) (vb : Nat) (sr : Nat) (addr : Nat) (pair : Bool) (c : Core) (old : Nat → Nat) (a : Nat → Nat) (b : Nat → Nat),
      ZwReady s i c ∧
      vd < 32 ∧
      va < 32 ∧
      vb < 32 ∧
      pairBad pair [vd, va, vb] = false ∧
      (∀ k, old k = (c.regs.lanes vd pair).getD k 0) ∧
      (∀ k, a k = (c.regs.lanes va pair).getD k 0) ∧
      (∀ k, b k = (c.regs.lanes vb pair).getD k 0) ∧
      addr = c.regs.s sr ∧
      addr % vecBytes pair = 0 ∧
      zwRange i addr (vecBytes pair) = true ∧
      addr + vecBytes pair ≤ 0x400000 :=
  ⟨wZw wVec, 3, 2, 0, 30, 1, 512, true, wVec, fun k => (wVec.regs.lanes 2 true).getD k 0, fun k => (wVec.regs.lanes 0 true).getD k 0, fun k => (wVec.regs.lanes 30 true).getD k 0, wZwReady (by decide +kernel), by decide +kernel, by decide +kernel, by decide +kernel, by decide +kernel, fun _ => rfl, fun _ => rfl, fun _ => rfl, by decide +kernel⟩

theorem w_ZwVectorSlots_4 : ∃ (s : State) (i : Nat) (vd : Nat) (va : Nat) (vb : Nat) (fmt : Nat) (imm : Nat) (pair : Bool) (c : Core) (old : Nat → Nat) (a : Nat → Nat) (b : Nat → Nat) (f : FpFmt),
      ZwReady s i c ∧
      vd < 32 ∧
      va < 32 ∧
      vb < 32 ∧
      pairBad pair [vd, va, vb] = false ∧
      (∀ k, old k = (c.regs.lanes vd pair).getD k 0) ∧
      (∀ k, a k = (c.regs.lanes va pair).getD k 0) ∧
      (∀ k, b k = (c.regs.lanes vb pair).getD k 0) ∧
      fpFmt fmt = some f ∧
      fmtReserved fmt = false ∧
      imm % 2 = 1 :=
  ⟨wZw wVec, 3, 2, 0, 30, 8, 1, true, wVec, fun k => (wVec.regs.lanes 2 true).getD k 0, fun k => (wVec.regs.lanes 0 true).getD k 0, fun k => (wVec.regs.lanes 30 true).getD k 0, (fpFmt 8).getD fmtFP32, wZwReady (by decide +kernel), by decide +kernel, by decide +kernel, by decide +kernel, by decide +kernel, fun _ => rfl, fun _ => rfl, fun _ => rfl, by decide +kernel⟩

theorem w_ZwVectorSlots_5 : ∃ (s : State) (i : Nat) (vd : Nat) (va : Nat) (vb : Nat) (fmt : Nat) (imm : Nat) (pair : Bool) (c : Core) (old : Nat → Nat) (a : Nat → Nat) (b : Nat → Nat) (f : FpFmt),
      ZwReady s i c ∧
      vd < 32 ∧
      va < 32 ∧
      vb < 32 ∧
      pairBad pair [vd, va, vb] = false ∧
      (∀ k, old k = (c.regs.lanes vd pair).getD k 0) ∧
      (∀ k, a k = (c.regs.lanes va pair).getD k 0) ∧
      (∀ k, b k = (c.regs.lanes vb pair).getD k 0) ∧
      fpFmt fmt = some f ∧
      fmtReserved fmt = false ∧
      imm % 2 = 0 :=
  ⟨wZw wVec, 3, 2, 0, 30, 8, 0, true, wVec, fun k => (wVec.regs.lanes 2 true).getD k 0, fun k => (wVec.regs.lanes 0 true).getD k 0, fun k => (wVec.regs.lanes 30 true).getD k 0, (fpFmt 8).getD fmtFP32, wZwReady (by decide +kernel), by decide +kernel, by decide +kernel, by decide +kernel, by decide +kernel, fun _ => rfl, fun _ => rfl, fun _ => rfl, by decide +kernel⟩

theorem w_ZwVectorSlots_6 : ∃ (s : State) (i : Nat) (vd : Nat) (va : Nat) (vb : Nat) (imm : Nat) (pair : Bool) (c : Core) (old : Nat → Nat) (a : Nat → Nat) (b : Nat → Nat),
      ZwReady s i c ∧
      vd < 32 ∧
      va < 32 ∧
      vb < 32 ∧
      pairBad pair [vd, va, vb] = false ∧
      (∀ k, old k = (c.regs.lanes vd pair).getD k 0) ∧
      (∀ k, a k = (c.regs.lanes va pair).getD k 0) ∧
      (∀ k, b k = (c.regs.lanes vb pair).getD k 0) ∧
      imm % 8 ≤ 4 :=
  ⟨wZw wVec, 3, 2, 0, 30, 4, true, wVec, fun k => (wVec.regs.lanes 2 true).getD k 0, fun k => (wVec.regs.lanes 0 true).getD k 0, fun k => (wVec.regs.lanes 30 true).getD k 0, wZwReady (by decide +kernel), by decide +kernel, by decide +kernel, by decide +kernel, by decide +kernel, fun _ => rfl, fun _ => rfl, fun _ => rfl, by decide +kernel⟩

theorem w_ZwVectorSlots_7 : ∃ (s : State) (i : Nat) (vd : Nat) (va : Nat) (vb : Nat) (sr : Nat) (fmt : Nat) (addr : Nat) (pair : Bool) (c : Core) (old : Nat → Nat) (a : Nat → Nat) (b : Nat → Nat) (n : Nat) (bytes : List Byte),
      ZwReady s i c ∧
      vd < 32 ∧
      va < 32 ∧
      vb < 32 ∧
      pairBad pair [vd, va, vb] = false ∧
      (∀ k, old k = (c.regs.lanes vd pair).getD k 0) ∧
      (∀ k, a k = (c.regs.lanes va pair).getD k 0) ∧
      (∀ k, b k = (c.regs.lanes vb pair).getD k 0) ∧
      fmt ≤ 2 ∧
      addr = c.regs.s sr ∧
      n = (if pair then 4 else 2) ∧
      addr + n * (4 * fmtBits fmt + 1) ≤ 0x400000 ∧
      (bytes = ((List.range n).flatMap fun k => packCodes (fmtBits fmt) (facetBlock (fmtBits fmt) (((c.regs.lanes va pair).drop (32 * k)).take 32)).2.1) ++ (List.range n).map (fun k => BitVec.ofNat 8 (facetBlock (fmtBits fmt) (((c.regs.lanes va pair).drop (32 * k)).take 32)).1)) :=
  ⟨wZw wVec, 3, 0, 0, 30, 1, 2, 512, true, wVec, fun k => (wVec.regs.lanes 0 true).getD k 0, fun k => (wVec.regs.lanes 0 true).getD k 0, fun k => (wVec.regs.lanes 30 true).getD k 0, 4, ((List.range 4).flatMap fun k => packCodes (fmtBits 2) (facetBlock (fmtBits 2) (((wVec.regs.lanes 0 true).drop (32 * k)).take 32)).2.1) ++ (List.range 4).map (fun k => BitVec.ofNat 8 (facetBlock (fmtBits 2) (((wVec.regs.lanes 0 true).drop (32 * k)).take 32)).1), wZwReady (by decide +kernel), by decide +kernel, by decide +kernel, by decide +kernel, by decide +kernel, fun _ => rfl, fun _ => rfl, fun _ => rfl, by decide +kernel⟩

theorem w_ZwMatrixAndExchangeSlots_0 : ∃ (s : State) (i : Nat) (e : Nat) (c : Core),
      i < 516 ∧
      e < 4 ∧
      ZwReady s i c :=
  ⟨wZw wCore, 3, 3, wCore, by decide, by decide, wZwReady (by decide +kernel)⟩

theorem w_ZwMatrixAndExchangeSlots_1 : ∃ (s : State) (i : Nat) (e : Nat) (c : Core),
      i < 516 ∧
      e < 4 ∧
      ZwReady s i c :=
  ⟨wZw wCore, 3, 3, wCore, by decide, by decide, wZwReady (by decide +kernel)⟩

theorem w_ZwMatrixAndExchangeSlots_2 : ∃ (s : State) (i : Nat) (e : Nat) (c : Core),
      i < 516 ∧
      e < 4 ∧
      ZwReady s i c :=
  ⟨wZw wCore, 3, 3, wCore, by decide, by decide, wZwReady (by decide +kernel)⟩

theorem w_ZwMatrixAndExchangeSlots_3 : ∃ (s : State) (i : Nat) (e : Nat) (c : Core),
      i < 516 ∧
      e < 4 ∧
      ZwReady s i c :=
  ⟨wZw wCore, 3, 3, wCore, by decide, by decide, wZwReady (by decide +kernel)⟩

theorem w_ZwMatrixAndExchangeSlots_4 : ∃ (s : State) (i : Nat) (e : Nat) (c : Core),
      i < 516 ∧
      e < 4 ∧
      ZwReady s i c :=
  ⟨wZw wCore, 3, 3, wCore, by decide, by decide, wZwReady (by decide +kernel)⟩

theorem w_ZwMatrixAndExchangeSlots_5 : ∃ (s : State) (i : Nat) (e : Nat) (c : Core),
      i < 516 ∧
      e < 4 ∧
      ZwReady s i c :=
  ⟨wZw wCore, 3, 3, wCore, by decide, by decide, wZwReady (by decide +kernel)⟩

theorem w_ZwMatrixAndExchangeSlots_6 : ∃ (s : State) (i : Nat) (e : Nat) (c : Core),
      i < 516 ∧
      e < 4 ∧
      ZwReady s i c :=
  ⟨wZw wCore, 3, 3, wCore, by decide, by decide, wZwReady (by decide +kernel)⟩

theorem w_ZwMatrixAndExchangeSlots_7 : ∃ (s : State) (i : Nat) (e : Nat) (dst : Nat) (src : Nat) (len : Nat) (n : Nat) (c : Core),
      i < 516 ∧
      e < 4 ∧
      ZwReady s i c ∧
      c.regs.s len = n ∧
      n % 64 = 0 ∧
      c.regs.s dst + n ≤ 0x400000 ∧
      c.regs.s src + n ≤ 0x400000 :=
  ⟨wZw wFilled, 3, 3, 2, 1, 4, 64, wFilled, by decide, by decide, wZwReady (by decide +kernel), by decide +kernel⟩

theorem w_ZwMatrixAndExchangeSlots_8 : ∃ (s : State) (i : Nat) (e : Nat) (dst : Nat) (src : Nat) (len : Nat) (aux : Nat) (n : Nat) (c : Core),
      i < 516 ∧
      e < 4 ∧
      ZwReady s i c ∧
      c.regs.s len = n ∧
      n % 64 = 0 ∧
      i < 512 ∧
      c.regs.s dst + n ≤ 0x400000 ∧
      c.regs.s src + n ≤ 0x400000 ∧
      8 * (i / 8) + c.regs.s aux % 8 ≠ i :=
  ⟨wZw wFilled, 3, 3, 2, 1, 4, 0, 64, wFilled, by decide, by decide, wZwReady (by decide +kernel), by decide +kernel⟩

theorem w_ZwMatrixAndExchangeSlots_9 : ∃ (s : State) (i : Nat) (e : Nat) (dst : Nat) (len : Nat) (n : Nat) (c : Core),
      i < 516 ∧
      e < 4 ∧
      ZwReady s i c ∧
      c.regs.s len = n ∧
      n % 64 = 0 ∧
      c.regs.s dst + n ≤ 0x400000 :=
  ⟨wZw wFilled, 3, 3, 2, 4, 64, wFilled, by decide, by decide, wZwReady (by decide +kernel), by decide +kernel⟩

theorem w_ZwMatrixAndExchangeSlots_10 : ∃ (s : State) (i : Nat) (e : Nat) (src : Nat) (len : Nat) (n : Nat) (c : Core),
      i < 516 ∧
      e < 4 ∧
      ZwReady s i c ∧
      c.regs.s len = n ∧
      n % 64 = 0 ∧
      c.regs.s src + n ≤ 0x400000 :=
  ⟨wZw wFilled, 3, 3, 1, 4, 64, wFilled, by decide, by decide, wZwReady (by decide +kernel), by decide +kernel⟩

theorem w_ZwMatrixAndExchangeSlots_11 : ∃ (s : State) (i : Nat) (e : Nat) (src : Nat) (len : Nat) (n : Nat) (c : Core),
      i < 516 ∧
      e < 4 ∧
      ZwReady s i c ∧
      c.regs.s len = n ∧
      n % 64 = 0 ∧
      c.regs.s src + n ≤ 0x400000 ∧
      0 < n ∧
      n ≤ 4096 :=
  ⟨wZw wFilled, 3, 3, 1, 4, 64, wFilled, by decide, by decide, wZwReady (by decide +kernel), by decide +kernel⟩

theorem w_ZwMatrixAndExchangeSlots_12 : ∃ (s : State) (i : Nat) (e : Nat) (len : Nat) (c : Core),
      i < 516 ∧
      e < 4 ∧
      ZwReady s i c ∧
      c.regs.s len % 64 ≠ 0 ∧
      s.s0.run = none ∧
      s.s1.run = none :=
  ⟨wZw wCore, 3, 3, 3, wCore, by decide, by decide, wZwReady (by decide +kernel), by decide +kernel⟩

theorem w_ZwMatrixAndExchangeSlots_13 : ∃ (s : State) (i : Nat) (e : Nat) (c : Core) (m : MatCmd),
      i < 516 ∧
      e < 4 ∧
      s.coreIn i = true ∧
      s.core i = c ∧
      c.matrix = [m] ∧
      m.engine = e ∧
      m.op = .tzero :=
  ⟨wZw ({ wCore with matrix := [⟨3, .tzero, 7, 0, 0, 65535, 0, 0, true⟩], regs := { wCore.regs with tile := [] } }), 3, 3, { wCore with matrix := [⟨3, .tzero, 7, 0, 0, 65535, 0, 0, true⟩], regs := { wCore.regs with tile := [] } }, ⟨3, .tzero, 7, 0, 0, 65535, 0, 0, true⟩, by decide +kernel⟩

theorem w_ZwMatrixAndExchangeSlots_14 : ∃ (s : State) (i : Nat) (e : Nat) (c : Core) (m : MatCmd) (y : Tile),
      i < 516 ∧
      e < 4 ∧
      s.coreIn i = true ∧
      s.core i = c ∧
      c.matrix = [m] ∧
      m.engine = e ∧
      m.op = .mma ∧
      (c.regs.t m.tile).invalid = false ∧
      s.mma i m (c.regs.t m.tile) = ⟨some y, none, [], none⟩ :=
  ⟨wZw ({ wFilled with matrix := [⟨3, .mma, 7, 9, 9, 64, 4096, 0, true⟩], regs := { wFilled.regs with tile := [(7, ⟨300, [(33, 5)], false⟩)] } }), 3, 3, { wFilled with matrix := [⟨3, .mma, 7, 9, 9, 64, 4096, 0, true⟩], regs := { wFilled.regs with tile := [(7, ⟨300, [(33, 5)], false⟩)] } }, ⟨3, .mma, 7, 9, 9, 64, 4096, 0, true⟩, ((wZw ({ wFilled with matrix := [⟨3, .mma, 7, 9, 9, 64, 4096, 0, true⟩], regs := { wFilled.regs with tile := [(7, ⟨300, [(33, 5)], false⟩)] } })).mma 3 ⟨3, .mma, 7, 9, 9, 64, 4096, 0, true⟩ ⟨300, [(33, 5)], false⟩).tile.getD ⟨0, [], true⟩, by decide +kernel⟩

theorem w_ZwMatrixAndExchangeSlots_15 : ∃ (s : State) (i : Nat) (e : Nat) (c : Core) (m : MatCmd),
      i < 516 ∧
      e < 4 ∧
      s.coreIn i = true ∧
      s.core i = c ∧
      c.matrix = [m] ∧
      m.engine = e ∧
      m.op = .timg ∧
      (c.regs.t m.tile).invalid = false ∧
      m.a + 19456 ≤ 0x400000 :=
  ⟨wZw ({ wCore with matrix := [⟨3, .timg, 7, 0, 0, 512, 0, 0, true⟩], regs := { wCore.regs with tile := [(7, ⟨-3, [(33, 5)], false⟩)] } }), 3, 3, { wCore with matrix := [⟨3, .timg, 7, 0, 0, 512, 0, 0, true⟩], regs := { wCore.regs with tile := [(7, ⟨-3, [(33, 5)], false⟩)] } }, ⟨3, .timg, 7, 0, 0, 512, 0, 0, true⟩, by decide +kernel⟩

theorem w_ZwMatrixAndExchangeSlots_16 : ∃ (s : State) (i : Nat) (e : Nat) (c : Core) (m : MatCmd) (code : Nat),
      i < 516 ∧
      e < 4 ∧
      s.coreIn i = true ∧
      s.core i = c ∧
      c.matrix = [m] ∧
      m.engine = e ∧
      m.op = .mma ∧
      s.mma i m (c.regs.t m.tile) = MatOut.bad code :=
  ⟨wZw ({ wCore with matrix := [⟨3, .mma, 7, 12, 12, 64, 128, 1, true⟩], regs := { wCore.regs with tile := [(7, ⟨-3, [(33, 5)], false⟩)] } }), 3, 3, { wCore with matrix := [⟨3, .mma, 7, 12, 12, 64, 128, 1, true⟩], regs := { wCore.regs with tile := [(7, ⟨-3, [(33, 5)], false⟩)] } }, ⟨3, .mma, 7, 12, 12, 64, 128, 1, true⟩, 5, by decide +kernel⟩

theorem w_ZmComputesAndMovesData_0 : ∃ (s : State) (i : Nat) (w : Nat) (rd : Nat) (ra : Nat) (rb : Nat) (imm : Nat) (q : Sequencer) (a : BitVec 32) (b : BitVec 32) (x : BitVec 32) (op : ZmIssue → Nat → Nat → Nat → Nat → Instr) (code : Nat) (v : BitVec 32),
      ZmAt s i w q ∧
      a = .ofNat 32 (q.reg ra) ∧
      b = .ofNat 32 (q.reg rb) ∧
      x = (BitVec.ofNat 18 imm).signExtend 32 ∧
      (op, code, v) ∈ [(Instr.zmAdd, 0x01, a + b), (Instr.zmSub, 0x02, a - b), (Instr.zmAnd, 0x03, a &&& b), (Instr.zmOr, 0x04, a ||| b), (Instr.zmXor, 0x05, a ^^^ b), (Instr.zmSll, 0x06, a <<< (b.toNat % 32)), (Instr.zmSrl, 0x07, a >>> (b.toNat % 32)), (Instr.zmSra, 0x08, a.sshiftRight (b.toNat % 32)), (Instr.zmMul, 0x09, a * b), (Instr.zmMulhu, 0x0a, .ofNat 32 (a.toNat * b.toNat / 2 ^ 32)), (Instr.zmSltu, 0x0b, if a.ult b then 1 else 0), (Instr.zmSlt, 0x0c, if a.slt b then 1 else 0), (Instr.zmMinu, 0x0d, if a.ule b then a else b), (Instr.zmMaxu, 0x0e, if a.ule b then b else a), (Instr.zmDivu, 0x0f, if b = 0 then 0xffffffff else a.udiv b)] ∧
      wordIs w code (fieldsR rd ra rb) = true :=
  ⟨wZm (wSeqr 0x7c48000), 130, 0x7c48000, 15, 1, 2, 0, wSeqr 0x7c48000, BitVec.ofNat 32 ((wSeqr 0).reg 1), BitVec.ofNat 32 ((wSeqr 0).reg 2), (BitVec.ofNat 18 0).signExtend 32, Instr.zmAdd, 1, BitVec.ofNat 32 ((wSeqr 0).reg 1) + BitVec.ofNat 32 ((wSeqr 0).reg 2), wZmAt (wZmImage 0x7c48000) (by decide +kernel), rfl, rfl, rfl, List.mem_cons_self .., by decide⟩

theorem w_ZmComputesAndMovesData_1 : ∃ (s : State) (i : Nat) (w : Nat) (rd : Nat) (ra : Nat) (rb : Nat) (imm : Nat) (q : Sequencer) (a : BitVec 32) (b : BitVec 32) (x : BitVec 32) (op : ZmIssue → Nat → Nat → Nat → Nat → Instr) (code : Nat) (v : BitVec 32),
      ZmAt s i w q ∧
      a = .ofNat 32 (q.reg ra) ∧
      b = .ofNat 32 (q.reg rb) ∧
      x = (BitVec.ofNat 18 imm).signExtend 32 ∧
      (op, code, v) ∈ [(Instr.zmAddi, 0x10, a + x), (Instr.zmAndi, 0x11, a &&& .ofNat 32 imm), (Instr.zmOri, 0x12, a ||| .ofNat 32 imm), (Instr.zmXori, 0x13, a ^^^ .ofNat 32 imm), (Instr.zmSlli, 0x14, a <<< (imm % 32)), (Instr.zmSrli, 0x15, a >>> (imm % 32)), (Instr.zmSrai, 0x16, a.sshiftRight (imm % 32)), (Instr.zmSltiu, 0x18, if a.ult (.ofNat 32 imm) then 1 else 0)] ∧
      wordIs w code (fieldsI rd ra imm) = true :=
  ⟨wZm (wSeqr 0x43c7ffff), 130, 0x43c7ffff, 15, 1, 2, 262143, wSeqr 0x43c7ffff, BitVec.ofNat 32 ((wSeqr 0).reg 1), BitVec.ofNat 32 ((wSeqr 0).reg 2), (BitVec.ofNat 18 262143).signExtend 32, Instr.zmAddi, 16, BitVec.ofNat 32 ((wSeqr 0).reg 1) + (BitVec.ofNat 18 262143).signExtend 32, wZmAt (wZmImage 0x43c7ffff) (by decide +kernel), rfl, rfl, rfl, List.mem_cons_self .., by decide⟩

theorem w_ZmComputesAndMovesData_2 : ∃ (s : State) (i : Nat) (w : Nat) (rd : Nat) (ra : Nat) (rb : Nat) (imm : Nat) (q : Sequencer) (a : BitVec 32) (b : BitVec 32) (x : BitVec 32),
      ZmAt s i w q ∧
      a = .ofNat 32 (q.reg ra) ∧
      b = .ofNat 32 (q.reg rb) ∧
      x = (BitVec.ofNat 18 imm).signExtend 32 ∧
      wordIs w 0x17 [(25, 22, rd), (17, 0, imm)] = true :=
  ⟨wZm (wSeqr 0x5fc3ffff), 130, 0x5fc3ffff, 15, 1, 2, 262143, wSeqr 0x5fc3ffff, BitVec.ofNat 32 ((wSeqr 0).reg 1), BitVec.ofNat 32 ((wSeqr 0).reg 2), (BitVec.ofNat 18 262143).signExtend 32, wZmAt (wZmImage 0x5fc3ffff) (by decide +kernel), by decide +kernel⟩

theorem w_ZmComputesAndMovesData_3 : ∃ (s : State) (i : Nat) (w : Nat) (rd : Nat) (ra : Nat) (imm : Nat) (n : Nat) (q : Sequencer),
      ZmAt s i w q ∧
      n = (BitVec.ofNat 32 (q.reg ra) + (BitVec.ofNat 18 imm).signExtend 32).toNat ∧
      wordIs w 0x20 (fieldsI rd ra imm) = true ∧
      n < 1024 :=
  ⟨wZm (wSeqr 0x808c0000), 130, 0x808c0000, 2, 3, 0, 1023, wSeqr 0x808c0000, wZmAt (wZmImage 0x808c0000) (by decide +kernel), by decide +kernel⟩

theorem w_ZmComputesAndMovesData_4 : ∃ (s : State) (i : Nat) (w : Nat) (rd : Nat) (ra : Nat) (imm : Nat) (n : Nat) (q : Sequencer),
      ZmAt s i w q ∧
      n = (BitVec.ofNat 32 (q.reg ra) + (BitVec.ofNat 18 imm).signExtend 32).toNat ∧
      wordIs w 0x20 (fieldsI rd ra imm) = true ∧
      1024 ≤ n :=
  ⟨wZm (wSeqr 0x808c0001), 130, 0x808c0001, 2, 3, 1, 1024, wSeqr 0x808c0001, wZmAt (wZmImage 0x808c0001) (by decide +kernel), by decide +kernel⟩

theorem w_ZmComputesAndMovesData_5 : ∃ (s : State) (i : Nat) (w : Nat) (rd : Nat) (ra : Nat) (imm : Nat) (n : Nat) (q : Sequencer),
      ZmAt s i w q ∧
      n = (BitVec.ofNat 32 (q.reg ra) + (BitVec.ofNat 18 imm).signExtend 32).toNat ∧
      wordIs w 0x21 (fieldsI rd ra imm) = true ∧
      n < 1024 :=
  ⟨wZm (wSeqr 0x848c0000), 130, 0x848c0000, 2, 3, 0, 1023, wSeqr 0x848c0000, wZmAt (wZmImage 0x848c0000) (by decide +kernel), by decide +kernel⟩

theorem w_ZmComputesAndMovesData_6 : ∃ (s : State) (i : Nat) (w : Nat) (rd : Nat) (ra : Nat) (imm : Nat) (n : Nat) (q : Sequencer),
      ZmAt s i w q ∧
      n = (BitVec.ofNat 32 (q.reg ra) + (BitVec.ofNat 18 imm).signExtend 32).toNat ∧
      wordIs w 0x21 (fieldsI rd ra imm) = true ∧
      1024 ≤ n :=
  ⟨wZm (wSeqr 0x848c0001), 130, 0x848c0001, 2, 3, 1, 1024, wSeqr 0x848c0001, wZmAt (wZmImage 0x848c0001) (by decide +kernel), by decide +kernel⟩

theorem w_ZmComputesAndMovesData_7 : ∃ (s : State) (i : Nat) (w : Nat) (rd : Nat) (ra : Nat) (imm : Nat) (n : Nat) (q : Sequencer),
      ZmAt s i w q ∧
      n = (BitVec.ofNat 32 (q.reg ra) + (BitVec.ofNat 18 imm).signExtend 32).toNat ∧
      wordIs w 0x22 (fieldsI rd ra imm) = true ∧
      n < 4096 :=
  ⟨wZm (wSeqr 0x8893ffff), 130, 0x8893ffff, 2, 4, 262143, 4095, wSeqr 0x8893ffff, wZmAt (wZmImage 0x8893ffff) (by decide +kernel), by decide +kernel⟩

theorem w_ZmComputesAndMovesData_8 : ∃ (s : State) (i : Nat) (w : Nat) (rd : Nat) (ra : Nat) (imm : Nat) (n : Nat) (q : Sequencer),
      ZmAt s i w q ∧
      n = (BitVec.ofNat 32 (q.reg ra) + (BitVec.ofNat 18 imm).signExtend 32).toNat ∧
      wordIs w 0x23 (fieldsI rd ra imm) = true ∧
      n < 4096 :=
  ⟨wZm (wSeqr 0x8c93ffff), 130, 0x8c93ffff, 2, 4, 262143, 4095, wSeqr 0x8c93ffff, wZmAt (wZmImage 0x8c93ffff) (by decide +kernel), by decide +kernel⟩

theorem w_ZmComputesAndMovesData_9 : ∃ (s : State) (i : Nat) (w : Nat) (rd : Nat) (ra : Nat) (imm : Nat) (n : Nat) (v : Nat) (q : Sequencer),
      ZmAt s i w q ∧
      n = (BitVec.ofNat 32 (q.reg ra) + (BitVec.ofNat 18 imm).signExtend 32).toNat ∧
      wordIs w 0x24 (fieldsI rd ra imm) = true ∧
      (agetD q.views (imm / 2 ^ 14) [])[(q.reg ra + imm % 2 ^ 14) % 2 ^ 32]? = some v :=
  ⟨wZm (wSeqr 0x90848003), 130, 0x90848003, 2, 1, 32771, 32770, 9, wSeqr 0x90848003, wZmAt (wZmImage 0x90848003) (by decide +kernel), by decide +kernel⟩

theorem w_ZmComputesAndMovesData_10 : ∃ (s : State) (i : Nat) (w : Nat) (rd : Nat) (ra : Nat) (imm : Nat) (n : Nat) (q : Sequencer),
      ZmAt s i w q ∧
      n = (BitVec.ofNat 32 (q.reg ra) + (BitVec.ofNat 18 imm).signExtend 32).toNat ∧
      wordIs w 0x24 (fieldsI rd ra imm) = true ∧
      (agetD q.views (imm / 2 ^ 14) [])[(q.reg ra + imm % 2 ^ 14) % 2 ^ 32]? = none :=
  ⟨wZm (wSeqr 0x90888003), 130, 0x90888003, 2, 2, 32771, 32804, wSeqr 0x90888003, wZmAt (wZmImage 0x90888003) (by decide +kernel), by decide +kernel⟩

theorem w_ZmComputesAndMovesData_11 : ∃ (s : State) (i : Nat) (w : Nat) (rd : Nat) (ra : Nat) (imm : Nat) (n : Nat) (q : Sequencer),
      ZmAt s i w q ∧
      n = (BitVec.ofNat 32 (q.reg ra) + (BitVec.ofNat 18 imm).signExtend 32).toNat ∧
      wordIs w 0x28 (fieldsI rd ra imm) = true ∧
      (countBy (fun p => p.1 == imm % 16) q.pushes < zmRoom (seqrPlace i) (imm % 16)) :=
  ⟨wZm (wSeqr 0xa08c0010), 130, 0xa08c0010, 2, 3, 16, 1039, wSeqr 0xa08c0010, wZmAt (wZmImage 0xa08c0010) (by decide +kernel), by decide +kernel⟩

theorem w_ZmComputesAndMovesData_12 : ∃ (s : State) (i : Nat) (w : Nat) (rd : Nat) (ra : Nat) (imm : Nat) (n : Nat) (q : Sequencer),
      ZmAt s i w q ∧
      n = (BitVec.ofNat 32 (q.reg ra) + (BitVec.ofNat 18 imm).signExtend 32).toNat ∧
      wordIs w 0x28 (fieldsI rd ra imm) = true ∧
      (zmRoom (seqrPlace i) (imm % 16) ≤ countBy (fun p => p.1 == imm % 16) q.pushes) :=
  ⟨wZm ({ wSeqr 0xa08c0000 with pushes := List.replicate 128 (0, 1) }), 130, 0xa08c0000, 2, 3, 0, 1023, { wSeqr 0xa08c0000 with pushes := List.replicate 128 (0, 1) }, wZmAt (wZmImage 0xa08c0000) (by decide +kernel), by decide +kernel⟩

theorem w_ZmComputesAndMovesData_13 : ∃ (s : State) (i : Nat) (w : Nat) (rd : Nat) (ra : Nat) (imm : Nat) (n : Nat) (v : Nat) (q : Sequencer) (rest : List Nat),
      ZmAt s i w q ∧
      n = (BitVec.ofNat 32 (q.reg ra) + (BitVec.ofNat 18 imm).signExtend 32).toNat ∧
      wordIs w 0x29 [(25, 22, rd), (17, 0, imm)] = true ∧
      agetD q.inputs (imm % 16) [] = v :: rest :=
  ⟨wZm (wSeqr 0xa4800010), 130, 0xa4800010, 2, 0, 16, 16, 6, wSeqr 0xa4800010, [5], wZmAt (wZmImage 0xa4800010) (by decide +kernel), by decide +kernel⟩

theorem w_ZmComputesAndMovesData_14 : ∃ (s : State) (i : Nat) (w : Nat) (rd : Nat) (ra : Nat) (imm : Nat) (n : Nat) (q : Sequencer),
      ZmAt s i w q ∧
      n = (BitVec.ofNat 32 (q.reg ra) + (BitVec.ofNat 18 imm).signExtend 32).toNat ∧
      wordIs w 0x29 [(25, 22, rd), (17, 0, imm)] = true ∧
      agetD q.inputs (imm % 16) [] = [] :=
  ⟨wZm (wSeqr 0xa480000f), 130, 0xa480000f, 2, 0, 15, 15, wSeqr 0xa480000f, wZmAt (wZmImage 0xa480000f) (by decide +kernel), by decide +kernel⟩

theorem w_ZmComputesAndMovesData_15 : ∃ (s : State) (i : Nat) (w : Nat) (rd : Nat) (ra : Nat) (imm : Nat) (n : Nat) (q : Sequencer),
      ZmAt s i w q ∧
      n = (BitVec.ofNat 32 (q.reg ra) + (BitVec.ofNat 18 imm).signExtend 32).toNat ∧
      wordIs w 0x2a [(25, 22, rd), (17, 0, imm)] = true :=
  ⟨wZm (wSeqr 0xa8800010), 130, 0xa8800010, 2, 0, 16, 16, wSeqr 0xa8800010, wZmAt (wZmImage 0xa8800010) (by decide +kernel), by decide +kernel⟩

theorem w_ZmComputesAndMovesData_16 : ∃ (s : State) (i : Nat) (w : Nat) (rd : Nat) (ra : Nat) (imm : Nat) (n : Nat) (q : Sequencer),
      ZmAt s i w q ∧
      n = (BitVec.ofNat 32 (q.reg ra) + (BitVec.ofNat 18 imm).signExtend 32).toNat ∧
      wordIs w 0x2c [(25, 22, rd), (17, 0, imm)] = true ∧
      imm = 0 :=
  ⟨wZm (wSeqr 0xb0800000), 130, 0xb0800000, 2, 0, 0, 0, wSeqr 0xb0800000, wZmAt (wZmImage 0xb0800000) (by decide +kernel), by decide +kernel⟩

theorem w_ZmComputesAndMovesData_17 : ∃ (s : State) (i : Nat) (w : Nat) (rd : Nat) (ra : Nat) (imm : Nat) (n : Nat) (q : Sequencer),
      ZmAt s i w q ∧
      n = (BitVec.ofNat 32 (q.reg ra) + (BitVec.ofNat 18 imm).signExtend 32).toNat ∧
      wordIs w 0x2c [(25, 22, rd), (17, 0, imm)] = true ∧
      imm = 1 :=
  ⟨wZm (wSeqr 0xb0800001), 130, 0xb0800001, 2, 0, 1, 1, wSeqr 0xb0800001, wZmAt (wZmImage 0xb0800001) (by decide +kernel), by decide +kernel⟩

theorem w_ZmComputesAndMovesData_18 : ∃ (s : State) (i : Nat) (w : Nat) (ra : Nat) (imm : Nat) (n : Nat) (q : Sequencer),
      ZmAt s i w q ∧
      n = (BitVec.ofNat 32 (q.reg ra) + (BitVec.ofNat 18 imm).signExtend 32).toNat ∧
      wordIs w 0x2d [(21, 18, ra), (17, 0, imm)] = true :=
  ⟨wZm (wSeqr 0xb40fffff), 130, 0xb40fffff, 3, 262143, 1022, wSeqr 0xb40fffff, wZmAt (wZmImage 0xb40fffff) (by decide +kernel), by decide +kernel⟩

theorem w_ZmComputesAndMovesData_19 : ∃ (s : State) (i : Nat) (w : Nat) (ra : Nat) (imm : Nat) (n : Nat) (q : Sequencer),
      ZmAt s i w q ∧
      n = (BitVec.ofNat 32 (q.reg ra) + (BitVec.ofNat 18 imm).signExtend 32).toNat ∧
      wordIs w 0x38 [(21, 18, ra), (17, 0, imm)] = true :=
  ⟨wZm (wSeqr 0xe00fffff), 130, 0xe00fffff, 3, 262143, 1022, wSeqr 0xe00fffff, wZmAt (wZmImage 0xe00fffff) (by decide +kernel), by decide +kernel⟩

theorem w_ZmControlAndRuns_0 : ∃ (s : State) (i : Nat) (w : Nat) (ra : Nat) (rb : Nat) (off : Nat) (q : Sequencer) (a : BitVec 32) (b : BitVec 32) (op : ZmIssue → Nat → Nat → Nat → Nat → Instr) (code : Nat) (taken : Bool),
      ZmAt s i w q ∧
      a = .ofNat 32 (q.reg ra) ∧
      b = .ofNat 32 (q.reg rb) ∧
      (op, code, taken) ∈ [(Instr.zmBeq, 0x30, a == b), (Instr.zmBne, 0x31, a != b), (Instr.zmBltu, 0x32, a.ult b), (Instr.zmBgeu, 0x33, b.ule a), (Instr.zmBlt, 0x34, a.slt b), (Instr.zmBge, 0x35, b.sle a)] ∧
      wordIs w code (fieldsB ra rb off) = true :=
  ⟨wZm (wSeqr 0xc04bffff), 130, 0xc04bffff, 1, 2, 262143, wSeqr 0xc04bffff, BitVec.ofNat 32 ((wSeqr 0).reg 1), BitVec.ofNat 32 ((wSeqr 0).reg 2), Instr.zmBeq, 0x30, (BitVec.ofNat 32 ((wSeqr 0).reg 1) == BitVec.ofNat 32 ((wSeqr 0).reg 2)), wZmAt (wZmImage 0xc04bffff) (by decide +kernel), rfl, rfl, List.mem_cons_self .., by decide⟩

theorem w_ZmControlAndRuns_1 : ∃ (s : State) (i : Nat) (w : Nat) (ra : Nat) (rb : Nat) (off : Nat) (q : Sequencer) (a : BitVec 32) (b : BitVec 32),
      ZmAt s i w q ∧
      a = .ofNat 32 (q.reg ra) ∧
      b = .ofNat 32 (q.reg rb) ∧
      wordIs w 0x36 [(25, 0, off)] = true :=
  ⟨wZm (wSeqr 0xdbffffff), 130, 0xdbffffff, 1, 2, 67108863, wSeqr 0xdbffffff, BitVec.ofNat 32 ((wSeqr 0).reg 1), BitVec.ofNat 32 ((wSeqr 0).reg 2), wZmAt (wZmImage 0xdbffffff) (by decide +kernel), rfl, rfl, by decide⟩

theorem w_ZmControlAndRuns_2 : ∃ (s : State) (i : Nat) (w : Nat) (ra : Nat) (rb : Nat) (q : Sequencer) (a : BitVec 32) (b : BitVec 32),
      ZmAt s i w q ∧
      a = .ofNat 32 (q.reg ra) ∧
      b = .ofNat 32 (q.reg rb) ∧
      wordIs w 0x37 [(21, 18, ra)] = true :=
  ⟨wZm (wSeqr 0xdc040000), 130, 0xdc040000, 1, 2, wSeqr 0xdc040000, BitVec.ofNat 32 ((wSeqr 0).reg 1), BitVec.ofNat 32 ((wSeqr 0).reg 2), wZmAt (wZmImage 0xdc040000) (by decide +kernel), rfl, rfl, by decide⟩

theorem w_ZmControlAndRuns_3 : ∃ (s : State) (i : Nat) (w : Nat) (ra : Nat) (rb : Nat) (q : Sequencer) (a : BitVec 32) (b : BitVec 32),
      ZmAt s i w q ∧
      a = .ofNat 32 (q.reg ra) ∧
      b = .ofNat 32 (q.reg rb) ∧
      wordIs w 0x3e [] = true :=
  ⟨wZm (wSeqr 0xf8000000), 130, 0xf8000000, 1, 2, wSeqr 0xf8000000, BitVec.ofNat 32 ((wSeqr 0).reg 1), BitVec.ofNat 32 ((wSeqr 0).reg 2), wZmAt (wZmImage 0xf8000000) (by decide +kernel), rfl, rfl, by decide⟩

theorem w_ZmControlAndRuns_4 : ∃ (s : State) (i : Nat) (w : Nat) (ra : Nat) (rb : Nat) (imm : Nat) (q : Sequencer) (a : BitVec 32) (b : BitVec 32),
      ZmAt s i w q ∧
      a = .ofNat 32 (q.reg ra) ∧
      b = .ofNat 32 (q.reg rb) ∧
      wordIs w 0x3f [(17, 0, imm)] = true :=
  ⟨wZm (wSeqr 0xfc03ffff), 130, 0xfc03ffff, 1, 2, 262143, wSeqr 0xfc03ffff, BitVec.ofNat 32 ((wSeqr 0).reg 1), BitVec.ofNat 32 ((wSeqr 0).reg 2), wZmAt (wZmImage 0xfc03ffff) (by decide +kernel), rfl, rfl, by decide⟩

theorem w_ZmControlAndRuns_5 : ∃ (s : State) (i : Nat) (w : Nat) (ra : Nat) (rb : Nat) (imm : Nat) (q : Sequencer) (a : BitVec 32) (b : BitVec 32),
      ZmAt s i w q ∧
      a = .ofNat 32 (q.reg ra) ∧
      b = .ofNat 32 (q.reg rb) ∧
      wordIs w 0x3f [(17, 0, imm)] = true :=
  ⟨wZm (wSeqr 0xfc03ffff), 130, 0xfc03ffff, 1, 2, 262143, wSeqr 0xfc03ffff, BitVec.ofNat 32 ((wSeqr 0).reg 1), BitVec.ofNat 32 ((wSeqr 0).reg 2), wZmAt (wZmImage 0xfc03ffff) (by decide +kernel), rfl, rfl, by decide⟩

theorem w_ZmControlAndRuns_6 : ∃ (s : State) (i : Nat) (q : Sequencer) (z : ZmImage),
      seqrExists s.cds i = true ∧
      s.seqr i = q ∧
      q.running = true ∧
      q.image = some z ∧
      z.code[q.pc]? = none :=
  ⟨wZm ({ wSeqr 0 with pc := 2 }), 130, { wSeqr 0 with pc := 2 }, wZmImage 0x0, by decide +kernel⟩

theorem w_ZmControlAndRuns_7 : ∃ (s : State) (i : Nat) (w : Nat) (q : Sequencer) (z : ZmImage),
      seqrExists s.cds i = true ∧
      s.seqr i = q ∧
      q.running = true ∧
      q.image = some z ∧
      z.code[q.pc]? = some w ∧
      z.limit ≤ q.count :=
  ⟨wZm ({ wSeqr 0xf8000000 with count := 4 }), 130, 0xf8000000, { wSeqr 0xf8000000 with count := 4 }, wZmImage 0xf8000000, by decide +kernel⟩

theorem w_ZmControlAndRuns_8 : ∃ (s : State) (i : Nat) (w : Nat) (q : Sequencer) (z : ZmImage),
      seqrExists s.cds i = true ∧
      s.seqr i = q ∧
      q.running = true ∧
      q.image = some z ∧
      z.code[q.pc]? = some w ∧
      q.count < z.limit ∧
      zmIllegal z.place w = true :=
  ⟨wZm (wSeqr 0), 130, 0x0, wSeqr 0, wZmImage 0x0, by decide +kernel⟩

theorem w_ZmControlAndRuns_9 : ∃ (s : State) (i : Nat) (w : Nat) (imm : Nat) (q : Sequencer) (z : ZmImage) (r : ZmStart),
      seqrExists s.cds i = true ∧
      s.seqr i = q ∧
      q.running = false ∧
      seqrPlace i = z.place ∧
      z.place ≠ .powerLoop ∧
      aget s.programs r.prog = some z ∧
      s.seqrServes i r = true ∧
      z.code[z.entry]? = some w ∧
      0 < z.limit ∧
      zmIllegal z.place w = false ∧
      wordIs w 0x10 (fieldsI 1 0 imm) = true :=
  ⟨{ wMem State.reset with programs := [(4, { wZmImage 0x4043ffff with place := .wakeFilter })] }, 16 * 0 + 1, 0x4043ffff, 262143, Sequencer.reset, { wZmImage 0x4043ffff with place := .wakeFilter }, ⟨4, none, 0, [(0, [1, 2])], []⟩, by decide +kernel⟩

theorem w_StepTakesTheFrontCommand_0 : ∃ (s : State) (c : Instr) (rest : List Instr), s.pending = c :: rest :=
  ⟨{ State.reset with pending := [.s1Resume 0, .zwHalt (zwOne 3) 0] }, .s1Resume 0, [.zwHalt (zwOne 3) 0], rfl⟩

theorem w_StepTakesTheFrontCommand_1 : ∃ s : State, s.pending = [] := ⟨wHost, rfl⟩

theorem w_ResetLeavesItsValues_5 : ∃ d ∈ regTable, ∃ n, (d.only0 = true → n = 0) ∧ n < 64 ∧ d.blk < 64 ∧ d.off < 2 ^ 16 :=
  ⟨⟨6, 0, true, 0, 4294901763, 0, 39321603⟩, by decide +kernel, 0, by decide⟩

theorem w_ResetLeavesItsValues_11 : ∃ addr, addr / 2 ^ 22 ≠ 0x1a ∧ addr ≠ pcs 0 0 8 := ⟨pcs 0 0 16, by decide⟩

theorem w_WellFormedCommandsComplete_1 : ∃ (c : Instr) (s : State), c.wellFormed = true ∧ s.cds = 16 :=
  ⟨.errorDetect 3 31 0x1f 63 0xffff 7 5, State.reset, by decide +kernel⟩

theorem w_StepsKeepTheStateSound_0 : ∃ s s' : State, Sound s ∧ step s = .next s' :=
  ⟨wSound, ({ wSound with pending := [] }).stamp 9, by unfold Sound; decide +kernel, by rfl⟩

theorem w_DecodingUndoesEncoding_0 : ∃ bs : List Byte, bs.length ≤ 2 ^ 38 := ⟨[1, 2, 3], by decide⟩

theorem w_BlocksTakeTheSmallestCoding_0 : ∃ x : List Byte, x.length = 4096 := ⟨List.replicate 4096 1, List.length_replicate ..⟩

theorem w_AbsentRegistersReadZero_0 : ∃ (s : State) (addr fn : Nat), regAt s.cds addr = none ∧ fn < 128 :=
  ⟨State.reset, pcs 5 0 8184, 127, by decide +kernel⟩

theorem w_AbsentRegistersReadZero_1 : ∃ (s : State) (off : Nat), s.cds = 15 ∧ off < 2 ^ 16 :=
  ⟨{ State.reset with regs := [(pcs 0 0 8, 15 * 2 ^ 16)] }, 65535, by decide +kernel⟩

theorem w_TransactedRegistersReadTheirShadow_0 : ∃ (s : State) (port addr : Nat) (d : RegDesc) (x : CtTxn) (v : Nat) (o : Option Nat),
      regAt s.cds addr = some d ∧ d.ct ≠ 0 ∧ s.boot.ready = true ∧ bitOf (s.selOf port (pcs 0x1b 0 0x50)) 0 = false ∧
      s.txn (s.readScope port addr) = some x ∧ (x.state = 1 ∨ x.state = 2) ∧ aget x.shadows (s.stageKey port addr) = some (v, o) :=
  ⟨wWithTxn { wTxn .package with shadows := [(pcs 6 0 0, 7, none)] }, 1, pcs 6 0 0, ⟨6, 0, true, 0, 4294901763, 0, 39321603⟩,
    { wTxn .package with shadows := [(pcs 6 0 0, 7, none)] }, 7, none, by decide +kernel⟩

theorem w_TransactedRegistersReadTheirShadow_1 : ∃ (s : State) (port addr : Nat) (d : RegDesc), regAt s.cds addr = some d ∧ d.ct ≠ 0 ∧ s.boot.ready = true ∧
      ∀ x, s.txn (s.readScope port addr) = some x → (x.state = 1 ∨ x.state = 2) → aget x.shadows (s.stageKey port addr) = none :=
  ⟨wReadyBoot, 1, pcs 6 0 0, ⟨6, 0, true, 0, 4294901763, 0, 39321603⟩, by decide +kernel, by decide +kernel, by decide +kernel,
    fun x h => by cases h⟩

theorem w_TransactedRegistersReadTheirShadow_2 : ∃ (s : State) (port addr : Nat) (d : RegDesc), regAt s.cds addr = some d ∧ d.ct ≠ 0 ∧ s.boot.ready = true ∧
      bitOf (s.selOf port (pcs 0x1b 0 0x50)) 0 = true :=
  ⟨{ wReadyBoot with sels := [(2 ^ 28 + pcs 0x1b 0 0x50, 1)] }, 1, pcs 6 0 0, ⟨6, 0, true, 0, 4294901763, 0, 39321603⟩, by decide +kernel⟩

theorem w_CommandsOfOneUnitLeaveTheRest_0 : ∃ s s' : State, exec (.dqTailWrite 1 0 63 5) s = .next s' :=
  ⟨wHost, _, rfl⟩

theorem w_CommandsOfSeveralUnitsLeaveTheRest_0 : ∃ s s' : State, exec (.driveDown 1 5) s = .next s' :=
  ⟨wDurable, _, rfl⟩

theorem w_CommandsThatReachFarLeaveTheRest_0 : ∃ s s' : State, exec (.egressSelect 0 5) s = .next s' :=
  ⟨State.reset, _, rfl⟩

end Sys2Proof.Tests
end

namespace Sys2Proof.Machine

/-! ### Addresses of Package Control Space (R8) -/

theorem pcs_blk {blk inst off : Nat} (hi : inst < 64) (ho : off < 2 ^ 16) : pcs blk inst off / 2 ^ 22 = blk := by
  unfold pcs; omega

theorem pcs_inst {blk inst off : Nat} (hi : inst < 64) (ho : off < 2 ^ 16) : pcs blk inst off / 2 ^ 16 % 64 = inst := by
  unfold pcs; omega

theorem pcs_off {blk inst off : Nat} (ho : off < 2 ^ 16) : pcs blk inst off % 2 ^ 16 = off := by
  unfold pcs; omega

theorem regAt_pcs_absent {cds blk inst off : Nat} (hi : inst < 64) (ho : off < 2 ^ 16)
    (h : instExists cds blk inst = false) : regAt cds (pcs blk inst off) = none := by
  unfold regAt
  rw [pcs_blk hi ho, pcs_inst hi ho]
  exact if_neg (by simp [h])

/-! ### Registers that the part does not have (R4, R11) -/

theorem State.pcsRead_absent {s : State} {addr : Nat} (port : Nat) (h : regAt s.cds addr = none) :
    s.pcsRead port addr = 0 := by
  simp [State.pcsRead, h]

theorem State.pcsWrite_absent {s : State} {addr : Nat} (port v : Nat) (h : regAt s.cds addr = none) :
    s.pcsWrite port addr v = s := by
  simp [State.pcsWrite, h]

@[simp] theorem State.stamp_cds (s : State) (t : Nat) : (s.stamp t).cds = s.cds := rfl

/-- A die beyond the fitted compute dies has no island (R4). -/
theorem State.island_absent {s : State} {die : Nat} (hd : die < 16) (h : s.cds ≤ die) (i : Nat) : s.island die i = none := by
  simp [State.island, hd, h]

theorem execRegisterWrite_bar0 {s : State} {fn : Nat} (hf : fn < 128) (addr bytes v t : Nat) :
    exec (.registerWrite fn false addr bytes v t) s =
      .next (if isPf fn ∧ bytes = 8 ∧ addr % 8 = 0 then (s.stamp t).pcsWrite (fn / 64) addr v else s.stamp t) := by
  simp [exec, execRegisterWrite, fnExists, hf]

/-- Settles O56: a register write reaches `pcsWrite`, which an address without a register leaves at once, and the
instances named are beyond the compute dies of OV32-FD-768. -/
theorem absentRegistersReadZero : Obligations.AbsentRegistersReadZero := by
  unfold Obligations.AbsentRegistersReadZero
  constructor
  · intro s port addr h
    refine ⟨State.pcsRead_absent port h, fun fn bytes v t hf => ?_⟩
    rw [execRegisterWrite_bar0 hf, State.pcsWrite_absent _ _ (by simpa using h), ite_self]
  · intro s off hc ho
    rw [hc]
    refine ⟨fun blk hb => regAt_pcs_absent (by decide) ho ?_, regAt_pcs_absent (by decide) ho (by decide),
      State.island_absent (by decide) hc.le⟩
    fin_cases hb <;> decide

end Sys2Proof.Machine

namespace Sys2Proof.Machine

/-! ### What a stop leaves (R539 to R543) -/

/-- A stop of every island leaves the package halted and empty, with the error log, the journal and the store as they
were, and the pins of the boot state. -/
theorem State.resetNow_keeps (s : State) :
    s.resetNow.boot = { s.boot.kept with halted := true, pkgPgood := false } ∧ s.resetNow.sessions = [] ∧
      s.resetNow.mem = [] ∧ s.resetNow.errLog = s.errLog ∧ s.resetNow.power.journal = s.power.journal ∧
      s.resetNow.checkpoint.images = s.checkpoint.images :=
  ⟨rfl, rfl, rfl, rfl, rfl, rfl⟩

/-- The release of THERMTRIP_N changes that pin and nothing else. -/
theorem State.thermRelease_frame (s : State) :
    ∃ p, s.thermRelease = { s with boot := { s.boot with thermtripN := p } } := by
  unfold State.thermRelease
  split <;> exact ⟨_, rfl⟩

/-- RESET_N low with no drain stops every island (R539). -/
theorem State.resetLow_stops {s : State} (h : s.draining = false) :
    s.resetLow = (s.putBoot { s.boot with resetN := false }).resetNow.thermRelease :=
  if_neg (by simpa [State.draining] using h)

/-- RESET_N low in a drain is held: only the pin falls (R540). -/
theorem State.resetLow_draining {s : State} (h : s.draining = true) :
    s.resetLow = s.putBoot { s.boot with resetN := false } :=
  if_pos (by simpa [State.draining] using h)

theorem State.pwrgdLow_stops {s : State} (h : s.draining = false) :
    s.pwrgdLow = (s.putBoot { s.boot with pwrgd := false }).resetNow :=
  if_neg (by simpa [State.draining] using h)

theorem State.pwrgdLow_draining {s : State} (h : s.draining = true) :
    s.pwrgdLow = s.putBoot { s.boot with pwrgd := false } :=
  if_pos (by simpa [State.draining] using h)

/-- The scrub changes the mode and the journal, and nothing else (R442). -/
theorem State.scrub_frame (s : State) :
    ∃ x j, s.scrub = { s with security := x, power := { s.power with journal := j } } := by
  unfold State.scrub
  split <;> exact ⟨_, _, rfl⟩

/-- Logging the causes of a stop changes registers, flags, the log and what waits at the event function. -/
theorem State.logCauses_frame (causes : List (Nat × Nat)) (s : State) :
    ∃ r a e h, causes.foldl (fun s c => s.logError 3 c.2 0x1e 0 c.1 c.2) s =
      { s with regs := r, flagSets := a, errLog := e, fns := h } := by
  induction causes generalizing s with
  | nil => exact ⟨_, _, _, _, rfl⟩
  | cons c cs ih =>
    obtain ⟨r, a, e, h, hc⟩ := s.logError_frame 3 c.2 0x1e 0 c.1 c.2
    obtain ⟨r', a', e', h', hcs⟩ := ih (s.logError 3 c.2 0x1e 0 c.1 c.2)
    exact ⟨r', a', e', h', by rw [List.foldl_cons, hcs, hc]⟩

/-- The boot state that bring-up starts from, with both pins high (R538). -/
def Boot.started (b : Boot) (railsOk : Bool) : Boot :=
  { b with
    pwrgd := true, resetN := true, pfAlertN := true, vinOut := false, causes := [], phase := 0
    halted := !railsOk || !b.thermtripN, uart := if railsOk then 0 else 0xe0, pkgPgood := false }

/-- Both pins high, with no drain: the causes of the stop are logged from a state at PT 0 with the boot state of bring-up,
the BOOT count one higher (R14, R538). -/
theorem State.pwrgdHigh_eq {s : State} (railsOk : Bool) (hd : s.draining = false)
    (hp : (s.boot.pwrgd && s.boot.resetN) = false) :
    ∃ u : State, u.pt = 0 ∧ u.boot = s.boot.started railsOk ∧ u.power.boot = (s.power.boot + 1) % 2 ^ 32 ∧
      s.pwrgdHigh railsOk =
        (let v := s.boot.causes.foldl (fun s c => s.logError 3 c.2 0x1e 0 c.1 c.2) u
         (if railsOk then v else v.emit (.uart 0xe0)).scrub) := by
  have hd' : ¬ (s.putBoot { s.boot with pwrgd := true, resetN := true }).draining = true := by
    simpa [State.draining] using hd
  unfold State.pwrgdHigh
  rw [if_neg (by simp [hp])]
  exact ⟨_, rfl, rfl, rfl, if_neg hd'⟩

/-- Logging, the UART code and the scrub leave PT, the boot state and the BOOT count alone. -/
theorem State.pwrgdHigh_starts {s : State} (railsOk : Bool) (hd : s.draining = false)
    (hp : (s.boot.pwrgd && s.boot.resetN) = false) :
    (s.pwrgdHigh railsOk).pt = 0 ∧ (s.pwrgdHigh railsOk).boot = s.boot.started railsOk ∧
      (s.pwrgdHigh railsOk).power.boot = (s.power.boot + 1) % 2 ^ 32 := by
  obtain ⟨u, hpt, hb, hc, hs⟩ := State.pwrgdHigh_eq railsOk hd hp
  obtain ⟨r, a, e, h, hl⟩ := State.logCauses_frame s.boot.causes u
  simp only [hs, hl]
  generalize hv : ite (railsOk = true) _ _ = v
  obtain ⟨x, j, hsc⟩ := State.scrub_frame v
  rw [hsc, ← hpt, ← hb, ← hc, ← hv]
  cases railsOk <;> exact ⟨rfl, rfl, rfl⟩

/-- Settles O37: a stop is `stopped` with the pins its event moves (`resetNow_keeps`), a drain holds it, and with both
pins high the state is `Boot.started`. -/
theorem stopsLeaveWhatSurvives : Obligations.StopsLeaveWhatSurvives := by
  unfold Obligations.StopsLeaveWhatSurvives
  intro s railsOk t
  refine ⟨fun hd => ⟨⟨_, rfl, ?_⟩, ⟨_, rfl, ?_⟩, fun hp => ⟨_, rfl, ?_⟩⟩, fun hd => ⟨⟨_, rfl, ?_⟩, ⟨_, rfl, ?_⟩⟩,
    ⟨_, rfl, ?_⟩, ⟨_, rfl, ?_⟩⟩
  · have h := State.resetLow_stops (s := s.stamp t) hd
    obtain ⟨p, hp⟩ := State.thermRelease_frame ((s.stamp t).putBoot { s.boot with resetN := false }).resetNow
    exact (h.trans hp) ▸ ⟨rfl, rfl, rfl, rfl, rfl, rfl, rfl, rfl⟩
  · exact State.pwrgdLow_stops (s := s.stamp t) hd ▸ ⟨rfl, rfl, rfl, rfl, rfl, rfl, rfl, rfl⟩
  · obtain ⟨hpt, hb, hc⟩ := State.pwrgdHigh_starts railsOk hd hp
    exact ⟨hpt, by rw [hb]; rfl, by rw [hb]; rfl, by rw [hb]; rfl, by rw [hb]; rfl, by rw [hb]; rfl, hc⟩
  · exact State.resetLow_draining (s := s.stamp t) hd ▸ ⟨rfl, rfl⟩
  · exact State.pwrgdLow_draining (s := s.stamp t) hd ▸ ⟨rfl, rfl⟩
  · obtain ⟨p, h⟩ := State.thermRelease_frame ((s.stamp t).resetNow.putBoot { (s.stamp t).resetNow.boot with vinOut := true })
    unfold State.vinLoss
    rw [h]
    exact ⟨rfl, rfl, rfl, rfl, rfl⟩
  · exact ⟨rfl, rfl, rfl, rfl⟩

end Sys2Proof.Machine

namespace Sys2Proof.Machine

/-! ### Bits and fields -/

theorem bitOf_two_pow (i j : Nat) : bitOf (2 ^ i) j = decide (j = i) := by
  unfold bitOf
  rcases lt_trichotomy j i with h | rfl | h
  · obtain ⟨d, rfl⟩ : ∃ d, i = j + (d + 1) := ⟨i - j - 1, by omega⟩
    rw [pow_add, Nat.mul_div_cancel_left _ (by positivity), pow_succ, Nat.mul_mod_left]
    simp
  · rw [Nat.div_self (by positivity)]
    simp
  · rw [Nat.div_eq_of_lt (Nat.pow_lt_pow_right (by norm_num) h)]
    have : j ≠ i := by omega
    simp [this]

theorem bitOf_zero (v : Nat) : bitOf v 0 = (v % 2 == 1) := by simp [bitOf]

/-- A clear of the high word reads 0 there. -/
theorem fld_setFld_high (v : Nat) : fld (setFld v 63 32 0) 63 32 = 0 := by
  simp only [fld, setFld]; omega

/-- A clear of the high word leaves the low word. -/
theorem fld_setFld_low (v : Nat) : fld (setFld v 63 32 0) 31 0 = fld v 31 0 := by
  simp only [fld, setFld]; omega

/-- The filter of a range by one of its members is that member. -/
theorem filter_range_eq {n i : Nat} (h : i < n) (p : Nat → Bool) (hp : p i = true) :
    ((List.range n).filter fun j => p j && decide (j = i)) = [i] := by
  have hsplit : ((List.range n).filter fun j => p j && decide (j = i)) = (List.range n).filter (· == i) :=
    List.filter_congr fun j _ => by by_cases hj : j = i <;> simp [hj, hp]
  rw [hsplit, List.filter_beq, List.count_eq_one_of_mem List.nodup_range (List.mem_range.2 h)]
  rfl

/-! ### Registers -/

theorem State.cds_setReg (s : State) {a : Nat} (v : Nat) (h : pcs 0 0 8 ≠ a) : (s.setReg a v).cds = s.cds := by
  simp [State.cds, State.regFld, State.reg_setReg_other s v h]

/-- A clear that no later set overtakes writes the flag's bit to 0 (R514). -/
theorem State.clearFlag_reg {s : State} {addr i : Nat} (h : (aget s.flagSets (flagKey addr i)).any (s.now ≤ ·) = false) :
    (s.clearFlag addr i).reg addr = setFld (s.reg addr) i i 0 := by
  unfold State.clearFlag
  rw [if_neg (by simpa using h), State.reg_setReg]
  rfl

/-- A write of one flag's bit clears that flag (R12). -/
theorem State.writeFlags_one {s : State} {addr i : Nat} {d : RegDesc} (h : regAt s.cds addr = some d)
    (hr : s.served d.blk = true) (hi : i < 64) (hw : bitOf d.w1c i = true) :
    s.writeFlags addr (2 ^ i) = s.clearFlag addr i := by
  simp [State.writeFlags, h, hr, bitOf_two_pow, filter_range_eq hi _ hw]

/-- A conditional clear of a flag compares the count that the register above holds: it clears the flag where they match,
and the answer holds the count read (R515). -/
theorem State.clearIfCount_flag {s : State} {fn v addr i : Nat} {d : RegDesc} (hv : bitOf v 63 = true)
    (ha : addr = fld v 27 0) (hi : i = fld v 37 32) (h : regAt s.cds addr = some d) (hw : bitOf d.w1c i = true)
    (h1 : addr ≠ pcs 0x1d 0 0x38) (h2 : addr + 8 ≠ pcs 0x1d 0 0x38) :
    let count := fld (s.reg (addr + 8)) (8 * i + 7) (8 * i)
    (s.clearIfCount fn v).reg addr = (if count = fld v 47 40 then setFld (s.reg addr) i i 0 else s.reg addr) ∧
      aget (s.clearIfCount fn v).obs.cic fn = some (count == fld v 47 40, count, stOk) := by
  intro count
  have hu : regAt (s.setReg (pcs 0x1d 0 0x38) (v &&& 0x8000ff3f0fffffff)).cds addr = some d := by
    rw [State.cds_setReg _ _ (by decide), h]
  have hr := State.reg_setReg_other s (v &&& 0x8000ff3f0fffffff) h1
  have hc := State.reg_setReg_other s (v &&& 0x8000ff3f0fffffff) h2
  unfold State.clearIfCount
  simp only [← ha, ← hi, hv, hu, hw, hc, Bool.not_true, Bool.false_eq_true, if_false, Option.any_some]
  by_cases hh : count = fld v 47 40
  · rw [if_pos hh, if_neg (by simpa [count] using hh)]
    refine ⟨?_, aget_aset_same ..⟩
    exact (State.reg_setReg ..).trans (congrArg (setFld · i i 0) hr)
  · rw [if_neg hh, if_pos (by simpa [count] using hh)]
    exact ⟨hr, aget_aset_same ..⟩

/-- The marks of SES_TIMER restart at 0 and its present value stands (R516). -/
theorem State.hwmClear_timer {s : State} {sd : Nat} (port : Nat) (hs : sd < 12)
    (h : (regAt s.cds (pcs 0x02 sd 0x30)).isSome = true) :
    s.hwmClear port (pcs 0x02 sd 0x30) =
      (s.setReg (pcs 0x1d 0 0x48) (pcs 0x02 sd 0x30)).setRegFld 0x02 sd 0x30 63 32 0 := by
  have ha : fld (pcs 0x02 sd 0x30) 27 0 = pcs 0x02 sd 0x30 := by simp only [fld, pcs]; omega
  have hu : (regAt (s.setReg (pcs 0x1d 0 0x48) (pcs 0x02 sd 0x30)).cds (pcs 0x02 sd 0x30)).isNone = false := by
    rw [State.cds_setReg _ _ (by decide)]
    simpa using h
  unfold State.hwmClear
  simp only [ha, hu, Bool.false_eq_true, if_false, pcs_blk (show sd < 64 by omega) (show 0x30 < 2 ^ 16 by decide),
    pcs_inst (show sd < 64 by omega) (show 0x30 < 2 ^ 16 by decide), pcs_off (show 0x30 < 2 ^ 16 by decide)]

/-- A register with RW bits and no behaviour of its own takes them from the write (R9, R12). -/
theorem State.pcsWrite_plain {s : State} {addr : Nat} {d : RegDesc} (port v : Nat) (h : regAt s.cds addr = some d)
    (hr : s.served d.blk = true) (ho : ownRow d.blk d.off = false) (hs : isSel d.blk d.off = false)
    (hm : ¬ (d.blk = 0x19 ∧ d.off = 0)) (hl : d.blk ≠ 0x0d) (hw : d.rw ≠ 0) :
    s.pcsWrite port addr v = s.setReg addr (maskIn (s.reg addr) v d.rw) := by
  simp only [State.pcsWrite, h, hr, ho, hs, hm, hl, hw, Bool.not_true, Bool.or_self, Bool.false_eq_true, if_false,
    false_and]

theorem isPf_lt {fn : Nat} (h : isPf fn = true) : fn < 128 := by
  simp only [isPf, Bool.or_eq_true, beq_iff_eq] at h; omega

/-! ### PROBE (R505 to R508) -/

/-- A probe of a session's entry that passes its checks copies the entry at its table SD. -/
theorem State.probeCopy_session {s : State} {f : Frame} {slot : Nat} (free : Nat) (ht : f.target = 0x01)
    (ho : f.probeOk = true) (hf : s.findHandle f.handle = some slot)
    (hb : s.bound (s.entry slot).tenant f.function = true) :
    s.probeCopy f free = s.probedSd (tableSd slot) (s.inStep slot) (s.sess slot).image := by
  have hst : sessionTarget 0x01 = true := rfl
  simp [State.probeCopy, hst, hf, hb, ho, State.probeSession, ht]

theorem State.probeCopy_noSession {s : State} {f : Frame} (free : Nat) (ht : f.target = 0x01)
    (hf : s.findHandle f.handle = none) : s.probeCopy f free = .fail stNoSession := by
  have hst : sessionTarget 0x01 = true := rfl
  simp [State.probeCopy, hst, hf, ht]

/-- The state in which a probe takes its copy: two free values are drawn. -/
def State.probing (s : State) : State := s.draw.2.draw.2

/-- What a probe answers. -/
def State.probed (s : State) (f : Frame) : Probed := s.probing.probeCopy f s.draws

/-- A record joins the records that wait at the result queue of a frame. -/
def State.waitRecord (s : State) (f : Frame) (r : Record) : State :=
  let rq := ((s.fn f.function).dq f.queue).rq
  let q := (s.fn f.function).rq rq
  s.putRq f.function rq { q with waiting := q.waiting ++ [(r, false)] }

theorem State.probe_eq (s : State) (f : Frame) :
    s.probe f = (if (s.probed f).status = stOk then s.probing.waitRecord f ((s.probed f).record f s.now)
      else s.probing).complete f (s.probed f).status := rfl

theorem State.waitRecord_frame (s : State) (f : Frame) (r : Record) : ∃ h, s.waitRecord f r = { s with fns := h } := ⟨_, rfl⟩

theorem State.dq_waitRecord (s : State) (f : Frame) (r : Record) :
    ((s.waitRecord f r).fn f.function).dq f.queue = (s.fn f.function).dq f.queue := by
  simp [State.waitRecord, State.putRq, HostFn.dq]

theorem State.rq_waitRecord (s : State) (f : Frame) (r : Record) :
    (((s.waitRecord f r).fn f.function).rq ((s.fn f.function).dq f.queue).rq).waiting =
      ((s.fn f.function).rq ((s.fn f.function).dq f.queue).rq).waiting ++ [(r, false)] := by
  simp [State.waitRecord, State.putRq, HostFn.rq]

/-- A probe changes the free values drawn and what waits at the frame's function. -/
theorem State.probe_frame (s : State) (f : Frame) : ∃ n h, s.probe f = { s with draws := n, fns := h } := by
  rw [State.probe_eq]
  split
  · obtain ⟨h, hc⟩ := State.complete_frame (s.probing.waitRecord f ((s.probed f).record f s.now)) f (s.probed f).status
    exact ⟨_, h, hc⟩
  · obtain ⟨h, hc⟩ := State.complete_frame s.probing f (s.probed f).status
    exact ⟨_, h, hc⟩

/-- A probe that succeeds leaves its copy and then its STATUS waiting at the frame's result queue (R507, R508). -/
theorem State.probe_waits {s : State} {f : Frame} (hq : f.queue < deviceQueue) (h : (s.probed f).status = stOk) :
    (((s.probe f).fn f.function).rq ((s.fn f.function).dq f.queue).rq).waiting =
      ((s.fn f.function).rq ((s.fn f.function).dq f.queue).rq).waiting ++
        [((s.probed f).record f s.now, false), (statusRecord f stOk f.handle (recordBody []), f.notify)] := by
  have hw := State.completeWith_waits (s.probing.waitRecord f ((s.probed f).record f s.now)) f
    (statusRecord f stOk f.handle (recordBody [])) hq
  rw [State.dq_waitRecord] at hw
  rw [State.probe_eq, if_pos h, h]
  exact hw.trans (by rw [State.rq_waitRecord, List.append_assoc]; rfl)

/-- A probe that fails completes with its status and no copy. -/
theorem State.probe_fails {s : State} {f : Frame} (h : (s.probed f).status ≠ stOk) :
    s.probe f = s.probing.complete f (s.probed f).status := by
  rw [State.probe_eq, if_neg h]

/-- A completed frame of a dispatch queue is answered with its status. -/
theorem State.complete_answered (s : State) (f : Frame) (status : Nat) : Answered s (s.complete f status) f status :=
  fun hq => ⟨_, rfl, rfl, rfl, rfl, s.completeWith_waits f _ hq⟩

/-- Settles O43, a lemma for each command: `writeFlags_one`, `clearIfCount_flag`, `hwmClear_timer`, `pcsWrite_plain`, and
`probe_waits` or `probe_fails` for a probe. -/
theorem registersFlagsAndProbes : Obligations.RegistersFlagsAndProbes := by
  unfold Obligations.RegistersFlagsAndProbes
  intro s fn port addr v i slot sd t d f e
  refine ⟨fun h hr hi hw hs => ⟨_, rfl, ?_⟩, fun hp hv ha hi h hw h1 h2 => ⟨fun hc => ?_, fun hc => ?_⟩,
    fun hp hs h => ?_, fun hp he => ?_, fun hv => ⟨_, rfl, ?_⟩, fun hp h hr ho hs hm hl hw => ⟨fun ha => ?_, ?_⟩,
    fun hq ht ho => ⟨fun hf hb => ⟨_, rfl, ?_⟩, fun hf => ⟨_, rfl, ?_⟩⟩⟩
  · have hr' : (s.stamp t).served d.blk = true := by simp [State.served, hr]
    rw [State.writeFlags_one (s := s.stamp t) h hr' hi hw]
    obtain ⟨r, b, hf⟩ := (s.stamp t).clearFlag_frame addr i
    exact ⟨State.clearFlag_reg hs, by rw [hf]; rfl⟩
  · obtain ⟨hr, ho⟩ := State.clearIfCount_flag (s := s.stamp t) (fn := fn) hv ha hi h hw h1 h2
    refine ⟨_, if_neg (by simp [hp]), hr.trans (if_pos hc), ho.trans ?_⟩
    change some (fld (s.reg (addr + 8)) (8 * i + 7) (8 * i) == fld v 47 40, fld (s.reg (addr + 8)) (8 * i + 7) (8 * i), stOk) = _
    simp [hc]
  · obtain ⟨hr, ho⟩ := State.clearIfCount_flag (s := s.stamp t) (fn := fn) hv ha hi h hw h1 h2
    refine ⟨_, if_neg (by simp [hp]), hr.trans (if_neg hc), ho.trans ?_⟩
    change some (fld (s.reg (addr + 8)) (8 * i + 7) (8 * i) == fld v 47 40, fld (s.reg (addr + 8)) (8 * i + 7) (8 * i), stOk) = _
    simp [hc]
  · have hne : pcs 0x02 sd 0x30 ≠ pcs 0x1d 0 0x48 := by unfold pcs; omega
    refine ⟨_, if_neg (by simp [hp]), ?_⟩
    rw [State.hwmClear_timer (s := s.stamp t) _ hs h]
    simp only [State.regFld, State.setRegFld, State.reg_setReg, State.reg_setReg_other _ _ hne]
    exact ⟨fld_setFld_high _, fld_setFld_low _⟩
  · refine ⟨_, if_neg (by omega), ?_, rfl⟩
    change aget (match aget s.errLog.ring (v % 4096) with
      | some e => aset s.errLog.latches port e
      | none => adel s.errLog.latches port) port = some e
    rw [he]
    exact aget_aset_same ..
  · rw [if_pos (by simp [bitOf_zero, hv])]
    rfl
  · refine ⟨_, execRegisterWrite_bar0 (isPf_lt hp) .., ?_⟩
    rw [if_pos ⟨hp, rfl, ha⟩, State.pcsWrite_plain (s := s.stamp t) (fn / 64) v h hr ho hs hm hl hw]
    exact ⟨rfl, rfl⟩
  · exact ⟨_, execRegisterWrite_bar0 (isPf_lt hp) .., if_neg (by simp)⟩
  · obtain ⟨n, h, hfr⟩ := (s.stamp t).probe_frame f
    have hc : (s.stamp t).probed f = _ := State.probeCopy_session (s := (s.stamp t).probing) _ ht ho hf hb
    have hst : ((s.stamp t).probed f).status = stOk := by rw [hc]; rfl
    exact ⟨by rw [hfr]; rfl, _, _, rfl, by rw [hc]; rfl, rfl, rfl, rfl, State.probe_waits hq hst⟩
  · obtain ⟨n, h, hfr⟩ := (s.stamp t).probe_frame f
    have hc : (s.stamp t).probed f = _ := State.probeCopy_noSession (s := (s.stamp t).probing) _ ht hf
    have hst : ((s.stamp t).probed f).status ≠ stOk := by rw [hc]; decide
    refine ⟨by rw [hfr]; rfl, ?_⟩
    rw [State.probe_fails hst, hc]
    exact State.complete_answered (s.stamp t).probing f stNoSession

end Sys2Proof.Machine

namespace Sys2Proof.Machine

/-! ### Every command answers (R3, R8, R395) -/

/-- A command ends in a next state; or it faults for a unit that does not exist, which no command that can arrive does. -/
def Answers (arrives : Prop) (o : Host.Outcome State Fault Refusal) : Prop :=
  (∃ s', o = .next s') ∨ (o = .fault .noSuchUnit ∧ ¬ arrives)

section Answers
variable {p c : Prop} {s : State}

theorem Answers.next : Answers p (.next s) := .inl ⟨s, rfl⟩

theorem Answers.fault (h : ¬ p) : Answers p (.fault .noSuchUnit) := .inr ⟨rfl, h⟩

theorem Answers.ite [Decidable c] {o o' : Host.Outcome State Fault Refusal} (h : c → Answers p o) (h' : ¬ c → Answers p o') :
    Answers p (if c then o else o') := by
  split
  · exact h ‹_›
  · exact h' ‹_›

theorem Answers.guard [Decidable c] (h : p → c) : Answers p (if c then .next s else .fault .noSuchUnit) :=
  .ite (fun _ => .next) fun hc => .fault fun hp => hc (h hp)

theorem Answers.absent [Decidable c] (h : p → ¬ c) : Answers p (if c then .fault .noSuchUnit else .next s) :=
  .ite (fun hc => .fault fun hp => h hp hc) fun _ => .next

theorem Answers.unit {b : Bool} (h : p → b = true) : Answers p (unitExists b s) := .guard h

theorem Answers.eid {n : Nat} (h : p → n < 2) : Answers p (onEid n s) := .guard h

theorem Answers.device {n : Nat} (h : p → n < 8) : Answers p (onDevice n s) := .guard h

/-- A word of Zynut-M ends in a next state where its sequencer exists. -/
theorem Answers.zmRun {z : ZmIssue} {t op : Nat} {fs : List (Nat × Nat × Nat)} {f : Sequencer → ZmOut}
    (h : p → seqrExists s.cds z.seqr = true) : Answers p (s.zmRun z t op fs f) :=
  .absent fun hp => by simp [h hp]

/-- A slot of Zynut-W ends in a next state where its core exists. -/
theorem Answers.zwSlot {z : ZwIssue} {t slot : Nat} {f : State → WRegs → ZwOut} (h : p → z.core < 516) :
    Answers p (s.zwSlot z t slot f) :=
  .ite (fun hc => .fault fun hp => absurd (h hp) (Nat.not_lt.mpr hc)) fun _ =>
    .ite (fun _ => .next) fun _ => .ite (fun _ => .next) fun _ => .next

theorem Answers.zwAlu {z : ZwIssue} {t rd ra rb : Nat} {f : Nat → Nat → Nat} (h : p → z.core < 516) :
    Answers p (s.zwAlu z t rd ra rb f) := .zwSlot h

theorem Answers.zwCmp {z : ZwIssue} {t rd ra rb : Nat} {f : Nat → Nat → Bool} (h : p → z.core < 516) :
    Answers p (s.zwCmp z t rd ra rb f) := .zwSlot h

theorem Answers.zwLanes {z : ZwIssue} {t vd va vb q : Nat} {pair : Bool} {draws : Nat} {f : (k a b d : Nat) → Nat}
    (h : p → z.core < 516) : Answers p (s.zwLanes z t vd va vb q pair draws f) := .zwSlot h

theorem Answers.zwExchange {z : ZwIssue} {len t : Nat} {f : State → WRegs → (n : Nat) → ZwOut} (h : p → z.core < 516) :
    Answers p (s.zwExchange z len t f) := .zwSlot h

theorem Answers.zwMatrix {z : ZwIssue} {e t : Nat} {f : WRegs → MatCmd} (h : p → e < 4 ∧ z.core < 516) :
    Answers p (s.zwMatrix z e t f) :=
  .ite (fun hc => .fault fun hp => absurd (h hp).1 (Nat.not_lt.mpr hc)) fun _ => .zwSlot fun hp => (h hp).2

theorem Answers.zwEvent {core t : Nat} {f : State → State} (h : p → core < 516) : Answers p (s.zwEvent core t f) :=
  .absent fun hp => Nat.not_le.mpr (h hp)

end Answers

/-- A write of staged configuration ends in a next state where its register exists and is staged (R475). -/
theorem Answers.stageWrite {s : State} {fn addr v t : Nat} :
    Answers ((Instr.ctStageWrite fn addr v t).wellFormed = true ∧ s.cds = 16) (exec (.ctStageWrite fn addr v t) s) := by
  change Answers _ (execCtStageWrite fn addr v t s)
  unfold execCtStageWrite
  split
  next d hd =>
    refine .guard fun ⟨hw, hc⟩ => ?_
    rw [hc] at hd
    delta Instr.wellFormed at hw
    simp_all
  next hd =>
    refine .fault fun ⟨hw, hc⟩ => ?_
    rw [hc] at hd
    delta Instr.wellFormed at hw
    simp_all

/-- Every command answers a next state, or faults for a unit that a well-formed command does not name on the full part. -/
theorem exec_answers (c : Instr) (s : State) : Answers (c.wellFormed = true ∧ s.cds = 16) (exec c s) := by
  cases c
  case recordDeliver | sessionOpen | openPrepared | sessionAppend | timedAppendRelease | sessionResume |
      sessionHold | sessionRelease | sessionPark | sessionCancel | sessionClose | closeReleaseDone | sessionFork |
      sessionMigrate | sessionWaitPeer | sessionRestore | restorePagesPlaced | rowUpdate | tableSwitch |
      recallInsert | adapterLoad | adapterSwitch | ckpCut | ckpRestoreGroup | probe | textInput | textFrameResume |
      timerFire | timeoutCommit | notBeforeReached | leaseLapse | peerComplete | outboxRecordWrite | stepForm |
      stepPacingExpire | quotaRelease | kvAppend | spanDispatch | spanPartialDone |
      samplerDraw | s1Suspend | s1Resume | sealIssue | stepOutcome | memberRemove | stepAbandon | remoteTimeout |
      mgmtFailover | cageRequest | cageCopyDone | cageSwitchPoint | cageRelease | migCopyDone | phaseTimeout |
      syncSend | syncLost | packetEnqueue | packetTransit | tick1ms | stagingCopyDone | ckpStoreWriteDone |
      ckpManifestDurable | storeTimeout | drainStart | journalEntryStart | journalCapture | journalPayloadDone |
      journalCommit | drainEnd | thermalDrain | thermtrip | pwrgdAssert | resetNAssert | pwrgdFall | vinPkgLoss |
      voltageLoopRun | thermalLoopRun | energyRecompute | pmbusPoll | capRelax | loopFaultHoldExpire |
      pwrCapWrite | electionTimeout | stage1Verify | recoveryImage | assayDone | mapProgram | firmwareBroadcast |
      journalRecovery | headframeCommit | weightShardReadDone | getVersion | getCapabilities |
      negotiateAlgorithms | getDigests | getCertificate | challenge | getMeasurements | keyExchange | finish |
      endSession | heartbeat | keyUpdate | setJobKey | clearJobKey | setCkpKey | ownerEnrol | keyManifest |
      pldmPmcRequest | ctApplyAtPt | w1cClear | snapshotWritten | errClear | ledDumpWritten | bruFence |
      bruFwSwitch | secSvnCommit | vauxLoss | destPhaseTimeout | closeNoteRetry | ckpCutAtPt | snapshotAtPt |
      debugUnlock | attReqPartsTimeout =>
    exact .next
  case rowLookup | recallQuery | recallShardScanDone | adapterImageReadDone | sealApply | rowReq | rowReply |
      rowUpd | hotCacheRefresh | hotListReadDone =>
    exact .unit fun h => by delta Instr.wellFormed at h; simp_all [Head.wf]
  case uvDetect | busRecover | eidSupplyLoss | currentLoopRun | healthTest | loopSwapTimeout | prechargeDone |
      chargeDone | contactorOpen | eidRetire | eidAdmit | eidSupplyReturn =>
    exact .eid fun h => by delta Instr.wellFormed at h; simp_all
  case expanderAttach | expanderRemoval | xpnEvacuate | xpnCancel | evacuatePassDone =>
    exact .device fun h => by delta Instr.wellFormed at h; simp_all
  case accessDecay | tierPolicyRun | prefixRetentionSweep | attReq | attReply | expertTokens | expertReply |
      accImages | anchor | driveDown | driveAttach | ethFrameReceive | p0Done | romSelftestDone | firmwareFetch |
      ideKm | tdispRequest | fwStage | ctBegin | ctCommit | ctAbort | ctLoadPatch | ctCmdInvalidOp | errorDetect |
      patchReadDone | ethLinkChange =>
    exact .guard fun h => by delta Instr.wellFormed at h; simp_all [Head.wf]
  case dqTailWrite | rqHeadWrite | textHeadWrite | dqCtlEnableWrite | frameFetch | timedFrameRelease |
      statusRecordWrite | modUsExpire | functionLevelReset | vfDisable | surpriseDown | hostAttach | drainTimeout |
      ideStreamStop | hoistIssue | hoistSegmentDone | hoistProgramRun | hoistChannelReset | segmentResend |
      prepare | ready | handover | committed | abortReq | aborted | homeUpdate | closeNote | sealNote | dropNote |
      codewordUncorrectable | linkControlFlit | portTrained | laneLockLoss | rollCallSend | rollCall |
      rollCallMissed | sync | syncReply | egressSelect | transitCreditTimeout | segData | segAck | groupCtl |
      kernelData | kvPush | mgmt | obsSnapGo | obsCic | obsHwmClr | tfqHwmRead | errSelWrite | ledTselWrite |
      ledDump | hifRebindGo | homeUpdateAck | closeNoteAck =>
    exact .absent fun h => by delta Instr.wellFormed at h; simp_all [Head.wf, fnExists]
  case zmAdd | zmSub | zmAnd | zmOr | zmXor | zmSll | zmSrl | zmSra | zmMul | zmMulhu | zmSltu | zmSlt | zmMinu |
      zmMaxu | zmDivu | zmAddi | zmAndi | zmOri | zmXori | zmSlli | zmSrli | zmSrai | zmLui | zmSltiu | zmLd |
      zmSt | zmLdb | zmStb | zmTld | zmQput | zmQget | zmQcnt | zmTset | zmBeq | zmBne | zmBltu | zmBgeu | zmBlt |
      zmBge | zmJal | zmJr | zmOut | zmEnd | zmTrap =>
    exact .zmRun fun h => by delta Instr.wellFormed at h; simp_all [ZmIssue.wf]
  case zwAddi | zwLi | zwLd | zwSt | zwBr | zwBrp | zwBrnp | zwLoop | zwCall | zwRet | zwBar | zwHalt | zwVld |
      zwVst | zwVcvt | zwVsfu | zwVquant | zwXfence =>
    delta exec; dsimp only; exact .zwSlot fun h => by delta Instr.wellFormed at h; simp_all [ZwIssue.wf]
  case zwAdd | zwSub | zwAnd | zwOr | zwXor | zwShl | zwShr | zwSar | zwMul | zwMin | zwMax =>
    delta exec; dsimp only; exact .zwAlu fun h => by delta Instr.wellFormed at h; simp_all [ZwIssue.wf]
  case zwCmpeq | zwCmplt | zwCmpltu =>
    delta exec; dsimp only; exact .zwCmp fun h => by delta Instr.wellFormed at h; simp_all [ZwIssue.wf]
  case zwVadd | zwVsub | zwVmul | zwVmax | zwVmin | zwVfma =>
    delta exec; dsimp only; exact .zwLanes fun h => by delta Instr.wellFormed at h; simp_all [ZwIssue.wf]
  case zwXcopy | zwXsend | zwXstream | zwXappend | zwXgallery =>
    delta exec; dsimp only; exact .zwExchange fun h => by delta Instr.wellFormed at h; simp_all [ZwIssue.wf]
  case zwTzero | zwMma | zwTout | zwTimg | zwTadd | zwTpre =>
    exact .zwMatrix fun h => by delta Instr.wellFormed at h; simp_all [ZwIssue.wf]
  case zwBarrierTimeout | zwWatchdog =>
    delta exec; dsimp only; exact .zwEvent fun h => by delta Instr.wellFormed at h; simp_all
  case quotaReservation tenant tier bytes asker t =>
    refine .ite (fun _ => .next) fun _ => ?_
    cases asker with
    | step slot => exact .ite (fun _ => .next) fun _ => .next
    | host f => exact .next
    | cage page => exact .next
  case ctStageWrite fn addr v t => exact .stageWrite
  case registerWrite fn bar2 addr bytes v t =>
    refine .ite (fun hc => .fault fun ⟨hw, _⟩ => ?_) fun _ => .ite (fun _ => .next) fun _ => .next
    delta Instr.wellFormed at hw
    simp_all [fnExists]
    omega
  case zmTnow z rd imm t =>
    have hcds : (if imm < 2 then s else s.draw.2).cds = s.cds := by split <;> rfl
    refine .zmRun fun ⟨hw, hc⟩ => ?_
    rw [hcds, hc]
    delta Instr.wellFormed at hw
    simp_all [ZmIssue.wf]
  case zwMatrixDone core engine t =>
    delta exec; dsimp only
    refine .ite (fun hc => .fault fun ⟨hw, _⟩ => ?_) fun _ => .zwEvent fun ⟨hw, _⟩ => ?_ <;>
      delta Instr.wellFormed at hw <;> simp only [Bool.and_eq_true, decide_eq_true_eq] at hw <;> omega

/-- Settles O52: `exec_answers`, where a fault comes only from a unit that no well-formed command names. -/
theorem wellFormedCommandsComplete : Obligations.WellFormedCommandsComplete := by
  unfold Obligations.WellFormedCommandsComplete
  constructor
  · intro c s r hr
    rcases exec_answers c s with ⟨s', h⟩ | ⟨h, _⟩ <;> rw [h] at hr <;> cases hr
  · intro c s hw hc
    exact (exec_answers c s).resolve_right fun h => h.2 ⟨hw, hc⟩

end Sys2Proof.Machine

namespace Sys2Proof.Machine
-- In order, as in the tests: many proofs at once would each wait for the others in a thread of its own.
set_option Elab.async false

/-! ### Frames: which parts of the state an operation may change -/

/-- The state `u` is `s` but for the parts that `K` takes over: `K s u` is `u` itself. -/
def Only (K : State → State → State) (s u : State) : Prop := u = K s u

/-- Whatever next state an outcome answers satisfies `P`. -/
structure Ends (P : State → Prop) (o : Host.Outcome State Fault Refusal) : Prop where
  of_next : ∀ s', o = .next s' → P s'

section Only
variable {K K' : State → State → State} {s u v : State}

theorem Only.refl (hr : ∀ s, K s s = s := by intros; rfl) : Only K s s := (hr s).symm

/-- What is within fewer parts is within more: `K` overrides every part that `K'` takes over. -/
theorem Only.mono (h : Only K' s u) (hK : ∀ s t w, K (K' s t) w = K s w := by intros; rfl)
    (hr : ∀ s, K s s = s := by intros; rfl) : Only K s u :=
  calc u = K u u := (hr u).symm
    _ = K (K' s u) u := by rw [← show u = K' s u from h]
    _ = K s u := hK s u u

/-- One update after another: the second may stay within fewer parts. -/
theorem Only.then (h : Only K s u) (h' : Only K' u v) (hK : ∀ s t w, K (K s t) w = K s w := by intros; rfl)
    (hK' : ∀ s t w, K (K' s t) w = K s w := by intros; rfl) (hr : ∀ s, K s s = s := by intros; rfl) : Only K s v :=
  have hv : Only K u v := h'.mono hK' hr
  calc v = K u v := hv
    _ = K (K s u) v := by rw [← show u = K s u from h]
    _ = K s v := hK s u v

theorem Only.set (h : Only K s u) (h' : Only K u v) (hK : ∀ s t w, K (K s t) w = K s w := by intros; rfl)
    (hr : ∀ s, K s s = s := by intros; rfl) : Only K s v := h.then h' hK hK hr

theorem Only.ite {c : Prop} [Decidable c] (h : Only K s u) (h' : Only K s v) : Only K s (if c then u else v) := by
  split
  · exact h
  · exact h'

theorem Only.foldl {α : Type} {f : State → α → State} (hf : ∀ u x, Only K u (f u x)) (l : List α)
    (hK : ∀ s t w, K (K s t) w = K s w := by intros; rfl) (hr : ∀ s, K s s = s := by intros; rfl) :
    Only K s (l.foldl f s) := by
  induction l generalizing s with
  | nil => exact .refl hr
  | cons x l ih => exact (hf s x).then ih hK hK hr

/-- A stamp changes the time, which every frame of a command leaves out. -/
theorem Only.stamped {t : Nat} (h : Only K' (s.stamp t) u)
    (ht : ∀ s t w, K (s.stamp t) w = K s w := by intros; rfl) (hK' : ∀ s t w, K (K' s t) w = K s w := by intros; rfl)
    (hr : ∀ s, K s s = s := by intros; rfl) : Only K s u :=
  (h.mono hK' hr).trans (ht s t u)

theorem Ends.next {P : State → Prop} (h : P u) : Ends P (.next u) := ⟨by rintro _ ⟨⟩; exact h⟩

theorem Ends.fault {P : State → Prop} {f : Fault} : Ends P (.fault f) := ⟨by rintro _ ⟨⟩⟩

theorem Ends.guard {P : State → Prop} {c : Prop} [Decidable c] {f : Fault} (h : P u) :
    Ends P (if c then .next u else .fault f) := by
  split
  · exact .next h
  · exact .fault

theorem Ends.absent {P : State → Prop} {c : Prop} [Decidable c] {f : Fault} (h : P u) :
    Ends P (if c then .fault f else .next u) := by
  split
  · exact .fault
  · exact .next h

theorem Keeps.intro {c : Instr} (h : ∀ s, Ends (Only K s) (exec c s)) : Keeps K c := fun s => (h s).of_next

end Only

section Ops
variable {s : State}

/-! ### The named updates -/

theorem State.setReg_only {a v : Nat} : Only (fun s t => { s with regs := t.regs }) s (s.setReg a v) := rfl

theorem State.setRegFld_only {b i o h l v : Nat} :
    Only (fun s t => { s with regs := t.regs }) s (s.setRegFld b i o h l v) := rfl

theorem State.addRegFld_only {b i o h l v : Nat} :
    Only (fun s t => { s with regs := t.regs }) s (s.addRegFld b i o h l v) := rfl

theorem State.emit_only {m : Msg} : Only (fun s t => { s with out := t.out }) s (s.emit m) := rfl

theorem State.putSess_only {i : Nat} {x : Session} : Only (fun s t => { s with sessions := t.sessions }) s (s.putSess i x) := rfl

theorem State.putEntry_only {i : Nat} {e : Entry} : Only (fun s t => { s with sessions := t.sessions }) s (s.putEntry i e) := rfl

theorem State.disarm_only {i : Nat} : Only (fun s t => { s with sessions := t.sessions }) s (s.disarm i) := rfl

theorem State.setState_only {i : Nat} {x : SState} :
    Only (fun s t => { s with sessions := t.sessions }) s (s.setState i x) := rfl

theorem State.putSd_only {n : Nat} {d : StateDie} : Only (fun s t => { s with sds := t.sds }) s (s.putSd n d) := rfl

theorem State.putFn_only {f : Nat} {h : HostFn} : Only (fun s t => { s with fns := t.fns }) s (s.putFn f h) := rfl

theorem State.putDq_only {f q : Nat} {d : DispatchQueue} : Only (fun s t => { s with fns := t.fns }) s (s.putDq f q d) := rfl

theorem State.putRq_only {f q : Nat} {r : ResultQueue} : Only (fun s t => { s with fns := t.fns }) s (s.putRq f q r) := rfl

theorem State.putTenant_only {t : Nat} {x : Tenant} :
    Only (fun s t => { s with tenants := t.tenants }) s (s.putTenant t x) := rfl

theorem State.putPort_only {p : Nat} {g : GalPort} : Only (fun s t => { s with gallery := t.gallery }) s (s.putPort p g) := rfl

theorem State.putTables_only {x : Tables} : Only (fun s t => { s with tables := t.tables }) s (s.putTables x) := rfl

theorem State.putTable_only {i : Nat} {x : RowTable} : Only (fun s t => { s with tables := t.tables }) s (s.putTable i x) := rfl

theorem State.putCkp_only {c : Checkpoint} : Only (fun s t => { s with checkpoint := t.checkpoint }) s (s.putCkp c) := rfl

theorem State.putEport_only {n : Nat} {p : EnergyPort} :
    Only (fun s t => { s with energyPorts := t.energyPorts }) s (s.putEport n p) := rfl

theorem State.putSec_only {x : Security} : Only (fun s t => { s with security := t.security }) s (s.putSec x) := rfl

theorem State.putBoot_only {b : Boot} : Only (fun s t => { s with boot := t.boot }) s (s.putBoot b) := rfl

theorem State.putFw_only {c : Nat} {x : FwClass} : Only (fun s t => { s with boot := t.boot }) s (s.putFw c x) := rfl

theorem State.putTxn_only {x : CtTxn} : Only (fun s t => { s with txns := t.txns }) s (s.putTxn x) := rfl

theorem State.ctResult_only {f st o : Nat} :
    Only (fun s t => { s with ctResults := t.ctResults }) s (s.ctResult f st o) := rfl

theorem State.putCore_only {i : Nat} {c : Core} : Only (fun s t => { s with cores := t.cores }) s (s.putCore i c) := rfl

theorem State.setGallery_only {x : Gallery} :
    Only (fun s t => { s with gallery := t.gallery }) s { s with gallery := x } := rfl

theorem State.setPower_only {x : Power} : Only (fun s t => { s with power := t.power }) s { s with power := x } := rfl

theorem State.setObs_only {x : Obs} : Only (fun s t => { s with obs := t.obs }) s { s with obs := x } := rfl

theorem State.putStream_only {b : Bool} {x : Stream} :
    Only (fun s t => { s with s0 := t.s0, s1 := t.s1 }) s (s.putStream b x) := .ite rfl rfl

/-! ### Flags, records, tenants and the error log -/

theorem State.setFlag_only {f : FlagId} {i : Nat} :
    Only (fun s t => { s with regs := t.regs, flagSets := t.flagSets }) s (s.setFlag f i) := by
  obtain ⟨r, a, h⟩ := s.setFlag_frame f i
  exact h ▸ rfl

theorem State.flagIf_only {c : Bool} {f : FlagId} {i : Nat} :
    Only (fun s t => { s with regs := t.regs, flagSets := t.flagSets }) s (s.flagIf c f i) :=
  .ite setFlag_only .refl

theorem State.clearFlag_only {a i : Nat} :
    Only (fun s t => { s with regs := t.regs, flagClears := t.flagClears }) s (s.clearFlag a i) := by
  obtain ⟨r, b, h⟩ := s.clearFlag_frame a i
  exact h ▸ rfl

theorem State.markReg_only {b i o h l v : Nat} :
    Only (fun s t => { s with regs := t.regs }) s (s.markReg b i o h l v) := .ite rfl rfl

theorem State.complete_only {f : Frame} {st : Nat} : Only (fun s t => { s with fns := t.fns }) s (s.complete f st) := by
  obtain ⟨x, h⟩ := s.complete_frame f st
  exact h ▸ rfl

theorem State.sessionEvent_only {slot code : Nat} {fields : List (Nat × Nat × Nat)} :
    Only (fun s t => { s with regs := t.regs, flagSets := t.flagSets, sessions := t.sessions, sds := t.sds }) s
      (s.sessionEvent slot code fields) := by
  obtain ⟨g, a, x, d, h⟩ := s.sessionEvent_frame slot code fields
  exact h ▸ rfl

theorem State.checkOutboxLow_only {sd n : Nat} :
    Only (fun s t => { s with regs := t.regs, flagSets := t.flagSets }) s (s.checkOutboxLow sd n) := flagIf_only

theorem State.logError_only {cls die blk inst code detail : Nat} :
    Only (fun s t => { s with regs := t.regs, flagSets := t.flagSets, errLog := t.errLog, fns := t.fns }) s
      (s.logError cls die blk inst code detail) := by
  obtain ⟨r, a, e, x, h⟩ := s.logError_frame cls die blk inst code detail
  exact h ▸ rfl

theorem State.charge_only {t c a : Nat} : Only (fun s t => { s with tenants := t.tenants }) s (s.charge t c a) :=
  .ite rfl rfl

theorem State.dropUse_only {t tier n : Nat} : Only (fun s t => { s with tenants := t.tenants }) s (s.dropUse t tier n) :=
  .ite rfl rfl

/-! ### Sessions, peer edges and timers -/

theorem State.linkWaiters_only {peer : Nat} {ws : List Nat} :
    Only (fun s t => { s with sessions := t.sessions }) s (s.linkWaiters peer ws) :=
  putEntry_only.set (.foldl (fun _ _ => putEntry_only) _)

theorem State.fixHeights_only {n : Nat} {i : Option Nat} :
    Only (fun s t => { s with sessions := t.sessions }) s (s.fixHeights n i) := by
  induction n generalizing s i with
  | zero => exact .refl
  | succ n ih =>
    cases i with
    | none => exact .refl
    | some i => exact putEntry_only.set ih

theorem State.removeEdge_only {slot : Nat} : Only (fun s t => { s with sessions := t.sessions }) s (s.removeEdge slot) := by
  unfold State.removeEdge
  extract_lets e s1
  have h1 : Only (fun s t => { s with sessions := t.sessions }) s s1 := rfl
  refine .ite .refl ?_
  split
  · exact h1
  · exact (h1.set linkWaiters_only).set fixHeights_only

theorem State.queueText_only {slot : Nat} {bs : List Byte} :
    Only (fun s t => { s with sessions := t.sessions }) s (s.queueText slot bs) := .ite rfl rfl

theorem State.fence_only {slot : Nat} {r : FenceReason} :
    Only (fun s t => { s with sessions := t.sessions }) s (s.fence slot r) :=
  (disarm_only.set removeEdge_only).set putSess_only

theorem State.wakeWaiter_only {slot : Nat} : Only (fun s t => { s with sessions := t.sessions }) s (s.wakeWaiter slot) := by
  unfold State.wakeWaiter
  extract_lets e text s1
  have h1 : Only (fun s t => { s with sessions := t.sessions }) s s1 := (removeEdge_only.set disarm_only).set queueText_only
  exact .ite (h1.set putEntry_only) (h1.set setState_only)

theorem State.timeoutAction_only {slot : Nat} :
    Only (fun s t => { s with regs := t.regs, flagSets := t.flagSets, sessions := t.sessions, sds := t.sds }) s
      (s.timeoutAction slot) := by
  unfold State.timeoutAction
  extract_lets e s1 _ s2 s3
  suffices h3 : Only _ s s3 from .ite (h3.then fence_only) ((h3.then queueText_only).then setState_only)
  exact ((removeEdge_only.mono.then disarm_only).then putEntry_only).then sessionEvent_only

theorem State.peerComplete_only {slot : Nat} {rejects : List Nat} :
    Only (fun s t => { s with sessions := t.sessions }) s (s.peerComplete slot rejects) :=
  .ite .refl (putSess_only.set (.foldl (fun _ _ => wakeWaiter_only) _))

theorem State.timerFire_only {slot : Nat} :
    Only (fun s t => { s with regs := t.regs, flagSets := t.flagSets, sessions := t.sessions }) s (s.timerFire slot) :=
  .ite .refl ((putSess_only.mono.then markReg_only).then flagIf_only)

theorem State.timeoutCommit_only {slot : Nat} :
    Only (fun s t => { s with regs := t.regs, flagSets := t.flagSets, sessions := t.sessions, sds := t.sds }) s
      (s.timeoutCommit slot) := by
  unfold State.timeoutCommit
  extract_lets x e
  split
  · exact .refl
  · exact .ite .refl (.ite rfl (.ite timeoutAction_only rfl))

theorem State.recordEnters_only {slot : Nat} :
    Only (fun s t => { s with regs := t.regs, flagSets := t.flagSets, sessions := t.sessions, sds := t.sds }) s
      (s.recordEnters slot) := by
  unfold State.recordEnters
  extract_lets x n d
  split
  · exact .refl
  · refine .ite .refl ?_
    split
    · exact .refl
    · exact (putSd_only.mono.then putSess_only).then checkOutboxLow_only

theorem State.wakeOutbox_only {i : Nat} : Only (fun s t => { s with sessions := t.sessions }) s (s.wakeOutbox i) := .ite rfl rfl

theorem State.wakeOutboxes_only {sd : Nat} : Only (fun s t => { s with sessions := t.sessions }) s (s.wakeOutboxes sd) :=
  .foldl (fun _ _ => .ite wakeOutbox_only .refl) _

theorem State.wakeQuota_only {t : Nat} : Only (fun s t => { s with sessions := t.sessions }) s (s.wakeQuota t) :=
  .foldl (fun _ _ => .ite setState_only .refl) _

theorem State.freeGuest_only {h : Nat} :
    Only (fun s t => { s with sessions := t.sessions, sds := t.sds, guests := t.guests }) s (s.freeGuest h) := by
  unfold State.freeGuest
  split <;> rfl

end Ops
end Sys2Proof.Machine

namespace Sys2Proof.Machine
-- In order, as in the tests: many proofs at once would each wait for the others in a thread of its own.
set_option Elab.async false

section Ops
variable {s : State} {K : State → State → State}

/-! ### The Gallery -/

theorem State.send_only {pkg dd tc sd unit op : Nat} {oph : List (Nat × Nat × Nat)} {pl : List Byte} {note : List Nat} :
    Only (fun s t => { s with tenants := t.tenants, gallery := t.gallery }) s
      (s.send pkg dd tc sd unit op oph pl note) := by
  unfold State.send
  extract_lets p s1
  suffices h1 : Only _ s s1 from h1.set rfl
  unfold s1
  split
  · exact charge_only.mono
  · exact .refl

theorem State.sendMig_only {pkg sd : Nat} {c : MigCode} {h m n : Nat} {note : List Nat} :
    Only (fun s t => { s with tenants := t.tenants, gallery := t.gallery }) s (s.sendMig pkg sd c h m n note) := send_only

theorem State.countDrop_only {p k : Nat} :
    Only (fun s t => { s with regs := t.regs, flagSets := t.flagSets }) s (s.countDrop p k) := by
  obtain ⟨r, a, h⟩ := s.countDrop_frame p k
  exact h ▸ rfl

/-- A received packet changes what its message changes, and the registers and flags of a drop. -/
theorem State.receive_only {h : Head} {op : Nat} {act : State → State} (ha : Only K s (act s))
    (hK : ∀ s t w : State, K { s with regs := t.regs, flagSets := t.flagSets } w = K s w := by intros; rfl)
    (hr : ∀ s, K s s = s := by intros; rfl) : Only K s (s.receive h op act) := by
  rcases s.receive_cases h op act with ⟨k, hd⟩ | hd <;> rw [hd]
  · exact countDrop_only.mono hK hr
  · exact ha

theorem State.galleryEvent_only {c p : Nat} :
    Only (fun s t => { s with regs := t.regs, flagSets := t.flagSets, fns := t.fns }) s (s.galleryEvent c p) :=
  putFn_only.mono.then setFlag_only

theorem State.enqueue_only {p : Nat} {x : Packet} : Only (fun s t => { s with gallery := t.gallery }) s (s.enqueue p x) := rfl

theorem State.dispatch_only {i : Nat} {x : Packet} :
    Only (fun s t => { s with regs := t.regs, flagSets := t.flagSets, out := t.out, gallery := t.gallery }) s
      (s.dispatch i x) := by
  unfold State.dispatch
  refine .ite rfl ?_
  split
  · exact countDrop_only.mono
  · exact enqueue_only.mono

theorem State.portDown_only {p : Nat} :
    Only (fun s t =>
      { s with regs := t.regs, flagSets := t.flagSets, out := t.out, fns := t.fns, gallery := t.gallery }) s
      (s.portDown p) := by
  unfold State.portDown
  extract_lets g old was s1 s2 s3
  suffices h3 : Only _ s s3 from h3.then (.foldl (fun _ _ => dispatch_only) _)
  exact (putPort_only.mono.then flagIf_only).then (.ite galleryEvent_only .refl)

theorem State.linkControl_only {p acked : Nat} {replay : Option Nat} {credits : List Nat} :
    Only (fun s t =>
      { s with regs := t.regs, flagSets := t.flagSets, out := t.out, fns := t.fns, gallery := t.gallery }) s
      (s.linkControl p acked replay credits) := by
  unfold State.linkControl
  extract_lets g moved g1
  cases replay with
  | none => exact putPort_only.mono
  | some r => exact .ite (putPort_only.mono.then portDown_only) putPort_only.mono

theorem State.sendLink_only {p dst tc op : Nat} {oph pl : List Byte} :
    Only (fun s t => { s with out := t.out, security := t.security }) s (s.sendLink p dst tc op oph pl) := rfl

theorem State.rollCallSend_only {p : Nat} :
    Only (fun s t => { s with out := t.out, security := t.security }) s (s.rollCallSend p) := .ite sendLink_only .refl

theorem State.trained_only {p lanes : Nat} :
    Only (fun s t => { s with out := t.out, gallery := t.gallery, security := t.security }) s (s.trained p lanes) :=
  .ite .refl (putPort_only.mono.then rollCallSend_only)

theorem State.rollCall_only {p pkg pp pos serial hash epoch : Nat} :
    Only (fun s t => { s with regs := t.regs, flagSets := t.flagSets, fns := t.fns, gallery := t.gallery }) s
      (s.rollCall p pkg pp pos serial hash epoch) := by
  unfold State.rollCall
  extract_lets g named fence changed next s1 s2 s3
  suffices h3 : Only _ s s3 from
    .ite .refl (.ite h3 (.ite (h3.then galleryEvent_only) (h3.then galleryEvent_only)))
  exact (putPort_only.mono.then (.ite galleryEvent_only .refl)).then flagIf_only

theorem State.takeSending_only {i : Nat} :
    Only (fun s t => { s with regs := t.regs, flagSets := t.flagSets, out := t.out, gallery := t.gallery }) s
      (s.takeSending i) := by
  unfold State.takeSending
  split
  · exact .refl
  · extract_lets _ s1
    suffices h1 : Only _ s s1 from h1.set dispatch_only
    rfl

theorem State.transit_only {x : Packet} :
    Only (fun s t => { s with regs := t.regs, flagSets := t.flagSets, out := t.out, gallery := t.gallery }) s
      (s.transit x) := .ite .refl (.ite countDrop_only.mono dispatch_only)

theorem State.transitTimeout_only {p tc : Nat} :
    Only (fun s t => { s with regs := t.regs, flagSets := t.flagSets, gallery := t.gallery }) s (s.transitTimeout p tc) := by
  unfold State.transitTimeout
  extract_lets g
  split
  · exact .refl
  · exact putPort_only.mono.then countDrop_only

theorem State.hwmRead_only {p tc : Nat} : Only (fun s t => { s with gallery := t.gallery }) s (s.hwmRead p tc) := rfl

theorem State.resend_only {d c g : Nat} : Only (fun s t => { s with gallery := t.gallery }) s (s.resend d c g) := by
  unfold State.resend
  extract_lets key
  split
  · exact .refl
  · exact .ite .refl rfl

theorem State.groupCtl_only {h : Head} {c e n : Nat} :
    Only (fun s t => { s with gallery := t.gallery }) s (s.groupCtl h c e n) := .ite rfl rfl

/-! ### Package Time over the fabric -/

theorem State.syncSend_only : Only (fun s t => { s with out := t.out, security := t.security }) s s.syncSend := by
  unfold State.syncSend
  split
  · exact .refl
  · exact sendLink_only

theorem State.syncReply_only {p t1 t2 t3 : Nat} :
    Only (fun s t => { s with pt := t.pt, draws := t.draws, regs := t.regs, gallery := t.gallery }) s
      (s.syncReply p t1 t2 t3) := .ite rfl rfl

theorem State.syncLost_only :
    Only (fun s t => { s with regs := t.regs, flagSets := t.flagSets, fns := t.fns, gallery := t.gallery }) s s.syncLost := by
  unfold State.syncLost
  extract_lets p a s1 _ s2
  suffices h2 : Only _ s s2 from (h2.then setFlag_only).then galleryEvent_only
  rfl

/-! ### Messages of migrations -/

theorem State.homeUpdate_only {h home seq : Nat} :
    Only (fun s t => { s with sessions := t.sessions, tenants := t.tenants, gallery := t.gallery }) s
      (s.homeUpdate h home seq) :=
  .ite (.ite (putSess_only.mono.then sendMig_only) .refl) rfl

theorem State.homeUpdateAck_only {h : Nat} :
    Only (fun s t => { s with sessions := t.sessions, sds := t.sds, guests := t.guests }) s (s.homeUpdateAck h) :=
  .ite freeGuest_only .refl

theorem State.closeNoteAgain_only {h : Nat} :
    Only (fun s t => { s with tenants := t.tenants, gallery := t.gallery }) s (s.closeNoteAgain h) := by
  unfold State.closeNoteAgain
  split
  · exact .refl
  · exact sendMig_only.set rfl

theorem State.sealNote_only {h n : Nat} :
    Only (fun s t => { s with mem := t.mem, gallery := t.gallery, incoming := t.incoming }) s (s.sealNote h n) := by
  unfold State.sealNote
  split
  · exact .refl
  · exact .ite rfl rfl

theorem State.dropNote_only {h n : Nat} :
    Only (fun s t => { s with gallery := t.gallery, incoming := t.incoming }) s (s.dropNote h n) := by
  unfold State.dropNote
  split
  · exact .refl
  · exact .ite rfl rfl

/-! ### Tables, recall and adapters -/

theorem State.hotRefresh_only {sd : Nat} : Only (fun s t => { s with tables := t.tables }) s (s.hotRefresh sd) := rfl

theorem State.hotListRead_only {i sd : Nat} {rows : List Nat} {ok : Bool} :
    Only (fun s t => { s with regs := t.regs, flagSets := t.flagSets, tables := t.tables }) s (s.hotListRead i sd rows ok) := by
  unfold State.hotListRead
  split
  · exact .refl
  · exact .ite .refl (.ite (putTable_only.mono.then setFlag_only) putTable_only.mono)

theorem State.rowUpd_only {h : Head} {i st hd sq row : Nat} {ovw : Bool} {bs : List Byte} :
    Only (fun s t => { s with tables := t.tables }) s (s.rowUpd h i st hd sq row ovw bs) := by
  unfold State.rowUpd
  split
  · exact .refl
  · exact putTable_only

theorem State.rowReq_only {h : Head} {i r : Nat} {bag : List Nat} :
    Only (fun s t => { s with tenants := t.tenants, gallery := t.gallery, tables := t.tables }) s (s.rowReq h i r bag) := by
  unfold State.rowReq
  split
  · exact .refl
  · exact putTable_only.mono.then (.foldl (fun _ _ => send_only) _)

theorem State.tableSwitch_only {f : Frame} :
    Only (fun s t => { s with fns := t.fns, tables := t.tables }) s (s.tableSwitch f) := by
  unfold State.tableSwitch
  extract_lets id
  refine .ite complete_only.mono (.ite complete_only.mono ?_)
  split
  · exact complete_only.mono
  · exact .ite complete_only.mono (.ite complete_only.mono (.ite complete_only.mono putTable_only.mono))

theorem State.sendUpdates_only {st : Nat} :
    Only (fun s t => { s with tenants := t.tenants, fns := t.fns, gallery := t.gallery, tables := t.tables }) s
      (s.sendUpdates st) := by
  refine putTables_only.mono.then (.foldl (K := fun s t =>
    { s with tenants := t.tenants, fns := t.fns, gallery := t.gallery }) (fun u p => ?_) _)
  extract_lets x u1
  split
  · exact send_only.mono.then complete_only
  · exact send_only.mono

theorem State.rowUpdate_only {f : Frame} :
    Only (fun s t => { s with tenants := t.tenants, fns := t.fns, gallery := t.gallery, tables := t.tables }) s
      (s.rowUpdate f) := by
  unfold State.rowUpdate
  extract_lets id
  refine .ite complete_only.mono (.ite complete_only.mono ?_)
  split
  · exact complete_only.mono
  · exact .ite complete_only.mono (.ite complete_only.mono
      (.ite putTable_only.mono (.ite putTables_only.mono (putTables_only.mono.then sendUpdates_only))))

theorem State.recallQuery_only {f : Frame} {sd : Nat} :
    Only (fun s t => { s with fns := t.fns, tables := t.tables }) s (s.recallQuery f sd) := by
  unfold State.recallQuery
  refine .ite complete_only.mono ?_
  split
  · exact complete_only.mono
  · exact .ite complete_only.mono (.ite complete_only.mono rfl)

theorem State.applyInsert_only {x : ShardInsert} :
    Only (fun s t => { s with regs := t.regs, flagSets := t.flagSets, fns := t.fns, tables := t.tables }) s
      (s.applyInsert x) := by
  unfold State.applyInsert
  split
  next i w _ _ =>
    refine .ite ?_ ?_
    · exact ((putTables_only.mono.then flagIf_only).then putTables_only).then complete_only
    · exact (putTables_only.mono.then flagIf_only).then putTables_only
  next => exact .refl

theorem State.drainInserts_only :
    Only (fun s t => { s with regs := t.regs, flagSets := t.flagSets, fns := t.fns, tables := t.tables }) s
      s.drainInserts := .foldl (fun _ _ => .ite .refl applyInsert_only) _

theorem State.recallInsert_only {f : Frame} :
    Only (fun s t => { s with regs := t.regs, flagSets := t.flagSets, fns := t.fns, tables := t.tables }) s
      (s.recallInsert f) := by
  unfold State.recallInsert
  refine .ite complete_only.mono ?_
  split
  · exact complete_only.mono
  · exact .ite complete_only.mono ((putTables_only.mono.then putTables_only).then drainInserts_only)

theorem State.adapterLoad_only {f : Frame} :
    Only (fun s t => { s with fns := t.fns, tables := t.tables }) s (s.adapterLoad f) :=
  .ite complete_only.mono (.ite complete_only.mono (.ite complete_only.mono rfl))

end Ops
end Sys2Proof.Machine

namespace Sys2Proof.Machine
-- In order, as in the tests: many proofs at once would each wait for the others in a thread of its own.
set_option Elab.async false

section Ops
variable {s : State}

/-! ### The host ports -/

theorem State.interrupt_only {f v : Nat} : Only (fun s t => { s with out := t.out, fns := t.fns }) s (s.interrupt f v) :=
  .ite rfl rfl

theorem State.modExpire_only {f q : Nat} : Only (fun s t => { s with out := t.out, fns := t.fns }) s (s.modExpire f q) :=
  .ite .refl (putRq_only.mono.then interrupt_only)

theorem State.writeRecord_only {f q : Nat} {r : Record} {n : Bool} :
    Only (fun s t => { s with out := t.out, fns := t.fns }) s (s.writeRecord f q r n) := by
  unfold State.writeRecord
  extract_lets h rq off _ text next rq' s1 s2
  suffices h2 : Only _ s s2 from .ite (h2.then interrupt_only) h2
  exact putFn_only.mono.then emit_only

theorem State.statusWrite_only {f q : Nat} :
    Only (fun s t => { s with out := t.out, fns := t.fns }) s (s.statusWrite f q) := by
  unfold State.statusWrite
  extract_lets h rq
  split
  · exact .refl
  · exact .ite .refl (putRq_only.mono.then writeRecord_only)

theorem State.deliver_only {slot : Nat} :
    Only (fun s t => { s with out := t.out, sessions := t.sessions, sds := t.sds, fns := t.fns }) s (s.deliver slot) := by
  unfold State.deliver
  extract_lets x e
  split
  · exact .refl
  · exact .ite .refl (((putSd_only.mono.then putSess_only).then writeRecord_only).then wakeOutboxes_only)

theorem State.queueFault_only {f q : Nat} :
    Only (fun s t => { s with regs := t.regs, flagSets := t.flagSets, fns := t.fns }) s (s.queueFault f q) :=
  (putDq_only.mono.then putRq_only).then setFlag_only

theorem State.consume_only {f q n : Nat} : Only (fun s t => { s with out := t.out, fns := t.fns }) s (s.consume f q n) :=
  putDq_only.mono.then emit_only

theorem State.fetch_only {f q : Nat} {bs : List Byte} :
    Only (fun s t => { s with regs := t.regs, flagSets := t.flagSets, out := t.out, fns := t.fns }) s (s.fetch f q bs) := by
  unfold State.fetch
  extract_lets h d avail fr
  refine .ite .refl ?_
  split
  · exact queueFault_only.mono
  · exact .ite .refl (consume_only.mono.then complete_only)
  · extract_lets s1 d1 hold
    have h1 : Only (fun s t => { s with out := t.out, fns := t.fns }) s s1 := consume_only
    exact .ite .refl (.ite (h1.mono.then complete_only) (.ite (h1.mono.then complete_only)
      (.ite (h1.mono.then complete_only) (h1.mono.then putDq_only))))

theorem State.ctAutoAbort_only {f : Nat} :
    Only (fun s t => { s with regs := t.regs, flagSets := t.flagSets, txns := t.txns }) s (s.ctAutoAbort f) := by
  unfold State.ctAutoAbort
  extract_lets hit
  split
  · generalize hu : State.mk .. = u
    exact Only.then (u := u) (hu ▸ rfl) setFlag_only
  · exact .refl

theorem State.snapAbort_only {f : Nat} :
    Only (fun s t => { s with regs := t.regs, flagSets := t.flagSets, obs := t.obs }) s (s.snapAbort f) := by
  unfold State.snapAbort
  split
  · split
    · generalize hu : State.mk .. = u
      exact Only.then (u := u) (hu ▸ rfl) setFlag_only
    · exact .refl
  · exact .refl

theorem State.startReset_only {f : Nat} {gone : Bool} :
    Only (fun s t =>
      { s with regs := t.regs, flagSets := t.flagSets, fns := t.fns, txns := t.txns, obs := t.obs }) s
      (s.startReset f gone) :=
  .ite .refl ((putFn_only.mono.then ctAutoAbort_only).then snapAbort_only)

theorem State.rebind_only {v : Nat} :
    Only (fun s t => { s with regs := t.regs, sessions := t.sessions }) s (s.rebind v) := .ite rfl (.ite rfl rfl)

/-! ### Checkpoints -/

theorem State.ckpCut_only {f : Frame} :
    Only (fun s t => { s with fns := t.fns, checkpoint := t.checkpoint }) s (s.ckpCut f) :=
  .ite complete_only.mono (.ite complete_only.mono (.ite complete_only.mono (.ite complete_only.mono putCkp_only.mono)))

theorem State.manifestDurable_only :
    Only (fun s t => { s with out := t.out, tenants := t.tenants, fns := t.fns, checkpoint := t.checkpoint }) s
      s.manifestDurable := by
  unfold State.manifestDurable
  split
  · exact .refl
  · split
    · exact .refl
    · refine .ite .refl ?_
      exact (((putCkp_only.mono.then (.foldl (fun _ _ => charge_only) _)).then
        (.foldl (fun _ _ => charge_only) _)).then emit_only).then complete_only

theorem State.cutLedger_only : Only (fun s t => { s with checkpoint := t.checkpoint }) s s.cutLedger := by
  unfold State.cutLedger
  split
  · exact .refl
  · exact .ite .refl rfl

/-! ### The store, the energy ports and the loops -/

theorem State.checkStore_only :
    Only (fun s t =>
      { s with regs := t.regs, flagSets := t.flagSets, sessions := t.sessions, power := t.power }) s s.checkStore := by
  unfold State.checkStore
  extract_lets p l set ok pct press s1
  have h1 : Only (fun s t => { s with sessions := t.sessions, power := t.power }) s s1 := rfl
  have h2 (v : Bool) : Only (fun s t => { s with sessions := t.sessions }) s1 (s1.degradeAll v) := rfl
  exact .ite ((h1.mono.then (h2 _)).then setFlag_only) (.ite (h1.mono.then (h2 _)) h1.mono)

theorem State.recompute_only :
    Only (fun s t => { s with
      regs := t.regs, flagSets := t.flagSets, sessions := t.sessions, power := t.power, energyPorts := t.energyPorts }) s
      s.recompute := by
  unfold State.recompute
  extract_lets s1 e us cap l
  have h1 : Only (fun s t => { s with energyPorts := t.energyPorts }) s s1 :=
    .foldl (fun _ _ => .ite putEport_only .refl) _
  generalize hu : State.mk .. = u
  have h2 : Only (fun s t => { s with power := t.power }) s1 u := hu ▸ rfl
  exact (h1.mono.then h2).then checkStore_only

theorem State.setPort_only {n : Nat} {p : EnergyPort} {ph : PortPhase} :
    Only (fun s t => { s with
      regs := t.regs, flagSets := t.flagSets, sessions := t.sessions, power := t.power, energyPorts := t.energyPorts }) s
      (s.setPort n p ph) := putEport_only.mono.then recompute_only

theorem State.portSafe_only {n : Nat} :
    Only (fun s t => { s with
      regs := t.regs, flagSets := t.flagSets, sessions := t.sessions, power := t.power, energyPorts := t.energyPorts }) s
      (s.portSafe n) := setPort_only

theorem State.judgePort_only {n : Nat} {p : EnergyPort} :
    Only (fun s t => { s with regs := t.regs, flagSets := t.flagSets, energyPorts := t.energyPorts }) s (s.judgePort n p) :=
  (putEport_only.mono.then flagIf_only).then flagIf_only

theorem State.healthTest_only {n rating esr : Nat} :
    Only (fun s t => { s with regs := t.regs, flagSets := t.flagSets, energyPorts := t.energyPorts }) s
      (s.healthTest n rating esr) := .ite .refl (judgePort_only.then putEport_only)

theorem State.currentLoopFault_only {n : Nat} :
    Only (fun s t => { s with
      regs := t.regs, flagSets := t.flagSets, sessions := t.sessions, power := t.power, energyPorts := t.energyPorts }) s
      (s.currentLoopFault n) :=
  ((putEport_only.mono.then portSafe_only).then flagIf_only).then setFlag_only

theorem State.voltagePort_only {n : Nat} {taps : List Nat} {ntcs : List Int} {sp : Int} {health : Nat} :
    Only (fun s t => { s with regs := t.regs, flagSets := t.flagSets, energyPorts := t.energyPorts }) s
      (s.voltagePort n taps ntcs sp health) := judgePort_only

theorem State.voltageLoopFault_only :
    Only (fun s t => { s with regs := t.regs, flagSets := t.flagSets, power := t.power }) s s.voltageLoopFault := by
  unfold State.voltageLoopFault
  extract_lets _ s1
  suffices h1 : Only _ s s1 from (h1.then setFlag_only).then setFlag_only
  rfl

theorem State.retire_only {n : Nat} :
    Only (fun s t => { s with
      regs := t.regs, flagSets := t.flagSets, sessions := t.sessions, power := t.power, energyPorts := t.energyPorts }) s
      (s.retire n) := .ite setPort_only setFlag_only.mono

theorem State.admitPort_only {n : Nat} :
    Only (fun s t => { s with
      regs := t.regs, flagSets := t.flagSets, sessions := t.sessions, power := t.power, energyPorts := t.energyPorts }) s
      (s.admitPort n) := .ite setPort_only setFlag_only.mono

theorem State.pollConverter_only {c : Nat × Bool × Bool} :
    Only (fun s t =>
      { s with regs := t.regs, flagSets := t.flagSets, fns := t.fns, errLog := t.errLog, power := t.power }) s
      (s.pollConverter c) := by
  obtain ⟨addr, answered, bad⟩ := c
  exact .ite ((setPower_only.mono.then setFlag_only).then logError_only) setPower_only.mono

theorem State.thermalLoop_only {j dr di w mj : Nat} {fs : List Nat} {pc : Nat} :
    Only (fun s t => { s with power := t.power }) s (s.thermalLoop j dr di w mj fs pc) := rfl

theorem State.thermalLoopFault_only : Only (fun s t => { s with power := t.power }) s s.thermalLoopFault := rfl

theorem State.capRelax_only {w : Nat} : Only (fun s t => { s with power := t.power }) s (s.capRelax w) :=
  .ite .refl (.ite rfl rfl)

/-! ### The journal -/

theorem State.journalStart_only {slot : Nat} : Only (fun s t => { s with power := t.power }) s (s.journalStart slot) :=
  .ite .refl (.ite .refl (.ite .refl rfl))

theorem State.journalCapture_only {seq page : Nat} :
    Only (fun s t => { s with leaves := t.leaves, power := t.power }) s (s.journalCapture seq page) := by
  unfold State.journalCapture
  split
  · exact .refl
  · refine .ite .refl ?_
    extract_lets put left
    split
    · rfl
    · exact .ite .refl rfl

/-! ### Expanders, drives and Ethernet -/

theorem State.attachExpander_only {i w g : Nat} {ok : Bool} :
    Only (fun s t => { s with fns := t.fns, expanders := t.expanders }) s (s.attachExpander i w g ok) := .ite rfl rfl

theorem State.evacuateCancel_only {i : Nat} :
    Only (fun s t => { s with expanders := t.expanders }) s (s.evacuateCancel i) := .ite rfl .refl

theorem State.driveAttach_only {d nsid size : Nat} {fit : Bool} :
    Only (fun s t => { s with
      regs := t.regs, flagSets := t.flagSets, sessions := t.sessions, drives := t.drives, power := t.power }) s
      (s.driveAttach d nsid size fit) := by
  unfold State.driveAttach State.judgeDrives
  extract_lets a b on total
  generalize hu : State.mk .. = u
  exact Only.then (u := u) (hu ▸ rfl) checkStore_only

theorem State.ethReceive_only {p : Nat} {bs : List Byte} {ok : Bool} :
    Only (fun s t => { s with out := t.out, eths := t.eths }) s (s.ethReceive p bs ok) := by
  unfold State.ethReceive
  extract_lets e n
  refine .ite .refl (.ite rfl (.ite rfl (.ite rfl ?_)))
  split
  · rfl
  · rfl
  · rfl
  · exact .ite rfl .refl
  · exact .refl

end Ops
end Sys2Proof.Machine

namespace Sys2Proof.Machine
-- In order, as in the tests: many proofs at once would each wait for the others in a thread of its own.
set_option Elab.async false

section Ops
variable {s : State}

/-! ### The two streams and the draws -/

theorem State.s1Suspend_only {layer : Nat} :
    Only (fun s t => { s with regs := t.regs, flagSets := t.flagSets, s1 := t.s1 }) s (s.s1Suspend layer) := by
  unfold State.s1Suspend
  split
  · exact .refl
  · refine .ite .refl ?_
    have h1 (x : Stream) : Only (fun s t => { s with s1 := t.s1 }) s { s with s1 := x } := rfl
    exact ((h1 _).mono.then setFlag_only).then flagIf_only

theorem State.s1Resume_only : Only (fun s t => { s with s1 := t.s1 }) s s.s1Resume := by
  unfold State.s1Resume
  split
  · exact .refl
  · exact .ite .refl rfl

theorem State.updMember_only {b : Bool} {slot : Nat} {f : Member → Member} :
    Only (fun s t => { s with s0 := t.s0, s1 := t.s1 }) s (s.updMember b slot f) := by
  unfold State.updMember
  extract_lets x
  split
  · exact .refl
  · exact putStream_only

theorem State.finishDraws_only {slot : Nat} {m : Member} {md : Model} {p : Profile} :
    Only (fun s t => { s with
      regs := t.regs, flagSets := t.flagSets, s0 := t.s0, s1 := t.s1, samplers := t.samplers }) s
      (s.finishDraws slot m md p) := by
  have h1 (x : List (Nat × SamplerCount)) :
      Only (fun s t => { s with samplers := t.samplers }) s { s with samplers := x } := rfl
  unfold State.finishDraws
  extract_lets x lists
  split
  exact ((h1 _).mono.then flagIf_only).then updMember_only

theorem State.samplerDraw_only {slot i : Nat} {logits drafts : List Nat} {hook : List Int} :
    Only (fun s t => { s with
      regs := t.regs, flagSets := t.flagSets, s0 := t.s0, s1 := t.s1, samplers := t.samplers }) s
      (s.samplerDraw slot i logits drafts hook) := by
  have h1 (u : State) (x : List (Nat × SamplerCount)) :
      Only (fun s t => { s with samplers := t.samplers }) u { u with samplers := x } := rfl
  unfold State.samplerDraw
  split
  · extract_lets x e drafts' lists pos die
    split
    · exact .refl
    · refine .ite .refl ?_
      extract_lets t
      split
      split
      split
      extract_lets s1 c c' s2 m' s3
      suffices h3 : Only _ s s3 from .ite (h3.then finishDraws_only) h3
      have h2 : Only (fun s t => { s with regs := t.regs, flagSets := t.flagSets }) s s1 := flagIf_only.then flagIf_only
      exact (h2.mono.then (h1 s1 _)).then updMember_only
  · exact .refl

/-! ### What a step charges and records -/

theorem State.countFor_only {t i n : Nat} : Only (fun s t => { s with tenants := t.tenants }) s (s.countFor t i n) :=
  .ite .refl putTenant_only

theorem State.chargeMember_only {m : Member} : Only (fun s t => { s with tenants := t.tenants }) s (s.chargeMember m) :=
  .ite countFor_only (.ite .refl
    ((((countFor_only.set countFor_only).set countFor_only).set countFor_only).set countFor_only))

theorem State.splitEnergy_only {r : StepRun} : Only (fun s t => { s with tenants := t.tenants }) s (s.splitEnergy r) :=
  Only.set (.foldl (fun _ _ => countFor_only) _) countFor_only

theorem State.postCharges_only {n : Nat} : Only (fun s t => { s with tenants := t.tenants }) s (s.postCharges n) := rfl

theorem State.markPosted_only {b : Bool} {n : Nat} :
    Only (fun s t => { s with tenants := t.tenants }) s (s.markPosted b n) := rfl

theorem State.putStepRecord_only {b : Bool} {i : Nat} {r : StepRecord} :
    Only (fun s t => { s with mem := t.mem, s0 := t.s0, s1 := t.s1 }) s (s.putStepRecord b i r) := by
  have h2 (u : State) (x : List Host.Cell) : Only (fun s t => { s with mem := t.mem }) u { u with mem := x } := rfl
  unfold State.putStepRecord
  extract_lets cfg base j x s1
  have h1 : Only (fun s t => { s with s0 := t.s0, s1 := t.s1 }) s s1 := putStream_only
  refine .ite .refl ?_
  split
  · exact h1.mono.then (h2 s1 _)
  · exact h1.mono

theorem State.endRun_only {b : Bool} : Only (fun s t => { s with s0 := t.s0, s1 := t.s1 }) s (s.endRun b) :=
  putStream_only

theorem State.stepOutcome_only {b : Bool} :
    Only (fun s t => { s with
      mem := t.mem, s0 := t.s0, s1 := t.s1, tenants := t.tenants, checkpoint := t.checkpoint }) s (s.stepOutcome b) := by
  unfold State.stepOutcome
  split
  · exact .refl
  · split
    · exact .refl
    · refine .ite .refl ?_
      extract_lets s1 s2 s3 s4 s5 s6
      have h1 : Only (fun s t => { s with tenants := t.tenants }) s s1 := .foldl (fun _ _ => chargeMember_only) _
      have h3 : Only (fun s t => { s with tenants := t.tenants }) s s3 :=
        (h1.set splitEnergy_only).set (.ite .refl postCharges_only)
      have h6 : Only (fun s t => { s with checkpoint := t.checkpoint }) s5 s6 := .ite .refl cutLedger_only
      exact (((h3.set markPosted_only).mono.then putStepRecord_only).then h6).then endRun_only

/-! ### The millisecond tick and the access decay -/

theorem State.takeEnergy_only : Only (fun s t => { s with power := t.power }) s s.takeEnergy.2 := rfl

theorem State.chargePageTier_only {tier use : Nat} {who : List Nat × Nat} :
    Only (fun s t => { s with tenants := t.tenants }) s (s.chargePageTier tier use who) := by
  unfold State.chargePageTier
  extract_lets a n s1
  have h1 : Only (fun s t => { s with tenants := t.tenants }) s s1 := .foldl (fun _ _ => .ite .refl charge_only) _
  exact .ite h1 (h1.set charge_only)

theorem State.chargePage_only {p : Nat × Leaf} : Only (fun s t => { s with tenants := t.tenants }) s (s.chargePage p) := by
  obtain ⟨page, l⟩ := p
  refine .ite .refl ?_
  split
  · exact chargePageTier_only
  · exact chargePageTier_only.set chargePageTier_only

theorem State.tick_only : Only (fun s t => { s with tenants := t.tenants, power := t.power }) s s.tick := by
  unfold State.tick
  extract_lets s1 live s2 s3 s4
  have h1 : Only (fun s t => { s with tenants := t.tenants }) s s1 := .foldl (fun _ _ => chargePage_only) _
  have h2 : Only (fun s t => { s with tenants := t.tenants }) s s2 := h1.set (.foldl (fun _ _ => charge_only) _)
  have h3 : Only (fun s t => { s with tenants := t.tenants }) s s3 := h2.set rfl
  have h4 : Only (fun s t => { s with tenants := t.tenants }) s s4 := h3.set (.ite postCharges_only .refl)
  exact .ite ((h4.mono.then takeEnergy_only).then countFor_only) h4.mono

theorem State.accessDecay_only {sd : Nat} :
    Only (fun s t => { s with regs := t.regs, flagSets := t.flagSets, sds := t.sds, leaves := t.leaves }) s
      (s.accessDecay sd) := by
  have h1 (l : List (Nat × Leaf)) : Only (fun s t => { s with leaves := t.leaves }) s { s with leaves := l } := rfl
  exact ((h1 _).mono.then flagIf_only).then putSd_only

/-! ### Updates of one unit -/

theorem State.notBefore_only {slot : Nat} : Only (fun s t => { s with sessions := t.sessions }) s (s.notBefore slot) :=
  .ite (disarm_only.set setState_only) .refl

theorem State.timedFrame_only {f q seq : Nat} : Only (fun s t => { s with fns := t.fns }) s (s.timedFrame f q seq) :=
  putDq_only

theorem State.codewordBad_only {p seq : Nat} : Only (fun s t => { s with gallery := t.gallery }) s (s.codewordBad p seq) :=
  putPort_only

theorem State.writeCap_only {v : Nat} : Only (fun s t => { s with regs := t.regs }) s (s.writeCap v) := setReg_only

theorem State.currentLoop_only {n b v d e r : Nat} {c : Int} :
    Only (fun s t => { s with energyPorts := t.energyPorts }) s (s.currentLoop n b v c d e r) := putEport_only

end Ops
end Sys2Proof.Machine

namespace Sys2Proof.Machine
-- In order, as in the tests: many proofs at once would each wait for the others in a thread of its own.
set_option Elab.async false

section Ops
variable {s : State}

/-! ### The SPDM requests -/

theorem State.spdmError_only {c : Nat} : Only (fun s t => { s with out := t.out }) s (s.spdmError c) := emit_only

theorem State.negotiated_only {K : State → State → State} {k : State → State} (h : Only K s (k s))
    (he : Only K s (s.spdmError spdmUnexpected)) : Only K s (s.negotiated k) := .ite h he

theorem State.secure_only {K : State → State → State} {k : SpdmSession → State → State} {id : Nat}
    (h : ∀ x, Only K s (k x s)) (he : Only K s (s.spdmError spdmInvalidSession)) : Only K s (s.secure id k) := by
  unfold State.secure
  split
  · exact h _
  · exact he

theorem State.sign_only : Only (fun s t => { s with draws := t.draws }) s s.sign.2 := rfl

theorem State.getVersion_only :
    Only (fun s t => { s with out := t.out, security := t.security }) s s.getVersion := putSec_only.mono.then emit_only

theorem State.getCapabilities_only :
    Only (fun s t => { s with out := t.out, security := t.security }) s s.getCapabilities :=
  .ite (putSec_only.mono.then emit_only) spdmError_only.mono

theorem State.negotiate_only {offered : Bool} :
    Only (fun s t => { s with out := t.out, security := t.security }) s (s.negotiate offered) :=
  .ite spdmError_only.mono (.ite spdmError_only.mono (putSec_only.mono.then emit_only))

theorem State.getDigests_only : Only (fun s t => { s with out := t.out }) s s.getDigests :=
  negotiated_only emit_only spdmError_only

theorem State.getCertificate_only {slot : Nat} : Only (fun s t => { s with out := t.out }) s (s.getCertificate slot) := by
  refine negotiated_only ?_ spdmError_only
  split
  · exact emit_only
  · exact spdmError_only

theorem State.challenge_only {slot : Nat} :
    Only (fun s t => { s with draws := t.draws, out := t.out }) s (s.challenge slot) := by
  refine negotiated_only ?_ spdmError_only.mono
  dsimp only
  split
  · exact (sign_only.mono.then sign_only).then (emit_only (m := .response _ _))
  · exact spdmError_only.mono

theorem State.getMeasurements_only {i : Nat} {signed : Bool} :
    Only (fun s t => { s with draws := t.draws, out := t.out }) s (s.getMeasurements i signed) := by
  refine negotiated_only (.ite spdmError_only.mono (.ite ?_ emit_only.mono)) spdmError_only.mono
  exact (sign_only.mono.then sign_only).then (emit_only (m := .response _ _))

theorem State.keyExchange_only {r : Nat} :
    Only (fun s t => { s with draws := t.draws, out := t.out, security := t.security }) s (s.keyExchange r) := by
  refine negotiated_only (.ite spdmError_only.mono ?_) spdmError_only.mono
  exact (putSec_only.mono.then sign_only).then (emit_only (m := .response _ _))

theorem State.dropSession_only {id : Nat} : Only (fun s t => { s with security := t.security }) s (s.dropSession id) :=
  putSec_only

theorem State.finish_only {id : Nat} {ok own : Bool} :
    Only (fun s t => { s with out := t.out, security := t.security }) s (s.finish id ok own) := by
  unfold State.finish
  split
  · exact spdmError_only.mono
  · exact .ite (dropSession_only.mono.then spdmError_only) (putSec_only.mono.then emit_only)

theorem State.setJobKey_only {job phase key : Nat} :
    Only (fun s t => { s with out := t.out, security := t.security }) s (s.setJobKey job phase key) := by
  unfold State.setJobKey
  extract_lets x
  split
  · exact spdmError_only.mono
  · exact .ite spdmError_only.mono (putSec_only.mono.then emit_only)

theorem State.clearJobKey_only {job phase : Nat} :
    Only (fun s t => { s with out := t.out, security := t.security }) s (s.clearJobKey job phase) := by
  unfold State.clearJobKey
  extract_lets x found
  clear_value found
  split
  · exact spdmError_only.mono
  · exact .ite spdmError_only.mono (putSec_only.mono.then emit_only)

theorem State.ownerEnrol_only {hash : Nat} {signed : Bool} :
    Only (fun s t => { s with out := t.out, security := t.security }) s (s.ownerEnrol hash signed) :=
  .ite spdmError_only.mono (putSec_only.mono.then emit_only)

theorem State.ideKm_only {p n : Nat} {fs : List Nat} {b : Bool} :
    Only (fun s t => { s with security := t.security }) s (s.ideKm p n fs b) := putSec_only

theorem State.tdisp_only {f op : Nat} :
    Only (fun s t => { s with out := t.out, security := t.security }) s (s.tdisp f op) := by
  unfold State.tdisp
  extract_lets st _ go
  have hgo (x : TdiState) : Only (fun s t => { s with out := t.out, security := t.security }) s (go x) :=
    putSec_only.mono.then emit_only
  exact .ite spdmError_only.mono (.ite emit_only.mono (.ite (hgo _) (.ite (hgo _) (.ite (hgo _) spdmError_only.mono))))

theorem State.debugUnlock_only {slot : Nat} {b : Bool} :
    Only (fun s t => { s with out := t.out, security := t.security }) s (s.debugUnlock slot b) :=
  .ite putSec_only.mono spdmError_only.mono

/-! ### Images, keys and the boot -/

theorem State.checkImage_only {g : ImageSig} {b : Bool} {u : State} (h : s.checkImage g = (b, u)) :
    Only (fun s t => { s with regs := t.regs, flagSets := t.flagSets }) s u := by
  unfold State.checkImage at h
  split at h
  · cases h
    exact .refl
  · cases h
    exact setFlag_only

theorem State.dropStaged_only {p : FwClass → Bool} : Only (fun s t => { s with boot := t.boot }) s (s.dropStaged p) := rfl

theorem State.svnCommit_only :
    Only (fun s t => { s with security := t.security, boot := t.boot }) s s.svnCommit := by
  unfold State.svnCommit
  extract_lets n
  exact putSec_only.mono.then dropStaged_only

theorem State.rotateKeys_only {i : Nat} {signed : Bool} :
    Only (fun s t => { s with
      regs := t.regs, flagSets := t.flagSets, security := t.security, boot := t.boot }) s (s.rotateKeys i signed) :=
  .ite setFlag_only.mono (putSec_only.mono.then dropStaged_only)

theorem State.fwStage_only {c v h : Nat} {g : ImageSig} :
    Only (fun s t => { s with regs := t.regs, flagSets := t.flagSets, out := t.out, boot := t.boot }) s
      (s.fwStage c v h g) := by
  unfold State.fwStage
  split
  next heq =>
    have h1 := checkImage_only heq
    exact .ite (h1.mono.then emit_only) ((h1.mono.then putFw_only).then emit_only)

theorem State.inPhase_only {K : State → State → State} {p : Nat} {act : State → State} (h : Only K s (act s))
    (hr : ∀ s, K s s = s := by intros; rfl) : Only K s (s.inPhase p act) := .ite h (.refl hr)

theorem State.p0Done_only {pos : Nat} :
    Only (fun s t => { s with regs := t.regs, boot := t.boot }) s (s.p0Done pos) :=
  inPhase_only (putBoot_only.mono.then setRegFld_only)

theorem State.elect_only {iod : Nat} : Only (fun s t => { s with boot := t.boot }) s (s.elect iod) := putBoot_only

theorem State.romPass_only {iod rom : Nat} :
    Only (fun s t => { s with security := t.security, boot := t.boot }) s (s.romPass iod rom) := by
  have h1 (u : State) (x : Security) :
      Only (fun s t => { s with security := t.security, boot := t.boot }) u { u with security := x } := rfl
  unfold State.romPass
  extract_lets _ s1
  have hb : Only (fun s t => { s with boot := t.boot }) s s1 := putBoot_only
  exact hb.mono.set (inPhase_only (.ite (h1 s1 _) ((h1 s1 _).then elect_only)))

theorem State.electionOver_only : Only (fun s t => { s with out := t.out, boot := t.boot }) s s.electionOver :=
  inPhase_only (.ite .refl (.ite elect_only.mono (.ite .refl (putBoot_only.mono.then emit_only))))

theorem State.newAlias_only : Only (fun s t => { s with security := t.security }) s s.newAlias := rfl

theorem State.runStage1_only {h : Nat} {b : Bool} :
    Only (fun s t => { s with security := t.security, boot := t.boot }) s (s.runStage1 h b) := by
  have h1 (x : Security) : Only (fun s t => { s with security := t.security }) s { s with security := x } := rfl
  exact ((h1 _).mono.then putBoot_only).then newAlias_only

theorem State.stage1_only {a b : ImageSig × Nat} {standby : Bool} :
    Only (fun s t => { s with
      regs := t.regs, flagSets := t.flagSets, security := t.security, boot := t.boot }) s (s.stage1 a b standby) := by
  refine inPhase_only ?_
  extract_lets cur alt
  split
  next heq =>
    have h1 := checkImage_only heq
    refine .ite (h1.mono.then runStage1_only) ?_
    split
    next heq' =>
      have h2 := h1.set (checkImage_only heq')
      exact .ite ((h2.mono.then putBoot_only).then runStage1_only) (h2.mono.then putBoot_only)

theorem State.recoveryImage_only {g : ImageSig} :
    Only (fun s t => { s with regs := t.regs, flagSets := t.flagSets, out := t.out, boot := t.boot }) s
      (s.recoveryImage g) := by
  refine inPhase_only ?_
  split
  next heq =>
    have h1 := checkImage_only heq
    exact .ite (h1.mono.then putBoot_only) (h1.mono.then emit_only)

theorem State.assay_only {fs : List (Nat × Nat × Nat)} {ds : List Nat} :
    Only (fun s t => { s with boot := t.boot }) s (s.assay fs ds) := inPhase_only putBoot_only

theorem State.runBundle_only {g : ImageSig} {is : List (Nat × Nat)} {loops : Nat} :
    Only (fun s t => { s with security := t.security, boot := t.boot }) s (s.runBundle g is loops) := by
  unfold State.runBundle
  extract_lets s1
  have h1 : Only (fun s t => { s with boot := t.boot }) s s1 := .foldl (fun _ _ => putFw_only) _
  exact h1.mono.then (K' := fun s t => { s with security := t.security }) rfl

theorem State.broadcast_only {a b : ImageSig × List (Nat × Nat)} {loops : Nat} :
    Only (fun s t => { s with
      regs := t.regs, flagSets := t.flagSets, security := t.security, boot := t.boot }) s (s.broadcast a b loops) := by
  refine inPhase_only ?_
  extract_lets cur alt
  split
  next heq =>
    have h1 := checkImage_only heq
    refine .ite ?_ ?_
    · exact (h1.mono.then (K' := fun s t => { s with security := t.security, boot := t.boot })
        (.ite runBundle_only .refl)).then putBoot_only
    · split
      next heq' =>
        have h2 := h1.set (checkImage_only heq')
        exact .ite h2.mono ((h2.mono.then runBundle_only).then putBoot_only)

theorem State.readShard_only {h : Shard} : Only (fun s t => { s with out := t.out }) s (s.readShard h) := emit_only

theorem State.shardRead_only {m h : Nat} {ok : Bool} :
    Only (fun s t => { s with regs := t.regs, flagSets := t.flagSets, out := t.out, boot := t.boot }) s
      (s.shardRead m h ok) := by
  unfold State.shardRead
  split
  · exact .refl
  · have h1 (b : Boot) := putBoot_only (s := s) (b := b)
    exact .ite (h1 _).mono (.ite ((h1 _).mono.then readShard_only) ((h1 _).mono.then setFlag_only))

end Ops
end Sys2Proof.Machine

namespace Sys2Proof.Machine
-- In order, as in the tests: many proofs at once would each wait for the others in a thread of its own.
set_option Elab.async false

section Ops
variable {s : State}

/-! ### Control transactions -/

theorem State.ctCommand_only {f v : Nat} {act : CtTxn → State → State}
    (h : ∀ u x, Only (fun s t => { s with regs := t.regs, txns := t.txns, ctResults := t.ctResults }) u (act x u)) :
    Only (fun s t => { s with regs := t.regs, txns := t.txns, ctResults := t.ctResults }) s (s.ctCommand f v act) := by
  unfold State.ctCommand
  extract_lets s1
  have h1 : Only (fun s t => { s with regs := t.regs }) s s1 := setReg_only
  refine .ite (h1.mono.then ctResult_only) ?_
  split
  · exact h1.mono.then ctResult_only
  · exact .ite (h1.mono.then ctResult_only) (h1.mono.set (h _ _))

theorem State.ctBegin_only {f v : Nat} :
    Only (fun s t => { s with regs := t.regs, txns := t.txns, ctResults := t.ctResults }) s (s.ctBegin f v) := by
  unfold State.ctBegin
  extract_lets s1 sc
  have h1 : Only (fun s t => { s with regs := t.regs }) s s1 := setReg_only
  refine .ite (h1.mono.then ctResult_only) (.ite (h1.mono.then ctResult_only) ?_)
  split
  · exact h1.mono.then ctResult_only
  · exact (h1.mono.then putTxn_only).then ctResult_only

theorem State.ctAbort_only {f v : Nat} :
    Only (fun s t => { s with regs := t.regs, txns := t.txns, ctResults := t.ctResults }) s (s.ctAbort f v) :=
  ctCommand_only fun _ _ => putTxn_only.mono.then ctResult_only

theorem State.ctLoadPatch_only {f v : Nat} :
    Only (fun s t => { s with regs := t.regs, txns := t.txns, ctResults := t.ctResults }) s (s.ctLoadPatch f v) :=
  ctCommand_only fun _ _ =>
    .ite ctResult_only.mono (.ite ctResult_only.mono (putTxn_only.mono.then ctResult_only))

theorem State.patchRead_only {f : Nat} {bs : List Byte} {g : ImageSig} {ok : Bool} :
    Only (fun s t => { s with
      regs := t.regs, flagSets := t.flagSets, txns := t.txns, ctResults := t.ctResults }) s (s.patchRead f bs g ok) := by
  have hr (u : State) (x : List (Nat × Nat × Nat × Nat)) :
      Only (fun s t => { s with ctResults := t.ctResults }) u { u with ctResults := x } := rfl
  unfold State.patchRead
  split
  · exact .refl
  · extract_lets sigOk
    split
    extract_lets s1
    have h1 : Only (fun s t => { s with regs := t.regs, flagSets := t.flagSets }) s s1 := flagIf_only
    split
    exact (h1.mono.then putTxn_only).then (hr _ _)

theorem State.stageWrite_only {f a v : Nat} {d : RegDesc} :
    Only (fun s t => { s with regs := t.regs, flagSets := t.flagSets, txns := t.txns }) s (s.stageWrite f a v d) := by
  unfold State.stageWrite
  refine .ite .refl ?_
  split
  · exact setFlag_only.mono
  · exact putTxn_only.mono

theorem State.writeFlags_only {a v : Nat} :
    Only (fun s t => { s with regs := t.regs, flagClears := t.flagClears }) s (s.writeFlags a v) := by
  unfold State.writeFlags
  split
  · exact .refl
  · exact .ite .refl (.foldl (fun _ _ => clearFlag_only) _)

/-! ### Observation -/

theorem State.clearIfCount_only {f v : Nat} :
    Only (fun s t => { s with regs := t.regs, flagClears := t.flagClears, obs := t.obs }) s (s.clearIfCount f v) := by
  have hc (u : State) (x : List (Nat × Nat)) :
      Only (fun s t => { s with flagClears := t.flagClears }) u { u with flagClears := x } := rfl
  unfold State.clearIfCount
  extract_lets s1
  have h1 : Only (fun s t => { s with regs := t.regs }) s s1 := setReg_only
  refine .ite h1.mono (.ite (h1.mono.then setObs_only) (.ite (h1.mono.then setObs_only) ?_))
  exact ((h1.mono.then setObs_only).then setReg_only).then (hc _ _)

theorem State.hwmClear_only {p v : Nat} :
    Only (fun s t => { s with
      regs := t.regs, flagSets := t.flagSets, gallery := t.gallery, tables := t.tables, checkpoint := t.checkpoint }) s
      (s.hwmClear p v) := by
  unfold State.hwmClear
  extract_lets addr s1 n
  have h1 : Only (fun s t => { s with regs := t.regs }) s s1 := setReg_only
  refine .ite (h1.mono.then setFlag_only) ?_
  split
  · exact h1.mono.then setRegFld_only
  · exact h1.mono.then setRegFld_only
  · exact (h1.mono.then setRegFld_only).then setRegFld_only
  · exact h1.mono.then putTables_only
  · exact h1.mono.then setRegFld_only
  · exact h1.mono.then hwmRead_only
  · exact h1.mono.then putCkp_only
  · exact h1.mono.then setFlag_only

theorem State.snapPart_only {sd : Option Nat} :
    Only (fun s t => { s with draws := t.draws, obs := t.obs }) s (s.snapPart sd) := by
  unfold State.snapPart
  split
  · exact .refl
  · exact .ite .refl rfl

theorem State.snapMark_only {step pt : Nat} :
    Only (fun s t => { s with draws := t.draws, obs := t.obs }) s (s.snapMark step pt) := by
  unfold State.snapMark
  split
  · exact .ite (setObs_only.mono.then snapPart_only) .refl
  · exact .refl

theorem State.snapNow_only : Only (fun s t => { s with draws := t.draws, obs := t.obs }) s s.snapNow :=
  snapMark_only.set (.foldl (fun _ _ => snapPart_only) _)

theorem State.snapEnd_only {st : Nat} :
    Only (fun s t => { s with regs := t.regs, flagSets := t.flagSets, obs := t.obs }) s (s.snapEnd st) :=
  setObs_only.mono.then flagIf_only

theorem State.snapGo_only {f v : Nat} {l : List Byte} :
    Only (fun s t => { s with draws := t.draws, regs := t.regs, flagSets := t.flagSets, obs := t.obs }) s
      (s.snapGo f v l) := by
  unfold State.snapGo
  extract_lets s1
  have h1 : Only (fun s t => { s with regs := t.regs }) s s1 := setReg_only
  refine .ite h1.mono (.ite (h1.mono.then setObs_only) ?_)
  refine .ite (h1.mono.then snapEnd_only) (.ite (h1.mono.then snapEnd_only) ?_)
  refine .ite (h1.mono.then snapEnd_only) (.ite (h1.mono.then snapEnd_only) ?_)
  exact .ite (h1.mono.then setObs_only) ((h1.mono.then setObs_only).then snapNow_only)

theorem State.snapWritten_only :
    Only (fun s t => { s with regs := t.regs, flagSets := t.flagSets, out := t.out, obs := t.obs }) s s.snapWritten := by
  unfold State.snapWritten
  split
  · split
    · exact .ite ((emit_only.mono.then snapEnd_only).then setObs_only) .refl
    · exact .refl
  · exact .refl

theorem State.dumpEnd_only {st : Nat} :
    Only (fun s t => { s with regs := t.regs, flagSets := t.flagSets, obs := t.obs }) s (s.dumpEnd st) :=
  setObs_only.mono.then flagIf_only

theorem State.ledgerDump_only {f v : Nat} :
    Only (fun s t => { s with regs := t.regs, flagSets := t.flagSets, obs := t.obs }) s (s.ledgerDump f v) := by
  unfold State.ledgerDump
  extract_lets s1 addr
  have h1 : Only (fun s t => { s with regs := t.regs }) s s1 := setReg_only
  exact .ite h1.mono (.ite (h1.mono.then setObs_only) (.ite (h1.mono.then dumpEnd_only) (h1.mono.then setObs_only)))

/-! ### Matrix commands of a core -/

theorem State.zwWrite_only {i a : Nat} {bs : List Byte} :
    Only (fun s t => { s with cores := t.cores, clusterSram := t.clusterSram }) s (s.zwWrite i a bs) :=
  .ite putCore_only.mono rfl

theorem State.engFlag_only {i b : Nat} :
    Only (fun s t => { s with regs := t.regs, flagSets := t.flagSets }) s (s.engFlag i b) := .ite setFlag_only .refl

theorem State.matExec_only {i : Nat} {m : MatCmd} :
    Only (fun s t => { s with
      draws := t.draws, regs := t.regs, flagSets := t.flagSets, cores := t.cores, clusterSram := t.clusterSram }) s
      (s.matExec i m) := by
  unfold State.matExec
  extract_lets c t r s1 put s2 s3 s4 s5
  have hput (u : State) (x : Tile) : Only (fun s t => { s with cores := t.cores }) u (put u x) := putCore_only
  have h1 : Only (fun s t => { s with draws := t.draws }) s s1 := rfl
  have h2 : Only (fun s t => { s with cores := t.cores }) s1 s2 := by
    unfold s2
    split
    · exact hput _ _
    · exact .refl
  have h3 : Only (fun s t => { s with cores := t.cores, clusterSram := t.clusterSram }) s2 s3 := by
    unfold s3
    split
    · exact zwWrite_only
    · exact .refl
  have h4 : Only (fun s t => { s with regs := t.regs, flagSets := t.flagSets }) s3 s4 :=
    .foldl (fun _ _ => engFlag_only) _
  have h := (((h1.mono (K := fun s t => { s with
      draws := t.draws, regs := t.regs, flagSets := t.flagSets, cores := t.cores, clusterSram := t.clusterSram })).then
    h2).then h3).then h4
  split
  · have h5 : Only (fun s t => { s with cores := t.cores }) s4 s5 := .ite (hput _ _) .refl
    exact (h.then h5).then putCore_only
  · exact h

theorem State.matComplete_only {i n : Nat} {es : List Nat} :
    Only (fun s t => { s with
      draws := t.draws, regs := t.regs, flagSets := t.flagSets, cores := t.cores, clusterSram := t.clusterSram }) s
      (s.matComplete i n es) := putCore_only.mono.set (.foldl (fun _ _ => matExec_only) _)

end Ops
end Sys2Proof.Machine

namespace Sys2Proof.Machine
-- In order, as in the tests: many proofs at once would each wait for the others in a thread of its own.
set_option Elab.async false

/-! ### Commands that arrive with a time, through a channel or through the link's receiver -/

section Only
variable {K : State → State → State} {s : State} {t : Nat}

theorem Only.stamp (ht : ∀ s t w, K (s.stamp t) w = K s w := by intros; rfl)
    (hr : ∀ s, K s s = s := by intros; rfl) : Only K s (s.stamp t) :=
  (hr _).symm.trans (ht s t _)

theorem Only.secured {id : Nat} {k : SpdmSession → State → State} (h : ∀ x, Only K (s.stamp t) (k x (s.stamp t)))
    (he : Only K (s.stamp t) ((s.stamp t).spdmError spdmInvalidSession))
    (ht : ∀ s t w, K (s.stamp t) w = K s w := by intros; rfl) (hK : ∀ s t w, K (K s t) w = K s w := by intros; rfl)
    (hr : ∀ s, K s s = s := by intros; rfl) : Only K s ((s.stamp t).secure id k) :=
  .stamped (State.secure_only h he) ht hK hr

theorem Only.received {h : Head} {op : Nat} {act : State → State} (ha : Only K (s.stamp t) (act (s.stamp t)))
    (hg : ∀ s t w : State, K { s with regs := t.regs, flagSets := t.flagSets } w = K s w := by intros; rfl)
    (ht : ∀ s t w, K (s.stamp t) w = K s w := by intros; rfl) (hK : ∀ s t w, K (K s t) w = K s w := by intros; rfl)
    (hr : ∀ s, K s s = s := by intros; rfl) : Only K s ((s.stamp t).receive h op act) :=
  .stamped (State.receive_only ha hg hr) ht hK hr

end Only

theorem State.probe_only {s : State} {f : Frame} :
    Only (fun s t => { s with draws := t.draws, fns := t.fns }) s (s.probe f) := by
  obtain ⟨n, h, e⟩ := s.probe_frame f
  exact e ▸ rfl

/-! ### Commands whose effect depends on what the state holds -/

section Ends
variable {s : State} {t : Nat}

theorem pldmPmcRequest_ends {n : Nat} :
    Ends (Only (fun s t => { s with pt := t.pt, now := t.now, out := t.out }) s) (execPldmPmcRequest n t s) := by
  refine .next ?_
  split
  · exact .stamped State.emit_only
  · exact .stamped State.emit_only

theorem accImages_ends {h : Head} {step red first : Nat} {is : List (List Byte)} {info : SplitInfo} :
    Ends (Only (fun s t =>
      { s with pt := t.pt, now := t.now, regs := t.regs, flagSets := t.flagSets, splitSums := t.splitSums }) s)
      (execAccImages h step red first is info t s) := by
  have hs (u : State) (x : List (Nat × SplitSum)) :
      Only (fun s t => { s with splitSums := t.splitSums }) u { u with splitSums := x } := rfl
  refine .guard (.received ?_)
  extract_lets r0
  split
  extract_lets s1 s2
  have h2 : Only (fun s t => { s with regs := t.regs }) s1 s2 := .ite State.addRegFld_only .refl
  exact (Only.then (hs _ _).mono h2).then State.flagIf_only

theorem ctStageWrite_ends {f a v : Nat} :
    Ends (Only (fun s t =>
      { s with pt := t.pt, now := t.now, regs := t.regs, flagSets := t.flagSets, txns := t.txns }) s)
      (execCtStageWrite f a v t s) := by
  unfold execCtStageWrite
  split
  · exact .guard (.stamped State.stageWrite_only)
  · exact .fault

theorem ledDumpWritten_ends {ok : Bool} :
    Ends (Only (fun s t =>
      { s with pt := t.pt, now := t.now, regs := t.regs, flagSets := t.flagSets, out := t.out, obs := t.obs }) s)
      (execLedDumpWritten ok t s) := by
  refine .next ?_
  split
  · exact .ite ((Only.stamped State.emit_only).then State.dumpEnd_only) (.stamped State.dumpEnd_only)
  · exact .stamp

theorem loopFaultHoldExpire_ends :
    Ends (Only (fun s t => { s with
      pt := t.pt, now := t.now, regs := t.regs, flagSets := t.flagSets, sessions := t.sessions, power := t.power,
      energyPorts := t.energyPorts }) s) (execLoopFaultHoldExpire t s) := by
  refine .next ?_
  split
  · exact .ite (((Only.stamped State.portSafe_only).then State.portSafe_only).then State.setPower_only) .stamp
  · exact .stamp

theorem loopSwapTimeout_ends {n : Nat} :
    Ends (Only (fun s t => { s with
      pt := t.pt, now := t.now, regs := t.regs, flagSets := t.flagSets, sessions := t.sessions, power := t.power,
      energyPorts := t.energyPorts }) s) (execLoopSwapTimeout n t s) := by
  refine .guard ?_
  split
  · exact .ite (.stamped State.portSafe_only) .stamp
  · exact .stamp

theorem zwMatrixDone_ends {core engine : Nat} :
    Ends (Only (fun s t => { s with
      pt := t.pt, now := t.now, draws := t.draws, regs := t.regs, flagSets := t.flagSets, cores := t.cores,
      clusterSram := t.clusterSram }) s) (execZwMatrixDone core engine t s) := by
  unfold execZwMatrixDone
  split
  · exact .fault
  · refine .absent (.ite ?_ .stamp)
    beta_reduce
    split
    · exact .stamped State.matComplete_only
    · exact .stamp

end Ends

end Sys2Proof.Machine

namespace Sys2Proof.Machine
-- In order, as in the tests: many proofs at once would each wait for the others in a thread of its own.
set_option Elab.async false
open State

/-! ### Commands of one unit -/

/-- Settles O58: block by block, each command's operation stays within the parts that the block names. -/
theorem commandsOfOneUnitLeaveTheRest : Obligations.CommandsOfOneUnitLeaveTheRest := by
  unfold Obligations.CommandsOfOneUnitLeaveTheRest
  exact ⟨
    -- fns
    ⟨fun _ _ _ _ => .intro fun _ => .absent (.stamped (.ite putDq_only .refl)),
      fun _ _ _ _ => .intro fun _ => .absent (.stamped (.ite putRq_only .refl)),
      fun _ _ _ => .intro fun _ => .absent (.stamped (.ite putFn_only .refl)),
      fun _ _ _ _ => .intro fun _ => .absent (.stamped timedFrame_only),
      fun _ _ _ => .intro fun _ => .absent (.stamped (.foldl (fun _ _ => putFn_only) _))⟩,
    -- sessions
    ⟨fun _ _ => .intro fun _ => .next (.stamped notBefore_only),
      fun _ _ _ => .intro fun _ => .next (.stamped peerComplete_only)⟩,
    -- s1
    fun _ => .intro fun _ => .next (.stamped s1Resume_only),
    -- gallery
    ⟨fun _ _ _ _ => .intro fun _ => .absent (.stamped resend_only),
      fun _ _ _ => .intro fun _ => .absent (.stamped codewordBad_only),
      fun _ _ _ => .intro fun _ => .absent (.stamped hwmRead_only)⟩,
    -- tables
    fun _ _ => .intro fun _ => .guard (.stamped hotRefresh_only),
    -- energyPorts
    fun _ _ => .intro fun _ => .guard (.stamped putEport_only),
    -- power
    ⟨fun _ _ => .intro fun _ => .next (.stamped journalStart_only),
      fun _ _ _ _ _ _ _ _ _ => .intro fun _ =>
          .next (.ite .stamp (.ite (.stamped thermalLoopFault_only) (.stamped thermalLoop_only))),
      fun _ _ => .intro fun _ => .next (.stamped capRelax_only)⟩,
    -- regs
    fun _ _ => .intro fun _ => .next (.stamped writeCap_only),
    -- boot
    fun _ _ _ => .intro fun _ => .next (.stamped assay_only),
    -- out
    ⟨fun _ => .intro fun _ => .next (.stamped getDigests_only),
      fun _ _ => .intro fun _ => .next (.stamped getCertificate_only),
      fun _ _ => .intro fun _ => .next (.secured (fun _ => emit_only.mono) spdmError_only.mono),
      fun _ _ => .intro fun _ => pldmPmcRequest_ends⟩,
    -- eths
    fun _ _ _ => .intro fun _ => .guard (.stamped (K' := fun s t => { s with eths := t.eths }) rfl),
    -- attRequests
    fun _ _ _ => .intro fun _ =>
        .next (.stamped (K' := fun s t => { s with attRequests := t.attRequests }) (.ite rfl .refl)),
    -- out, fns
    ⟨fun _ _ _ => .intro fun _ => .absent (.stamped statusWrite_only),
      fun _ _ _ => .intro fun _ => .absent (.stamped modExpire_only)⟩,
    -- fns, security
    fun _ _ => .intro fun _ => .absent (.ite (.then (.stamped putSec_only) putFn_only) (.stamped putSec_only)),
    -- fns, tables
    ⟨fun _ _ => .intro fun _ => .next (.stamped tableSwitch_only),
      fun _ _ _ => .intro fun _ => .guard (.stamped recallQuery_only),
      fun _ _ => .intro fun _ => .next (.stamped adapterLoad_only)⟩,
    -- fns, checkpoint
    fun _ _ => .intro fun _ => .next (.stamped ckpCut_only),
    -- s0, s1
    fun _ _ => .intro fun _ => .next (.stamped (.ite putStream_only .refl)),
    -- sessions, tenants
    fun _ _ _ _ => .intro fun _ => .next (.then (.stamped dropUse_only) wakeQuota_only),
    -- out, security
    ⟨fun _ _ => .intro fun _ => .absent (.stamped rollCallSend_only),
      fun _ => .intro fun _ => .next (.stamped syncSend_only),
      fun _ => .intro fun _ => .next (.stamped getVersion_only),
      fun _ => .intro fun _ => .next (.stamped getCapabilities_only),
      fun _ _ => .intro fun _ => .next (.stamped negotiate_only),
      fun _ _ _ _ => .intro fun _ => .next (.stamped finish_only),
      fun _ _ => .intro fun _ =>
          .next (.secured (fun _ => dropSession_only.mono.then emit_only) spdmError_only.mono),
      fun _ _ => .intro fun _ => .next (.secured (fun _ => putSec_only.mono.then emit_only) spdmError_only.mono),
      fun _ _ _ _ _ => .intro fun _ => .next (.secured (fun _ => setJobKey_only.mono) spdmError_only.mono),
      fun _ _ _ _ => .intro fun _ => .next (.secured (fun _ => clearJobKey_only.mono) spdmError_only.mono),
      fun _ _ _ => .intro fun _ => .next (.secured (fun _ => putSec_only.mono.then emit_only) spdmError_only.mono),
      fun _ _ _ _ => .intro fun _ => .next (.secured (fun _ => ownerEnrol_only.mono) spdmError_only.mono),
      fun _ _ _ _ _ _ => .intro fun _ => .guard (.secured (fun _ => ideKm_only.mono) spdmError_only.mono),
      fun _ _ _ => .intro fun _ => .guard (.stamped tdisp_only),
      fun _ _ _ => .intro fun _ => .next (.stamped debugUnlock_only)⟩,
    -- tenants, power
    fun _ => .intro fun _ => .next (.stamped tick_only),
    -- leaves, power
    fun _ _ _ => .intro fun _ => .next (.stamped journalCapture_only),
    -- fns, expanders
    fun _ _ _ _ _ => .intro fun _ => .guard (.stamped attachExpander_only),
    -- regs, expanders
    fun _ _ => .intro fun _ => .guard (.then (.stamped setReg_only) evacuateCancel_only),
    -- out, eths
    fun _ _ _ _ => .intro fun _ => .guard (.stamped ethReceive_only),
    -- regs, boot
    fun _ _ => .intro fun _ => .guard (.stamped p0Done_only),
    -- security, boot
    fun _ _ _ => .intro fun _ => .guard (.stamped romPass_only),
    -- out, boot
    fun _ => .intro fun _ => .next (.stamped electionOver_only),
    -- draws, out
    ⟨fun _ _ => .intro fun _ => .next (.stamped challenge_only),
      fun _ _ _ => .intro fun _ => .next (.stamped getMeasurements_only)⟩,
    -- regs, ctResults
    fun _ _ _ => .intro fun _ => .guard (.then (.stamped setReg_only) ctResult_only),
    -- regs, flagClears
    fun _ _ _ => .intro fun _ => .next (.stamped writeFlags_only),
    -- sels, errLog
    fun _ _ _ => .intro fun _ =>
        .absent (.stamped (K' := fun s t => { s with sels := t.sels, errLog := t.errLog }) rfl),
    -- regs, errLog
    fun _ _ => .intro fun _ =>
        .next (.stamped (K' := fun s t => { s with regs := t.regs, errLog := t.errLog }) (.ite rfl rfl)),
    -- sels, obs
    fun _ _ _ => .intro fun _ => .absent (.stamped (K' := fun s t => { s with sels := t.sels, obs := t.obs }) rfl),
    -- regs, sessions
    fun _ _ _ => .intro fun _ => .absent (.stamped rebind_only),
    -- tenants, gallery
    fun _ _ => .intro fun _ => .next (.stamped closeNoteAgain_only),
    -- draws, sels, fns
    fun _ _ => .intro fun _ => .next (.stamped probe_only),
    -- regs, flagSets, sessions
    fun _ _ => .intro fun _ => .next (.stamped timerFire_only),
    -- regs, flagSets, s1
    fun _ _ => .intro fun _ => .next (.stamped s1Suspend_only),
    -- out, gallery, security
    fun _ _ _ => .intro fun _ => .absent (.stamped trained_only),
    -- regs, flagSets, gallery
    ⟨fun _ _ _ => .intro fun _ => .absent (.stamped transitTimeout_only),
      fun _ _ _ _ _ => .intro fun _ => .absent (.received groupCtl_only.mono),
      fun _ _ _ _ => .intro fun _ => .absent (.received setGallery_only.mono),
      fun _ _ _ _ => .intro fun _ => .absent (.received setGallery_only.mono),
      fun _ _ _ => .intro fun _ => .absent (.received setGallery_only.mono)⟩,
    -- regs, flagSets, splitSums
    ⟨fun _ _ _ _ _ _ _ => .intro fun _ => accImages_ends,
      fun _ _ _ _ _ _ _ => .intro fun _ => .guard (.received rfl)⟩,
    -- regs, flagSets, tables
    ⟨fun _ _ _ _ _ _ _ _ _ => .intro fun _ => .guard (.received rowUpd_only.mono),
      fun _ _ _ _ _ => .intro fun _ => .guard (.stamped hotListRead_only)⟩,
    -- regs, flagSets, energyPorts
    ⟨fun _ _ _ => .intro fun _ => .guard (.ite .stamp (.then (.stamped putEport_only) setFlag_only)),
      fun _ _ _ _ => .intro fun _ => .guard (.stamped healthTest_only)⟩,
    -- draws, out, security
    fun _ _ => .intro fun _ => .next (.stamped keyExchange_only),
    -- regs, txns, ctResults
    ⟨fun _ _ _ => .intro fun _ => .guard (.stamped ctBegin_only),
      fun _ _ _ => .intro fun _ => .guard (.stamped ctAbort_only),
      fun _ _ _ => .intro fun _ => .guard (.stamped ctLoadPatch_only)⟩,
    -- regs, flagSets, txns
    fun _ _ _ _ => .intro fun _ => ctStageWrite_ends,
    -- regs, flagClears, obs
    fun _ _ _ => .intro fun _ => .absent (.stamped clearIfCount_only),
    -- regs, flagSets, obs
    fun _ _ _ => .intro fun _ => .absent (.stamped ledgerDump_only),
    -- regs, security, boot
    fun _ => .intro fun _ => .next (.then (.stamped setReg_only) svnCommit_only),
    -- draws, sels, obs
    fun _ => .intro fun _ => .next (.stamped (.ite .refl snapNow_only)),
    -- regs, flagSets, out, fns
    fun _ _ _ _ => .intro fun _ => .absent (.stamped fetch_only),
    -- out, sessions, sds, fns
    fun _ _ => .intro fun _ => .next (.stamped deliver_only),
    -- tenants, fns, gallery, tables
    fun _ _ => .intro fun _ => .next (.stamped rowUpdate_only),
    -- regs, flagSets, fns, tables
    fun _ _ => .intro fun _ => .next (.stamped recallInsert_only),
    -- regs, flagSets, sessions, sds
    ⟨fun _ _ => .intro fun _ => .next (.stamped timeoutCommit_only),
      fun _ _ => .intro fun _ => .next (.stamped recordEnters_only)⟩,
    -- regs, flagSets, sds, leaves
    fun _ _ => .intro fun _ => .guard (.stamped accessDecay_only),
    -- regs, flagSets, gallery, incoming
    fun _ _ _ _ => .intro fun _ => .absent (.received dropNote_only.mono),
    -- regs, flagSets, fns, gallery
    ⟨fun _ _ _ _ _ _ _ _ => .intro fun _ => .absent (.received rollCall_only.mono),
      fun _ => .intro fun _ => .next (.stamped syncLost_only)⟩,
    -- regs, flagSets, out, security
    fun _ _ _ => .intro fun _ => .absent (.received sendLink_only.mono),
    -- draws, regs, flagSets, gallery
    fun _ _ _ _ _ => .intro fun _ => .absent (.received syncReply_only.mono),
    -- regs, flagSets, out, gallery
    ⟨fun _ _ => .intro fun _ => .next (.stamped takeSending_only),
      fun _ _ => .intro fun _ => .next (.stamped transit_only)⟩,
    -- regs, flagSets, tenants, gallery
    fun _ _ _ _ _ _ _ _ _ => .intro fun _ => .guard (.received (setGallery_only.mono.then send_only)),
    -- out, tenants, fns, checkpoint
    fun _ => .intro fun _ => .next (.stamped manifestDurable_only),
    -- regs, flagSets, power, energyPorts
    fun _ _ _ _ _ _ _ _ _ _ _ => .intro fun _ =>
        .next (.ite (.stamped voltageLoopFault_only) (.ite .stamp (((Only.stamped voltagePort_only).then voltagePort_only).then setPower_only))),
    -- regs, flagSets, security, boot
    ⟨fun _ _ _ _ _ _ => .intro fun _ => .next (.stamped stage1_only),
      fun _ _ _ _ _ _ => .intro fun _ => .next (.stamped broadcast_only),
      fun _ _ _ => .intro fun _ => .next (.stamped rotateKeys_only)⟩,
    -- regs, flagSets, out, boot
    ⟨fun _ _ => .intro fun _ => .next (.stamped recoveryImage_only),
      fun _ _ _ _ => .intro fun _ => .next (.stamped shardRead_only),
      fun _ _ _ _ _ => .intro fun _ => .guard (.stamped fwStage_only)⟩,
    -- regs, flagSets, out, obs
    ⟨fun _ => .intro fun _ => .next (.stamped snapWritten_only),
      fun _ _ => .intro fun _ => ledDumpWritten_ends⟩,
    -- regs, flagSets, txns, ctResults
    fun _ _ _ _ _ => .intro fun _ => .guard (.stamped patchRead_only),
    -- regs, flagSets, fns, txns, obs
    ⟨fun _ _ => .intro fun _ => .absent (.stamped startReset_only),
      fun _ _ => .intro fun _ => .absent (.stamped startReset_only),
      fun _ _ => .intro fun _ => .absent (.then (.stamped setFlag_only) (.foldl (fun _ _ => startReset_only) _))⟩,
    -- regs, flagSets, s0, s1, samplers
    fun _ _ _ _ _ _ => .intro fun _ => .next (.stamped samplerDraw_only),
    -- mem, s0, s1, tenants, checkpoint
    fun _ _ => .intro fun _ => .next (.stamped stepOutcome_only),
    -- regs, flagSets, sessions, tenants, gallery
    fun _ _ _ _ _ => .intro fun _ => .absent (.received homeUpdate_only.mono),
    -- regs, flagSets, mem, gallery, incoming
    fun _ _ _ _ => .intro fun _ => .absent (.received sealNote_only.mono),
    -- regs, flagSets, out, fns, gallery
    ⟨fun _ _ _ _ _ => .intro fun _ => .absent (.stamped linkControl_only),
      fun _ _ => .intro fun _ => .absent (.stamped portDown_only),
      fun _ _ => .intro fun _ => .absent (.ite (.stamped portDown_only) .stamp)⟩,
    -- regs, flagSets, s0, s1, gallery
    fun _ _ _ _ _ _ _ => .intro fun _ =>
        .guard (.received (.ite setFlag_only.mono (updMember_only.mono.then setGallery_only))),
    -- regs, flagSets, tenants, gallery, tables
    fun _ _ _ _ _ => .intro fun _ => .guard (.received rowReq_only.mono),
    -- regs, flagSets, sessions, power, energyPorts
    ⟨fun _ _ => .intro fun _ => .guard (.then (.stamped putEport_only) portSafe_only),
      fun _ _ _ _ _ _ _ _ _ => .intro fun _ =>
          .guard (.ite .stamp (.ite (.stamped currentLoopFault_only) (.stamped currentLoop_only))),
      fun _ => .intro fun _ => .next (.stamped recompute_only),
      fun _ => .intro fun _ => loopFaultHoldExpire_ends,
      fun _ _ => .intro fun _ => loopSwapTimeout_ends,
      fun _ _ _ => .intro fun _ => .guard (.ite (.stamped setPort_only) .stamp),
      fun _ _ => .intro fun _ => .guard (.ite (.stamped setPort_only) .stamp),
      fun _ _ => .intro fun _ => .guard (.ite (.stamped setPort_only) .stamp),
      fun _ _ => .intro fun _ => .guard (.then (.stamped setReg_only) retire_only),
      fun _ _ => .intro fun _ => .guard (.then (.stamped setReg_only) admitPort_only),
      fun _ _ => .intro fun _ => .guard (.then (.stamped putEport_only) portSafe_only)⟩,
    -- regs, flagSets, fns, errLog, power
    fun _ _ _ => .intro fun _ =>
        .next (Only.then (.stamped (.foldl (fun _ _ => pollConverter_only) _)) setPower_only),
    -- regs, flagSets, sessions, drives, power
    fun _ _ _ _ _ _ _ => .intro fun _ => .guard (.stamped driveAttach_only),
    -- draws, regs, sels, flagSets, obs
    fun _ _ _ _ => .intro fun _ => .absent (.stamped snapGo_only),
    -- regs, flagSets, gallery, tables, checkpoint
    fun _ _ _ => .intro fun _ => .absent (.stamped hwmClear_only),
    -- draws, regs, flagSets, cores, clusterSram
    fun _ _ _ => .intro fun _ => zwMatrixDone_ends,
    -- regs, flagSets, sessions, sds, guests
    fun _ _ _ => .intro fun _ => .absent (.received homeUpdateAck_only.mono)⟩

end Sys2Proof.Machine

namespace Sys2Proof.Machine

/-! ### Errors in the log (R517, R520) -/

/-- A new entry of a DE, UE or FE goes behind the entries written before it. -/
theorem State.logError_write_errLog {cls : Nat} (hc : cls ≠ 0) (die blk inst code detail : Nat) (s : State) (l : ErrLog) :
    (State.logError.write cls die blk inst code detail s l).errLog =
      { l with
        count := l.count + 1
        ring := aset l.ring (l.count % 4096) ⟨s.now, l.count % 2 ^ 32, cls, die, blk, inst, code, 0, detail⟩ } := by
  obtain ⟨r, a, h⟩ := s.flagIf_frame (decide (l.count ≥ 4096)) fErrOverwrite 0
  simp only [State.logError.write, hc, false_and, if_false, h]
  split <;> rfl

/-- An error that does not merge into the newest entry has an entry of its own. -/
theorem State.logError_errLog {s : State} {cls die blk inst code detail : Nat} (hc : cls ≠ 0)
    (hm : ∀ e, aget s.errLog.ring ((s.errLog.count - 1) % 4096) = some e →
      s.errLog.count = 0 ∨ e.merges s.now cls die blk inst code detail = false) :
    (s.logError cls die blk inst code detail).errLog =
      { s.errLog with
        count := s.errLog.count + 1
        ring := aset s.errLog.ring (s.errLog.count % 4096)
          ⟨s.now, s.errLog.count % 2 ^ 32, cls, die, blk, inst, code, 0, detail⟩ } := by
  obtain ⟨r, a, h⟩ := s.countError_frame cls
  simp only [State.logError, h]
  split
  · rw [if_neg]
    · exact State.logError_write_errLog hc ..
    · rcases hm _ ‹_› with h0 | h0 <;> simp [h0]
  · exact State.logError_write_errLog hc ..

/-! ### Errors that hardware detects (R518) -/

theorem execErrorDetect_arrives {cls die : Nat} (hc : cls < 4) (hd : die < 32) (blk inst code detail t : Nat) (s : State) :
    exec (.errorDetect cls die blk inst code detail t) s = .next ((s.stamp t).detect cls die blk inst code detail) :=
  if_pos ⟨hc, hd⟩

/-- A DE that reaches neither a page nor a kernel is logged. -/
theorem State.detect_logs {code : Nat} (hp : code ≠ 0x0101) (hk : code ≠ 0x0102) (s : State) (die blk inst detail : Nat) :
    s.detect 1 die blk inst code detail = s.logError 1 die blk inst code detail := by
  simp [State.detect, hp, hk]

/-- A DE of a page's data reaches the page (R108). -/
theorem State.detect_poisons {s : State} {detail : Nat} {l : Leaf} (hl : s.leaf detail = some l) (hp : l.poison = false)
    (die blk inst : Nat) : s.detect 1 die blk inst 0x0101 detail = s.poisonPage detail :=
  if_pos ⟨rfl, rfl, by simp [hl, hp]⟩

theorem State.poisonPage_leaf {s : State} {page : Nat} {l : Leaf} (hl : s.leaf page = some l) (hp : l.poison = false) :
    (s.poisonPage page).leaf page = some { l with poison := true } ∧ (s.poisonPage page).mem = s.mem := by
  simp only [State.poisonPage, hl, hp, Bool.false_eq_true, if_false]
  generalize hu : State.withdrawFrame _ _ _ _ _ _ = u
  obtain ⟨r, a, hf⟩ := u.setFlag_frame fPoisoned (ownerSd page)
  obtain ⟨r', a', e, x, hg⟩ := (u.setFlag fPoisoned (ownerSd page)).logError_frame
    1 (16 + ownerSd page) 0x04 (ownerSd page) 0x0101 page
  rw [hg, hf, ← hu]
  exact ⟨State.leaf_putLeaf .., rfl⟩

/-- A fatal error leaves a stopped package (R518). -/
theorem State.fatal_stops (s : State) (die code detail : Nat) :
    (s.fatal die code detail).boot.halted = true ∧ (s.fatal die code detail).sessions = [] ∧
      (s.fatal die code detail).mem = [] :=
  ⟨rfl, rfl, rfl⟩

theorem State.detect_fatal (s : State) (die blk inst code detail : Nat) :
    s.detect 3 die blk inst code detail = s.fatal die code detail := by
  simp [State.detect]

/-! ### Compute dies out of service (R484, R487) -/

/-- A stream with no step in flight has nothing to abandon. -/
theorem State.abandon_idle {s : State} {s1 : Bool} (h : (s.stream s1).run = none) : s.abandon s1 = s := by
  simp [State.abandon, h]

/-- With no step in flight a fenced CD loses its cores and cluster SRAM, and nothing else changes. -/
theorem State.fenceCd_idle {s : State} (h0 : s.s0.run = none) (h1 : s.s1.run = none) (d : Nat) :
    s.fenceCd d = { s with cores := s.cores.filter fun c => c.1 / 32 != d
                           clusterSram := s.clusterSram.filter fun c => c.1 / 4 != d } := by
  have hs : ∀ s1 hit, s.serves s1 hit = false := by
    rintro (_ | _) hit <;> simp [State.serves, State.stream, h0, h1]
  have ha : (s.abandonWhere fun s s1 => s.serves s1 fun l => l / 4 == d) = s := by simp [State.abandonWhere, hs]
  rw [State.fenceCd, ha]

/-- A fenced compute die is listed among the dies out of service and in the defect map, and has no core left. -/
theorem State.fenceDie_compute {s : State} {die : Nat} (hd : die < 16) (h0 : s.s0.run = none) (h1 : s.s1.run = none) :
    (s.fenceDie die).boot.diesOut = s.boot.diesOut ++ [die] ∧ ⟨die, 5, 0, 3⟩ ∈ (s.fenceDie die).boot.defects ∧
      ∀ c ∈ (s.fenceDie die).cores, c.1 / 32 ≠ die := by
  simp only [State.fenceDie, if_pos hd, State.fenceCd_idle h0 h1]
  generalize hu : ({ State.dieOut _ _ with boot := _ } : State) = u
  obtain ⟨r, a, hf⟩ := u.setFlag_frame fFenced 0
  rw [hf, ← hu]
  exact ⟨rfl, by simp, fun c hc => by simpa using (List.mem_filter.mp hc).2⟩

/-- Only a compute die that is out already is refused a fence. -/
theorem State.fenceRefused_compute (s : State) {die : Nat} (hd : die < 16) :
    s.fenceRefused die = s.boot.diesOut.contains die := by
  have h28 : (die == 28) = false := beq_false_of_ne (by omega)
  have h29 : (die == 29) = false := beq_false_of_ne (by omega)
  simp [State.fenceRefused, Nat.not_le.mpr hd, h28, h29]

theorem State.fenceRefused_out {s : State} {d : Nat} (h : s.boot.diesOut.contains d = true) : s.fenceRefused d = true := by
  simp only [State.fenceRefused, h, Bool.true_or]

/-- A UE of a compute die in service is logged and fences the die. -/
theorem State.detect_fences {s : State} {die : Nat} (hd : die < 16) (ho : s.boot.diesOut.contains die = false)
    (blk inst code detail : Nat) :
    s.detect 2 die blk inst code detail = (s.logError 2 die blk inst code detail).fenceDie die := by
  obtain ⟨r, a, e, x, h⟩ := s.logError_frame 2 die blk inst code detail
  have hb : (s.logError 2 die blk inst code detail).boot = s.boot := by rw [h]
  have hr : (s.logError 2 die blk inst code detail).boot.diesOut.contains die = false := by rw [hb, ho]
  simp [State.detect, State.fenceRefused_compute _ hd, -List.contains_eq_mem, hr]

/-- A write of BRU_FENCE with GO fences the die that it names, or is refused (R487). -/
theorem execBruFence_go {d : Nat} (hd : d < 32) (t : Nat) (s : State) :
    ∃ v, exec (.bruFence (2 ^ 63 + d) t) s = .next
      (if ((s.stamp t).setReg (pcs 0x1a 0 0x20) v).fenceRefused d
        then ((s.stamp t).setReg (pcs 0x1a 0 0x20) v).setFlag fFenceRefused 0
        else ((s.stamp t).setReg (pcs 0x1a 0 0x20) v).fenceDie d) := by
  have hm : (2 ^ 63 + d) % 32 = d := by omega
  have hg : bitOf (2 ^ 63 + d) 63 = true := by simp only [bitOf, beq_iff_eq]; omega
  exact ⟨_, by simp only [exec, execBruFence, hm, hg, Bool.not_true, Bool.false_eq_true, if_false]; rfl⟩

/-! ### The loss of the management complex (R17, R519) -/

theorem State.mgmtFail_alone {s : State} (h : s.boot.standbyOk = false) :
    s.mgmtFail = s.fatal (28 + s.boot.leader.getD 0) 0x0303 0 :=
  if_pos (by simp [h])

/-- The standby takes over; with no step in flight nothing is abandoned. -/
theorem State.mgmtFail_standby {s : State} (h0 : s.s0.run = none) (h1 : s.s1.run = none) (h : s.boot.standbyOk = true) :
    s.mgmtFail = s.mgmtSwap.putBoot { s.mgmtSwap.boot with standbyOk := false } := by
  have ha : (s.abandon false).abandon true = s := by
    rw [State.abandon_idle (s1 := false) h0, State.abandon_idle (s1 := true) h1]
  simp only [State.mgmtFail, h, ha, Bool.not_true, Bool.false_eq_true, if_false]
  rfl

theorem State.mgmtSwap_boot (s : State) : s.mgmtSwap.boot = { s.boot with leader := some (1 - s.boot.leader.getD 0) } := rfl

theorem State.mgmtSwap_sessions (s : State) : s.mgmtSwap.sessions = s.sessions := rfl

/-- Settles O44, a lemma for each class of error and each outcome of a fence: `logError_errLog`, `poisonPage_leaf`,
`fenceDie_compute`, `fatal_stops`, and `mgmtFail_standby` or `mgmtFail_alone`. -/
theorem errorsAreContained : Obligations.ErrorsAreContained := by
  unfold Obligations.ErrorsAreContained
  intro s die blk inst code detail t l v iod
  refine ⟨fun hd hm hp hk => ⟨_, execErrorDetect_arrives (by decide) hd .., ?_⟩,
    fun hd hl hp => ⟨_, execErrorDetect_arrives (by decide) hd .., ?_⟩,
    fun hd h0 h1 ho => ⟨⟨_, execErrorDetect_arrives (by decide) (by omega) .., ?_⟩, ?_⟩,
    fun hv ho => ?_,
    fun hd => ⟨_, execErrorDetect_arrives (by decide) hd .., ?_⟩,
    fun h0 h1 hi => ⟨fun hs => ⟨_, rfl, ?_⟩, fun hs => ⟨_, rfl, ?_⟩⟩⟩
  · have he := State.logError_errLog (s := s.stamp t) (by decide) hm
    simp only [State.detect_logs hp hk, he]
    exact ⟨rfl, aget_aset_same ..⟩
  · rw [State.detect_poisons (s := s.stamp t) hl hp]
    exact State.poisonPage_leaf (s := s.stamp t) hl hp
  · rw [State.detect_fences (s := s.stamp t) hd ho]
    obtain ⟨r, a, e, x, h⟩ := (s.stamp t).logError_frame 2 die blk inst code detail
    rw [h]
    exact State.fenceDie_compute hd h0 h1
  · obtain ⟨w, hw⟩ := execBruFence_go (show die < 32 by omega) t s
    rw [State.fenceRefused_compute _ hd, State.setReg_boot, State.stamp_boot, ho] at hw
    exact ⟨_, hw, State.fenceDie_compute (s := (s.stamp t).setReg _ w) hd h0 h1⟩
  · obtain ⟨w, hw⟩ := execBruFence_go hv t s
    obtain ⟨r, a, h⟩ := ((s.stamp t).setReg (pcs 0x1a 0 0x20) w).setFlag_frame fFenceRefused 0
    rw [if_pos (State.fenceRefused_out (s := (s.stamp t).setReg _ w) ho), h] at hw
    exact ⟨_, hw, rfl, rfl⟩
  · rw [State.detect_fatal]
    exact State.fatal_stops ..
  · rw [State.mgmtFail_standby (s := s.stamp t) h0 h1 hs]
    simp [State.mgmtSwap_boot, State.mgmtSwap_sessions, hi]
  · rw [State.mgmtFail_alone (s := s.stamp t) hs]
    obtain ⟨hh, hss, -⟩ := State.fatal_stops (s.stamp t) (28 + (s.stamp t).boot.leader.getD 0) 0x0303 0
    exact ⟨hh, hss⟩

end Sys2Proof.Machine

namespace Sys2Proof

/-- A second write of an entry of a keyed list replaces the first. -/
@[simp] theorem aset_aset {α : Type} (l : List (Nat × α)) (k : Nat) (v w : α) : aset (aset l k v) k w = aset l k w := by
  induction l with
  | nil => simp [aset]
  | cons p l ih =>
    obtain ⟨j, u⟩ := p
    rcases lt_trichotomy k j with h | h | h
    · simp [aset, h]
    · simp [aset, h]
    · have hn : ¬ k < j := by omega
      have hne : ¬ k = j := by omega
      simp [aset, hn, hne, ih]

end Sys2Proof

namespace Sys2Proof.Machine

/-! ### Sessions and entries after an update -/

theorem State.sess_of_sessions {s u : State} (h : u.sessions = s.sessions) (i : Nat) : u.sess i = s.sess i := by
  simp only [State.sess, h]

@[simp] theorem State.putSess_putSess (s : State) (i : Nat) (x y : Session) : (s.putSess i x).putSess i y = s.putSess i y := by
  simp [State.putSess]

@[simp] theorem State.entry_putSess (s : State) (i : Nat) (x : Session) : (s.putSess i x).entry i = x.cur.entry := by
  simp [State.entry]

@[simp] theorem State.sess_stamp (s : State) (t i : Nat) : (s.stamp t).sess i = s.sess i := rfl

@[simp] theorem State.entry_stamp (s : State) (t i : Nat) : (s.stamp t).entry i = s.entry i := rfl

@[simp] theorem State.sess_complete (s : State) (f : Frame) (st i : Nat) : (s.complete f st).sess i = s.sess i := by
  obtain ⟨h, hc⟩ := s.complete_frame f st
  rw [hc]; rfl

/-! ### Frames that reach their session (R35, R42, R47, R59) -/

theorem Reaches.finds {s : State} {f : Frame} {slot : Nat} (h : Reaches s f slot) : s.findHandle f.handle = some slot := h.1

theorem Reaches.waiting {s : State} {f : Frame} {slot : Nat} (h : Reaches s f slot) : (s.sess slot).waiting = [] := by
  obtain ⟨-, -, -, -, -, -, -, hw⟩ := h
  exact hw

/-- A part of the state that an operation leaves out. -/
theorem Only.keeps {α : Type} {K : State → State → State} {s u : State} (h : Only K s u) (p : State → α)
    (hp : ∀ s t, p (K s t) = p s := by intros; rfl) : p u = p s :=
  (congrArg p h).trans (hp s u)

/-- The handles of two states name the same slots. -/
def SameNames (s u : State) : Prop := u.pkg = s.pkg ∧ u.guests = s.guests

theorem SameNames.trans {s u v : State} (h : SameNames s u) (h' : SameNames u v) : SameNames s v :=
  ⟨h'.1.trans h.1, h'.2.trans h.2⟩

/-- An operation that changes neither registers nor guests leaves the names. -/
theorem SameNames.of_only {K : State → State → State} {s u : State} (h : Only K s u)
    (hp : ∀ s t, (K s t).pkg = s.pkg := by intros; rfl) (hg : ∀ s t, (K s t).guests = s.guests := by intros; rfl) :
    SameNames s u :=
  ⟨h.keeps State.pkg hp, h.keeps State.guests hg⟩

/-- A handle that named a slot names that slot or none. -/
theorem State.findHandle_named {s u : State} {h i j : Nat} (hn : SameNames s u) (hs : s.findHandle h = some i)
    (hu : u.findHandle h = some j) : j = i := by
  obtain ⟨hp, hg⟩ := hn
  unfold State.findHandle at hs hu
  rw [hp, hg] at hu
  revert hs hu
  simp only []
  cases (if hOrigin h = s.pkg then some (hSlot h) else (aget s.guests h).map Guest.slot) with
  | none => simp
  | some k => intro hs hu; simp at hs hu; omega

theorem State.drainSession_quiet {s : State} {slot : Nat} (h : (s.sess slot).waiting = []) : s.drainSession slot = s := by
  rw [State.drainSession, h]
  rfl

/-- A frame that leaves its session with no command waiting does what its row of R44 says, and no more. -/
theorem State.frameFor_quiet {s u : State} {f : Frame} {slot : Nat} {r : Option Recorded} {c : Option Nat}
    (hf : s.findHandle f.handle = some slot) (hu : s.sessionFrame f r c = u) (hn : SameNames s u)
    (hw : (u.sess slot).waiting = []) : s.frameFor f r c = u := by
  subst hu
  unfold State.frameFor
  dsimp only
  split
  · rfl
  next i hi =>
    obtain rfl := State.findHandle_named hn hf hi
    exact State.drainSession_quiet hw

theorem Frame.with_opcode {f : Frame} {n : Nat} (h : f.opcode = n) : { f with opcode := n } = f := by
  subst h; rfl

/-- A state in which a session meets the table of R44. -/
def SState.tabled : SState → Bool
  | .opening | .away | .closing => false
  | _ => true

theorem State.gate_reaches {s : State} {f : Frame} {slot : Nat} (h : Reaches s f slot)
    (hs : (s.entry slot).state.tabled = true) (d e : Bool) : s.gate f true d e = .pass slot := by
  obtain ⟨hf, hb, hd, hh, hl, hr, hz, -⟩ := h
  cases hst : (s.entry slot).state <;> simp [hst, SState.tabled] at hs <;>
    simp [State.gate, hf, hb, hst, hd, hz, hh, hl, hr]

section Rows
variable {s : State} {f : Frame} {slot : Nat} (h : Reaches s f slot) (hs : (s.entry slot).state.tabled = true)
  (r : Option Recorded) (c : Option Nat)
include h hs

theorem State.commandFor_reaches (d e : Bool) (act : Nat → State → State) :
    s.commandFor f true d e c act = act slot s := by
  rw [State.commandFor, State.gate_reaches h hs]

theorem State.sessionFrame_append (ho : f.opcode = 0x0102) (hk : f.plainOk = true) :
    s.sessionFrame f r c = actSessionAppend f slot s := by
  simp [State.sessionFrame, ho, hk, State.command, State.commandFor_reaches h hs]

theorem State.sessionFrame_resume (ho : f.opcode = 0x0103) (hk : f.resumeOk = true) :
    s.sessionFrame f r c = actSessionResume f slot s := by
  simp [State.sessionFrame, ho, hk, State.command, State.commandFor_reaches h hs]

theorem State.sessionFrame_hold (ho : f.opcode = 0x0104) (hk : f.plainOk = true) :
    s.sessionFrame f r c = actSessionHold f slot s := by
  simp [State.sessionFrame, ho, hk, State.command, State.commandFor_reaches h hs]

theorem State.sessionFrame_release (ho : f.opcode = 0x0105) (hk : f.plainOk = true) :
    s.sessionFrame f r c = actSessionRelease f slot s := by
  simp [State.sessionFrame, ho, hk, State.command, State.commandFor_reaches h hs]

theorem State.sessionFrame_park (ho : f.opcode = 0x0106) (hk : f.parkOk = true) :
    s.sessionFrame f r c = actSessionPark f slot s := by
  simp [State.sessionFrame, ho, hk, State.command, State.commandFor_reaches h hs]

theorem State.sessionFrame_cancel (ho : f.opcode = 0x0107) (hk : f.plainOk = true) :
    s.sessionFrame f r c = actSessionCancel f slot (s.endPush slot) := by
  simp [State.sessionFrame, ho, hk, State.command, State.commandFor_reaches h hs, endingPush]

theorem State.sessionFrame_close (ho : f.opcode = 0x0108) (hk : f.plainOk = true) :
    s.sessionFrame f r c = actSessionClose f slot (s.endPush slot) := by
  simp [State.sessionFrame, ho, hk, State.command, State.commandFor_reaches h hs, endingPush]

theorem State.sessionFrame_fork (ho : f.opcode = 0x0109) (hk : f.forkOk = true) :
    s.sessionFrame f r c = actSessionFork f c slot s := by
  simp [State.sessionFrame, ho, hk, State.commandFor_reaches h hs]

theorem State.sessionFrame_waitPeer (ho : f.opcode = 0x010b) (hk : f.waitPeerOk = true) :
    s.sessionFrame f r c = actSessionWaitPeer f slot s := by
  simp [State.sessionFrame, ho, hk, State.command, State.commandFor_reaches h hs]

end Rows

/-- A command of R44 completes in the state that its row gives, where that leaves no command waiting. -/
theorem Completes.of_row {s u : State} {f : Frame} {slot t n : Nat} {c : Instr} {P : State → Prop} (h : Reaches s f slot)
    (he : exec c s = .next ((s.stamp t).frameAt { f with opcode := n } none)) (ho : f.opcode = n)
    (hu : (s.stamp t).sessionFrame f none none = u) (hn : SameNames (s.stamp t) u) (hw : (u.sess slot).waiting = [])
    (hp : P u) : Completes c s P := by
  rw [Frame.with_opcode ho] at he
  exact ⟨u, he.trans (congrArg _ (State.frameFor_quiet (s := s.stamp t) h.finds hu hn hw)), hp⟩

theorem State.complete_answers {s u : State} (h : u.fns = s.fns) (f : Frame) (st : Nat) :
    Answered s (u.complete f st) f st := by
  have hu := u.complete_answered f st
  unfold Answered State.fn at *
  rwa [h] at hu

/-- A command of R44 that its row completes at once. -/
theorem Completes.of_answer {s v : State} {f : Frame} {slot t n st : Nat} {c : Instr} {P : State → Prop}
    (h : Reaches s f slot) (he : exec c s = .next ((s.stamp t).frameAt { f with opcode := n } none)) (ho : f.opcode = n)
    (hv : (s.stamp t).sessionFrame f none none = v.complete f st) (hn : SameNames (s.stamp t) v)
    (hw : (v.sess slot).waiting = []) (hf : v.fns = s.fns)
    (hp : ∀ u : State, u.sess slot = v.sess slot → u.sds = v.sds → Answered s u f st → P u) : Completes c s P :=
  .of_row h he ho hv (hn.trans (.of_only State.complete_only)) (by rw [State.sess_complete]; exact hw)
    (hp _ (State.sess_complete ..) (State.complete_only.keeps State.sds) (State.complete_answers hf f st))

/-! ### Text under the lock (R50, R52, R59) -/

/-- The input that a frame's text starts. -/
def Frame.input (f : Frame) : TextInput :=
  ⟨f.payload, [], 0, !f.more, f.opcode, f.function, f.queue, true, false, []⟩

/-- A session that has taken a frame's text as a new input, under the frame's lock. -/
def Session.taking (x : Session) (f : Frame) (lease now : Nat) : Session :=
  { x.withEntry { x.cur.entry with inputOpen := f.more, holder := .host f.function f.queue, leaseEnd := lease } with
    inputs := x.inputs ++ [f.input], owner := some f, lockStamp := now }

theorem State.queueFrameText_new {s : State} {slot : Nat} (f : Frame) (ho : (s.entry slot).inputOpen = false) :
    s.queueFrameText slot f =
      s.putSess slot { (s.sess slot).withEntry { s.entry slot with inputOpen := f.more } with
        inputs := (s.sess slot).inputs ++ [f.input] } := by
  have hi : (s.sess slot).cur.entry.inputOpen = false := ho
  unfold State.queueFrameText
  dsimp only
  cases hl : (s.sess slot).inputs.getLast? with
  | none =>
    rw [List.getLast?_eq_none_iff.mp hl]
    rfl
  | some i =>
    simp only [hi, Bool.false_and, Bool.false_eq_true, if_false]
    rfl

theorem State.takeText_eq {s : State} {slot : Nat} {f : Frame} (hp : f.payload ≠ [])
    (ho : (s.entry slot).inputOpen = false) :
    s.takeText slot f = s.putSess slot ((s.sess slot).taking f s.leaseFrom s.now) := by
  unfold State.takeText State.lockFor
  dsimp only
  rw [if_neg (by simpa using hp), State.queueFrameText_new f ho, State.sess_putSess, State.putSess_putSess]
  rfl

theorem continuationOk_closed {x : Session} (h : x.cur.entry.inputOpen = false) (f : Frame) : continuationOk x f = true := by
  simp [continuationOk, h]

theorem State.removeEdge_none {s : State} {slot : Nat} (h : (s.entry slot).peer = 0) : s.removeEdge slot = s := by
  simp [State.removeEdge, h]

/-- A session that has moved to a state other than WAITING (R44). -/
def Session.moved (x : Session) (st : SState) (now : Nat) : Session :=
  { x.withEntry { x.cur.entry with state := st, waitReason := .none } with
    since := now, readyStamp := if st = .ready then now else x.readyStamp }

@[simp] theorem State.sess_setState (s : State) (i : Nat) (st : SState) :
    (s.setState i st).sess i = (s.sess i).moved st s.now := State.sess_putSess ..

/-- A session without a deadline, a timer or a staged timeout (R51). -/
def Session.disarmed (x : Session) : Session :=
  { x.withEntry { x.cur.entry with deadline := 0 } with timer := none, staged := none, fired := 0 }

@[simp] theorem State.sess_disarm (s : State) (i : Nat) : (s.disarm i).sess i = (s.sess i).disarmed := State.sess_putSess ..

/-- Text that makes a session READY is queued under the lock of its frame. -/
theorem State.takeText_ready {s : State} {slot : Nat} {f : Frame} (hp : f.payload ≠ [])
    (ho : (s.entry slot).inputOpen = false) :
    ∃ u, (s.setState slot .ready).takeText slot f = u ∧ Only (fun s t => { s with sessions := t.sessions }) s u ∧
      u.sess slot = ((s.sess slot).moved .ready s.now).taking f s.leaseFrom s.now :=
  ⟨_, State.takeText_eq hp (by rw [State.entry, State.sess_setState]; exact ho), rfl, by simp; rfl⟩

/-- An untimed APPEND to a session that waits for input (R44, R50). -/
theorem actSessionAppend_input {s : State} {f : Frame} {slot : Nat} (ho : (s.entry slot).inputOpen = false)
    (ht : f.timed = false) (hs : (s.entry slot).state = .waiting) (hw : (s.entry slot).waitReason = .input) :
    actSessionAppend f slot s = (s.setState slot .ready).takeText slot f := by
  have hc := continuationOk_closed (x := s.sess slot) ho f
  simp [actSessionAppend, hc, ht, actAppend, hs, hw]

/-- A RESUME that begins an answer to a tool call is judged by its stamp (R52). -/
theorem actSessionResume_tool {s : State} {f : Frame} {slot : Nat} (ho : (s.entry slot).inputOpen = false)
    (hs : (s.entry slot).state = .waiting) (hw : (s.entry slot).waitReason = .tool) (hp : (s.entry slot).peer = 0)
    (hc : f.field 32 4 = (s.entry slot).callId) :
    actSessionResume f slot s =
      if (s.entry slot).deadline ≠ 0 ∧ (s.entry slot).deadline < s.now then s.complete f stLateResult
      else ((s.disarm slot).setState slot .ready).takeText slot f := by
  have hk := continuationOk_closed (x := s.sess slot) ho f
  unfold State.entry at *
  split
  next hl => simp [actSessionResume, hk, ho, hc, judgeResume, hw, hl]
  next hl => simp [actSessionResume, hk, ho, hc, judgeResume, hw, hl, hs, State.removeEdge_none hp]

/-- Settles O5: an APPEND and a RESUME in time end in `takeText` of a session made READY (`takeText_ready`); a late RESUME
completes at once. -/
theorem textIsTakenUnderTheLock : Obligations.TextIsTakenUnderTheLock := by
  unfold Obligations.TextIsTakenUnderTheLock
  intro s f slot t hr ho hpeer hs hp ht
  have htab : ((s.stamp t).entry slot).state.tabled = true := by rw [State.entry_stamp, hs]; rfl
  have hw := hr.waiting
  refine ⟨fun hin hop hok => ?_, fun htool hop hok hcall => ?_⟩
  · obtain ⟨u, hu, honly, hsess⟩ := State.takeText_ready (s := s.stamp t) hp ho
    have hrow := (State.sessionFrame_append (s := s.stamp t) hr htab none none hop hok).trans
      (actSessionAppend_input (s := s.stamp t) ho ht hs hin)
    refine .of_row hr rfl hop (hrow.trans hu) (.of_only honly) (by rw [hsess]; exact hw) ?_
    simp only [State.entry, hsess]
    exact ⟨rfl, rfl, by rw [← hop]; rfl⟩
  · have hrow := (State.sessionFrame_resume (s := s.stamp t) hr htab none none hop hok).trans
      (actSessionResume_tool (s := s.stamp t) ho hs htool hpeer hcall)
    refine ⟨fun hd => ?_, fun hd hlt => ?_⟩
    · have hin : ¬ (((s.stamp t).entry slot).deadline ≠ 0 ∧ ((s.stamp t).entry slot).deadline < (s.stamp t).now) := by
        simp only [State.entry_stamp, State.stamp_now]; omega
      obtain ⟨u, hu, honly, hsess⟩ := State.takeText_ready (s := (s.stamp t).disarm slot) (slot := slot) hp
        (by rw [State.entry, State.sess_disarm]; exact ho)
      rw [State.sess_disarm] at hsess
      refine .of_row hr rfl hop (hrow.trans ((if_neg hin).trans hu)) (.of_only (State.disarm_only.then honly))
        (by rw [hsess]; exact hw) ?_
      simp only [State.entry, hsess]
      exact ⟨rfl, rfl, rfl, by rw [← hop]; rfl⟩
    · refine .of_row hr rfl hop (hrow.trans (if_pos ⟨hd, hlt⟩)) (.of_only State.complete_only) (by simpa using hw) ?_
      exact ⟨by simp, State.complete_answers rfl f _⟩

end Sys2Proof.Machine

namespace Sys2Proof.Machine

/-! ### Updates of one session -/

@[simp] theorem Session.withEntry_entry (x : Session) (e : Entry) : (x.withEntry e).cur.entry = e := rfl

theorem Session.moved_entry (x : Session) (st : SState) (now : Nat) :
    (x.moved st now).cur.entry = { x.cur.entry with state := st, waitReason := .none } := rfl

theorem Session.disarmed_entry (x : Session) : x.disarmed.cur.entry = { x.cur.entry with deadline := 0 } := rfl

@[simp] theorem State.sess_putEntry (s : State) (i : Nat) (e : Entry) : (s.putEntry i e).sess i = (s.sess i).withEntry e :=
  State.sess_putSess ..

/-- A session that has moved to WAITING (R44). -/
def Session.waits (x : Session) (r : WaitReason) (now : Nat) : Session :=
  { x.withEntry { x.cur.entry with state := .waiting, waitReason := r } with since := now }

theorem Session.waits_entry (x : Session) (r : WaitReason) (now : Nat) :
    (x.waits r now).cur.entry = { x.cur.entry with state := .waiting, waitReason := r } := rfl

@[simp] theorem State.sess_setWait (s : State) (i : Nat) (r : WaitReason) :
    (s.setWait i r).sess i = (s.sess i).waits r s.now := State.sess_putSess ..

theorem State.setWait_only {s : State} {i : Nat} {r : WaitReason} :
    Only (fun s t => { s with sessions := t.sessions }) s (s.setWait i r) := rfl

@[simp] theorem State.sess_settleText (s : State) (i b : Nat) :
    (s.settleText i b).sess i = { s.sess i with textHeld := inputPages (s.sess i).pending (s.sess i).inputs + b } :=
  State.sess_putSess ..

theorem State.settleText_only {s : State} {i b : Nat} :
    Only (fun s t => { s with sessions := t.sessions, sds := t.sds }) s (s.settleText i b) := rfl

/-- A session whose input is discarded (R236). -/
def Session.inputless (x : Session) : Session :=
  { x.withEntry { x.cur.entry with inputOpen := false } with pending := [], inputs := [], textHeld := inputPages [] [] + textBlockPages }

theorem Session.inputless_entry (x : Session) : x.inputless.cur.entry = { x.cur.entry with inputOpen := false } := rfl

/-- The completion of frames is what waits at their functions, and nothing else. -/
theorem State.completeAll_only {α : Type} {s : State} (l : List α) (f : α → Frame) (st : Nat) :
    Only (fun s t => { s with fns := t.fns }) s (l.foldl (fun (s : State) w => s.complete (f w) st) s) :=
  .foldl (fun _ _ => State.complete_only) _

@[simp] theorem State.sess_completeAll {α : Type} (s : State) (l : List α) (f : α → Frame) (st i : Nat) :
    (l.foldl (fun (s : State) w => s.complete (f w) st) s).sess i = s.sess i :=
  State.sess_of_sessions (congrArg State.sessions (s.completeAll_only l f st)) i

@[simp] theorem State.sess_discardInput (s : State) (i : Nat) : (s.discardInput i).sess i = (s.sess i).inputless := by
  unfold State.discardInput
  dsimp only
  rw [State.sess_settleText, State.sess_putSess, State.sess_completeAll]
  rfl

theorem State.discardInput_only {s : State} {i : Nat} :
    Only (fun s t => { s with sessions := t.sessions, sds := t.sds, fns := t.fns }) s (s.discardInput i) :=
  (((s.completeAll_only _ id stOk).mono).then State.putSess_only).then State.settleText_only

/-- Discarded input that no frame waits for completes no frame. -/
theorem State.discardInput_fns {s : State} {i : Nat} (h : (s.sess i).inputs.flatMap TextInput.waits = []) :
    (s.discardInput i).fns = s.fns := by
  unfold State.discardInput
  dsimp only
  rw [h]
  rfl

theorem State.endGeneration_only {s : State} {i : Nat} :
    Only (fun s t => { s with sessions := t.sessions }) s (s.endGeneration i) := rfl

@[simp] theorem State.sess_endGeneration (s : State) (i : Nat) :
    (s.endGeneration i).sess i =
      { s.sess i with cur := { (s.sess i).cur with text := (s.sess i).cur.text.newGeneration } } := State.sess_putSess ..

theorem State.endPush_none {s : State} {slot : Nat} (h : aget s.migrations slot = none) : s.endPush slot = s := by
  simp [State.endPush, h]

/-! ### HOLD, RELEASE, PARK and CANCEL (R44) -/

/-- Bytes 32 to 63 that are all 0 hold the target 0 of a PARK, with its reserved bytes 0. -/
theorem Frame.zeros_park {f : Frame} (h : f.zeros 32 63 = true) : f.field 32 1 = 0 ∧ f.zeros 33 63 = true := by
  simp only [Frame.zeros, Frame.field, beq_iff_eq] at h ⊢
  change leNat (f.body.getD 0 0 :: bytesAt f.body 1 31) = 0 at h
  change leNat (f.body.getD 0 0 :: []) = 0 ∧ leNat (bytesAt f.body 1 31) = 0
  simp only [leNat] at h ⊢
  omega

theorem actSessionHold_live {s : State} {f : Frame} {slot : Nat}
    (hs : (s.entry slot).state = .ready ∨ (s.entry slot).state = .waiting) :
    actSessionHold f slot s =
      (s.putSess slot { (s.sess slot).withEntry { s.entry slot with state := .held, prior := (s.entry slot).state } with
        since := s.now }).complete f stOk := by
  unfold State.entry at *
  rcases hs with hs | hs <;> simp [actSessionHold, hs]

/-- A session that is READY as it leaves HELD, with no timeout deferred, stays as it is. -/
theorem State.afterRelease_ready {s : State} {slot : Nat} (hs : (s.entry slot).state = .ready)
    (ht : (s.entry slot).timedOut = false) : s.afterRelease slot = s := by
  have hs' : (s.sess slot).cur.entry.state = .ready := hs
  simp [State.afterRelease, State.wakeOutbox, hs, hs', ht]

theorem actSessionRelease_ready {s : State} {f : Frame} {slot : Nat} (hs : (s.entry slot).state = .held)
    (hp : (s.entry slot).prior = .ready) (ht : (s.entry slot).timedOut = false) :
    actSessionRelease f slot s =
      (s.putSess slot { (s.sess slot).withEntry { s.entry slot with state := .ready, prior := .free } with
        since := s.now, readyStamp := s.now }).complete f stOk := by
  unfold State.entry at *
  simp only [actSessionRelease, hs, hp]
  rw [State.afterRelease_ready (by simp [Session.withEntry]) (by simpa [Session.withEntry] using ht)]
  rfl

theorem actSessionPark_policy {s : State} {f : Frame} {slot : Nat} (ht : f.field 32 1 = 0)
    (hs : (s.entry slot).state = .ready ∨ (s.entry slot).state = .waiting ∨ (s.entry slot).state = .held) :
    actSessionPark f slot s =
      ((s.putSess slot { s.sess slot with parkRequest := true }).putSd (s.entry slot).homeSd
        { (s.sd (s.entry slot).homeSd) with policyPending := true }).complete f stOk := by
  rcases hs with hs | hs | hs <;> simp [actSessionPark, hs, ht] <;> rfl

/-- The wait of a session ends with its input discarded, and a new call begins (R44). -/
def State.cancelWait (s : State) (slot : Nat) : State :=
  let e := s.entry slot
  let s := (s.disarm slot).discardInput slot
  ((s.putEntry slot { s.entry slot with callId := callNext e.callId }).endGeneration slot).setWait slot .input

theorem actSessionCancel_waiting {s : State} {f : Frame} {slot : Nat} (hs : (s.entry slot).state = .waiting)
    (hw : (s.entry slot).waitReason = .tool) (hp : (s.entry slot).peer = 0) :
    actSessionCancel f slot s = (s.cancelWait slot).complete f stCancelled := by
  unfold actSessionCancel
  dsimp only
  rw [hs, hw, State.removeEdge_none hp]
  rfl

theorem State.cancelWait_only {s : State} {slot : Nat} :
    Only (fun s t => { s with sessions := t.sessions, sds := t.sds, fns := t.fns }) s (s.cancelWait slot) := by
  have hd : Only (fun s t => { s with sessions := t.sessions, sds := t.sds, fns := t.fns }) s
      ((s.disarm slot).discardInput slot) := State.disarm_only.mono.then State.discardInput_only
  unfold State.cancelWait
  dsimp only
  generalize (s.disarm slot).discardInput slot = u at hd ⊢
  exact ((hd.then State.putEntry_only).then State.endGeneration_only).then State.setWait_only

theorem State.cancelWait_fns {s : State} {slot : Nat} (h : (s.sess slot).inputs.flatMap TextInput.waits = []) :
    (s.cancelWait slot).fns = s.fns := by
  have hd : ((s.disarm slot).discardInput slot).fns = (s.disarm slot).fns :=
    State.discardInput_fns (by rw [State.sess_disarm]; exact h)
  unfold State.cancelWait
  dsimp only
  generalize (s.disarm slot).discardInput slot = u at hd ⊢
  exact hd

/-- The session of a cancelled wait. -/
def Session.cancelled (x : Session) (now : Nat) : Session :=
  let y := x.disarmed.inputless
  let y := y.withEntry { y.cur.entry with callId := callNext x.cur.entry.callId }
  Session.waits { y with cur := { y.cur with text := y.cur.text.newGeneration } } .input now

@[simp] theorem State.sess_cancelWait (s : State) (slot : Nat) :
    (s.cancelWait slot).sess slot = (s.sess slot).cancelled s.now := by
  have hx : ((s.disarm slot).discardInput slot).sess slot = (s.sess slot).disarmed.inputless := by simp
  have hn : ((s.disarm slot).discardInput slot).now = s.now :=
    (State.discardInput_only (s := s.disarm slot)).keeps State.now
  unfold State.cancelWait
  dsimp only
  generalize (s.disarm slot).discardInput slot = u at hx hn ⊢
  rw [State.sess_setWait, State.sess_endGeneration, State.sess_putEntry, State.entry, hx]
  exact congrArg (Session.waits _ _) hn

@[simp] theorem Session.cancelled_waiting (x : Session) (now : Nat) : (x.cancelled now).waiting = x.waiting := rfl

@[simp] theorem Session.cancelled_pending (x : Session) (now : Nat) : (x.cancelled now).pending = [] := rfl

@[simp] theorem Session.cancelled_inputs (x : Session) (now : Nat) : (x.cancelled now).inputs = [] := rfl

theorem Session.cancelled_entry {x : Session} (h : x.cur.entry.state = .waiting) (now : Nat) :
    (x.cancelled now).cur.entry = { x.cur.entry with
      waitReason := .input, deadline := 0, inputOpen := false, callId := min (x.cur.entry.callId + 1) 0xffffffff } := by
  unfold Session.cancelled
  rw [Session.waits_entry]
  dsimp only
  rw [Session.withEntry_entry, Session.inputless_entry, Session.disarmed_entry, callNext, ← h]

theorem sessionsHoldParkCancel (s : State) (f : Frame) (slot t : Nat) (hr : Reaches s f slot) (hp : f.paramOk = true)
    (hz : f.zeros 32 63 = true) :
    (f.opcode = 0x0104 → (s.entry slot).state = .ready ∨ (s.entry slot).state = .waiting →
      Completes (.sessionHold f t) s fun s' =>
        s'.entry slot = { s.entry slot with state := .held, prior := (s.entry slot).state } ∧ Answered s s' f stOk) ∧
    (f.opcode = 0x0105 → (s.entry slot).state = .held → (s.entry slot).prior = .ready → (s.entry slot).timedOut = false →
      Completes (.sessionRelease f t) s fun s' =>
        s'.entry slot = { s.entry slot with state := .ready, prior := .free } ∧ (s'.sess slot).readyStamp = t ∧
        Answered s s' f stOk) ∧
    (f.opcode = 0x0106 → (s.entry slot).state = .ready ∨ (s.entry slot).state = .waiting ∨ (s.entry slot).state = .held →
      Completes (.sessionPark f t) s fun s' =>
        s'.entry slot = s.entry slot ∧ (s'.sess slot).parkRequest = true ∧
        (s'.sd (s.entry slot).homeSd).policyPending = true ∧ Answered s s' f stOk) ∧
    (f.opcode = 0x0107 → (s.entry slot).state = .waiting → (s.entry slot).waitReason = .tool →
      (s.entry slot).peer = 0 → (s.sess slot).inputs.flatMap TextInput.waits = [] → aget s.migrations slot = none →
      Completes (.sessionCancel f t) s fun s' =>
        s'.entry slot = { s.entry slot with
          waitReason := .input, deadline := 0, inputOpen := false, callId := min ((s.entry slot).callId + 1) 0xffffffff } ∧
        (s'.sess slot).pending = [] ∧ (s'.sess slot).inputs = [] ∧ Answered s s' f stCancelled) := by
  have hk : f.plainOk = true := by rw [Frame.plainOk, hp, hz]; rfl
  have hw := hr.waiting
  refine ⟨fun ho hs => ?_, fun ho hs hprior hto => ?_, fun ho hs => ?_, fun ho hs htool hpeer hn hm => ?_⟩
  · have htab : ((s.stamp t).entry slot).state.tabled = true := by
      rcases hs with hs | hs <;> rw [State.entry_stamp, hs] <;> rfl
    have hrow := (State.sessionFrame_hold (s := s.stamp t) hr htab none none ho hk).trans (actSessionHold_live hs)
    refine .of_answer hr rfl ho hrow ⟨rfl, rfl⟩ (by rw [State.sess_putSess]; exact hw) rfl fun u hx _ ha => ?_
    exact ⟨congrArg (·.cur.entry) (hx.trans (State.sess_putSess ..)), ha⟩
  · have htab : ((s.stamp t).entry slot).state.tabled = true := by rw [State.entry_stamp, hs]; rfl
    have hrow := (State.sessionFrame_release (s := s.stamp t) hr htab none none ho hk).trans
      (actSessionRelease_ready hs hprior hto)
    refine .of_answer hr rfl ho hrow ⟨rfl, rfl⟩ (by rw [State.sess_putSess]; exact hw) rfl fun u hx _ ha => ?_
    rw [State.sess_putSess] at hx
    exact ⟨congrArg (·.cur.entry) hx, congrArg Session.readyStamp hx, ha⟩
  · have htab : ((s.stamp t).entry slot).state.tabled = true := by
      rcases hs with hs | hs | hs <;> rw [State.entry_stamp, hs] <;> rfl
    obtain ⟨hpk, hz'⟩ := Frame.zeros_park hz
    have hpark : f.parkOk = true := by simp [Frame.parkOk, hp, hpk, hz']
    have hrow := (State.sessionFrame_park (s := s.stamp t) hr htab none none ho hpark).trans (actSessionPark_policy hpk hs)
    have hv : (((s.stamp t).putSess slot { s.sess slot with parkRequest := true }).putSd (s.entry slot).homeSd
        { (s.sd (s.entry slot).homeSd) with policyPending := true }).sess slot = { s.sess slot with parkRequest := true } :=
      State.sess_putSess ..
    refine .of_answer hr rfl ho hrow ⟨rfl, rfl⟩ ((congrArg Session.waiting hv).trans hw) rfl fun u hx hd ha => ?_
    have hx := hx.trans hv
    refine ⟨congrArg (·.cur.entry) hx, congrArg Session.parkRequest hx, ?_, ha⟩
    rw [State.sd, hd]
    simp
  · have htab : ((s.stamp t).entry slot).state.tabled = true := by rw [State.entry_stamp, hs]; rfl
    have hrow := State.sessionFrame_cancel (s := s.stamp t) hr htab none none ho hk
    rw [State.endPush_none (by exact hm), actSessionCancel_waiting (s := s.stamp t) hs htool hpeer] at hrow
    have hv : ((s.stamp t).cancelWait slot).sess slot = (s.sess slot).cancelled t := State.sess_cancelWait ..
    refine .of_answer hr rfl ho hrow (.of_only State.cancelWait_only) (by rw [hv, Session.cancelled_waiting, hw])
      (State.cancelWait_fns (s := s.stamp t) hn) fun u hx _ ha => ?_
    rw [hv] at hx
    exact ⟨by rw [State.entry, hx, Session.cancelled_entry hs]; rfl, by rw [hx, Session.cancelled_pending],
      by rw [hx, Session.cancelled_inputs], ha⟩

end Sys2Proof.Machine

namespace Sys2Proof.Machine

/-! ### Peer edges (R54, R56) -/

/-- A session whose links in the waiter lists and whose height are rewritten. -/
def Session.relinked (x : Session) (fw nw : Option Nat) (h : Nat) : Session :=
  x.withEntry { x.cur.entry with firstWaiter := fw, nextWaiter := nw, height := h }

/-- Sessions that differ in their links and heights at most. -/
def Links (s u : State) : Prop := ∀ j, ∃ fw nw h, u.sess j = (s.sess j).relinked fw nw h

theorem Links.refl (s : State) : Links s s := fun _ => ⟨_, _, _, rfl⟩

theorem Links.trans {s u v : State} (h : Links s u) (h' : Links u v) : Links s v := by
  intro j
  obtain ⟨a, b, c, hu⟩ := h j
  obtain ⟨a', b', c', hv⟩ := h' j
  exact ⟨a', b', c', by rw [hv, hu]; rfl⟩

theorem Links.putEntry (s : State) (i : Nat) (fw nw : Option Nat) (h : Nat) :
    Links s (s.putEntry i { s.entry i with firstWaiter := fw, nextWaiter := nw, height := h }) := by
  intro j
  by_cases hj : j = i
  · subst hj; exact ⟨fw, nw, h, State.sess_putEntry ..⟩
  · exact ⟨_, _, _, State.sess_putSess_other _ _ hj⟩

theorem Links.foldl {α : Type} {f : State → α → State} (hf : ∀ u x, Links u (f u x)) (l : List α) (s : State) :
    Links s (l.foldl f s) := by
  induction l generalizing s with
  | nil => exact .refl s
  | cons x l ih => exact (hf s x).trans (ih _)

theorem State.linkWaiters_links (s : State) (peer : Nat) (ws : List Nat) : Links s (s.linkWaiters peer ws) :=
  (Links.putEntry s peer ws.head? _ _).trans (.foldl (fun u (p : Nat × Option Nat) => .putEntry u p.1 _ p.2 _) _ _)

theorem State.fixHeights_links (n : Nat) (s : State) (i : Option Nat) : Links s (s.fixHeights n i) := by
  induction n generalizing s i with
  | zero => exact .refl s
  | succ n ih =>
    cases i with
    | none => exact .refl s
    | some i => exact (Links.putEntry s i _ _ _).trans (ih _ _)

/-- Removing an edge clears the PEER of its session, and changes nothing else but links and heights (R54). -/
theorem State.removeEdge_links (s : State) (i : Nat) :
    Links (s.putEntry i { s.entry i with peer := 0 }) (s.removeEdge i) := by
  unfold State.removeEdge
  dsimp only
  split
  next h0 =>
    intro j
    by_cases hj : j = i
    · subst hj
      exact ⟨_, _, _, by rw [State.sess_putEntry, ← h0]; rfl⟩
    · exact ⟨_, _, _, (State.sess_putSess_other _ _ hj).symm⟩
  next h0 =>
    have h1 : Links (s.putEntry i { s.entry i with peer := 0 })
        (s.putEntry i { s.entry i with peer := 0, nextWaiter := none }) := by
      intro j
      by_cases hj : j = i
      · subst hj
        exact ⟨_, _, _, by rw [State.sess_putEntry, State.sess_putEntry]; rfl⟩
      · exact ⟨_, _, _, (State.sess_putSess_other _ _ hj).trans (State.sess_putSess_other _ _ hj).symm⟩
    split
    · exact h1
    · exact (h1.trans (State.linkWaiters_links _ _ _)).trans (State.fixHeights_links _ _ _)

/-- A session without a peer edge. -/
def Session.unedged (x : Session) (fw nw : Option Nat) (h : Nat) : Session :=
  x.withEntry { x.cur.entry with peer := 0, firstWaiter := fw, nextWaiter := nw, height := h }

theorem State.sess_removeEdge (s : State) (i : Nat) :
    ∃ fw nw h, (s.removeEdge i).sess i = (s.sess i).unedged fw nw h := by
  obtain ⟨fw, nw, h, hx⟩ := s.removeEdge_links i i
  exact ⟨fw, nw, h, hx.trans (congrArg (Session.relinked · fw nw h) (State.sess_putEntry ..))⟩

theorem State.sess_removeEdge_other (s : State) {i j : Nat} (hj : j ≠ i) :
    ∃ fw nw h, (s.removeEdge i).sess j = (s.sess j).relinked fw nw h := by
  obtain ⟨fw, nw, h, hx⟩ := s.removeEdge_links i j
  exact ⟨fw, nw, h, hx.trans (congrArg (Session.relinked · fw nw h) (State.sess_putSess_other _ _ hj))⟩

/-! ### Work on pages and flags -/

/-- The register of PKG_ID is none of those that flags and their counters stand in (R32, R513). -/
theorem State.pkg_setReg (s : State) {blk inst off : Nat} (v : Nat) (ho : off < 2 ^ 16) (h8 : off ≠ 8) :
    (s.setReg (pcs blk inst off) v).pkg = s.pkg := by
  have hne : pcs 0x12 0 0x08 ≠ pcs blk inst off := by unfold pcs; omega
  unfold State.pkg State.regFld
  rw [State.reg_setReg_other _ _ hne]

theorem State.pkg_setFlag (s : State) (f : FlagId) (inst : Nat) (ho : f.off < 2 ^ 15) (h0 : f.off ≠ 0) (h8 : f.off ≠ 8) :
    (s.setFlag f inst).pkg = s.pkg := by
  have hc : (s.addRegFld f.blk inst (f.off + 8) (8 * f.bit + 7) (8 * f.bit) 1).pkg = s.pkg :=
    s.pkg_setReg _ (by omega) (by omega)
  unfold State.setFlag
  dsimp only
  split
  · exact hc
  · exact (State.pkg_setReg (inst := inst) _ _ (by omega) h8).trans hc

/-- An SD other than the one written stands as before. -/
theorem State.sd_putSd_other (s : State) {n m : Nat} (d : StateDie) (h : m ≠ n) : (s.putSd n d).sd m = s.sd m := by
  simp [State.sd, agetD_aset_other _ _ _ h]

/-- What stands while pages, pools and flags change: the sessions and their slots, the host's functions, and what handles
name. -/
structure Aside (s u : State) : Prop where
  sessions : u.sessions = s.sessions
  fns : u.fns = s.fns
  rotation : u.rotation = s.rotation
  guests : u.guests = s.guests
  pkg : u.pkg = s.pkg
  slots : ∀ n, (u.sd n).slots = (s.sd n).slots
  retired : ∀ n, (u.sd n).retired = (s.sd n).retired

namespace Aside
variable {s u v : State}

theorem names (h : Aside s u) : SameNames s u := ⟨h.pkg, h.guests⟩

theorem refl (s : State) : Aside s s := ⟨rfl, rfl, rfl, rfl, rfl, fun _ => rfl, fun _ => rfl⟩

theorem trans (h : Aside s u) (h' : Aside u v) : Aside s v :=
  ⟨h'.sessions.trans h.sessions, h'.fns.trans h.fns, h'.rotation.trans h.rotation, h'.guests.trans h.guests,
    h'.pkg.trans h.pkg, fun n => (h'.slots n).trans (h.slots n), fun n => (h'.retired n).trans (h.retired n)⟩

theorem sess (h : Aside s u) (i : Nat) : u.sess i = s.sess i := State.sess_of_sessions h.sessions i

theorem entry (h : Aside s u) (i : Nat) : u.entry i = s.entry i := congrArg (·.cur.entry) (h.sess i)

theorem putSess (h : Aside s u) (i : Nat) (x : Session) : Aside (s.putSess i x) (u.putSess i x) := by
  obtain ⟨hs, hf, hr, hg, hp, hd, ht⟩ := h
  exact ⟨congrArg (aset · i x) hs, hf, hr, hg, hp, hd, ht⟩

theorem foldl {α : Type} {f : State → α → State} (hf : ∀ u x, Aside u (f u x)) (l : List α) (s : State) :
    Aside s (l.foldl f s) := by
  induction l generalizing s with
  | nil => exact .refl s
  | cons x l ih => exact (hf s x).trans (ih _)

/-- An operation within parts of the state that pages and flags do not share with sessions. -/
theorem of_only {K : State → State → State} (h : Only K s u)
    (hK : ∀ s t, Aside s (K s t) := by intros; exact ⟨rfl, rfl, rfl, rfl, rfl, fun _ => rfl, fun _ => rfl⟩) : Aside s u :=
  (show K s u = u from h.symm) ▸ hK s u

theorem setFlag (f : FlagId) (inst : Nat) (ho : f.off < 2 ^ 15 := by decide) (h0 : f.off ≠ 0 := by decide)
    (h8 : f.off ≠ 8 := by decide) : Aside s (s.setFlag f inst) := by
  obtain ⟨r, a, h⟩ := s.setFlag_frame f inst
  have hp := s.pkg_setFlag f inst ho h0 h8
  rw [h] at hp ⊢
  exact ⟨rfl, rfl, rfl, rfl, hp, fun _ => rfl, fun _ => rfl⟩

theorem flagIf (c : Bool) (f : FlagId) (inst : Nat) (ho : f.off < 2 ^ 15 := by decide) (h0 : f.off ≠ 0 := by decide)
    (h8 : f.off ≠ 8 := by decide) : Aside s (s.flagIf c f inst) := by
  unfold State.flagIf
  split
  · exact setFlag f inst ho h0 h8
  · exact .refl s

theorem releaseFrame (sd tier pool cls frame tenant scaleBytes : Nat) (scale : Option Nat) :
    Aside s (s.releaseFrame sd tier pool cls frame tenant scaleBytes scale) := by
  obtain ⟨p, h1⟩ := s.giveFrame_frame sd tier pool cls frame
  obtain ⟨q, h2⟩ := (s.giveFrame sd tier pool cls frame).giveScale_frame sd scale
  unfold State.releaseFrame
  refine .trans ?_ (.of_only State.dropUse_only)
  rw [h2, h1]
  exact ⟨rfl, rfl, rfl, rfl, rfl, fun _ => rfl, fun _ => rfl⟩

theorem dropCage (id : Nat) : Aside s (s.dropCage id) := by
  unfold State.dropCage
  split
  · exact .refl s
  · split
    · exact ⟨rfl, rfl, rfl, rfl, rfl, fun _ => rfl, fun _ => rfl⟩
    · exact (releaseFrame ..).trans ⟨rfl, rfl, rfl, rfl, rfl, fun _ => rfl, fun _ => rfl⟩

theorem freePage (page : Nat) : Aside s (s.freePage page) := by
  unfold State.freePage
  split
  · exact .refl s
  next l0 _ =>
    dsimp only
    generalize hu : ite (l0.cageId = 0) s _ = u
    have h1 : Aside s u := by
      subst hu
      split
      · exact .refl s
      · split
        · exact .refl s
        · exact (dropCage _).trans (setFlag _ _)
    refine (h1.trans ?_).trans ((releaseFrame ..).trans ⟨rfl, rfl, rfl, rfl, rfl, fun _ => rfl, fun _ => rfl⟩)
    split
    · exact .refl u
    · exact (releaseFrame ..).trans ⟨rfl, rfl, rfl, rfl, rfl, fun _ => rfl, fun _ => rfl⟩

theorem freeUnheld (page : Nat) : Aside s (s.freeUnheld page) := by
  unfold State.freeUnheld
  split
  · exact .refl s
  · split
    · exact ⟨rfl, rfl, rfl, rfl, rfl, fun _ => rfl, fun _ => rfl⟩
    · exact freePage page

/-- An SD's own part, written with its slots as they were. -/
theorem putSd (n : Nat) {d : StateDie} (hs : d.slots = (s.sd n).slots) (hr : d.retired = (s.sd n).retired) :
    Aside s (s.putSd n d) := by
  refine ⟨rfl, rfl, rfl, rfl, rfl, fun m => ?_, fun m => ?_⟩ <;> by_cases h : m = n
  · subst h; rw [State.sd_putSd, hs]
  · rw [State.sd_putSd_other _ _ h]
  · subst h; rw [State.sd_putSd, hr]
  · rw [State.sd_putSd_other _ _ h]

theorem putLeaf (page : Nat) (l : Leaf) : Aside s (s.putLeaf page l) :=
  ⟨rfl, rfl, rfl, rfl, rfl, fun _ => rfl, fun _ => rfl⟩

theorem dropRef (page : Nat) (who : Option Nat) : Aside s (s.dropRef page who) := by
  unfold State.dropRef
  dsimp only
  split
  · exact .refl s
  · split
    · exact freeUnheld page
    · split
      · refine .trans (putSd _ ?_ ?_) (putLeaf _ _) <;> rfl
      · exact putSd _ rfl rfl

end Aside

theorem State.settleMap_aside (s : State) (i : Nat) :
    Aside (s.putSess i { s.sess i with mapHeld := mapBlocksOf (s.sess i).cur.kvMap, dirHeld := dirPagesOf (s.sess i).cur.kvMap })
      (s.settleMap i) := by
  unfold State.settleMap
  dsimp only
  refine .trans ?_ (.flagIf _ _ _)
  exact Aside.putSd (s := s.putSess i _) _ rfl rfl

theorem State.recount_only {s : State} {i : Nat} : Only (fun s t => { s with sessions := t.sessions }) s (s.recount i) :=
  .ite rfl putSess_only

/-- A session whose pages are counted anew (R40). -/
def Session.recounted (x : Session) (r : Residence) (c : Tri) (p : Bool) : Session :=
  { x.withEntry { x.cur.entry with residence := r } with tiers := c, parkRequest := p }

theorem State.sess_recount (s : State) (i : Nat) :
    ∃ r c p, (s.recount i).sess i = (s.sess i).recounted r c p := by
  unfold State.recount
  dsimp only
  split
  · exact ⟨_, _, _, rfl⟩
  · exact ⟨_, _, _, State.sess_putSess ..⟩

theorem State.sess_recount_other (s : State) {i j : Nat} (h : j ≠ i) : (s.recount i).sess j = s.sess j := by
  unfold State.recount
  dsimp only
  split
  · rfl
  · exact State.sess_putSess_other _ _ h

theorem State.sess_wakeOutbox (s : State) (i j : Nat) :
    (s.wakeOutbox i).sess j = s.sess j ∨ (s.wakeOutbox i).sess j = (s.sess j).moved .ready s.now := by
  unfold State.wakeOutbox
  dsimp only
  split
  · by_cases h : j = i
    · subst h; exact .inr (State.sess_setState ..)
    · exact .inl (State.sess_putSess_other _ _ h)
  · exact .inl rfl

/-- A session is as it was, or it waited for outbox room and is READY (R63). -/
theorem State.sess_wakeOutboxes (s : State) (sd j : Nat) :
    (s.wakeOutboxes sd).sess j = s.sess j ∨ (s.wakeOutboxes sd).sess j = (s.sess j).moved .ready s.now := by
  unfold State.wakeOutboxes
  generalize s.sessions.map (·.1) = l
  induction l generalizing s with
  | nil => exact .inl rfl
  | cons i l ih =>
    rw [List.foldl_cons]
    split
    · have hn : (s.wakeOutbox i).now = s.now := State.wakeOutbox_only.keeps State.now
      have h2 : ((s.sess j).moved .ready s.now).moved .ready s.now = (s.sess j).moved .ready s.now := rfl
      rcases ih (s.wakeOutbox i) with h | h <;> rcases s.sess_wakeOutbox i j with h' | h' <;> rw [h, h']
      · exact .inl rfl
      · exact .inr rfl
      · exact .inr (by rw [hn])
      · exact .inr (by rw [hn, h2])
    · exact ih s

/-! ### CLOSE (R44) -/

/-- A session without pages and the map blocks that name them. -/
def Session.pageless (x : Session) (b k : Nat) : Session :=
  { x with
    cur := { x.cur with kvMap := [], entry := { x.cur.entry with metaUsa := noPage } }
    shadow := { x.shadow with kvMap := [], entry := { x.shadow.entry with metaUsa := noPage } }
    mapHeld := b, dirHeld := k }

theorem State.dropPages_aside (s : State) (i : Nat) : ∃ b k, Aside (s.putSess i ((s.sess i).pageless b k)) (s.dropPages i) := by
  unfold State.dropPages
  dsimp only
  generalize (s.sess i).cur.pages ++ _ = l
  have h : Aside s (l.foldl (fun s u => s.dropRef u (some i)) s) := .foldl (fun _ _ => .dropRef _ _) _ _
  generalize l.foldl (fun s u => s.dropRef u (some i)) s = u at h ⊢
  have h2 := State.settleMap_aside (u.putSess i ((s.sess i).pageless (s.sess i).mapHeld (s.sess i).dirHeld)) i
  rw [State.sess_putSess, State.putSess_putSess] at h2
  rw [h.sess]
  exact ⟨mapBlocksOf [], dirPagesOf [], (h.putSess i _).trans h2⟩

/-- A session whose outbox is discarded. -/
def Session.recordless (x : Session) : Session := { x with outbox := [], unpooled := [], reserved := 0 }

theorem State.dropOutbox_names (s : State) (i : Nat) : SameNames s (s.dropOutbox i) := by
  unfold State.dropOutbox
  exact (SameNames.of_only State.putSd_only).trans ((SameNames.of_only State.putSess_only).trans (.of_only State.wakeOutboxes_only))

theorem State.sess_dropOutbox (s : State) (i : Nat) :
    (s.dropOutbox i).sess i = (s.sess i).recordless ∨ ∃ now, (s.dropOutbox i).sess i = (s.sess i).recordless.moved .ready now := by
  unfold State.dropOutbox
  dsimp only
  rcases State.sess_wakeOutboxes ((s.putSd (tableSd i) _).putSess i (s.sess i).recordless) (tableSd i) i with h | h <;>
    rw [State.sess_putSess] at h
  · exact .inl h
  · exact .inr ⟨_, h⟩

/-- The session of a CLOSE after its text and its timer are gone (R44). -/
structure Session.Textless (x : Session) (ws : List Waiting) : Prop where
  inputs : x.inputs = []
  timer : x.timer = none
  waiting : x.waiting = ws

/-- The session of a CLOSE after its pages are gone as well. -/
structure Session.Pageless (x : Session) (ws : List Waiting) : Prop extends x.Textless ws where
  metaUsa : x.cur.entry.metaUsa = noPage
  kvMap : x.cur.kvMap = []

/-- The session of a CLOSE after its records are gone as well. -/
structure Session.Emptied (x : Session) (ws : List Waiting) : Prop extends x.Pageless ws where
  outbox : x.outbox = []

theorem Session.textless_of (x : Session) : x.disarmed.inputless.Textless x.waiting := ⟨rfl, rfl, rfl⟩

theorem Session.Textless.pageless {x : Session} {ws : List Waiting} (h : x.Textless ws) (b k : Nat) :
    (x.pageless b k).Pageless ws := ⟨⟨h.inputs, h.timer, h.waiting⟩, rfl, rfl⟩

theorem Session.Pageless.recordless {x : Session} {ws : List Waiting} (h : x.Pageless ws) : x.recordless.Emptied ws :=
  ⟨⟨⟨h.inputs, h.timer, h.waiting⟩, h.metaUsa, h.kvMap⟩, rfl⟩

theorem Session.Emptied.moved {x : Session} {ws : List Waiting} (h : x.Emptied ws) (st : SState) (now : Nat) :
    (x.moved st now).Emptied ws :=
  ⟨⟨⟨h.inputs, h.timer, h.waiting⟩, h.metaUsa, h.kvMap⟩, h.outbox⟩

/-- A session that has entered CLOSING. -/
def Session.closes (x : Session) (n now : Nat) : Session :=
  { x.withEntry { x.cur.entry with state := .closing, waitReason := .none } with
    since := now, parkRequest := false, peerDone := true, timed := [], textHeld := n }

theorem Session.Emptied.closes {x : Session} {ws : List Waiting} (h : x.Emptied ws) (n now : Nat) :
    (x.closes n now).Emptied ws :=
  ⟨⟨⟨h.inputs, h.timer, h.waiting⟩, h.metaUsa, h.kvMap⟩, h.outbox⟩

theorem State.discarded_spec (s : State) (i : Nat) :
    SameNames s (((s.removeEdge i).disarm i).discardInput i) ∧
      ((((s.removeEdge i).disarm i).discardInput i).sess i).Textless (s.sess i).waiting := by
  obtain ⟨fw, nw, h, h1⟩ := s.sess_removeEdge i
  have hw : ((s.removeEdge i).sess i).waiting = (s.sess i).waiting := by rw [h1]; rfl
  refine ⟨(SameNames.of_only State.removeEdge_only).trans
    ((SameNames.of_only State.disarm_only).trans (.of_only State.discardInput_only)), ?_⟩
  rw [State.sess_discardInput, State.sess_disarm, ← hw]
  exact Session.textless_of _

theorem State.dropPages_spec (s : State) (i : Nat) {ws : List Waiting} (h : (s.sess i).Textless ws) :
    SameNames s (s.dropPages i) ∧ ((s.dropPages i).sess i).Pageless ws := by
  obtain ⟨b, k, hp⟩ := s.dropPages_aside i
  refine ⟨(SameNames.of_only State.putSess_only).trans hp.names, ?_⟩
  rw [hp.sess, State.sess_putSess]
  exact h.pageless b k

theorem State.dropOutbox_spec (s : State) (i : Nat) {ws : List Waiting} (h : (s.sess i).Pageless ws) :
    ((s.dropOutbox i).sess i).Emptied ws := by
  rcases s.sess_dropOutbox i with hx | ⟨now, hx⟩ <;> rw [hx]
  · exact h.recordless
  · exact h.recordless.moved _ _

theorem State.startClosing_spec (s : State) (i : Nat) :
    SameNames s (s.startClosing i) ∧ ((s.startClosing i).sess i).Emptied (s.sess i).waiting ∧
      ((s.startClosing i).entry i).state = .closing := by
  obtain ⟨hn, hx⟩ := s.discarded_spec i
  unfold State.startClosing
  dsimp only
  generalize ((s.removeEdge i).disarm i).discardInput i = u at hn hx ⊢
  obtain ⟨hnu, hx⟩ := u.dropPages_spec i hx
  generalize u.dropPages i = v at hnu hx ⊢
  have hnv := v.dropOutbox_names i
  replace hx := v.dropOutbox_spec i hx
  generalize v.dropOutbox i = w at hnv hx ⊢
  refine ⟨(hn.trans hnu).trans (hnv.trans (.of_only (State.settleText_only.then State.putSess_only))), ?_⟩
  rw [State.entry, State.sess_putSess, State.sess_settleText]
  generalize w.sess i = x at hx ⊢
  exact ⟨hx.closes _ _, rfl⟩

end Sys2Proof.Machine

namespace Sys2Proof.Machine

/-! ### CLOSE and its release (R34, R44) -/

theorem actSessionClose_live {s : State} {f : Frame} {slot : Nat}
    (hs : (s.entry slot).state = .ready ∨ (s.entry slot).state = .waiting ∨ (s.entry slot).state = .held ∨
      (s.entry slot).state = .fenced) :
    actSessionClose f slot s =
      ((s.sess slot).timed.foldl (fun s w => s.complete w.frame stNoSession) (s.startClosing slot)).lockFor slot f := by
  rcases hs with hs | hs | hs | hs <;> simp [actSessionClose, hs]

/-- A session under the lock of a host command (R59). -/
def Session.locked (x : Session) (f : Frame) (lease now : Nat) : Session :=
  { x.withEntry { x.cur.entry with holder := .host f.function f.queue, leaseEnd := lease } with owner := some f, lockStamp := now }

@[simp] theorem State.sess_lockFor (s : State) (i : Nat) (f : Frame) :
    (s.lockFor i f).sess i = (s.sess i).locked f s.leaseFrom s.now := State.sess_putSess ..

theorem State.lockFor_only {s : State} {i : Nat} {f : Frame} :
    Only (fun s t => { s with sessions := t.sessions }) s (s.lockFor i f) := rfl

theorem Session.Emptied.locked {x : Session} {ws : List Waiting} (h : x.Emptied ws) (f : Frame) (lease now : Nat) :
    (x.locked f lease now).Emptied ws :=
  ⟨⟨⟨h.inputs, h.timer, h.waiting⟩, h.metaUsa, h.kvMap⟩, h.outbox⟩

theorem Session.locked_entry (x : Session) (f : Frame) (lease now : Nat) :
    (x.locked f lease now).cur.entry = { x.cur.entry with holder := .host f.function f.queue, leaseEnd := lease } := rfl

theorem sessionClose_closing (s : State) (f : Frame) (slot t : Nat) (hr : Reaches s f slot) (ho : f.opcode = 0x0108)
    (hk : f.plainOk = true) (hm : aget s.migrations slot = none)
    (hs : (s.entry slot).state = .ready ∨ (s.entry slot).state = .waiting ∨ (s.entry slot).state = .held ∨
      (s.entry slot).state = .fenced) :
    Completes (.sessionClose f t) s fun s' =>
      (s'.entry slot).state = .closing ∧ (s'.entry slot).holder = .host f.function f.queue ∧
      (s'.entry slot).metaUsa = noPage ∧ (s'.sess slot).cur.kvMap = [] ∧ (s'.sess slot).inputs = [] ∧
      (s'.sess slot).outbox = [] ∧ (s'.sess slot).timer = none := by
  have htab : ((s.stamp t).entry slot).state.tabled = true := by
    rcases hs with hs | hs | hs | hs <;> rw [State.entry_stamp, hs] <;> rfl
  have hrow := State.sessionFrame_close (s := s.stamp t) hr htab none none ho hk
  rw [State.endPush_none (by exact hm), actSessionClose_live (s := s.stamp t) hs] at hrow
  obtain ⟨hn, hx, hst⟩ := (s.stamp t).startClosing_spec slot
  rw [State.entry] at hst
  generalize (s.stamp t).startClosing slot = u at hrow hn hx hst
  have hlast := State.sess_lockFor
    (((s.stamp t).sess slot).timed.foldl (fun s w => s.complete w.frame stNoSession) u) slot f
  rw [State.sess_completeAll (f := Waiting.frame)] at hlast
  have hy := hx.locked f (((s.stamp t).sess slot).timed.foldl (fun s w => s.complete w.frame stNoSession) u).leaseFrom
    (((s.stamp t).sess slot).timed.foldl (fun s w => s.complete w.frame stNoSession) u).now
  rw [← hlast] at hy
  refine .of_row hr rfl ho hrow (hn.trans ?_) (hy.waiting.trans hr.waiting)
    ⟨?_, ?_, hy.metaUsa, hy.kvMap, hy.inputs, hy.outbox, hy.timer⟩
  · exact (SameNames.of_only (u.completeAll_only _ Waiting.frame _)).trans (.of_only State.lockFor_only)
  · rw [State.entry, hlast, Session.locked_entry]; exact hst
  · rw [State.entry, hlast, Session.locked_entry]

/-! ### What wakes a waiter (R57) -/

/-- A session with text queued behind its inputs. -/
def Session.queued (x : Session) (bs : List Byte) : Session :=
  { x with inputs := x.inputs ++ if bs.isEmpty then [] else
      [{ unread := bs, window := [], base := 0, closed := true, opcode := 0, function := 0, queue := 0, fresh := true,
         stalled := false, waits := [] }] }

@[simp] theorem State.sess_queueText (s : State) (i : Nat) (bs : List Byte) :
    (s.queueText i bs).sess i = (s.sess i).queued bs := by
  unfold State.queueText Session.queued
  split
  · rw [List.append_nil]
  · exact State.sess_putSess ..

theorem State.sess_queueText_other (s : State) {i j : Nat} (bs : List Byte) (h : j ≠ i) :
    (s.queueText i bs).sess j = s.sess j := by
  unfold State.queueText
  split
  · rfl
  · exact State.sess_putSess_other _ _ h

/-- Sessions that keep their handles. -/
def SameHandles (s u : State) : Prop := ∀ j, (u.sess j).cur.entry.handle = (s.sess j).cur.entry.handle

theorem SameHandles.refl (s : State) : SameHandles s s := fun _ => rfl

theorem SameHandles.trans {s u v : State} (h : SameHandles s u) (h' : SameHandles u v) : SameHandles s v :=
  fun j => (h' j).trans (h j)

theorem SameHandles.putSess (s : State) (i : Nat) {x : Session} (h : x.cur.entry.handle = (s.sess i).cur.entry.handle) :
    SameHandles s (s.putSess i x) := by
  intro j
  by_cases hj : j = i
  · subst hj; rw [State.sess_putSess, h]
  · rw [State.sess_putSess_other _ _ hj]

theorem SameHandles.of_links {s u : State} (h : Links s u) : SameHandles s u := by
  intro j
  obtain ⟨a, b, c, hx⟩ := h j
  rw [hx]; rfl

theorem SameHandles.removeEdge (s : State) (i : Nat) : SameHandles s (s.removeEdge i) :=
  (SameHandles.putSess s i (x := (s.sess i).withEntry { s.entry i with peer := 0 }) rfl).trans (.of_links (s.removeEdge_links i))

theorem SameHandles.disarm (s : State) (i : Nat) : SameHandles s (s.disarm i) := .putSess s i rfl

theorem SameHandles.queueText (s : State) (i : Nat) (bs : List Byte) : SameHandles s (s.queueText i bs) := by
  unfold State.queueText
  split
  · exact .refl s
  · exact .putSess s i rfl

theorem SameHandles.wakeWaiter (s : State) (i : Nat) : SameHandles s (s.wakeWaiter i) := by
  have h : SameHandles s (((s.removeEdge i).disarm i).queueText i (s.sess i).cur.wakeText) :=
    (SameHandles.removeEdge s i).trans ((SameHandles.disarm _ i).trans (.queueText _ _ _))
  unfold State.wakeWaiter
  dsimp only
  generalize ((s.removeEdge i).disarm i).queueText i (s.sess i).cur.wakeText = u at h ⊢
  split
  · exact h.trans (.putSess u i rfl)
  · exact h.trans (.putSess u i rfl)

theorem SameHandles.peerComplete (s : State) (i : Nat) (rejects : List Nat) : SameHandles s (s.peerComplete i rejects) := by
  unfold State.peerComplete
  split
  · exact .refl s
  · refine (SameHandles.putSess s i (x := { s.sess i with peerDone := false }) rfl).trans ?_
    generalize s.putSess i { s.sess i with peerDone := false } = u
    dsimp only
    generalize (s.waiters i).filter _ = l
    induction l generalizing u with
    | nil => exact .refl u
    | cons w l ih => exact (SameHandles.wakeWaiter u w).trans (ih _)

theorem State.sweepAdapter_aside (s : State) (key : Nat) : Aside s (s.sweepAdapter key) := by
  unfold State.sweepAdapter
  split
  · exact .refl s
  · split
    · exact .refl s
    · exact (Aside.foldl (fun _ _ => .freePage _) _ _).trans
        ⟨rfl, rfl, rfl, rfl, rfl, fun _ => rfl, fun _ => rfl⟩

/-- A freed slot is FREE with its generation raised, retired at 0x0FFF_FFFF and on the free list below (R34). -/
theorem State.freeSlot_spec (s : State) (slot : Nat) :
    let g := hGen (s.entry slot).handle + 1
    ((s.freeSlot slot).entry slot).state = .free ∧ ((s.freeSlot slot).entry slot).handle = mkHandle s.pkg slot g ∧
      (g = 0x0fffffff → slot ∈ ((s.freeSlot slot).sd (tableSd slot)).retired) ∧
      (g ≠ 0x0fffffff → ((s.freeSlot slot).sd (tableSd slot)).slots = (s.sd (tableSd slot)).slots.give (slot / 12)) := by
  intro g
  unfold State.freeSlot
  dsimp only
  generalize hb : (Session.free slot).withEntry { Entry.free slot with handle := mkHandle s.pkg slot g } = b
  have hst : b.cur.entry.state = .free := by subst hb; rfl
  have hh : b.cur.entry.handle = mkHandle s.pkg slot g := by subst hb; rfl
  split
  next hg =>
    generalize hu : (((s.putSess slot b).putSd (tableSd slot) _).addRegFld 0x02 (tableSd slot) 0x10 23 0 1) = u
    have hx : u.sess slot = b := by subst hu; exact State.sess_putSess ..
    have hd : (u.sd (tableSd slot)).retired = (s.sd (tableSd slot)).retired ++ [slot] := by
      subst hu; exact congrArg StateDie.retired (State.sd_putSd ..)
    have hk : Only (fun s t => { s with regs := t.regs, flagSets := t.flagSets, errLog := t.errLog, fns := t.fns }) u
        ((u.setFlag fSlotRetired (tableSd slot)).logError 0 (16 + tableSd slot) 0x02 (tableSd slot) 0x0005 slot) :=
      State.setFlag_only.mono.then State.logError_only
    have hs := (hk.keeps (State.sess · slot)).trans hx
    have hr := (hk.keeps (State.sd · (tableSd slot))).trans rfl
    rw [State.entry, hs, hr, hd]
    exact ⟨hst, hh, fun _ => by simp, fun hne => absurd hg hne⟩
  next hg =>
    have hs : ∀ d, ((s.putSess slot b).putSd (tableSd slot) d).sess slot = b := fun _ => State.sess_putSess ..
    rw [State.entry, hs, State.sd_putSd]
    exact ⟨hst, hh, fun he => absurd he hg, fun _ => rfl⟩

/-- The release of a CLOSE frees the slot of a session of this package, after its waiters have woken and its frames have
completed. -/
theorem State.closeReleased_eq {s : State} {slot : Nat} (h : (s.entry slot).state = .closing)
    (ho : hOrigin (s.entry slot).handle = s.pkg) :
    ∃ u key, Only (fun s t => { s with sessions := t.sessions, fns := t.fns }) s u ∧ SameHandles s u ∧ s.closeReleased slot = (u.freeSlot slot).sweepAdapter key := by
  have hk : Only (fun s t => { s with sessions := t.sessions, fns := t.fns }) s (s.peerComplete slot []) :=
    State.peerComplete_only.mono
  have hh := SameHandles.peerComplete s slot []
  have hc : ¬ ((s.sess slot).cur.entry.state != .closing) = true := by
    rw [show (s.sess slot).cur.entry.state = .closing from h]; decide
  unfold State.closeReleased
  dsimp only
  rw [if_neg hc]
  generalize s.peerComplete slot [] = u at hk hh ⊢
  generalize hw : List.foldl (fun (s : State) w => s.complete w.frame stNoSession) _ (s.sess slot).waiting = w
  have hkw : Only (fun s t => { s with fns := t.fns }) u w := by
    subst hw
    refine .then ?_ (State.completeAll_only _ Waiting.frame _)
    split
    · exact State.complete_only
    · exact .refl
  have hp : w.pkg = s.pkg := (hk.then hkw).keeps State.pkg
  rw [if_pos (show hOrigin (s.sess slot).cur.entry.handle = w.pkg from ho.trans hp.symm)]
  exact ⟨w, _, hk.then hkw, fun j => (congrArg (·.cur.entry.handle) (hkw.keeps (State.sess · j))).trans (hh j), rfl⟩

theorem closeReleaseDone_frees (s : State) (slot t : Nat) (h : (s.entry slot).state = .closing)
    (ho : hOrigin (s.entry slot).handle = s.pkg) :
    Completes (.closeReleaseDone slot t) s fun s' =>
      (s'.entry slot).state = .free ∧
      (s'.entry slot).handle = mkHandle s.pkg slot (hGen (s.entry slot).handle + 1) ∧
      (hGen (s.entry slot).handle + 1 = 0x0fffffff → slot ∈ (s'.sd (tableSd slot)).retired) ∧
      (hGen (s.entry slot).handle + 1 ≠ 0x0fffffff →
        (s'.sd (tableSd slot)).slots = (s.sd (tableSd slot)).slots.give (slot / 12)) := by
  obtain ⟨u, key, hk, hh, he⟩ := State.closeReleased_eq (s := s.stamp t) h ho
  obtain ⟨hst, hhd, hret, hfree⟩ := u.freeSlot_spec slot
  have ha := (u.freeSlot slot).sweepAdapter_aside key
  have hhu : (u.entry slot).handle = (s.entry slot).handle := hh slot
  have hp : u.pkg = s.pkg := hk.keeps State.pkg
  have hd : u.sd (tableSd slot) = s.sd (tableSd slot) := hk.keeps (State.sd · (tableSd slot))
  rw [hhu] at hhd hret hfree
  rw [hp] at hhd
  rw [hd] at hfree
  refine ⟨_, congrArg Host.Outcome.next he, ?_⟩
  dsimp only
  rw [ha.entry, ha.slots, ha.retired]
  exact ⟨hst, hhd, hret, hfree⟩

/-- Settles O6: HOLD, RELEASE, PARK and CANCEL by their rows; CLOSE by what `startClosing` drops (`startClosing_spec`); the
release by `freeSlot_spec`. -/
theorem sessionsHoldParkCancelAndClose : Obligations.SessionsHoldParkCancelAndClose := by
  unfold Obligations.SessionsHoldParkCancelAndClose
  exact ⟨sessionsHoldParkCancel, fun s f slot t => ⟨sessionClose_closing s f slot t, closeReleaseDone_frees s slot t⟩⟩

end Sys2Proof.Machine

namespace Sys2Proof.Machine

/-! ### Slots and pages of new sessions (R36, R44, R95) -/

theorem State.nextTableSd_of_sds {s u : State} (h : u.sds = s.sds) (n k : Nat) : u.nextTableSd n k = s.nextTableSd n k := by
  induction n generalizing k with
  | zero => rfl
  | succ n ih =>
    have hd : u.sd k = s.sd k := congrArg (agetD · k (StateDie.reset k)) h
    rw [State.nextTableSd, State.nextTableSd, hd, ih]

/-- The state in which the rotation has gone on past an SD (R36). -/
def State.rotated (s : State) (n : Nat) : State := { s with rotation := (n + 1) % 12 }

theorem State.chooseSd_some {s : State} {n : Nat} (h : s.nextTableSd 12 s.rotation = some n) :
    s.chooseSd = (some n, s.rotated n) := by
  simp [State.chooseSd, h, State.rotated]

/-- The state in which a table SD has handed out the head of its list. -/
def State.slotTaken (s : State) (n : Nat) (p : Pool) : State := s.putSd n { s.sd n with slots := p }

theorem State.takeSlot_some {s : State} {n : Nat} {p : Nat × Pool} (h : (s.sd n).slots.take = some p) :
    s.takeSlot n = some (n + 12 * p.1, s.slotTaken n p.2) := by
  simp [State.takeSlot, h, State.slotTaken]

namespace Aside
variable {s u v : State}

theorem draw : Aside s s.draw.2 := ⟨rfl, rfl, rfl, rfl, rfl, fun _ => rfl, fun _ => rfl⟩

theorem takeFrame {sd tier pool cls f : Nat} (h : s.takeFrame sd tier pool cls = some (f, u)) : Aside s u := by
  obtain ⟨p, rfl⟩ := State.takeFrame_frame h
  exact ⟨rfl, rfl, rfl, rfl, rfl, fun _ => rfl, fun _ => rfl⟩

theorem takeScale {sd i : Nat} (h : s.takeScale sd = some (i, u)) : Aside s u := by
  obtain ⟨p, rfl⟩ := State.takeScale_frame h
  exact ⟨rfl, rfl, rfl, rfl, rfl, fun _ => rfl, fun _ => rfl⟩

theorem addUse (t tier n : Nat) : Aside s (s.addUse t tier n) := by
  obtain ⟨x, h⟩ := s.addUse_frame t tier n
  rw [h]
  exact ⟨rfl, rfl, rfl, rfl, rfl, fun _ => rfl, fun _ => rfl⟩

theorem checkPoolLow (sd cls before : Nat) : Aside s (s.checkPoolLow sd cls before) := by
  unfold State.checkPoolLow
  dsimp only
  split
  · exact (setFlag fPoolLow sd).trans (putSd _ rfl rfl)
  · exact .refl s

theorem allocAt {usa cls n t : Nat} {o : Option Nat} (h : s.allocAt usa cls n t o = some u) : Aside s u := by
  unfold State.allocAt at h
  dsimp only at h
  split at h
  · cases h
  next fr s1 h1 =>
    split at h
    · cases h
    next blk s2 h2 =>
      have ha : Aside s1 s2 := by
        split at h2
        · cases h2; exact .refl s1
        · obtain ⟨q, hq, he⟩ := Option.map_eq_some_iff.mp h2
          cases he
          exact takeScale hq
      cases h
      exact (takeFrame h1).trans (ha.trans ((addUse _ _ _).trans ((putLeaf _ _).trans (checkPoolLow _ _ _))))

theorem allocPage {sd cls n t a : Nat} {o : Option Nat} (h : s.allocPage sd cls n t o = some (a, u)) : Aside s u := by
  unfold State.allocPage at h
  dsimp only at h
  obtain ⟨q, hq, he⟩ := Option.map_eq_some_iff.mp h
  cases he
  exact draw.trans (allocAt hq)

end Aside

/-- A session with its metadata page and text block reserved (R44, R239). -/
def Session.reserves (x : Session) (usa : Nat) : Session :=
  { x.withEntry { x.cur.entry with metaUsa := usa } with textHeld := textBlockPages }

theorem State.reserveSession_aside {s u : State} {slot home tenant : Nat} (h : s.reserveSession slot home tenant = some u) :
    ∃ usa, Aside (s.putSess slot ((s.sess slot).reserves usa)) u := by
  unfold State.reserveSession at h
  dsimp only at h
  split at h
  · cases h
  · split at h
    · cases h
    next usa v hv =>
      have ha : Aside s v := .allocPage hv
      cases h
      refine ⟨usa, ?_⟩
      have hs : (v.putSd home { v.sd home with textFree := (v.sd home).textFree - textBlockPages }).sess slot = s.sess slot :=
        ha.sess slot
      rw [hs]
      refine Aside.putSess (u := v.putSd home _) (ha.trans ?_) slot ((s.sess slot).reserves usa)
      exact .putSd _ rfl rfl

/-! ### OPEN (R36, R44, R48) -/

/-- A frame whose list field is 0 asks for no list (R241). -/
theorem State.resolveLists_zero (s : State) (m : Model) : s.resolveLists m 0 = some [0, 0, 0, 0] := by
  simp [State.resolveLists, State.resolveList, fld, List.range, List.range.loop]

theorem openTexts_of_ok {f : Frame} (h : openFieldsOk f = true) : ∃ p, openTexts f = some p := by
  simp only [openFieldsOk, Bool.and_eq_true] at h
  exact Option.isSome_iff_exists.mp h.2

/-- The session that an OPEN puts into its slot. -/
def Frame.opens (f : Frame) (s : State) (slot home : Nat) (timeout : List Byte) : Session :=
  let x := { (Session.free slot).withEntry
    (openEntry f slot (hGen (s.entry slot).handle) s.pkg home 0 [0, 0, 0, 0] (!s.storeOk)) with
      owner := some f, since := s.now }
  { x with cur := { x.cur with toolTimeout := f.field 48 8, timeoutText := timeout } }

/-- The state in which the slot that an OPEN has taken is in OPENING. -/
def State.opened (s : State) (f : Frame) (n : Nat) (p : Nat × Pool) (home : Nat) (timeout : List Byte) : State :=
  let u := (s.rotated n).slotTaken n p.2
  u.putSess (n + 12 * p.1) (f.opens u (n + 12 * p.1) home timeout)

/-- An OPEN that passes its checks opens a slot, and reserves its metadata page where it can. -/
theorem State.sessionOpen_passes {s : State} {f : Frame} {n : Nat} {p : Nat × Pool} {m : Model} {q : Profile}
    (hok : openFieldsOk f = true) (hb : s.bound (f.field 32 2) f.function = true)
    (hm : aget s.models (f.field 34 2) = some m) (ha : fld f.param 47 32 = 0) (hl : f.field 56 8 = 0)
    (ht : (s.tenant (f.field 32 2)).models.contains (f.field 34 2) = true)
    (hq : aget s.profiles (fld f.param 31 0) = some q) (hn : s.nextTableSd 12 s.rotation = some n)
    (hp : (s.sd n).slots.take = some p) :
    ∃ home timeout, s.sessionOpen f = s.opened f n p home timeout ∨
      ∃ w text, (s.opened f n p home timeout).reserveSession (n + 12 * p.1) home (f.field 32 2) = some w ∧
        s.sessionOpen f = w.queueText (n + 12 * p.1) text := by
  obtain ⟨⟨timeout, text⟩, htx⟩ := openTexts_of_ok hok
  refine ⟨if f.field 38 1 = 0xff then ((s.rotated n).slotTaken n p.2).chooseHome m else f.field 38 1, timeout, ?_⟩
  generalize hu : s.sessionOpen f = u
  unfold State.sessionOpen at hu
  rw [State.chooseSd_some hn] at hu
  extract_lets tenant at hu
  have hb' : (s.rotated n).bound tenant f.function = true := hb
  have hm' : aget (s.rotated n).models (f.field 34 2) = some m := hm
  have hv : (s.rotated n).bindAdapter (fld f.param 47 32) tenant = some 0 := by rw [ha]; rfl
  have hr : (s.rotated n).resolveLists m (f.field 56 8) = some [0, 0, 0, 0] := by rw [hl, State.resolveLists_zero]
  have hq' : aget (s.rotated n).profiles (fld f.param 31 0) = some q := hq
  have ht' : ((s.rotated n).tenant tenant).models.contains (f.field 34 2) = true := ht
  have hp' : ((s.rotated n).sd n).slots.take = some p := hp
  simp -zeta only [hb', hok, hm', hv, htx, hr, ht', hq', Option.bind_some, State.takeSlot_some hp', Bool.not_true,
    Option.isNone_some, Bool.or_false, Bool.false_eq_true, if_false] at hu
  extract_lets _ home _ _ _ _ _ v at hu
  have ho : s.opened f n p home timeout = v := rfl
  rw [show (if f.field 38 1 = 0xff then ((s.rotated n).slotTaken n p.2).chooseHome m else f.field 38 1) = home from rfl, ho]
  split at hu
  · exact .inl hu.symm
  next w hw =>
    split at hw
    · exact .inr ⟨w, text, hw, hu.symm⟩
    · cases hw

/-- What an OPEN has made of its slot, whether or not its page could be reserved. -/
structure State.Opening (s : State) (f : Frame) (n slot : Nat) (u : State) : Prop where
  state : (u.entry slot).state = .opening
  tenant : (u.entry slot).tenant = f.field 32 2
  model : (u.entry slot).model = f.field 34 2
  handle : (u.entry slot).handle = mkHandle s.pkg slot (hGen (s.entry slot).handle)
  rotation : u.rotation = (n + 1) % 12

theorem State.opened_opening (s : State) (f : Frame) (n : Nat) (p : Nat × Pool) (home : Nat) (timeout : List Byte) :
    s.Opening f n (n + 12 * p.1) (s.opened f n p home timeout) := by
  have he : (s.opened f n p home timeout).entry (n + 12 * p.1)
      = Machine.openEntry f (n + 12 * p.1) (hGen (s.entry (n + 12 * p.1)).handle) s.pkg home 0 [0, 0, 0, 0] (!s.storeOk) :=
    State.entry_putSess ..
  exact ⟨by rw [he]; rfl, by rw [he]; rfl, by rw [he]; rfl, by rw [he]; rfl, rfl⟩

/-- Neither the metadata page nor the initial text of an OPENING session changes what its OPEN wrote. -/
theorem State.Opening.prepared {s u w : State} {f : Frame} {n slot home tenant : Nat} (h : s.Opening f n slot u)
    (hw : u.reserveSession slot home tenant = some w) (text : List Byte) : s.Opening f n slot (w.queueText slot text) := by
  obtain ⟨usa, ha⟩ := State.reserveSession_aside hw
  have he : (w.queueText slot text).entry slot = { u.entry slot with metaUsa := usa } := by
    rw [State.entry, State.sess_queueText, ha.sess, State.sess_putSess]
    rfl
  refine ⟨by rw [he]; exact h.state, by rw [he]; exact h.tenant, by rw [he]; exact h.model, by rw [he]; exact h.handle, ?_⟩
  exact (State.queueText_only.keeps State.rotation).trans (ha.rotation.trans h.rotation)

/-! ### The end of OPEN's preparation (R44) -/

theorem State.completeWith_answers {s u : State} (h : u.fns = s.fns) (f : Frame) (st handle : Nat) (body : List Byte) :
    Answered s (u.completeWith f (statusRecord f st handle body)) f st := by
  intro hq
  refine ⟨statusRecord f st handle body, rfl, rfl, rfl, rfl, ?_⟩
  have hu := u.completeWith_waits f (statusRecord f st handle body) hq
  unfold State.fn at *
  rwa [h] at hu

theorem State.completeWith_only {s : State} {f : Frame} {r : Record} :
    Only (fun s t => { s with fns := t.fns }) s (s.completeWith f r) := by
  obtain ⟨x, h⟩ := s.completeWith_frame f r
  exact h ▸ rfl

/-- A session whose shadow is its present core, and whose command is done. -/
def Session.settled (x : Session) : Session := { x with owner := none, shadow := x.cur }

/-- The state in which an OPENING session has become a live one. -/
def State.prepared (s : State) (slot : Nat) (f : Frame) : State :=
  let u := if (openText f).isEmpty then s.setWait slot .input else s.setState slot .ready
  (u.putSess slot (u.sess slot).settled).recount slot

theorem State.openPrepared_eq {s : State} {slot : Nat} {f : Frame} (hs : (s.entry slot).state = .opening)
    (hm : (s.entry slot).metaUsa ≠ noPage) (ho : (s.sess slot).owner = some f) :
    s.openPrepared slot =
      (s.prepared slot f).completeWith f (statusRecord f stOk (s.entry slot).handle (recordBody [])) := by
  unfold State.entry at *
  unfold State.openPrepared
  dsimp only
  rw [hs, ho]
  dsimp only
  rw [if_neg (by decide), if_neg hm]
  rfl

theorem State.prepared_only {s : State} {slot : Nat} {f : Frame} :
    Only (fun s t => { s with sessions := t.sessions }) s (s.prepared slot f) :=
  ((Only.ite State.setWait_only State.setState_only).then State.putSess_only).then State.recount_only

theorem State.sess_prepared (s : State) (slot : Nat) (f : Frame) :
    ∃ r c p, (s.prepared slot f).sess slot =
      (if openText f = [] then (s.sess slot).waits .input s.now else (s.sess slot).moved .ready s.now).settled.recounted r c p := by
  unfold State.prepared
  dsimp only
  generalize hu : ite ((openText f).isEmpty = true) (s.setWait slot .input) (s.setState slot .ready) = u
  have hx : u.sess slot = if openText f = [] then (s.sess slot).waits .input s.now else (s.sess slot).moved .ready s.now := by
    subst hu
    by_cases h : openText f = [] <;> simp [h]
  obtain ⟨r, c, p, h⟩ := (u.putSess slot (u.sess slot).settled).sess_recount slot
  exact ⟨r, c, p, by rw [h, State.sess_putSess, hx]⟩

theorem openPrepared_live (s : State) (f : Frame) (slot t : Nat) (hs : (s.entry slot).state = .opening)
    (hm : (s.entry slot).metaUsa ≠ noPage) (ho : (s.sess slot).owner = some f) (hw : (s.sess slot).waiting = []) :
    Completes (.openPrepared slot t) s fun s' =>
      (s'.entry slot).state = (if openText f = [] then .waiting else .ready) ∧
      (s'.entry slot).waitReason = (if openText f = [] then .input else .none) ∧
      (s'.entry slot).handle = (s.entry slot).handle ∧ Answered s s' f stOk := by
  have he := State.openPrepared_eq (s := s.stamp t) hs hm ho
  obtain ⟨r, c, p, hx⟩ := (s.stamp t).sess_prepared slot f
  have hf : ((s.stamp t).prepared slot f).fns = s.fns := State.prepared_only.keeps State.fns
  have ha := State.completeWith_answers hf f stOk ((s.stamp t).entry slot).handle (recordBody [])
  have hx' := (State.completeWith_only (s := (s.stamp t).prepared slot f) (f := f)
    (r := statusRecord f stOk ((s.stamp t).entry slot).handle (recordBody []))).keeps (State.sess · slot)
  rw [← he, hx] at hx'
  rw [← he] at ha
  have hq : (((s.stamp t).openPrepared slot).sess slot).waiting = [] := by
    rw [hx']; split <;> exact hw
  refine ⟨_, congrArg Host.Outcome.next (State.drainSession_quiet hq), ?_, ?_, ?_, ha⟩ <;>
    rw [State.entry, hx'] <;> split <;> rfl

theorem sessionOpen_opens (s : State) (f : Frame) (t n : Nat) (p : Nat × Pool) (m : Model) (q : Profile)
    (hok : openFieldsOk f = true) (hb : s.bound (f.field 32 2) f.function = true)
    (hm : aget s.models (f.field 34 2) = some m) (ha : fld f.param 47 32 = 0) (hl : f.field 56 8 = 0)
    (ht : (s.tenant (f.field 32 2)).models.contains (f.field 34 2) = true)
    (hq : aget s.profiles (fld f.param 31 0) = some q) (hn : s.nextTableSd 12 s.rotation = some n)
    (hp : (s.sd n).slots.take = some p) :
    Completes (.sessionOpen f t) s fun s' =>
      (s'.entry (n + 12 * p.1)).state = .opening ∧ (s'.entry (n + 12 * p.1)).tenant = f.field 32 2 ∧
      (s'.entry (n + 12 * p.1)).model = f.field 34 2 ∧
      (s'.entry (n + 12 * p.1)).handle = mkHandle s.pkg (n + 12 * p.1) (hGen (s.entry (n + 12 * p.1)).handle) ∧
      s'.rotation = (n + 1) % 12 := by
  have hn' : (s.stamp t).nextTableSd 12 (s.stamp t).rotation = some n := (State.nextTableSd_of_sds rfl 12 _).trans hn
  obtain ⟨home, timeout, h⟩ := State.sessionOpen_passes (s := s.stamp t) hok hb hm ha hl ht hq hn' hp
  have ho := (s.stamp t).opened_opening f n p home timeout
  have hu : (s.stamp t).Opening f n (n + 12 * p.1) ((s.stamp t).sessionOpen f) := by
    rcases h with h | ⟨w, text, hw, h⟩ <;> rw [h]
    · exact ho
    · exact ho.prepared hw text
  exact ⟨_, rfl, hu.state, hu.tenant, hu.model, hu.handle, hu.rotation⟩

end Sys2Proof.Machine

namespace Sys2Proof.Machine

/-! ### A reservation that does not fail (R95, R101, R116) -/

theorem freeRange_le (leaves : List (Nat × Leaf)) (n k a : Nat) :
    a ≤ freeRange leaves n k a ∧ freeRange leaves n k a ≤ a + k * n := by
  induction k generalizing a with
  | zero => simp [freeRange]
  | succ k ih =>
    unfold freeRange
    split
    · obtain ⟨h1, h2⟩ := ih (a + n)
      rw [Nat.succ_mul]
      omega
    · rw [Nat.succ_mul]
      omega

/-- A free page of an SD lies in the SD's region, where the package holds fewer than 2 ^ 30 pages (R94, R95). -/
theorem State.ownerSd_freshUsa (s : State) {sd : Nat} (hs : sd < 12) (hl : s.leaves.length < 2 ^ 30) :
    ownerSd (s.freshUsa sd 0).1 = sd := by
  have hf : (s.freshUsa sd 0).1 = freeRange s.leaves 4096 (s.leaves.length + 1)
      (sd * 2 ^ 44 + Config.freeUsa s.draw.1 % 2147483648 * 4096) := rfl
  obtain ⟨h1, h2⟩ := freeRange_le s.leaves 4096 (s.leaves.length + 1) (sd * 2 ^ 44 + Config.freeUsa s.draw.1 % 2147483648 * 4096)
  rw [← hf] at h1 h2
  have hm : Config.freeUsa s.draw.1 % 2147483648 < 2147483648 := Nat.mod_lt _ (by decide)
  unfold ownerSd fld
  omega

theorem State.allocAt_some {s : State} {usa tenant : Nat} {owner : Option Nat} {p : Nat × Pool}
    (h : (s.pool (poolKey (ownerSd usa) 0 (ownerSd usa) 0)).pool.take = some p) :
    ∃ u, s.allocAt usa 0 0 tenant owner = some u := by
  unfold State.allocAt State.takeFrame
  simp only [h]
  exact ⟨_, rfl⟩

theorem State.reserveSession_some {s : State} {slot home tenant : Nat} {p : Nat × Pool}
    (hq : s.quotaFits tenant 0 4096 = true) (ht : 4 ≤ (s.sd home).textFree) (hh : home < 12)
    (hl : s.leaves.length < 2 ^ 30) (hp : (s.pool (poolKey home 0 home 0)).pool.take = some p) :
    ∃ u, s.reserveSession slot home tenant = some u := by
  have ho := s.ownerSd_freshUsa hh hl
  obtain ⟨u, hu⟩ := State.allocAt_some (s := (s.freshUsa home 0).2) (usa := (s.freshUsa home 0).1) (tenant := tenant)
    (owner := some slot) (p := p) (by rw [ho]; exact hp)
  have ha : s.allocPage home 0 0 tenant (some slot) = some ((s.freshUsa home 0).1, u) := by
    unfold State.allocPage
    dsimp only
    rw [hu]
    rfl
  have hq' : s.quotaFits tenant 0 (pageUse 0 0) = true := hq
  have ht' : ¬ (s.sd home).textFree < textBlockPages := Nat.not_lt.mpr ht
  unfold State.reserveSession
  simp only [hq', ht', ha]
  exact ⟨_, rfl⟩

/-! ### FORK (R36, R44, R49) -/

theorem State.sd_slotTaken (s : State) (n m : Nat) (p : Pool) :
    ((s.slotTaken n p).sd m).textFree = (s.sd m).textFree := by
  unfold State.slotTaken
  by_cases h : m = n
  · subst h; rw [State.sd_putSd]
  · rw [State.sd_putSd_other _ _ h]

/-- The child of a fork as it enters its slot. -/
def Session.forks (x : Session) (f : Frame) (s : State) (child : Nat) (now : Nat) : Session :=
  { Session.free child with
    cur := forkCore f x.cur child (hGen (s.entry child).handle) s.pkg s.storeOk, since := now }

theorem Session.forks_entry (x : Session) (f : Frame) (s : State) (child now : Nat) :
    (x.forks f s child now).cur.entry.state = .waiting ∧ (x.forks f s child now).cur.entry.waitReason = .input ∧
      (x.forks f s child now).cur.entry.tenant = x.cur.entry.tenant ∧
      (x.forks f s child now).cur.entry.homeSd = x.cur.entry.homeSd ∧
      (x.forks f s child now).cur.entry.parent = x.cur.entry.handle := ⟨rfl, rfl, rfl, rfl, rfl⟩

/-- The state in which a fork's child has its slot, and no page yet. -/
def State.forked (s : State) (f : Frame) (slot n : Nat) (p : Nat × Pool) : State :=
  let u := s.slotTaken n p.2
  u.putSess (n + 12 * p.1) ((s.sess slot).forks f u (n + 12 * p.1) s.now)

/-- A session whose shadow is its present core. -/
def Session.shadowed (x : Session) : Session := { x with shadow := x.cur }

/-- A fork's child with its page is complete: its map storage is settled and its pages are counted. -/
def State.forkEnds (s : State) (child : Nat) : State :=
  let u := (s.settleMap child).recount child
  u.putSess child (u.sess child).shadowed

/-- A FORK of a session without KV pages whose reservation holds. -/
theorem actSessionFork_pageless {s w : State} {f : Frame} {slot n : Nat} {p : Nat × Pool}
    (hs : (s.entry slot).state = .ready ∨ (s.entry slot).state = .waiting ∨ (s.entry slot).state = .held)
    (hk : (s.sess slot).cur.kvMap = [])
    (hl : s.tenantSlots (s.entry slot).tenant < (s.tenant (s.entry slot).tenant).maxSessions)
    (hp : (s.sd n).slots.take = some p)
    (hw : (s.forked f slot n p).reserveSession (n + 12 * p.1) (s.entry slot).homeSd (s.entry slot).tenant = some w) :
    ∃ h, actSessionFork f (some n) slot s =
      (w.forkEnds (n + 12 * p.1)).completeWith f (statusRecord f stOk h (recordBody [])) := by
  generalize hu : actSessionFork f (some n) slot s = u
  unfold actSessionFork at hu
  extract_lets x e at hu
  have hs' : e.state = .ready ∨ e.state = .waiting ∨ e.state = .held := hs
  have hnl : ¬ (s.tenant e.tenant).maxSessions ≤ s.tenantSlots e.tenant := Nat.not_le.mpr hl
  have hsh : ∀ k, x.cur.sharedPart k = [] := fun k => by
    rw [SessionCore.sharedPart, show x.cur.kvMap = [] from hk]; rfl
  simp -zeta only [hs', hnl, decide_true, Bool.not_true, Bool.false_eq_true, if_false, State.takeSlot_some hp] at hu
  extract_lets core _ s2 at hu
  have h2 : s2.reserveSession (n + 12 * p.1) e.homeSd e.tenant = some w := hw
  simp -zeta only [h2, hsh, State.sharePages] at hu
  extract_lets shared at hu
  have hsome : shared = some w := by
    show (match w.modelOf slot with | none => some w | some m => some w) = some w
    split <;> rfl
  rw [hsome] at hu
  exact ⟨_, hu.symm⟩

/-- The end of a fork leaves what the child has been given, but for its residence and its map storage. -/
theorem State.forkEnds_spec (w : State) (child : Nat) :
    SameNames w (w.forkEnds child) ∧ (w.forkEnds child).fns = w.fns ∧
      (∃ r, (w.forkEnds child).entry child = { w.entry child with residence := r }) ∧
      ∀ j, j ≠ child → (w.forkEnds child).sess j = w.sess j := by
  have ha := w.settleMap_aside child
  have hother : ∀ j, j ≠ child → (w.settleMap child).sess j = w.sess j := fun j hj =>
    (ha.sess j).trans (State.sess_putSess_other _ _ hj)
  have he : (w.settleMap child).entry child = w.entry child := (ha.entry child).trans (State.entry_putSess ..)
  have hn : SameNames w (w.settleMap child) := ha.names
  have hf : (w.settleMap child).fns = w.fns := ha.fns
  obtain ⟨r, c, q, hr⟩ := (w.settleMap child).sess_recount child
  unfold State.forkEnds
  dsimp only
  generalize w.settleMap child = u at hother he hn hf hr ⊢
  refine ⟨hn.trans ((SameNames.of_only State.recount_only).trans (.of_only State.putSess_only)),
    ((State.putSess_only.keeps State.fns).trans (State.recount_only.keeps State.fns)).trans hf, ⟨r, ?_⟩, fun j hj => ?_⟩
  · rw [State.entry_putSess, hr, ← he]; rfl
  · rw [State.sess_putSess_other _ _ hj, State.sess_recount_other _ hj, hother j hj]

/-- What a fork has made of its child, with the parent's session as it was (R49). -/
structure State.Forked (s : State) (f : Frame) (slot child : Nat) (u : State) : Prop where
  names : SameNames s u
  parent : u.sess slot = s.sess slot
  state : (u.entry child).state = .waiting
  waitReason : (u.entry child).waitReason = .input
  tenant : (u.entry child).tenant = (s.entry slot).tenant
  homeSd : (u.entry child).homeSd = (s.entry slot).homeSd
  parentHandle : (u.entry child).parent = (s.entry slot).handle
  fns : u.fns = s.fns

theorem State.forked_forked (s : State) (f : Frame) {slot n : Nat} {p : Nat × Pool} (hne : n + 12 * p.1 ≠ slot) :
    s.Forked f slot (n + 12 * p.1) (s.forked f slot n p) := by
  have he : (s.forked f slot n p).entry (n + 12 * p.1) =
      ((s.sess slot).forks f (s.slotTaken n p.2) (n + 12 * p.1) s.now).cur.entry := State.entry_putSess ..
  obtain ⟨hst, hwr, hten, hhome, hpar⟩ := (s.sess slot).forks_entry f (s.slotTaken n p.2) (n + 12 * p.1) s.now
  rw [← he] at hst hwr hten hhome hpar
  exact ⟨⟨rfl, rfl⟩, State.sess_putSess_other _ _ hne.symm, hst, hwr, hten, hhome, hpar, rfl⟩

/-- The reservation and the end of a fork leave what its child has been given. -/
theorem State.Forked.ends {s u w : State} {f : Frame} {slot child home tenant : Nat} (h : s.Forked f slot child u)
    (hne : child ≠ slot) (hw : u.reserveSession child home tenant = some w) : s.Forked f slot child (w.forkEnds child) := by
  obtain ⟨usa, ha⟩ := State.reserveSession_aside hw
  obtain ⟨hnames, hfns, ⟨res, hchild⟩, hother⟩ := w.forkEnds_spec child
  have hw : w.entry child = { u.entry child with metaUsa := usa } := (ha.entry _).trans (State.entry_putSess ..)
  have hx : (w.forkEnds child).sess slot = u.sess slot :=
    (hother slot hne.symm).trans ((ha.sess slot).trans (State.sess_putSess_other _ _ hne.symm))
  rw [hw] at hchild
  have hu : SameNames u (u.putSess child ((u.sess child).reserves usa)) := ⟨rfl, rfl⟩
  exact ⟨h.names.trans (hu.trans (ha.names.trans hnames)), hx.trans h.parent, by rw [hchild]; exact h.state,
    by rw [hchild]; exact h.waitReason, by rw [hchild]; exact h.tenant, by rw [hchild]; exact h.homeSd,
    by rw [hchild]; exact h.parentHandle, hfns.trans (ha.fns.trans h.fns)⟩

/-- A FORK whose child finds a slot, a page and a text block (R44, R49). -/
theorem actSessionFork_forks {s : State} {f : Frame} {slot n : Nat} {p p' : Nat × Pool}
    (hs : (s.entry slot).state = .ready ∨ (s.entry slot).state = .waiting ∨ (s.entry slot).state = .held)
    (hk : (s.sess slot).cur.kvMap = [])
    (hl : s.tenantSlots (s.entry slot).tenant < (s.tenant (s.entry slot).tenant).maxSessions)
    (hp : (s.sd n).slots.take = some p) (hne : n + 12 * p.1 ≠ slot)
    (hq : s.quotaFits (s.entry slot).tenant 0 4096 = true) (ht : 4 ≤ (s.sd (s.entry slot).homeSd).textFree)
    (hh : (s.entry slot).homeSd < 12) (hlv : s.leaves.length < 2 ^ 30)
    (hp' : (s.pool (poolKey (s.entry slot).homeSd 0 (s.entry slot).homeSd 0)).pool.take = some p') :
    ∃ v h, s.Forked f slot (n + 12 * p.1) v ∧
      actSessionFork f (some n) slot s = v.completeWith f (statusRecord f stOk h (recordBody [])) := by
  have hfree : 4 ≤ ((s.forked f slot n p).sd (s.entry slot).homeSd).textFree :=
    ht.trans (le_of_eq (s.sd_slotTaken n (s.entry slot).homeSd p.2).symm)
  obtain ⟨w, hw⟩ := State.reserveSession_some (s := s.forked f slot n p) (slot := n + 12 * p.1)
    (tenant := (s.entry slot).tenant) hq hfree hh hlv hp'
  obtain ⟨h, hact⟩ := actSessionFork_pageless hs hk hl hp hw
  exact ⟨_, h, (s.forked_forked f hne).ends hne hw, hact⟩

theorem sessionFork_forks (s : State) (f : Frame) (slot t n : Nat) (p p' : Nat × Pool) (hr : Reaches s f slot)
    (ho : f.opcode = 0x0109) (hok : f.forkOk = true)
    (hs : (s.entry slot).state = .ready ∨ (s.entry slot).state = .waiting ∨ (s.entry slot).state = .held)
    (hk : (s.sess slot).cur.kvMap = [])
    (hl : s.tenantSlots (s.entry slot).tenant < (s.tenant (s.entry slot).tenant).maxSessions)
    (hn : s.nextTableSd 12 s.rotation = some n) (hp : (s.sd n).slots.take = some p) (hne : n + 12 * p.1 ≠ slot)
    (hq : s.quotaFits (s.entry slot).tenant 0 4096 = true) (ht : 4 ≤ (s.sd (s.entry slot).homeSd).textFree)
    (hh : (s.entry slot).homeSd < 12) (hlv : s.leaves.length < 2 ^ 30)
    (hp' : (s.pool (poolKey (s.entry slot).homeSd 0 (s.entry slot).homeSd 0)).pool.take = some p') :
    Completes (.sessionFork f t) s fun s' =>
      (s'.entry (n + 12 * p.1)).state = .waiting ∧ (s'.entry (n + 12 * p.1)).waitReason = .input ∧
      (s'.entry (n + 12 * p.1)).tenant = (s.entry slot).tenant ∧
      (s'.entry (n + 12 * p.1)).homeSd = (s.entry slot).homeSd ∧
      (s'.entry (n + 12 * p.1)).parent = (s.entry slot).handle ∧ s'.entry slot = s.entry slot ∧ Answered s s' f stOk := by
  have hc : (s.stamp t).chooseSd = (some n, (s.stamp t).rotated n) :=
    State.chooseSd_some ((State.nextTableSd_of_sds rfl 12 _).trans hn)
  have he : exec (.sessionFork f t) s = .next (((s.stamp t).rotated n).frameFor { f with opcode := 0x0109 } none (some n)) := by
    show (let (m, u) := (s.stamp t).chooseSd; Host.Outcome.next (u.frameFor { f with opcode := 0x0109 } none m)) = _
    rw [hc]
  have htab : (((s.stamp t).rotated n).entry slot).state.tabled = true := by
    rcases hs with hs | hs | hs <;> exact congrArg SState.tabled hs
  obtain ⟨v, h, hv, hact⟩ := actSessionFork_forks (s := (s.stamp t).rotated n) (f := f) hs hk hl hp hne hq ht hh hlv hp'
  have hrow := (State.sessionFrame_fork (s := (s.stamp t).rotated n) hr htab none (some n) ho hok).trans hact
  have hx : ∀ j, (v.completeWith f (statusRecord f stOk h (recordBody []))).sess j = v.sess j := fun j =>
    State.completeWith_only.keeps (State.sess · j)
  have hquiet := State.frameFor_quiet (s := (s.stamp t).rotated n) hr.finds hrow
    (hv.names.trans (.of_only State.completeWith_only)) (by rw [hx, hv.parent]; exact hr.waiting)
  rw [Frame.with_opcode ho, hquiet] at he
  refine ⟨_, he, ?_⟩
  dsimp only
  have hxe : ∀ j, (v.completeWith f (statusRecord f stOk h (recordBody []))).entry j = v.entry j := fun j =>
    congrArg (·.cur.entry) (hx j)
  rw [hxe, hxe]
  exact ⟨hv.state, hv.waitReason, hv.tenant, hv.homeSd, hv.parentHandle, congrArg (·.cur.entry) hv.parent,
    State.completeWith_answers hv.fns f stOk h _⟩

/-- Settles O7: an OPEN writes its entry (`opened_opening`) and its preparation ends as its text says (`sess_prepared`); a
FORK's reservation holds (`reserveSession_some`), so that its child has what `forkCore` gives it. -/
theorem sessionsOpenAndFork : Obligations.SessionsOpenAndFork := by
  unfold Obligations.SessionsOpenAndFork
  refine ⟨fun s f slot t n p m q => ⟨fun _ hok hb hm ha hl ht hq hn hp => ?_, openPrepared_live s f slot t⟩,
    sessionFork_forks⟩
  exact sessionOpen_opens s f t n p m q hok hb hm ha hl ht hq hn hp

end Sys2Proof.Machine

namespace Sys2Proof.Machine

/-! ### The stamp of a command and the walks along peer edges -/

theorem State.walkPeers_stamp (s : State) (t a n b : Nat) : (s.stamp t).walkPeers a n b = s.walkPeers a n b := by
  induction n generalizing b with
  | zero => rfl
  | succ n ih =>
    have hf : (s.stamp t).findHandle ((s.stamp t).entry b).peer = s.findHandle (s.entry b).peer := rfl
    unfold State.walkPeers
    rw [hf]
    simp only [ih]

theorem State.waiters_stamp (s : State) (t i : Nat) : (s.stamp t).waiters i = s.waiters i := by
  have h : ∀ n j, (s.stamp t).waitersFrom n j = s.waitersFrom n j := by
    intro n
    induction n with
    | zero => intro j; rfl
    | succ n ih =>
      intro j
      cases j with
      | none => rfl
      | some j => exact congrArg (j :: ·) (ih _)
  exact h _ _

/-! ### WAIT_PEER (R54 to R56) -/

/-- A session that asks for a peer: its timer is disarmed, its wake text and its new CALL_ID are written. -/
def Session.asks (x : Session) (f : Frame) (callId : Nat) : Session :=
  { x with cur := { x.cur with wakeText := f.payload, entry := { x.cur.entry with peer := f.field 32 8, callId := callId } } }

/-- A session with its timer armed (R51). -/
def Session.armed (x : Session) (k : TimerKind) (d : Nat) : Session :=
  { x.withEntry { x.cur.entry with deadline := d } with timer := some k, staged := none, fired := 0 }

@[simp] theorem State.sess_arm (s : State) (i : Nat) (k : TimerKind) (d : Nat) :
    (s.arm i k d).sess i = (s.sess i).armed k d := State.sess_putSess ..

theorem State.arm_only {s : State} {i : Nat} {k : TimerKind} {d : Nat} :
    Only (fun s t => { s with sessions := t.sessions }) s (s.arm i k d) := rfl

/-- The registrar has joined an edge from a session to its peer. -/
def State.joinPeer (s : State) (f : Frame) (slot b : Nat) : State :=
  let u := s.disarm slot
  ((u.putSess slot ((u.sess slot).asks f (callNext (s.entry slot).callId))).linkWaiters b (s.waiters b ++ [slot])).fixHeights 66 (some b)

/-- The wait for a peer has begun. -/
def State.waitPeer (s : State) (f : Frame) (slot b : Nat) : State :=
  let u := (s.joinPeer f slot b).setWait slot .peer
  if f.param = 0 then u else u.arm slot .deadline (u.now + f.param)

theorem actSessionWaitPeer_joins {s : State} {f : Frame} {slot b edges : Nat} (hs : (s.entry slot).state = .waiting)
    (hw : (s.entry slot).waitReason = .input ∨ (s.entry slot).waitReason = .tool) (hc : (s.entry slot).callId < 0xffffffff)
    (hf : s.findHandle (f.field 32 8) = some b) (hb : s.bound (s.entry b).tenant f.function = true)
    (ha : (s.entry b).state ≠ .away) (hk : s.walkPeers slot 65 b = (edges, false))
    (hh : (s.entry slot).height + 1 + edges ≤ 64) :
    actSessionWaitPeer f slot s = (s.waitPeer f slot b).complete f stOk := by
  generalize hu : actSessionWaitPeer f slot s = u
  unfold actSessionWaitPeer at hu
  extract_lets x e inst waits at hu
  have hwaits : waits := ⟨hs, hw⟩
  have hc' : ¬ e.callId = 0xffffffff := Nat.ne_of_lt hc
  have hh' : ¬ 64 < e.height + 1 + edges := Nat.not_lt.mpr hh
  simp -zeta only [hwaits, hc', hf, hb, ha, hk, hh', not_true, or_false, if_false, Bool.not_true, Bool.false_eq_true] at hu
  exact hu.symm

theorem actSessionWaitPeer_unbound {s : State} {f : Frame} {slot b : Nat} (hs : (s.entry slot).state = .waiting)
    (hw : (s.entry slot).waitReason = .input ∨ (s.entry slot).waitReason = .tool) (hc : (s.entry slot).callId < 0xffffffff)
    (hf : s.findHandle (f.field 32 8) = some b) (hb : s.bound (s.entry b).tenant f.function = false) :
    actSessionWaitPeer f slot s = s.complete f stNoSession := by
  generalize hu : actSessionWaitPeer f slot s = u
  unfold actSessionWaitPeer at hu
  extract_lets x e inst waits at hu
  have hwaits : waits := ⟨hs, hw⟩
  have hc' : ¬ e.callId = 0xffffffff := Nat.ne_of_lt hc
  simp -zeta only [hwaits, hc', hf, hb, not_true, or_false, if_false, Bool.not_false, if_true] at hu
  exact hu.symm

theorem State.joinPeer_only {s : State} {f : Frame} {slot b : Nat} :
    Only (fun s t => { s with sessions := t.sessions }) s (s.joinPeer f slot b) :=
  ((State.disarm_only.then State.putSess_only).then State.linkWaiters_only).then State.fixHeights_only

theorem State.waitPeer_only {s : State} {f : Frame} {slot b : Nat} :
    Only (fun s t => { s with sessions := t.sessions }) s (s.waitPeer f slot b) := by
  have h : Only (fun s t => { s with sessions := t.sessions }) s ((s.joinPeer f slot b).setWait slot .peer) :=
    State.joinPeer_only.then State.setWait_only
  unfold State.waitPeer
  dsimp only
  generalize (s.joinPeer f slot b).setWait slot .peer = u at h ⊢
  exact .ite h (h.then State.arm_only)

theorem State.sess_joinPeer (s : State) (f : Frame) (slot b : Nat) :
    ∃ fw nw h, (s.joinPeer f slot b).sess slot =
      ((s.sess slot).disarmed.asks f (callNext (s.entry slot).callId)).relinked fw nw h := by
  unfold State.joinPeer
  dsimp only
  rw [State.sess_disarm]
  generalize hu : (s.disarm slot).putSess slot _ = u
  have hx : u.sess slot = (s.sess slot).disarmed.asks f (callNext (s.entry slot).callId) := by
    subst hu; exact State.sess_putSess ..
  rw [← hx]
  exact ((u.linkWaiters_links _ _).trans (State.fixHeights_links _ _ _)) slot

theorem Session.asks_entry (x : Session) (f : Frame) (c : Nat) :
    (x.asks f c).cur.entry = { x.cur.entry with peer := f.field 32 8, callId := c } := rfl

theorem Session.relinked_entry (x : Session) (fw nw : Option Nat) (h : Nat) :
    (x.relinked fw nw h).cur.entry = { x.cur.entry with firstWaiter := fw, nextWaiter := nw, height := h } := rfl

theorem Session.unedged_entry (x : Session) (fw nw : Option Nat) (h : Nat) :
    (x.unedged fw nw h).cur.entry = { x.cur.entry with peer := 0, firstWaiter := fw, nextWaiter := nw, height := h } := rfl

theorem Session.asks_waits_entry (x : Session) (f : Frame) (c : Nat) (fw nw : Option Nat) (h now : Nat) :
    (((x.disarmed.asks f c).relinked fw nw h).waits .peer now).cur.entry =
      { x.cur.entry with
        state := .waiting, waitReason := .peer, peer := f.field 32 8, callId := c, deadline := 0, firstWaiter := fw,
        nextWaiter := nw, height := h } := by
  rw [Session.waits_entry, Session.relinked_entry, Session.asks_entry, Session.disarmed_entry]

theorem Session.armed_entry (x : Session) (k : TimerKind) (d : Nat) :
    (x.armed k d).cur.entry = { x.cur.entry with deadline := d } := rfl

theorem Session.armed_waiting (x : Session) (k : TimerKind) (d : Nat) : (x.armed k d).waiting = x.waiting := rfl

theorem Session.waits_waiting (x : Session) (r : WaitReason) (now : Nat) : (x.waits r now).waiting = x.waiting := rfl

theorem Session.relinked_waiting (x : Session) (fw nw : Option Nat) (h : Nat) : (x.relinked fw nw h).waiting = x.waiting := rfl

theorem Session.asks_waits_waiting (x : Session) (f : Frame) (c : Nat) (fw nw : Option Nat) (h now : Nat) :
    (((x.disarmed.asks f c).relinked fw nw h).waits .peer now).waiting = x.waiting := by
  rw [Session.waits_waiting, Session.relinked_waiting]
  rfl

theorem State.waitPeer_spec (s : State) (f : Frame) (slot b : Nat) :
    ((s.waitPeer f slot b).sess slot).waiting = (s.sess slot).waiting ∧
      ∃ fw nw h, (s.waitPeer f slot b).entry slot =
        { s.entry slot with
          state := .waiting, waitReason := .peer, peer := f.field 32 8, callId := callNext (s.entry slot).callId
          deadline := if f.param = 0 then 0 else s.now + f.param, firstWaiter := fw, nextWaiter := nw, height := h } := by
  obtain ⟨fw, nw, h, hx⟩ := s.sess_joinPeer f slot b
  have hn : (s.joinPeer f slot b).now = s.now := State.joinPeer_only.keeps State.now
  unfold State.waitPeer State.entry at *
  dsimp only
  generalize s.joinPeer f slot b = u at hx hn ⊢
  have hy : (u.setWait slot .peer).sess slot =
      (((s.sess slot).disarmed.asks f (callNext (s.sess slot).cur.entry.callId)).relinked fw nw h).waits .peer s.now := by
    rw [State.sess_setWait, hx, hn]
  have hn' : (u.setWait slot .peer).now = s.now := hn
  generalize u.setWait slot .peer = v at hy hn' ⊢
  split
  · rw [hy, Session.asks_waits_waiting, Session.asks_waits_entry]
    exact ⟨rfl, fw, nw, h, rfl⟩
  · rw [State.sess_arm, Session.armed_waiting, Session.armed_entry, hy, Session.asks_waits_waiting, Session.asks_waits_entry, hn']
    exact ⟨rfl, fw, nw, h, rfl⟩

theorem sessionWaitPeer_waits (s : State) (f : Frame) (slot b t edges : Nat) (hr : Reaches s f slot) (ho : f.opcode = 0x010b)
    (hok : f.waitPeerOk = true) (hs : (s.entry slot).state = .waiting)
    (hw : (s.entry slot).waitReason = .input ∨ (s.entry slot).waitReason = .tool) (hc : (s.entry slot).callId < 0xffffffff)
    (hf : s.findHandle (f.field 32 8) = some b) (hb : s.bound (s.entry b).tenant f.function = true)
    (ha : (s.entry b).state ≠ .away) (hk : s.walkPeers slot 65 b = (edges, false))
    (hh : (s.entry slot).height + 1 + edges ≤ 64) :
    Completes (.sessionWaitPeer f t) s fun s' =>
      (s'.entry slot).state = .waiting ∧ (s'.entry slot).waitReason = .peer ∧
      (s'.entry slot).peer = f.field 32 8 ∧ (s'.entry slot).callId = (s.entry slot).callId + 1 ∧
      (s'.entry slot).deadline = (if f.param = 0 then 0 else t + f.param) ∧ Answered s s' f stOk := by
  have htab : ((s.stamp t).entry slot).state.tabled = true := by rw [State.entry_stamp, hs]; rfl
  have hrow := (State.sessionFrame_waitPeer (s := s.stamp t) hr htab none none ho hok).trans
    (actSessionWaitPeer_joins (s := s.stamp t) hs hw hc hf hb ha ((s.walkPeers_stamp t slot 65 b).trans hk) hh)
  obtain ⟨hwait, fw, nw, h, he⟩ := (s.stamp t).waitPeer_spec f slot b
  have hfns : ((s.stamp t).waitPeer f slot b).fns = s.fns := State.waitPeer_only.keeps State.fns
  have hcall : callNext (s.entry slot).callId = (s.entry slot).callId + 1 := Nat.min_eq_left hc
  refine .of_answer hr rfl ho hrow (.of_only State.waitPeer_only) (hwait.trans hr.waiting) hfns fun u hx _ hans => ?_
  have hu : u.entry slot = ((s.stamp t).waitPeer f slot b).entry slot := congrArg (·.cur.entry) hx
  rw [hu, he]
  exact ⟨rfl, rfl, rfl, hcall, rfl, hans⟩

theorem sessionWaitPeer_unbound (s : State) (f : Frame) (slot b t : Nat) (hr : Reaches s f slot) (ho : f.opcode = 0x010b)
    (hok : f.waitPeerOk = true) (hs : (s.entry slot).state = .waiting)
    (hw : (s.entry slot).waitReason = .input ∨ (s.entry slot).waitReason = .tool) (hc : (s.entry slot).callId < 0xffffffff)
    (hf : s.findHandle (f.field 32 8) = some b) (hb : s.bound (s.entry b).tenant f.function = false) :
    Completes (.sessionWaitPeer f t) s fun s' => s'.entry slot = s.entry slot ∧ Answered s s' f stNoSession := by
  have htab : ((s.stamp t).entry slot).state.tabled = true := by rw [State.entry_stamp, hs]; rfl
  have hrow := (State.sessionFrame_waitPeer (s := s.stamp t) hr htab none none ho hok).trans
    (actSessionWaitPeer_unbound (s := s.stamp t) hs hw hc hf hb)
  refine .of_answer hr rfl ho hrow ⟨rfl, rfl⟩ hr.waiting rfl fun u hx _ hans => ?_
  exact ⟨congrArg (·.cur.entry) hx, hans⟩

/-! ### The peer completes (R57) -/

/-- A waiting session that wakes. -/
def Session.woken (x : Session) (fw nw : Option Nat) (h now : Nat) : Session :=
  (((x.unedged fw nw h).disarmed).queued x.cur.wakeText).moved .ready now

theorem Session.queued_entry (x : Session) (bs : List Byte) : (x.queued bs).cur.entry = x.cur.entry := rfl

theorem Session.woken_entry (x : Session) (fw nw : Option Nat) (h now : Nat) :
    (x.woken fw nw h now).cur.entry =
      { x.cur.entry with
        state := .ready, waitReason := .none, peer := 0, deadline := 0, firstWaiter := fw, nextWaiter := nw, height := h } := by
  rw [Session.woken, Session.moved_entry, Session.queued_entry, Session.disarmed_entry, Session.unedged_entry]

theorem State.sess_wakeWaiter {s : State} {w : Nat} (hs : (s.entry w).state = .waiting) :
    ∃ fw nw h, (s.wakeWaiter w).sess w = (s.sess w).woken fw nw h s.now := by
  obtain ⟨fw, nw, h, hx⟩ := s.sess_removeEdge w
  have hy : (((s.removeEdge w).disarm w).queueText w (s.sess w).cur.wakeText).sess w =
      ((s.sess w).unedged fw nw h).disarmed.queued (s.sess w).cur.wakeText := by
    rw [State.sess_queueText, State.sess_disarm, hx]
  have hk : Only (fun s t => { s with sessions := t.sessions }) s
      (((s.removeEdge w).disarm w).queueText w (s.sess w).cur.wakeText) :=
    (State.removeEdge_only.then State.disarm_only).then State.queueText_only
  have hn := hk.keeps State.now
  refine ⟨fw, nw, h, ?_⟩
  unfold State.wakeWaiter
  dsimp only
  generalize ((s.removeEdge w).disarm w).queueText w (s.sess w).cur.wakeText = u at hy hn ⊢
  rw [if_neg (by rw [hs]; decide), State.sess_setState, hy, hn]
  rfl

theorem State.peerDone_wakeWaiter (s : State) {w i : Nat} (hi : i ≠ w) :
    ((s.wakeWaiter w).sess i).peerDone = (s.sess i).peerDone := by
  obtain ⟨fw, nw, h, hx⟩ := s.sess_removeEdge_other hi
  have hy : ((((s.removeEdge w).disarm w).queueText w (s.sess w).cur.wakeText).sess i).peerDone = (s.sess i).peerDone := by
    rw [State.sess_queueText_other _ _ hi, State.disarm, State.sess_putSess_other _ _ hi, hx]
    rfl
  unfold State.wakeWaiter
  dsimp only
  generalize ((s.removeEdge w).disarm w).queueText w (s.sess w).cur.wakeText = u at hy ⊢
  split
  · rw [State.putEntry, State.sess_putSess_other _ _ hi, hy]
  · rw [State.setState, State.sess_putSess_other _ _ hi, hy]

theorem State.peerComplete_one {s : State} {slot w : Nat} {rejects : List Nat} (hd : (s.sess slot).peerDone = true)
    (hw : s.waiters slot = [w]) (hr : rejects.contains w = false) :
    s.peerComplete slot rejects = (s.putSess slot { s.sess slot with peerDone := false }).wakeWaiter w := by
  have hl : [w].filter (fun w => !rejects.contains w) = [w] := List.filter_cons_of_pos (by rw [hr]; rfl)
  unfold State.peerComplete
  rw [hd, hw]
  dsimp only
  rw [hl]
  rfl

theorem peerComplete_wakes (s : State) (slot w t : Nat) (rejects : List Nat) (hd : (s.sess slot).peerDone = true)
    (hw : s.waiters slot = [w]) (hne : w ≠ slot) (hr : rejects.contains w = false) (hs : (s.entry w).state = .waiting) :
    Completes (.peerComplete slot rejects t) s fun s' =>
      (s'.entry w).state = .ready ∧ (s'.entry w).peer = 0 ∧ (s'.sess slot).peerDone = false := by
  have he := State.peerComplete_one (s := s.stamp t) hd ((s.waiters_stamp t slot).trans hw) hr
  have hx : ((s.stamp t).putSess slot { (s.stamp t).sess slot with peerDone := false }).sess w = s.sess w :=
    State.sess_putSess_other _ _ hne
  have hp : (((s.stamp t).putSess slot { (s.stamp t).sess slot with peerDone := false }).sess slot).peerDone = false :=
    congrArg Session.peerDone (State.sess_putSess ..)
  generalize (s.stamp t).putSess slot { (s.stamp t).sess slot with peerDone := false } = u at he hx hp
  obtain ⟨fw, nw, h, hwk⟩ := State.sess_wakeWaiter (s := u) (w := w) (by rw [State.entry, hx]; exact hs)
  refine ⟨_, congrArg Host.Outcome.next he, ?_, ?_, ?_⟩
  · rw [State.entry, hwk, Session.woken_entry]
  · rw [State.entry, hwk, Session.woken_entry]
  · rw [State.peerDone_wakeWaiter u hne.symm, hp]

/-- Settles O8: the registrar's checks pass and the edge is joined (`waitPeer_spec`), or the peer is unknown; the one
waiter that no filter rejects wakes (`sess_wakeWaiter`). -/
theorem peersWaitAndWake : Obligations.PeersWaitAndWake := by
  unfold Obligations.PeersWaitAndWake
  exact fun s f slot b w t edges rejects => ⟨sessionWaitPeer_waits s f slot b t edges, sessionWaitPeer_unbound s f slot b t,
    peerComplete_wakes s slot w t rejects⟩

end Sys2Proof.Machine

namespace Sys2Proof.Machine

/-! ### Timers (R51, R53) -/

theorem State.sess_timerFire {s : State} {slot : Nat} (ht : (s.sess slot).timer = some .deadline)
    (hs : (s.sess slot).staged = none) (hd : (s.entry slot).deadline + s.regFld 0x02 0 0x00 25 16 * 1000 ≤ s.now) :
    (s.timerFire slot).sess slot = { s.sess slot with staged := some (s.entry slot).deadline, fired := s.now } := by
  generalize hu : s.timerFire slot = u
  unfold State.timerFire at hu
  extract_lets x e guard at hu
  have hd' : ¬ s.now < e.deadline + guard := Nat.not_lt.mpr hd
  have hc : ¬ (x.timer != some .deadline || x.staged.isSome || decide (s.now < e.deadline + guard)) = true := by
    rw [show x.timer = _ from ht, show x.staged = _ from hs, decide_eq_false hd']
    decide
  rw [if_neg hc] at hu
  subst hu
  exact (State.flagIf_only.keeps (State.sess · slot)).trans
    ((State.markReg_only.keeps (State.sess · slot)).trans (State.sess_putSess ..))

theorem timerFire_stages (s : State) (slot t : Nat) (ht : (s.sess slot).timer = some .deadline)
    (hs : (s.sess slot).staged = none) (hd : (s.entry slot).deadline + s.regFld 0x02 0 0x00 25 16 * 1000 ≤ t) :
    Completes (.timerFire slot t) s fun s' =>
      (s'.sess slot).staged = some (s.entry slot).deadline ∧ s'.entry slot = s.entry slot := by
  have hx := State.sess_timerFire (s := s.stamp t) ht hs hd
  exact ⟨_, rfl, congrArg Session.staged hx, congrArg (·.cur.entry) hx⟩

theorem notBeforeReached_readies (s : State) (slot t : Nat) (hs : (s.entry slot).state = .waiting)
    (hw : (s.entry slot).waitReason = .timer) (hd : (s.entry slot).deadline ≤ t) :
    Completes (.notBeforeReached slot t) s fun s' =>
      (s'.entry slot).state = .ready ∧ (s'.sess slot).timer = none ∧ (s'.sess slot).readyStamp = t := by
  have he : (s.stamp t).notBefore slot = ((s.stamp t).disarm slot).setState slot .ready := if_pos ⟨hs, hw, hd⟩
  have hx : ((s.stamp t).notBefore slot).sess slot = (s.sess slot).disarmed.moved .ready t := by
    rw [he, State.sess_setState, State.sess_disarm]; rfl
  exact ⟨_, rfl, by rw [State.entry, hx]; rfl, by rw [hx]; rfl, by rw [hx]; rfl⟩

/-! ### A record enters the outbox (R63) -/

/-- A session in whose outbox, or before it, a record has entered. -/
def Session.recorded (x : Session) (o : List OutEntry) (n : Nat) (u : List Record) : Session :=
  { x with outbox := o, reserved := n, unpooled := u }

theorem State.sess_sessionEvent (s : State) (slot code : Nat) (fields : List (Nat × Nat × Nat)) :
    ∃ o n u, (s.sessionEvent slot code fields).sess slot = (s.sess slot).recorded o n u := by
  unfold State.sessionEvent State.sessionRecord State.putRecord
  dsimp only
  split
  · exact ⟨_, _, _, State.sess_putSess ..⟩
  · split
    · exact ⟨_, _, _, State.sess_putSess ..⟩
    next i p _ =>
      refine ⟨_, _, _, (State.checkOutboxLow_only.keeps (State.sess · slot)).trans (State.sess_putSess ..)⟩

/-- A FENCED session (R44). -/
def Session.fences (x : Session) (r : FenceReason) (now : Nat) : Session :=
  { x.withEntry { x.cur.entry with
      state := .fenced, waitReason := .none, fenceReason := r, holder := .none, leaseEnd := 0 } with
    since := now, peerDone := true }

theorem State.sess_fence (s : State) (slot : Nat) (r : FenceReason) :
    ∃ fw nw h now, (s.fence slot r).sess slot = ((s.sess slot).disarmed.unedged fw nw h).fences r now := by
  obtain ⟨fw, nw, h, hx⟩ := (s.disarm slot).sess_removeEdge slot
  rw [State.sess_disarm] at hx
  unfold State.fence
  dsimp only
  rw [State.sess_putSess, hx]
  exact ⟨fw, nw, h, _, rfl⟩

/-! ### The timeout of a wait (R51) -/

theorem Session.fences_entry (x : Session) (r : FenceReason) (now : Nat) :
    (x.fences r now).cur.entry =
      { x.cur.entry with state := .fenced, waitReason := .none, fenceReason := r, holder := .none, leaseEnd := 0 } := rfl

/-- The session whose timeout has taken effect, before its state changes. -/
structure Session.TimedOut (x : Session) (e : Entry) : Prop where
  fenceReason : x.cur.entry.fenceReason = e.fenceReason
  callId : x.cur.entry.callId = callNext e.callId
  staged : x.staged = none

theorem Session.TimedOut.recorded {x : Session} {e : Entry} (h : x.TimedOut e) (o : List OutEntry) (n : Nat) (u : List Record) :
    (x.recorded o n u).TimedOut e := ⟨h.fenceReason, h.callId, h.staged⟩

/-- The timeout's call number is written. -/
def Session.callsNext (x : Session) (c : Nat) : Session := x.withEntry { x.cur.entry with callId := c, timedOut := false }

theorem Session.timedOut_of (x : Session) (fw nw : Option Nat) (h : Nat) :
    (((x.unedged fw nw h).disarmed).callsNext (callNext x.cur.entry.callId)).TimedOut x.cur.entry := ⟨rfl, rfl, rfl⟩

/-- A session after its timeout: FENCED, or READY with the timeout text queued. -/
theorem State.timeoutAction_spec (s : State) (slot : Nat) :
    ((s.timeoutAction slot).entry slot).state = (if (s.entry slot).timeoutFence then .fenced else .ready) ∧
      ((s.timeoutAction slot).entry slot).fenceReason =
        (if (s.entry slot).timeoutFence then .timeout else (s.entry slot).fenceReason) ∧
      ((s.timeoutAction slot).entry slot).callId = callNext (s.entry slot).callId ∧
      ((s.timeoutAction slot).sess slot).staged = none := by
  obtain ⟨fw, nw, h, hx⟩ := s.sess_removeEdge slot
  have hy : (((s.removeEdge slot).disarm slot).sess slot) = ((s.sess slot).unedged fw nw h).disarmed := by
    rw [State.sess_disarm, hx]
  unfold State.timeoutAction
  dsimp only
  generalize (s.removeEdge slot).disarm slot = u at hy ⊢
  generalize hv : u.putEntry slot { u.entry slot with callId := callNext (s.entry slot).callId, timedOut := false } = v
  have hvx : (v.sess slot).TimedOut (s.entry slot) := by
    subst hv
    rw [State.sess_putEntry, State.entry, hy]
    exact Session.timedOut_of _ _ _ _
  generalize ([(36, 4, callNext (s.entry slot).callId), (40, 8, (s.entry slot).deadline)]) = fields
  obtain ⟨o, n, r, hw⟩ := v.sess_sessionEvent slot 0x01 fields
  have hwx : ((v.sessionEvent slot 0x01 fields).sess slot).TimedOut (s.entry slot) := by
    rw [hw]; exact hvx.recorded o n r
  generalize v.sessionEvent slot 0x01 fields = w at hwx ⊢
  split
  · obtain ⟨fw, nw, h, now, hf⟩ := w.sess_fence slot .timeout
    rw [State.entry, hf]
    exact ⟨rfl, rfl, hwx.callId, rfl⟩
  · rw [State.entry, State.sess_setState, State.sess_queueText]
    exact ⟨rfl, hwx.fenceReason, hwx.callId, hwx.staged⟩

theorem State.timeoutCommit_acts {s : State} {slot d : Nat} (hs : (s.entry slot).state = .waiting)
    (hd : (s.sess slot).staged = some d) (hw : (s.sess slot).waiting = []) (hh : (s.entry slot).holder = .none)
    (hr : (s.entry slot).waitReason = .tool ∨ (s.entry slot).waitReason = .peer) :
    s.timeoutCommit slot = s.timeoutAction slot := by
  generalize hu : s.timeoutCommit slot = u
  unfold State.timeoutCommit at hu
  extract_lets x e at hu
  have hs' : e.state = .waiting := hs
  have hd' : x.staged = some d := hd
  have hw' : x.waiting = [] := hw
  have hh' : e.holder = .none := hh
  rw [hd'] at hu
  rcases hr with hr | hr <;>
    simpa [hs', hw', hh', show e.waitReason = _ from hr] using hu.symm

theorem timeoutCommit_ends (s : State) (slot t d : Nat) (hs : (s.entry slot).state = .waiting)
    (hd : (s.sess slot).staged = some d) (hw : (s.sess slot).waiting = []) (hh : (s.entry slot).holder = .none)
    (hr : (s.entry slot).waitReason = .tool ∨ (s.entry slot).waitReason = .peer) :
    Completes (.timeoutCommit slot t) s fun s' =>
      (s'.entry slot).state = (if (s.entry slot).timeoutFence then .fenced else .ready) ∧
      (s'.entry slot).fenceReason = (if (s.entry slot).timeoutFence then .timeout else (s.entry slot).fenceReason) ∧
      (s'.entry slot).callId = min ((s.entry slot).callId + 1) 0xffffffff ∧ (s'.sess slot).staged = none := by
  have he := State.timeoutCommit_acts (s := s.stamp t) hs hd hw hh hr
  exact ⟨_, congrArg Host.Outcome.next he, (s.stamp t).timeoutAction_spec slot⟩

/-! ### A lease that has run out (R38, R60, R61) -/

/-- A session that stands at its last seal `e`, under no lock, with no command waiting. -/
structure Session.Sealed (x : Session) (e : Entry) : Prop where
  committed : x.cur.entry.committed = e.committed
  adapterVersion : x.cur.entry.adapterVersion = e.adapterVersion
  seed : x.cur.entry.seed = e.seed
  owner : x.owner = none
  waiting : x.waiting = []

namespace Session.Sealed
variable {x : Session} {e : Entry} (h : x.Sealed e)
include h

/-- What leaves these fields leaves the session at its seal. -/
theorem of_same {y : Session} (he : y.cur.entry.committed = x.cur.entry.committed)
    (ha : y.cur.entry.adapterVersion = x.cur.entry.adapterVersion) (hs : y.cur.entry.seed = x.cur.entry.seed)
    (ho : y.owner = x.owner) (hw : y.waiting = x.waiting) : y.Sealed e :=
  ⟨he.trans h.committed, ha.trans h.adapterVersion, hs.trans h.seed, ho.trans h.owner, hw.trans h.waiting⟩

theorem recounted (r : Residence) (c : Tri) (p : Bool) : (x.recounted r c p).Sealed e := h.of_same rfl rfl rfl rfl rfl

theorem moved (st : SState) (now : Nat) : (x.moved st now).Sealed e := h.of_same rfl rfl rfl rfl rfl

theorem disarmed : x.disarmed.Sealed e := h.of_same rfl rfl rfl rfl rfl

theorem unedged (fw nw : Option Nat) (n : Nat) : (x.unedged fw nw n).Sealed e := h.of_same rfl rfl rfl rfl rfl

theorem fences (r : FenceReason) (now : Nat) : (x.fences r now).Sealed e := h.of_same rfl rfl rfl rfl rfl

theorem recorded (o : List OutEntry) (n : Nat) (u : List Record) : (x.recorded o n u).Sealed e := h.of_same rfl rfl rfl rfl rfl

end Session.Sealed

theorem State.trimTail_aside (s : State) (slot len : Nat) :
    ∃ m, Aside (s.putSess slot { s.sess slot with cur := { (s.sess slot).cur with kvMap := m } }) (s.trimTail slot len) ∨
      s.trimTail slot len = s := by
  unfold State.trimTail
  split
  · exact ⟨[], .inr rfl⟩
  · exact ⟨_, .inl (.foldl (fun _ (q : Nat × Nat) => .dropRef q.2 _) _ _)⟩

theorem State.sealed_trimTail {s : State} {slot : Nat} {e : Entry} (len : Nat) (h : (s.sess slot).Sealed e) :
    ((s.trimTail slot len).sess slot).Sealed e := by
  obtain ⟨m, ha | he⟩ := s.trimTail_aside slot len
  · rw [ha.sess, State.sess_putSess]
    exact h.of_same rfl rfl rfl rfl rfl
  · rwa [he]

theorem State.sealed_settleMap {s : State} {slot : Nat} {e : Entry} (h : (s.sess slot).Sealed e) :
    ((s.settleMap slot).sess slot).Sealed e := by
  rw [(s.settleMap_aside slot).sess, State.sess_putSess]
  exact h.of_same rfl rfl rfl rfl rfl

theorem State.sealed_recount {s : State} {slot : Nat} {e : Entry} (h : (s.sess slot).Sealed e) :
    ((s.recount slot).sess slot).Sealed e := by
  obtain ⟨r, c, p, hx⟩ := s.sess_recount slot
  rw [hx]
  exact h.recounted r c p

theorem State.sealed_wakeOutboxes {s : State} {slot : Nat} {e : Entry} (sd : Nat) (h : (s.sess slot).Sealed e) :
    ((s.wakeOutboxes sd).sess slot).Sealed e := by
  rcases s.sess_wakeOutboxes sd slot with hx | hx <;> rw [hx]
  · exact h
  · exact h.moved _ _

/-- A rolled-back session stands at its last seal (R38). -/
theorem State.sealed_rollback {s : State} {slot : Nat} (ho : (s.sess slot).owner = none) (hw : (s.sess slot).waiting = []) :
    ((s.rollback slot).sess slot).Sealed (s.sess slot).shadow.entry := by
  unfold State.rollback
  dsimp only
  generalize hu : State.putSess (s.putSd (tableSd slot) _) slot _ = u
  have hx : (u.sess slot).Sealed (s.sess slot).shadow.entry := by
    subst hu
    rw [State.sess_putSess]
    exact ⟨rfl, rfl, rfl, ho, hw⟩
  generalize List.filter _ (s.sess slot).cur.pages = gained
  have ha : Aside u (gained.foldl (fun s p => s.dropRef p (some slot)) u) := .foldl (fun _ _ => .dropRef _ _) _ _
  rw [← ha.sess] at hx
  exact State.sealed_wakeOutboxes _ (State.sealed_recount (State.sealed_settleMap (State.sealed_trimTail _ hx)))

theorem State.sealed_fence {s : State} {slot : Nat} {e : Entry} (r : FenceReason) (h : (s.sess slot).Sealed e) :
    ((s.fence slot r).sess slot).Sealed e ∧ ((s.fence slot r).sess slot).cur.entry.state = .fenced ∧
      ((s.fence slot r).sess slot).cur.entry.fenceReason = r ∧ ((s.fence slot r).sess slot).cur.entry.holder = .none := by
  obtain ⟨fw, nw, n, now, hx⟩ := s.sess_fence slot r
  have h' := (h.disarmed).unedged fw nw n
  generalize (s.sess slot).disarmed.unedged fw nw n = y at hx h'
  rw [hx, Session.fences_entry]
  exact ⟨h'.fences r now, rfl, rfl, rfl⟩

/-- What the end of the owner's command leaves of the session whose lock breaks. -/
structure Session.Kept (x y : Session) : Prop where
  shadow : y.shadow = x.shadow
  waiting : y.waiting = x.waiting

theorem Session.Kept.refl (x : Session) : x.Kept x := ⟨rfl, rfl⟩

theorem Session.kept_inputs (x : Session) (e : Entry) (is : List TextInput) : x.Kept { x.withEntry e with inputs := is } :=
  ⟨rfl, rfl⟩

/-- A session whose lock has broken (R61). -/
structure Session.Broken (x : Session) (e : Entry) : Prop extends x.Sealed e where
  state : x.cur.entry.state = .fenced
  fenceReason : x.cur.entry.fenceReason = .lockBroken
  lockReport : x.cur.entry.lockReport = true
  holder : x.cur.entry.holder = .none

/-- A FENCED session takes LOCK_REPORT. -/
theorem Session.Sealed.broken {x : Session} {e : Entry} (h : x.Sealed e) (hs : x.cur.entry.state = .fenced)
    (hr : x.cur.entry.fenceReason = .lockBroken) (hh : x.cur.entry.holder = .none) :
    (x.withEntry { x.cur.entry with lockReport := true }).Broken e :=
  ⟨h.of_same rfl rfl rfl rfl rfl, hs, hr, rfl, hh⟩

theorem Session.Broken.recorded {x : Session} {e : Entry} (h : x.Broken e) (o : List OutEntry) (n : Nat) (u : List Record) :
    (x.recorded o n u).Broken e :=
  ⟨h.toSealed.recorded o n u, h.state, h.fenceReason, h.lockReport, h.holder⟩

/-- A broken lock leaves the session at its last seal, FENCED/LOCK_BROKEN, with LOCK_REPORT (R61). -/
theorem State.broken_breakLock {s : State} {slot : Nat} (status : Nat) (hw : (s.sess slot).waiting = []) :
    ((s.breakLock slot status).sess slot).Broken (s.sess slot).shadow.entry := by
  generalize hu : s.breakLock slot status = u
  unfold State.breakLock at hu
  extract_lets x s1 y s3 s4 e s5 at hu
  have h1 : Session.Kept (s.sess slot) (s1.sess slot) := by
    unfold s1
    split
    next f _ =>
      have hc : (s.complete f status).sess slot = s.sess slot := State.sess_complete ..
      extract_lets v y mine w z
      have hk : w.sess slot = s.sess slot := by
        have ho : Only (fun s t => { s with fns := t.fns }) v w := .foldl (fun _ _ => .ite .refl State.complete_only) _
        exact (ho.keeps (State.sess · slot)).trans hc
      split
      · rw [State.sess_putSess]
        rw [← hk]
        exact Session.kept_inputs _ _ _
      · rw [hc]
        exact .refl _
    · exact .refl _
  have h3 : s3.sess slot = { s1.sess slot with owner := none } := State.sess_putSess ..
  have e4 : s4 = (s3.rollback slot).fence slot .lockBroken := rfl
  have e5 : s5 = s4.putEntry slot { s4.entry slot with lockReport := true } := rfl
  clear_value s5 s4 s3 s1
  have hr := State.sealed_rollback (s := s3) (slot := slot) (by rw [h3]) (by rw [h3]; exact h1.waiting.trans hw)
  rw [h3, h1.shadow] at hr
  obtain ⟨h4, hst, hfr, hh⟩ := State.sealed_fence .lockBroken hr
  rw [← e4] at h4 hst hfr hh
  have h5 := h4.broken hst hfr hh
  rw [← State.sess_putEntry, ← State.entry, ← e5] at h5
  obtain ⟨o, k, r, hev⟩ := s5.sess_sessionEvent slot 0x02 [(40, 8, s5.now)]
  subst hu
  rw [show (State.setFlag _ fLockBroken (tableSd slot)).sess slot = _ from
    (State.setFlag_only.keeps (State.sess · slot)).trans hev]
  exact h5.recorded o k r

theorem leaseLapse_breaks (s : State) (slot t fn q : Nat) (hh : (s.entry slot).holder = .host fn q)
    (hl : (s.entry slot).leaseEnd ≤ t) (hw : (s.sess slot).waiting = []) (hm : aget s.migrations slot = none) :
    Completes (.leaseLapse slot t) s fun s' =>
      (s'.entry slot).state = .fenced ∧ (s'.entry slot).fenceReason = .lockBroken ∧ (s'.entry slot).lockReport = true ∧
      (s'.entry slot).holder = .none ∧ (s'.entry slot).committed = (s.sess slot).shadow.entry.committed ∧
      (s'.entry slot).adapterVersion = (s.sess slot).shadow.entry.adapterVersion ∧
      (s'.entry slot).seed = (s.sess slot).shadow.entry.seed ∧ (s'.sess slot).owner = none := by
  have hb := State.broken_breakLock (s := s.stamp t) (slot := slot) stLockBroken hw
  have he : (s.stamp t).leaseLapse slot = (s.stamp t).breakLock slot stLockBroken := by
    have hh' : ((s.stamp t).entry slot).holder = .host fn q := hh
    have hl' : ((s.stamp t).entry slot).leaseEnd ≤ (s.stamp t).now := hl
    unfold State.leaseLapse
    dsimp only
    rw [hh']
    dsimp only
    rw [if_pos hl', State.endPush_none (by exact hm), State.drainSession_quiet hb.waiting]
  rw [State.sess_stamp] at hb
  generalize (s.stamp t).breakLock slot stLockBroken = u at hb he
  exact ⟨u, congrArg Host.Outcome.next he, hb.state, hb.fenceReason, hb.lockReport, hb.holder, hb.committed,
    hb.adapterVersion, hb.seed, hb.owner⟩

/-- Settles O9: a timer stages its deadline, a staged timeout acts (`timeoutAction_spec`), NOT_BEFORE makes the session
READY; a lapsed lease breaks the lock (`broken_breakLock`). -/
theorem timersAndLeasesEndWaits : Obligations.TimersAndLeasesEndWaits := by
  unfold Obligations.TimersAndLeasesEndWaits
  exact ⟨fun s slot t d hs => ⟨timerFire_stages s slot t, timeoutCommit_ends s slot t d hs,
    notBeforeReached_readies s slot t hs⟩, leaseLapse_breaks⟩

end Sys2Proof.Machine

namespace Sys2Proof.Machine

/-! ### Text that has waited (R50) -/

theorem Session.taking_waiting (x : Session) (f : Frame) (lease now : Nat) : (x.taking f lease now).waiting = x.waiting := rfl

theorem State.findHandle_of_entries {s u : State} (hn : SameNames s u) (he : ∀ i, u.entry i = s.entry i) (h : Nat) :
    u.findHandle h = s.findHandle h := by
  obtain ⟨hp, hg⟩ := hn
  unfold State.findHandle
  rw [hp, hg]
  simp only [he]

/-- A frame still reaches its session when only what the session holds back has changed. -/
theorem Reaches.putTimed {s : State} {f : Frame} {slot : Nat} (h : Reaches s f slot) (ws : List Waiting) :
    Reaches (s.putSess slot { s.sess slot with timed := ws }) f slot := by
  obtain ⟨hf, hrest⟩ := h
  have he : ∀ i, (s.putSess slot { s.sess slot with timed := ws }).entry i = s.entry i := by
    intro i
    by_cases hi : i = slot
    · subst hi; exact State.entry_putSess ..
    · exact congrArg (·.cur.entry) (State.sess_putSess_other _ _ hi)
  have hx : (s.putSess slot { s.sess slot with timed := ws }).sess slot = { s.sess slot with timed := ws } :=
    State.sess_putSess ..
  have hn : SameNames s (s.putSess slot { s.sess slot with timed := ws }) := ⟨rfl, rfl⟩
  refine ⟨(State.findHandle_of_entries hn he _).trans hf, ?_⟩
  rw [he, hx]
  exact hrest

/-- A TIMED APPEND whose NOT_BEFORE has come, on a READY session (R44, R50). -/
theorem actSessionAppend_ready {s : State} {f : Frame} {slot : Nat} (ho : (s.entry slot).inputOpen = false)
    (ht : f.param ≤ s.now) (hs : (s.entry slot).state = .ready) : actSessionAppend f slot s = s.takeText slot f := by
  have hc := continuationOk_closed (x := s.sess slot) ho f
  have hn : ¬ s.now < f.param := Nat.not_lt.mpr ht
  simp [actSessionAppend, hc, hn, actAppend, hs]

theorem State.timedRelease_one {s : State} {slot : Nat} {w : Waiting} (hw : (s.sess slot).timed = [w])
    (ht : w.frame.param ≤ s.now) :
    s.timedRelease slot = (s.putSess slot { s.sess slot with timed := [] }).frameAt w.frame none := by
  have hl : [w].filter (· != w) = [] := by simp
  unfold State.timedRelease
  dsimp only
  rw [hw, List.find?_cons_of_pos (by simpa using ht)]
  dsimp only
  rw [hl]

theorem timedAppendRelease_takes (s : State) (slot t : Nat) (w : Waiting) (hw : (s.sess slot).timed = [w])
    (ht : w.frame.param ≤ t) (ho : w.frame.opcode = 0x0102) (htd : w.frame.timed = true) (hz : w.frame.zeros 32 63 = true)
    (hp : w.frame.payload ≠ []) (hr : Reaches s w.frame slot) (hi : (s.entry slot).inputOpen = false)
    (hs : (s.entry slot).state = .ready) :
    Completes (.timedAppendRelease slot t) s fun s' =>
      (s'.sess slot).timed = [] ∧ (s'.entry slot).holder = .host w.frame.function w.frame.queue ∧
      ∃ i, (s'.sess slot).inputs = (s.sess slot).inputs ++ [i] ∧ i.unread = w.frame.payload := by
  have hok : w.frame.plainOk = true := by
    rw [Frame.plainOk, hz, Frame.paramOk, htd]; rfl
  have he := State.timedRelease_one (s := s.stamp t) hw ht
  have hru := Reaches.putTimed (s := s.stamp t) hr []
  have hx : ((s.stamp t).putSess slot { (s.stamp t).sess slot with timed := [] }).sess slot =
      { s.sess slot with timed := [] } := State.sess_putSess ..
  have hn : ((s.stamp t).putSess slot { (s.stamp t).sess slot with timed := [] }).now = t := rfl
  generalize (s.stamp t).putSess slot { (s.stamp t).sess slot with timed := [] } = u at he hru hx hn
  have hiu : (u.entry slot).inputOpen = false := by rw [State.entry, hx]; exact hi
  have hsu : (u.entry slot).state = .ready := by rw [State.entry, hx]; exact hs
  have hrow := (State.sessionFrame_append (s := u) hru (by rw [hsu]; rfl) none none ho hok).trans
    ((actSessionAppend_ready hiu (by rw [hn]; exact ht) hsu).trans (State.takeText_eq hp hiu))
  have hv : (u.putSess slot ((u.sess slot).taking w.frame u.leaseFrom u.now)).sess slot =
      (u.sess slot).taking w.frame u.leaseFrom u.now := State.sess_putSess ..
  have hq := State.frameFor_quiet hru.finds hrow ⟨rfl, rfl⟩ (by rw [hv, Session.taking_waiting]; exact hru.waiting)
  refine ⟨_, congrArg Host.Outcome.next (he.trans hq), ?_, ?_, w.frame.input, ?_, rfl⟩
  · rw [hv, hx]; rfl
  · rw [State.entry, hv]; rfl
  · rw [hv, hx]; rfl

/-! ### The text unit (R231, R232, R236) -/

theorem State.afterText_unowned {s : State} {slot : Nat} (h : (s.sess slot).owner = none) : s.afterText slot = s := by
  have ht : (s.sess slot).textOwner = none := by
    unfold Session.textOwner
    rw [h]
    split <;> rfl
  unfold State.afterText
  dsimp only
  rw [ht]

/-- The text unit works for a session whose first input no frame waits for. -/
theorem State.textWork_unwaited {s : State} {slot : Nat} {i : TextInput} {rest : List TextInput} (work : State → State)
    (hi : (s.sess slot).inputs = i :: rest) (hw : i.waits = []) (ho : ((work s).sess slot).owner = none) :
    s.textWork slot work = work s := by
  unfold State.textWork
  dsimp only
  rw [hi, List.head?_cons, Option.map_some, Option.getD_some, hw]
  exact State.afterText_unowned ho

/-- The tokens that join the pending ones, and what they are after. -/
theorem State.sess_addPending (s : State) (slot limit : Nat) (fresh : Bool) (toks : List Nat) :
    ∃ new, (s.addPending slot limit fresh toks).sess slot =
        { s.sess slot with pending := (s.sess slot).pending ++ new } ∧
      new.map PendingToken.token = toks.take (limit - 1 - ((s.entry slot).committed + (s.sess slot).pending.length)) := by
  refine ⟨_, (State.flagIf_only.keeps (State.sess · slot)).trans (State.sess_putSess ..), ?_⟩
  rw [List.map_map]
  exact List.zipIdx_map_fst 0 _

/-- The pages that a session's input needs fit its home SD's text pool (R236), once the text unit has taken `count` bytes
of the first input. -/
def State.TextFits (s : State) (slot : Nat) (i : TextInput) (rest : List TextInput) (m : Model) (count : Nat) : Prop :=
  ceilDiv ((s.sess slot).pending.length + (i.feed m.vocab (i.unread.take count)).1.length) 1024
    + ceilDiv ((i.feed m.vocab (i.unread.take count)).2.1.window.length + sumBy (fun k => k.window.length) rest) 4096
    + 4 ≤ (s.sess slot).textHeld + (s.sd (s.entry slot).homeSd).textFree

/-- The text unit takes bytes of an input that is not complete, where the pages that it needs are free (R231, R236). -/
theorem State.textInput_takes {s : State} {slot count : Nat} {i : TextInput} {rest : List TextInput} {m : Model}
    (hi : (s.sess slot).inputs = i :: rest) (hm : s.modelOf slot = some m) (hc : i.closed = false)
    (hf : s.TextFits slot i rest m count) :
    ((s.textInput slot count).sess slot).owner = (s.sess slot).owner ∧
      (∃ j, ((s.textInput slot count).sess slot).inputs = j :: rest ∧ j.unread = i.unread.drop count ∧ j.stalled = false) ∧
      ((s.textInput slot count).sess slot).pending.map PendingToken.token = (s.sess slot).pending.map PendingToken.token
        ++ (i.feed m.vocab (i.unread.take count)).1.take
            (m.contextLimit - 1 - ((s.entry slot).committed + (s.sess slot).pending.length)) := by
  unfold State.TextFits at hf
  generalize hu : s.textInput slot count = u
  unfold State.textInput at hu
  extract_lets x n at hu
  rw [show x.inputs = i :: rest from hi, hm] at hu
  dsimp -zeta only at hu
  extract_lets v bs j1 done all j2 need _ s2 s3 s4 at hu
  have hd : done = false := by unfold done; rw [hc]; rfl
  have hall : all = (i.feed m.vocab (i.unread.take count)).1 := by
    unfold all; rw [hd]; exact List.append_nil _
  have hj : j2.window = (i.feed m.vocab (i.unread.take count)).2.1.window ∧ j2.unread = i.unread.drop count ∧
      j2.stalled = false := by
    unfold j2; rw [hd]; exact ⟨rfl, rfl, rfl⟩
  obtain ⟨hwin, hunread, hstalled⟩ := hj
  have hneed : ¬ need + textBlockPages > x.textHeld + (s.sd n).textFree := by
    unfold need
    rw [hall, hd, hwin]
    exact Nat.not_lt.mpr hf
  rw [if_neg hneed] at hu
  have h2 : s2.sess slot = { s.sess slot with inputs := j2 :: rest } := by
    refine (State.sess_putSess ..).trans ?_
    rw [hd]
    rfl
  obtain ⟨new, hadd, hnew⟩ := s2.sess_addPending slot m.contextLimit i.fresh all
  have h4 : s4.sess slot = { s2.sess slot with pending := (s2.sess slot).pending ++ new } :=
    (State.addRegFld_only.keeps (State.sess · slot)).trans ((State.flagIf_only.keeps (State.sess · slot)).trans hadd)
  rw [h2] at h4
  rw [State.entry, h2, hall] at hnew
  clear_value s4 j2
  subst hu
  rw [State.sess_settleText, h4]
  exact ⟨rfl, ⟨j2, rfl, hunread, hstalled⟩, by rw [List.map_append, hnew]; rfl⟩

theorem State.textResume_stalled {s : State} {slot : Nat} {i : TextInput} {rest : List TextInput}
    (hi : (s.sess slot).inputs = i :: rest) (hs : i.stalled = true) :
    s.textResume slot = s.textInput slot i.unread.length := by
  unfold State.textResume
  rw [hi]
  exact if_pos hs

theorem textWork_takes (s : State) (slot t : Nat) (c : Instr) (i : TextInput) (rest : List TextInput) (m : Model) (count : Nat)
    (hcase : c = .textInput slot count t ∨ (c = .textFrameResume slot t ∧ i.stalled = true ∧ count = i.unread.length))
    (hi : (s.sess slot).inputs = i :: rest) (hm : s.modelOf slot = some m) (hc : i.closed = false)
    (ho : (s.sess slot).owner = none) (hw : i.waits = []) (hf : s.TextFits slot i rest m count) :
    Completes c s fun s' =>
      (∃ j, (s'.sess slot).inputs = j :: rest ∧ j.unread = i.unread.drop count ∧ j.stalled = false) ∧
      (s'.sess slot).pending.map PendingToken.token = (s.sess slot).pending.map PendingToken.token
        ++ (i.feed m.vocab (i.unread.take count)).1.take
            (m.contextLimit - 1 - ((s.entry slot).committed + (s.sess slot).pending.length)) := by
  obtain ⟨hown, htaken⟩ := State.textInput_takes (s := s.stamp t) hi hm hc hf
  replace hown := hown.trans ho
  have he : exec c s = .next ((s.stamp t).textInput slot count) := by
    rcases hcase with rfl | ⟨rfl, hst, rfl⟩
    · exact congrArg Host.Outcome.next (State.textWork_unwaited (s := s.stamp t) _ hi hw hown)
    · have hr := State.textResume_stalled (s := s.stamp t) hi hst
      have hwork := State.textWork_unwaited (s := s.stamp t) (fun s => s.textResume slot) hi hw (by rw [hr]; exact hown)
      exact congrArg Host.Outcome.next (hwork.trans hr)
  exact ⟨_, he, htaken⟩

/-! ### Records (R62, R63, R405) -/

theorem State.mem_out_interrupt {s : State} {x : Msg} (h : x ∈ s.out) (fn v : Nat) : x ∈ (s.interrupt fn v).out := by
  unfold State.interrupt
  dsimp only
  split
  · exact h
  · exact List.mem_append_left _ h

/-- A record without text is written at its queue's tail (R405). -/
theorem State.mem_out_writeRecord (s : State) (fn q : Nat) {r : Record} (notify : Bool) (h : r.text = []) :
    Msg.record fn q ((s.fn fn).rq q).tail ((s.fn fn).rq q).phase 0 r ∈ (s.writeRecord fn q r notify).out := by
  have he : r.text.isEmpty = true := by rw [h]; rfl
  unfold State.writeRecord
  simp -zeta only [he, if_true]
  extract_lets h1 rq off text next rq' u v
  have hv : Msg.record fn q ((s.fn fn).rq q).tail ((s.fn fn).rq q).phase 0 r ∈ v.out :=
    List.mem_append_right _ List.mem_cons_self
  split
  · exact State.mem_out_interrupt hv _ _
  · exact hv

/-- A delivery ends with its record written and the sessions that wait for outbox room looked at. -/
theorem State.deliver_writes {s : State} {slot : Nat} {o : OutEntry} {rest : List OutEntry}
    (ho : (s.sess slot).outbox = o :: rest) (hd : (s.entry slot).detached = false)
    (hr : (s.fn (s.entry slot).function).hasRoom (s.entry slot).resultQueue o.record = true) :
    ∃ (u : State) (n : Nat), u.fns = s.fns ∧ u.sess slot = { s.sess slot with outbox := rest } ∧
      s.deliver slot =
        (u.writeRecord (s.entry slot).function (s.entry slot).resultQueue o.record false).wakeOutboxes n := by
  generalize hu : s.deliver slot = v
  unfold State.deliver at hu
  extract_lets x e n _ at hu
  have hd' : e.detached = false := hd
  have hr' : (s.fn e.function).hasRoom e.resultQueue o.record = true := hr
  rw [show x.outbox = o :: rest from ho] at hu
  simp -zeta only [hd', hr', Bool.not_true, Bool.or_false, Bool.false_eq_true, if_false] at hu
  extract_lets _ u at hu
  exact ⟨u, n, rfl, State.sess_putSess .., hu.symm⟩

theorem recordDeliver_leaves (s : State) (slot t : Nat) (o : OutEntry) (rest : List OutEntry)
    (ho : (s.sess slot).outbox = o :: rest) (hd : (s.entry slot).detached = false)
    (hr : (s.fn (s.entry slot).function).hasRoom (s.entry slot).resultQueue o.record = true) (htx : o.record.text = []) :
    Completes (.recordDeliver slot t) s fun s' =>
      (s'.sess slot).outbox = rest ∧
      Msg.record (s.entry slot).function (s.entry slot).resultQueue
        ((s.fn (s.entry slot).function).rq (s.entry slot).resultQueue).tail
        ((s.fn (s.entry slot).function).rq (s.entry slot).resultQueue).phase 0 o.record ∈ s'.out := by
  obtain ⟨u, n, hf, hx, he⟩ := State.deliver_writes (s := s.stamp t) ho hd hr
  have hm := u.mem_out_writeRecord (s.entry slot).function (s.entry slot).resultQueue false htx
  have hfn : u.fn (s.entry slot).function = s.fn (s.entry slot).function := by
    unfold State.fn; rw [hf]; rfl
  rw [hfn] at hm
  have hy : ((u.writeRecord (s.entry slot).function (s.entry slot).resultQueue o.record false).sess slot).outbox = rest := by
    rw [State.writeRecord_only.keeps (State.sess · slot), hx]
  rw [State.entry_stamp] at he
  generalize u.writeRecord (s.entry slot).function (s.entry slot).resultQueue o.record false = v at he hm hy
  refine ⟨_, congrArg Host.Outcome.next he, ?_, ?_⟩
  · rcases v.sess_wakeOutboxes n slot with hw | hw <;> rw [hw] <;> exact hy
  · rw [show (v.wakeOutboxes n).out = v.out from State.wakeOutboxes_only.keeps State.out]
    exact hm

theorem outboxRecordWrite_enters (s : State) (slot t : Nat) (r : Record) (rest : List Record) (i : Nat) (p : Pool)
    (hu : (s.sess slot).unpooled = r :: rest) (hf : (s.sd (tableSd slot)).outboxFree ≠ 0)
    (hp : (s.sd (tableSd slot)).outbox.take = some (i, p)) :
    Completes (.outboxRecordWrite slot t) s fun s' =>
      (s'.sess slot).outbox = (s.sess slot).outbox ++ [⟨i, r⟩] ∧ (s'.sess slot).unpooled = rest := by
  have hx : ((s.stamp t).recordEnters slot).sess slot =
      { s.sess slot with outbox := (s.sess slot).outbox ++ [⟨i, r⟩], unpooled := rest } := by
    generalize hv : (s.stamp t).recordEnters slot = v
    unfold State.recordEnters at hv
    extract_lets x n d at hv
    rw [show x.unpooled = r :: rest from hu, show d.outbox.take = some (i, p) from hp] at hv
    dsimp -zeta only at hv
    rw [if_neg (show ¬ d.outboxFree = 0 from hf)] at hv
    subst hv
    exact (State.checkOutboxLow_only.keeps (State.sess · slot)).trans (State.sess_putSess ..)
  exact ⟨_, rfl, by rw [hx], by rw [hx]⟩

/-- Settles O10: a released APPEND takes its row (`timedRelease_one`), the text unit takes its bytes (`textInput_takes`);
a delivery writes its record (`mem_out_writeRecord`), and a waiting record takes a free entry. -/
theorem textIsTakenAndRecordsLeave : Obligations.TextIsTakenAndRecordsLeave := by
  unfold Obligations.TextIsTakenAndRecordsLeave
  refine ⟨fun s slot t => ⟨timedAppendRelease_takes s slot t, textWork_takes s slot t⟩, fun s slot t => ⟨?_, ?_⟩⟩
  · exact recordDeliver_leaves s slot t
  · exact outboxRecordWrite_enters s slot t

end Sys2Proof.Machine

namespace Sys2Proof.Machine

/-! ### The two streams and their members (R66, R67) -/

@[simp] theorem State.stream_putStream (s : State) (b : Bool) (x : Stream) : (s.putStream b x).stream b = x := by
  cases b <;> rfl

theorem State.stream_updMember {s : State} {b : Bool} {r : StepRun} (h : (s.stream b).run = some r) (slot : Nat)
    (f : Member → Member) :
    ((s.updMember b slot f).stream b).run =
      some { r with members := r.members.map fun m => if m.slot = slot then f m else m } := by
  unfold State.updMember
  dsimp only
  rw [h]
  dsimp only
  rw [State.stream_putStream]

theorem State.member_run {s : State} {b : Bool} {slot : Nat} {m : Member} (h : s.member b slot = some m) :
    ∃ r, (s.stream b).run = some r ∧ (r.live.find? fun m => m.slot == slot) = some m :=
  Option.bind_eq_some_iff.mp h

/-- The live member of a slot after a change that keeps members live and in their slots. -/
theorem State.member_updMember {s : State} {b : Bool} {slot : Nat} {m : Member} {f : Member → Member}
    (h : s.member b slot = some m) (hs : ∀ q, (f q).slot = q.slot) (hr : ∀ q, (f q).removed = q.removed)
    (ha : ∀ q, (f q).applied = q.applied) : (s.updMember b slot f).member b slot = some (f m) := by
  obtain ⟨r, hrun, hfind⟩ := State.member_run h
  unfold State.member
  rw [State.stream_updMember hrun, Option.bind_some]
  unfold StepRun.live at hfind ⊢
  rw [List.find?_filter] at hfind ⊢
  have hm := List.find?_some hfind
  have hslot : m.slot = slot := by simp at hm; exact hm.2
  have hp : ∀ q : Member, (fun m => decide ((!m.removed && !m.applied) = true ∧ (m.slot == slot) = true))
      (if q.slot = slot then f q else q) =
      decide ((!q.removed && !q.applied) = true ∧ (q.slot == slot) = true) := by
    intro q; dsimp only; split
    · rw [hs, hr, ha]
    · rfl
  rw [List.find?_map, show _ ∘ _ = _ from funext hp, hfind, Option.map_some, if_pos hslot]

end Sys2Proof.Machine

namespace Sys2Proof.Machine

/-! ### Pre-emption and pacing (R82, R83, R367) -/

theorem State.s1Suspend_clash {s : State} {r : StepRun} {layer : Nat} (hr : s.s1.run = some r) (hs : r.suspended = false)
    (hp : r.sealPt = none) (hc : ((r.live.map Member.cluster).any fun l => (s.heldClusters false).contains l) = true) :
    (s.s1Suspend layer).s1.run =
      some { r with
        suspended := true, suspensions := min 255 (r.suspensions + 1), preempted := r.preempted + 1, layer := layer } := by
  unfold State.s1Suspend
  rw [hr]
  dsimp only
  rw [hs, hp, hc, if_neg (by decide)]
  rw [State.flagIf_only.keeps State.s1, State.setFlag_only.keeps State.s1]

theorem s1Suspend_suspends (s : State) (t layer : Nat) (r : StepRun) (hr : s.s1.run = some r) (hs : r.suspended = false)
    (hp : r.sealPt = none) (hc : ((r.live.map Member.cluster).any fun l => (s.heldClusters false).contains l) = true) :
    Completes (.s1Suspend layer t) s fun s' =>
      s'.s1.run = some { r with suspended := true, suspensions := min 255 (r.suspensions + 1),
                                preempted := r.preempted + 1, layer := layer } ∧ s'.s0 = s.s0 :=
  ⟨_, rfl, State.s1Suspend_clash (s := s.stamp t) hr hs hp hc, State.s1Suspend_only.keeps State.s0⟩

theorem State.s1Resume_clear {s : State} {r : StepRun} (hr : s.s1.run = some r) (hs : r.suspended = true)
    (hc : ((r.live.map Member.cluster).any fun l => (s.heldClusters false).contains l) = false) :
    s.s1Resume.s1.run = some { r with suspended := false } := by
  unfold State.s1Resume
  rw [hr]
  dsimp only
  rw [hs, hc, if_neg (by decide)]

theorem s1Resume_resumes (s : State) (t : Nat) (r : StepRun) (hr : s.s1.run = some r) (hs : r.suspended = true)
    (hc : ((r.live.map Member.cluster).any fun l => (s.heldClusters false).contains l) = false) :
    Completes (.s1Resume t) s fun s' => s'.s1.run = some { r with suspended := false } ∧ s'.s0 = s.s0 :=
  ⟨_, rfl, State.s1Resume_clear (s := s.stamp t) hr hs hc, State.s1Resume_only.keeps State.s0⟩

theorem stepPacingExpire_frees (s : State) (t : Nat) (s1 : Bool) (h : (s.stream s1).paceUntil ≤ t) :
    Completes (.stepPacingExpire s1 t) s fun s' => s'.stream s1 = { s.stream s1 with paceUntil := 0 } := by
  have he : exec (.stepPacingExpire s1 t) s =
      .next ((s.stamp t).putStream s1 { (s.stamp t).stream s1 with paceUntil := 0 }) := congrArg Host.Outcome.next (if_pos h)
  exact ⟨_, he, State.stream_putStream ..⟩

/-! ### The millisecond tick (R496) -/

theorem aget_map {α β : Type} (l : List (Nat × α)) (f : α → β) (k : Nat) :
    aget (l.map fun p => (p.1, f p.2)) k = (aget l k).map f := by
  induction l with
  | nil => rfl
  | cons p l ih =>
    obtain ⟨j, w⟩ := p
    by_cases h : j = k <;> simp [aget, h, ih]

/-- A tenant other than the one written stands as before. -/
theorem State.tenant_putTenant_other (s : State) {k j : Nat} (x : Tenant) (h : j ≠ k) :
    (s.putTenant k x).tenant j = s.tenant j :=
  agetD_aset_other s.tenants x Tenant.undeclared h

/-- Two values of a tenant with the same bucket and the same limits. -/
structure Tenant.SameLimits (x y : Tenant) : Prop where
  bucket : y.bucket = x.bucket
  bucketRate : y.bucketRate = x.bucketRate
  bucketDepth : y.bucketDepth = x.bucketDepth
  tokenLimit : y.tokenLimit = x.tokenLimit
  quota : y.quota = x.quota

namespace Tenant.SameLimits
variable {x y z : Tenant}

theorem refl (x : Tenant) : x.SameLimits x := ⟨rfl, rfl, rfl, rfl, rfl⟩

theorem trans (h : x.SameLimits y) (h' : y.SameLimits z) : x.SameLimits z :=
  ⟨h'.bucket.trans h.bucket, h'.bucketRate.trans h.bucketRate, h'.bucketDepth.trans h.bucketDepth,
    h'.tokenLimit.trans h.tokenLimit, h'.quota.trans h.quota⟩

/-- Counters that are raised leave bucket and limits. -/
theorem counted (x : Tenant) (l : List (Nat × Nat × Nat)) : x.SameLimits (l.foldl (fun t c => t.count c.1 c.2.1) x) := by
  induction l generalizing x with
  | nil => exact refl x
  | cons c l ih => exact trans (y := x.count c.1 c.2.1) ⟨rfl, rfl, rfl, rfl, rfl⟩ (ih _)

theorem post (x : Tenant) (n now : Nat) : x.SameLimits (x.post n now) :=
  trans (counted x _) ⟨rfl, rfl, rfl, rfl, rfl⟩

theorem fill (h : x.SameLimits y) : x.fill.SameLimits y.fill := by
  unfold Tenant.fill
  rw [h.bucketRate]
  split
  · exact h
  · exact ⟨by simp only [h.bucket, h.bucketDepth], rfl, h.bucketDepth, h.tokenLimit, h.quota⟩

end Tenant.SameLimits

/-- Every tenant has the bucket and the limits that it had. -/
structure State.SameLimits (s u : State) : Prop where
  tenant : ∀ k, (s.tenant k).SameLimits (u.tenant k)

namespace State.SameLimits
variable {s u v : State}

theorem refl (s : State) : s.SameLimits s := ⟨fun _ => .refl _⟩

theorem trans (h : s.SameLimits u) (h' : u.SameLimits v) : s.SameLimits v := ⟨fun k => (h.tenant k).trans (h'.tenant k)⟩

theorem of_tenants (h : u.tenants = s.tenants) : s.SameLimits u := by
  refine ⟨fun k => ?_⟩
  rw [show u.tenant k = s.tenant k from congrArg (agetD · k Tenant.undeclared) h]
  exact .refl _

theorem ite {c : Prop} [Decidable c] (h : s.SameLimits u) (h' : s.SameLimits v) : s.SameLimits (if c then u else v) := by
  split
  · exact h
  · exact h'

theorem foldl {α : Type} {f : State → α → State} (hf : ∀ (u : State) x, u.SameLimits (f u x)) (l : List α) (s : State) :
    s.SameLimits (l.foldl f s) := by
  induction l generalizing s with
  | nil => exact refl s
  | cons x l ih => exact (hf s x).trans (ih _)

theorem putTenant {k : Nat} {x : Tenant} (h : (s.tenant k).SameLimits x) : s.SameLimits (s.putTenant k x) := by
  refine ⟨fun j => ?_⟩
  by_cases hj : j = k
  · subst hj; rwa [State.tenant_putTenant]
  · rw [State.tenant_putTenant_other _ _ hj]
    exact .refl _

theorem charge (k c n : Nat) : s.SameLimits (s.charge k c n) := .ite (refl s) (putTenant ⟨rfl, rfl, rfl, rfl, rfl⟩)

theorem countFor (k i n : Nat) : s.SameLimits (s.countFor k i n) := .ite (refl s) (putTenant ⟨rfl, rfl, rfl, rfl, rfl⟩)

theorem chargePageTier (tier use : Nat) (who : List Nat × Nat) : s.SameLimits (s.chargePageTier tier use who) := by
  unfold State.chargePageTier
  extract_lets a n u
  have hu : s.SameLimits u := .foldl (fun v t => .ite (refl v) (charge _ _ _)) _ _
  exact .ite hu (hu.trans (charge _ _ _))

theorem chargePage (p : Nat × Leaf) : s.SameLimits (s.chargePage p) := by
  obtain ⟨page, l⟩ := p
  refine .ite (refl s) ?_
  split
  · exact chargePageTier ..
  · exact (chargePageTier ..).trans (chargePageTier ..)

theorem postCharges (n : Nat) : s.SameLimits (s.postCharges n) := by
  refine ⟨fun k => ?_⟩
  have h := aget_map s.tenants (fun x => x.post n s.now) k
  unfold State.tenant agetD State.postCharges
  dsimp only
  rw [h]
  cases aget s.tenants k with
  | none => exact .refl _
  | some x => exact .post x n s.now

end State.SameLimits

/-- The state whose buckets have been filled (R496). -/
def State.filled (s : State) : State := { s with tenants := s.tenants.map fun p => (p.1, p.2.fill) }

theorem State.tenant_filled (s : State) (k : Nat) : s.filled.tenant k = (s.tenant k).fill := by
  have h := aget_map s.tenants Tenant.fill k
  unfold State.tenant agetD State.filled
  dsimp only
  rw [h]
  cases aget s.tenants k <;> rfl

/-- The tick charges, fills the buckets once and posts: a tenant's bucket and limits are those of its filled value. -/
theorem State.tick_fills (s : State) (k : Nat) : (s.tenant k).fill.SameLimits (s.tick.tenant k) := by
  generalize hu : s.tick = u
  unfold State.tick at hu
  extract_lets s1 live s2 s3 s4 at hu
  have h1 : s.SameLimits s1 := .foldl (fun _ _ => .chargePage _) _ _
  have h2 : s1.SameLimits s2 := .foldl (fun _ _ => .charge _ _ _) _ _
  have h3 : (s.tenant k).fill.SameLimits (s3.tenant k) := by
    rw [show s3 = s2.filled from rfl, State.tenant_filled]
    exact .fill ((h1.trans h2).tenant k)
  have h4 : s3.SameLimits s4 := .ite (.postCharges _) (.refl _)
  have h5 : s4.SameLimits u := by
    subst hu
    exact .ite (.trans (u := s4.takeEnergy.2) (.of_tenants rfl) (.countFor _ _ _)) (.refl _)
  exact h3.trans ((h4.trans h5).tenant k)

theorem tick1ms_fills (s : State) (t k : Nat) (v : Tenant) (hv : aget s.tenants k = some v) :
    Completes (.tick1ms t) s fun s' =>
      (s'.tenant k).bucket = (if v.bucketRate = 0 then v.bucket else min (1000 * v.bucketDepth) (v.bucket + v.bucketRate)) ∧
      (s'.tenant k).tokenLimit = v.tokenLimit ∧ (s'.tenant k).quota = v.quota ∧ s'.sessions = s.sessions := by
  have h := (s.stamp t).tick_fills k
  have hk : (s.stamp t).tenant k = v := by
    rw [State.tenant, agetD, State.stamp_tenants, hv, Option.getD_some]
  rw [hk] at h
  refine ⟨_, rfl, ?_⟩
  dsimp only
  rw [h.bucket, h.tokenLimit, h.quota, State.tick_only.keeps State.sessions]
  unfold Tenant.fill
  split <;> exact ⟨rfl, rfl, rfl, rfl⟩

/-- Settles O19: a clash suspends and its end resumes (`s1Suspend_clash`, `s1Resume_clear`); all that a tick does to a tenant's
bucket and limits is to fill the bucket (`tick_fills`). -/
theorem s1GivesWayAndTicksFillBuckets : Obligations.S1GivesWayAndTicksFillBuckets := by
  unfold Obligations.S1GivesWayAndTicksFillBuckets
  exact ⟨fun s t layer s1 r => ⟨s1Suspend_suspends s t layer r, s1Resume_resumes s t r, stepPacingExpire_frees s t s1⟩,
    tick1ms_fills⟩

end Sys2Proof.Machine

namespace Sys2Proof.Machine

/-! ### Received packets -/

theorem Accepted.receives {s : State} {h : Head} {op : Nat} (ha : Accepted s h op) (act : State → State) :
    s.receive h op act = act s := by
  obtain ⟨-, hauth, hepoch, hform⟩ := ha
  exact s.receive_acts h op act hauth hepoch hform

theorem Accepted.port {s : State} {h : Head} {op : Nat} (ha : Accepted s h op) : portExists h = true :=
  decide_eq_true ha.1

/-- An accepted packet's message completes the command. -/
theorem Completes.of_accepted {s : State} {h : Head} {op t : Nat} {c : Instr} {act : State → State} {P : State → Prop}
    (ha : Accepted (s.stamp t) h op)
    (he : exec c s = if portExists h then .next ((s.stamp t).receive h op act) else .fault .noSuchUnit)
    (hp : P (act (s.stamp t))) : Completes c s P :=
  ⟨_, he.trans ((if_pos ha.port).trans (congrArg _ (ha.receives act))), hp⟩

/-- One packet joins those that the fabric takes (R311). -/
theorem State.send_hands (s : State) (pkg dd tc sd unit op : Nat) (oph : List (Nat × Nat × Nat)) (pl : List Byte)
    (note : List Nat) :
    ∃ p, (s.send pkg dd tc sd unit op oph pl note).gallery.sending = s.gallery.sending ++ [p] ∧ p.opcode = op ∧
      p.dstPkg = pkg ∧ p.payload = pl := by
  unfold State.send
  extract_lets p u
  have hu : u.gallery = s.gallery := by
    unfold u
    split
    · exact State.charge_only.keeps State.gallery
    · rfl
  exact ⟨p, by rw [← hu], rfl, rfl, rfl⟩

theorem expertTokens_answers (s : State) (h : Head) (step layer expert tokens request t : Nat) (payload output : List Byte)
    (ha : Accepted (s.stamp t) h 0x30) :
    Completes (.expertTokens h step layer expert tokens request payload output t) s fun s' =>
      ∃ p, s'.gallery.sending = s.gallery.sending ++ [p] ∧ p.opcode = 0x31 ∧ p.dstPkg = h.srcPkg ∧ p.payload = output :=
  .of_accepted ha rfl (State.send_hands ..)

theorem expertReply_accepts (s : State) (h : Head) (s1 : Bool) (slot request issued t : Nat) (payload : List Byte) (m : Member)
    (ha : Accepted (s.stamp t) h 0x31) (hm : s.member s1 slot = some m) (ht : t ≤ issued + s.remoteLimit) :
    Completes (.expertReply h s1 slot request issued payload t) s fun s' =>
      ∃ m', s'.member s1 slot = some m' ∧ m'.experts = m.experts ++ [request] := by
  have hin : ¬ (decide (issued + (s.stamp t).remoteLimit < (s.stamp t).now) || ((s.stamp t).member s1 slot).isNone) = true := by
    have hlim : ¬ issued + (s.stamp t).remoteLimit < (s.stamp t).now := Nat.not_lt.mpr ht
    rw [show (s.stamp t).member s1 slot = some m from hm, decide_eq_false hlim]
    exact Bool.false_ne_true
  refine .of_accepted ha rfl ?_
  dsimp only
  rw [if_neg hin]
  exact ⟨_, State.member_updMember (s := s.stamp t) hm (fun _ => rfl) (fun _ => rfl) (fun _ => rfl), rfl⟩

theorem anchor_raises (s : State) (h : Head) (step reduction first t : Nat) (b o : Int)
    (ha : Accepted (s.stamp t) h 0x33) (hn : aget s.splitSums reduction = none) :
    Completes (.anchor h step reduction first [b] [o] t) s fun s' =>
      ∃ r, aget s'.splitSums reduction = some r ∧ r.step = step ∧ aget r.bounds first = some (max b o) := by
  have hr : agetD (s.stamp t).splitSums reduction (SplitSum.start step) = SplitSum.start step := by
    rw [agetD, State.stamp_splitSums, hn, Option.getD_none]
  refine .of_accepted ha rfl ?_
  dsimp only
  rw [hr]
  refine ⟨_, aget_aset_same .., rfl, ?_⟩
  simp [SplitSum.raise, SplitSum.start, aget]

/-- The first image of an output, where more peers are to come, is added to the package's own; nothing is rounded (R198). -/
theorem SplitSum.add_first {r : SplitSum} {i : SplitInfo} {out : Nat} (image : List Byte) (he : i.exact = true)
    (hp : 1 < i.peers) (hn : aget r.sources out = none) (hs : aget r.sums out = none) :
    r.add i out image =
      ({ r with
          sources := aset r.sources out 1
          sums := aset r.sums out (sumAcc [imageAcc (agetD i.own out []), imageAcc image]) }, false) := by
  have hn' : agetD r.sources out 0 = 0 := by rw [agetD, hn, Option.getD_none]
  have hs' : agetD r.sums out (imageAcc (agetD i.own out [])) = imageAcc (agetD i.own out []) := by
    rw [agetD, hs, Option.getD_none]
  unfold SplitSum.add
  dsimp only
  rw [hn', hs', if_pos he, if_pos hp]

theorem accImages_adds (s : State) (h : Head) (step reduction first t : Nat) (image : List Byte) (info : SplitInfo)
    (ha : Accepted (s.stamp t) h 0x32) (hn : aget s.splitSums reduction = none) (he : info.exact = true) (hp : 1 < info.peers) :
    Completes (.accImages h step reduction first [image] info t) s fun s' =>
      ∃ r, aget s'.splitSums reduction = some r ∧ aget r.sources first = some 1 ∧
        aget r.sums first = some (sumAcc [imageAcc (agetD info.own first []), imageAcc image]) := by
  have hr : agetD (s.stamp t).splitSums reduction (SplitSum.start step) = SplitSum.start step := by
    rw [agetD, State.stamp_splitSums, hn, Option.getD_none]
  refine .of_accepted ha rfl ?_
  dsimp only
  have hadd := SplitSum.add_first (r := SplitSum.start step) (out := first) image he hp rfl rfl
  rw [hr, show [image].zipIdx = [(image, 0)] from rfl, List.foldl_cons, List.foldl_nil]
  dsimp only
  rw [Nat.add_zero, hadd, if_pos he]
  exact ⟨_, aget_aset_same .., aget_aset_same .., aget_aset_same ..⟩

/-- Settles O26, a lemma for each message: its answer is handed to the fabric (`send_hands`), its request joins the member's
(`member_updMember`), its bound is raised, its image is added (`add_first`). -/
theorem expertsAndSplitReductions : Obligations.ExpertsAndSplitReductions := by
  unfold Obligations.ExpertsAndSplitReductions
  intro s h s1 slot step layer expert tokens request issued reduction first t payload output b o image info m
  exact ⟨expertTokens_answers s h step layer expert tokens request t payload output,
    expertReply_accepts s h s1 slot request issued t payload m, anchor_raises s h step reduction first t b o,
    accImages_adds s h step reduction first t image info⟩

end Sys2Proof.Machine

namespace Sys2Proof.Machine

/-! ### Operations on pages: what they may change -/

/-- A state with the pages, the pools, the state dies and the flags of another. -/
def State.withPages (s t : State) : State :=
  { s with
    draws := t.draws, regs := t.regs, flagSets := t.flagSets, sds := t.sds, leaves := t.leaves, pools := t.pools
    mem := t.mem, cages := t.cages, heldWrites := t.heldWrites, tenants := t.tenants }

section Pages
variable {s u : State}

theorem State.releaseFrame_only {sd tier pool cls frame tenant n : Nat} {scale : Option Nat} :
    Only State.withPages s (s.releaseFrame sd tier pool cls frame tenant n scale) := by
  obtain ⟨p, h1⟩ := s.giveFrame_frame sd tier pool cls frame
  obtain ⟨q, h2⟩ := (s.giveFrame sd tier pool cls frame).giveScale_frame sd scale
  have h : Only State.withPages s ((s.giveFrame sd tier pool cls frame).giveScale sd scale) := by
    rw [h2, h1]; rfl
  exact h.then State.dropUse_only

theorem State.dropCage_only {id : Nat} : Only State.withPages s (s.dropCage id) := by
  unfold State.dropCage
  split
  · exact .refl
  · split
    · rfl
    · extract_lets v w
      have hv : Only State.withPages s v := releaseFrame_only
      have hw : Only State.withPages v w := rfl
      exact (hv.set hw).set rfl

theorem State.freePage_only {page : Nat} : Only State.withPages s (s.freePage page) := by
  unfold State.freePage
  split
  · exact .refl
  · extract_lets n v l old w x
    have hv : Only State.withPages s v := by
      refine .ite .refl ?_
      split
      · exact .refl
      · exact dropCage_only.then setFlag_only
    have hw : Only State.withPages v w := by
      unfold w
      generalize old = o
      rcases o with _ | ⟨id, c⟩
      · exact .refl
      · exact releaseFrame_only.set rfl
    have hx : Only State.withPages w x := releaseFrame_only
    exact ((hv.set hw).set hx).set rfl

theorem State.freeUnheld_only {page : Nat} : Only State.withPages s (s.freeUnheld page) := by
  unfold State.freeUnheld
  split
  · exact .refl
  · exact .ite rfl freePage_only

theorem State.dropRef_only {page : Nat} {who : Option Nat} : Only State.withPages s (s.dropRef page who) := by
  unfold State.dropRef
  extract_lets n
  split
  · exact .refl
  · split
    · exact freeUnheld_only
    · exact .ite rfl rfl

theorem State.takeRef_only {page : Nat} {who : Option Nat} (h : (s.takeRef page who).1 = some u) :
    Only State.withPages s u := by
  unfold State.takeRef at h
  extract_lets n at h
  split at h
  · cases h
  · split at h
    · split at h
      · cases h
      · cases h; rfl
    · extract_lets d at h
      split at h
      · cases h
      · cases h; rfl

theorem State.treeRefs_only {l : List Nat} (h : s.treeRefs l = some u) : Only State.withPages s u := by
  induction l generalizing s with
  | nil => cases h; exact .refl
  | cons p l ih =>
    unfold State.treeRefs at h
    split at h
    · exact ih h
    · split at h
      · cases h
      next v hv => exact (takeRef_only hv).set (ih h)

theorem State.dropNode_only {sd : Nat} {nd : PrefixNode} : Only State.withPages s (s.dropNode sd nd) :=
  Only.set (u := s.putSd sd _) rfl (.foldl (fun _ _ => dropRef_only) _)

theorem State.makeRoom_only {sd key : Nat} : Only State.withPages s (s.makeRoom sd key) := by
  unfold State.makeRoom
  refine .ite .refl ?_
  split
  · exact .refl
  · exact dropNode_only.then setFlag_only

theorem State.insertNode_only {slot n key prev : Nat} {toks : List Nat} {m : Model} :
    Only State.withPages s (s.insertNode slot n key prev toks m) := by
  unfold State.insertNode
  refine .ite .refl ?_
  split
  · exact flagIf_only.mono
  · extract_lets c pages
    split
    · exact .refl
    next v hv => exact ((treeRefs_only hv).set makeRoom_only).set rfl

theorem State.domainKey_only {sd dom : Nat} : Only State.withPages s (s.domainKey sd dom).2 := by
  unfold State.domainKey
  split
  · exact .refl
  · rfl

theorem State.markWritten_only {page : Nat} : Only State.withPages s (s.markWritten page) := rfl

theorem State.releaseMember_only {m : Member} {n : Nat} : Only State.withPages s (s.releaseMember m n) := by
  unfold State.releaseMember
  extract_lets v k d w
  have hv : Only State.withPages s v := .foldl (fun _ _ => freePage_only) _
  have hw : Only State.withPages v w := rfl
  exact (hv.set hw).set rfl

theorem State.settleMember_only {m : Member} {n : Nat} : Only State.withPages s (s.settleMember m n) :=
  releaseMember_only.set rfl

theorem State.dropOriginals_only {m : Member} : Only State.withPages s (s.dropOriginals m) :=
  .foldl (fun _ _ => dropRef_only) _

end Pages

end Sys2Proof.Machine

namespace Sys2Proof.Machine

/-! ### What the work of a seal or a rollback leaves of its session (R38, R87) -/

/-- Two values of a session that agree in what a seal commits and in what waits for the session. -/
structure Session.Alike (x y : Session) : Prop where
  committed : y.cur.entry.committed = x.cur.entry.committed
  lastSeal : y.cur.entry.lastSeal = x.cur.entry.lastSeal
  openToken : y.cur.openToken = x.cur.openToken
  pending : y.pending = x.pending
  waiting : y.waiting = x.waiting

namespace Session.Alike
variable {x y z : Session}

theorem refl (x : Session) : x.Alike x := ⟨rfl, rfl, rfl, rfl, rfl⟩

theorem trans (h : x.Alike y) (h' : y.Alike z) : x.Alike z :=
  ⟨h'.committed.trans h.committed, h'.lastSeal.trans h.lastSeal, h'.openToken.trans h.openToken,
    h'.pending.trans h.pending, h'.waiting.trans h.waiting⟩

end Session.Alike

/-- No migration and no epoch has moved on. -/
structure State.SameMoves (s u : State) : Prop where
  migrations : u.migrations = s.migrations
  incoming : u.incoming = s.incoming
  checkpoint : u.checkpoint = s.checkpoint

theorem State.SameMoves.trans {s u v : State} (h : s.SameMoves u) (h' : u.SameMoves v) : s.SameMoves v :=
  ⟨h'.migrations.trans h.migrations, h'.incoming.trans h.incoming, h'.checkpoint.trans h.checkpoint⟩

/-- What work beside the session of a slot leaves: the session's commitments, the streams, migrations and epochs. -/
structure State.Beside (slot : Nat) (s u : State) : Prop extends s.SameMoves u where
  session : (s.sess slot).Alike (u.sess slot)
  s0 : u.s0 = s.s0
  s1 : u.s1 = s.s1

namespace State.Beside
variable {slot : Nat} {s u v : State}

theorem refl (s : State) : s.Beside slot s := ⟨⟨rfl, rfl, rfl⟩, .refl _, rfl, rfl⟩

theorem trans (h : s.Beside slot u) (h' : u.Beside slot v) : s.Beside slot v :=
  ⟨h.toSameMoves.trans h'.toSameMoves, h.session.trans h'.session, h'.s0.trans h.s0, h'.s1.trans h.s1⟩

theorem ite {c : Prop} [Decidable c] (h : s.Beside slot u) (h' : s.Beside slot v) : s.Beside slot (if c then u else v) := by
  split
  · exact h
  · exact h'

theorem stream (h : s.Beside slot u) (b : Bool) : u.stream b = s.stream b := by
  unfold State.stream
  rw [h.s0, h.s1]

/-- An operation that leaves sessions, streams, migrations and epochs alone. -/
theorem of_only {K : State → State → State} (h : Only K s u)
    (hK : ∀ s t : State, s.Beside slot (K s t) := by intros; exact ⟨⟨rfl, rfl, rfl⟩, .refl _, rfl, rfl⟩) :
    s.Beside slot u :=
  (show K s u = u from h.symm) ▸ hK s u

theorem putSess {x : Session} (h : (s.sess slot).Alike x) : s.Beside slot (s.putSess slot x) :=
  ⟨⟨rfl, rfl, rfl⟩, by rwa [State.sess_putSess], rfl, rfl⟩

/-- A change of sessions that leaves the commitments of this one. -/
theorem of_sessions (h : Only (fun s t => { s with sessions := t.sessions }) s u) (hx : (s.sess slot).Alike (u.sess slot)) :
    s.Beside slot u :=
  ⟨⟨h.keeps State.migrations, h.keeps State.incoming, h.keeps State.checkpoint⟩, hx, h.keeps State.s0, h.keeps State.s1⟩

theorem foldl {α : Type} {f : State → α → State} (hf : ∀ (u : State) x, u.Beside slot (f u x)) (l : List α)
    (s : State) :
    s.Beside slot (l.foldl f s) := by
  induction l generalizing s with
  | nil => exact refl s
  | cons x l ih => exact (hf s x).trans (ih _)

theorem settleMap : s.Beside slot (s.settleMap slot) := by
  unfold State.settleMap
  extract_lets x n d b k free v
  have hv : s.Beside slot v := .of_only State.putSd_only
  have hw : v.Beside slot (v.putSess slot { x with mapHeld := b, dirHeld := k }) := .putSess ⟨rfl, rfl, rfl, rfl, rfl⟩
  exact (hv.trans hw).trans (.of_only State.flagIf_only)

theorem settleText (n : Nat) : s.Beside slot (s.settleText slot n) :=
  trans (u := s.putSd _ _) (.of_only State.putSd_only) (.putSess ⟨rfl, rfl, rfl, rfl, rfl⟩)

theorem recount : s.Beside slot (s.recount slot) := by
  obtain ⟨r, c, p, h⟩ := s.sess_recount slot
  exact .of_sessions State.recount_only (h ▸ ⟨rfl, rfl, rfl, rfl, rfl⟩)

theorem wakeOutboxes (sd : Nat) : s.Beside slot (s.wakeOutboxes sd) := by
  refine .of_sessions State.wakeOutboxes_only ?_
  rcases s.sess_wakeOutboxes sd slot with h | h <;> rw [h]
  · exact .refl _
  · exact ⟨rfl, rfl, rfl, rfl, rfl⟩

theorem dropRef (page : Nat) (who : Option Nat) : s.Beside slot (s.dropRef page who) := .of_only State.dropRef_only

theorem trimTail (n : Nat) : s.Beside slot (s.trimTail slot n) := by
  unfold State.trimTail
  split
  · exact refl s
  · extract_lets x gone _ c
    exact trans (u := s.putSess slot { x with cur := c }) (.putSess ⟨rfl, rfl, rfl, rfl, rfl⟩)
      (.foldl (fun v (p : Nat × Nat) => dropRef (s := v) p.2 _) _ _)

/-- A record enters the session's outbox, or waits before it (R63). -/
theorem sessionRecord (type status : Nat) (body text : List Byte) :
    s.Beside slot (s.sessionRecord slot type status body text) := by
  unfold State.sessionRecord State.putRecord
  extract_lets x n d before
  refine .ite (.putSess ⟨rfl, rfl, rfl, rfl, rfl⟩) ?_
  split
  · exact .putSess ⟨rfl, rfl, rfl, rfl, rfl⟩
  next i p _ =>
    extract_lets v
    have hv : s.Beside slot v := .of_only State.putSd_only
    refine (hv.trans (.putSess ?_)).trans (.of_only State.checkOutboxLow_only)
    exact ⟨rfl, rfl, rfl, rfl, rfl⟩

end State.Beside

end Sys2Proof.Machine

namespace Sys2Proof.Machine

/-! ### Members that leave their step (R38, R84, R86) -/

/-- The session of a member that has been rolled back to its last seal `e` and whose lock is free. -/
structure Session.RolledTo (x : Session) (e : Entry) : Prop where
  committed : x.cur.entry.committed = e.committed
  waiting : x.waiting = []
  holder : x.cur.entry.holder = .none

/-- A session whose core is that of its last seal (R38). -/
def Session.rolls (x : Session) : Session := { x with cur := x.rolledBack, reserved := 0 }

/-- A rollback puts the core of the last seal in place; the rest of it is work beside the session. -/
theorem State.rollback_beside (s : State) (slot : Nat) :
    (s.putSess slot (s.sess slot).rolls).Beside slot (s.rollback slot) := by
  unfold State.rollback
  extract_lets x back gained n d v w z
  have hw : (s.putSess slot (s.sess slot).rolls).Beside slot w := by
    have h : w = State.putSd (s.putSess slot (s.sess slot).rolls) n
        { d with outboxReserved := d.outboxReserved - x.reserved } := rfl
    exact h ▸ .of_only State.putSd_only
  have hz : w.Beside slot z := .foldl (fun (u : State) p => .dropRef (s := u) p _) _ _
  exact (((hw.trans hz).trans (.trimTail _)).trans .settleMap).trans (.trans .recount (.wakeOutboxes _))

theorem State.dropPushed_none {s : State} {slot : Nat} (h : aget s.migrations slot = none) : s.dropPushed slot = s := by
  unfold State.dropPushed
  rw [h]

@[simp] theorem State.sess_unlock (s : State) (slot : Nat) :
    (s.unlock slot).sess slot = (s.sess slot).withEntry { (s.sess slot).cur.entry with holder := .none, leaseEnd := 0 } :=
  State.sess_putEntry ..

theorem State.unlock_only {s : State} {slot : Nat} :
    Only (fun s t => { s with sessions := t.sessions }) s (s.unlock slot) := State.putEntry_only

/-- A member rolled back: it is marked removed, its session is READY at its last seal under no lock. -/
theorem State.rollMember_spec {s : State} {b : Bool} {m : Member} (hw : (s.sess m.slot).waiting = [])
    (hm : aget s.migrations m.slot = none) :
    ((s.rollMember b m).sess m.slot).RolledTo (s.sess m.slot).shadow.entry ∧
      ((s.rollMember b m).entry m.slot).state = .ready ∧ (s.rollMember b m).migrations = s.migrations ∧
      ∀ c, (s.rollMember b m).stream c = (s.updMember b m.slot fun q => { q with removed := true }).stream c := by
  generalize hu : s.rollMember b m = u
  unfold State.rollMember at hu
  extract_lets s1 s2 s3 at hu
  have h1 : s1.sess m.slot = s.sess m.slot := State.updMember_only.keeps (State.sess · m.slot)
  have h2 : s2.sess m.slot = s.sess m.slot := (State.releaseMember_only.keeps (State.sess · m.slot)).trans h1
  have hb12 : s1.Beside m.slot s2 := .of_only State.releaseMember_only
  have hb23 := s2.rollback_beside m.slot
  have hmig : (s2.rollback m.slot).migrations = s.migrations :=
    hb23.migrations.trans (hb12.migrations.trans (State.updMember_only.keeps State.migrations))
  have hstream : ∀ c, (s2.rollback m.slot).stream c = s1.stream c := fun c =>
    (hb23.stream c).trans (hb12.stream c)
  have hx := hb23.session
  rw [State.sess_putSess, h2] at hx
  have e3 : s3 = (s2.rollback m.slot).unlock m.slot := State.dropPushed_none (by
    rw [State.unlock_only.keeps State.migrations, hmig, hm])
  generalize s2.rollback m.slot = v at hmig hstream hx e3
  have h3 : s3.sess m.slot = (v.sess m.slot).withEntry { (v.sess m.slot).cur.entry with holder := .none, leaseEnd := 0 } := by
    rw [e3, State.sess_unlock]
  have hux : u.sess m.slot = (s3.sess m.slot).moved .ready s3.now := hu ▸ State.sess_setState ..
  have hku : Only (fun s t => { s with sessions := t.sessions }) v u := by
    rw [← hu, e3]; exact State.unlock_only.then State.setState_only
  refine ⟨⟨?_, ?_, ?_⟩, ?_, (hku.keeps State.migrations).trans hmig, fun c =>
    (hku.keeps (State.stream · c)).trans (hstream c)⟩
  · rw [hux, h3]; exact hx.committed
  · rw [hux, h3]; exact hx.waiting.trans hw
  · rw [hux, h3]; rfl
  · rw [State.entry, hux]; rfl

/-- No live member of a slot is left once its members are marked removed. -/
theorem State.member_removed {s u : State} {b : Bool} {slot : Nat} {m : Member} (h : s.member b slot = some m)
    (hu : u.stream b = (s.updMember b slot fun q => { q with removed := true }).stream b) : u.member b slot = none := by
  obtain ⟨r, hr, -⟩ := State.member_run h
  unfold State.member
  rw [hu, State.stream_updMember hr, Option.bind_some]
  unfold StepRun.live
  rw [List.find?_eq_none]
  intro q hq
  obtain ⟨hq, hlive⟩ := List.mem_filter.mp hq
  obtain ⟨p, -, rfl⟩ := List.mem_map.mp hq
  split at hlive
  · cases hlive
  next hp => rw [if_neg hp]; simpa using hp

/-- A rolled-back session that is fenced and reported stands as rolled back (R84). -/
theorem State.fenceReport_rolled {s : State} {slot : Nat} {e : Entry} (r : FenceReason) (h : (s.sess slot).RolledTo e) :
    ((s.fenceReport slot r).sess slot).RolledTo e ∧ ((s.fenceReport slot r).entry slot).state = .fenced := by
  obtain ⟨fw, nw, n, now, hf⟩ := s.sess_fence slot r
  obtain ⟨o, k, u, he⟩ := (s.fence slot r).sess_sessionEvent slot 0x03 [(33, 1, r.code), (40, 8, s.now)]
  unfold State.fenceReport State.entry
  rw [he, hf]
  exact ⟨⟨h.committed, h.waiting, rfl⟩, rfl⟩

theorem State.fenceReport_only {s : State} {slot : Nat} {r : FenceReason} :
    Only (fun s t => { s with regs := t.regs, flagSets := t.flagSets, sessions := t.sessions, sds := t.sds }) s
      (s.fenceReport slot r) := State.fence_only.mono.then State.sessionEvent_only

theorem State.member_slot {s : State} {b : Bool} {slot : Nat} {m : Member} (h : s.member b slot = some m) : m.slot = slot := by
  obtain ⟨r, -, hfind⟩ := State.member_run h
  simpa using List.find?_some hfind

/-- A member that has left its step: its session is READY, or FENCED where its pages are lost (R84). -/
structure State.Left (s : State) (b : Bool) (slot : Nat) (why : RemoveCause) (e : Entry) : Prop where
  session : (s.sess slot).RolledTo e
  state : (s.entry slot).state = if why = .unreachable then .ready else .fenced
  member : s.member b slot = none

theorem State.removeMember_left {s : State} {b : Bool} {slot : Nat} {m : Member} (why : RemoveCause)
    (hm : s.member b slot = some m) (ho : m.out = none) (hs : (s.stream b).run.any (fun r => r.sealPt.isSome) = false)
    (hw : (s.sess slot).waiting = []) (hg : aget s.migrations slot = none) :
    (s.removeMember b slot why).Left b slot why (s.sess slot).shadow.entry := by
  obtain rfl := State.member_slot hm
  obtain ⟨hr, hst, hmig, hstream⟩ := State.rollMember_spec (b := b) hw hg
  have hgone := State.member_removed hm (hstream b)
  unfold State.removeMember
  rw [hm]
  dsimp only
  rw [ho, hs, if_neg (by decide)]
  have hkf : Only (fun s t => { s with regs := t.regs, flagSets := t.flagSets }) (s.rollMember b m)
    ((s.rollMember b m).setFlag fRemoved 0) := State.setFlag_only
  have hx := hkf.keeps (State.sess · m.slot)
  have hg' : aget ((s.rollMember b m).setFlag fRemoved 0).migrations m.slot = none := by
    rw [hkf.keeps State.migrations, hmig, hg]
  have hgone' : ((s.rollMember b m).setFlag fRemoved 0).member b m.slot = none :=
    (hkf.keeps (State.member · b m.slot)).trans hgone
  rw [← hx] at hr
  rw [State.entry, ← hx] at hst
  generalize (s.rollMember b m).setFlag fRemoved 0 = u at hr hst hg' hgone'
  have hfence : ∀ r w, w ≠ .unreachable → (u.fenceReport m.slot r).Left b m.slot w (s.sess m.slot).shadow.entry :=
    fun r w hne =>
    have ⟨h1, h2⟩ := State.fenceReport_rolled r hr
    ⟨h1, h2.trans (if_neg hne).symm, (State.fenceReport_only.keeps (State.member · b m.slot)).trans hgone'⟩
  rw [State.endPush_none hg']
  cases why with
  | unreachable => exact ⟨hr, hst, hgone'⟩
  | poison => exact hfence .poison .poison nofun
  | tierLost => exact hfence .tierLost .tierLost nofun
  | dieLost => exact hfence .dieLost .dieLost nofun

theorem memberRemove_removes (s : State) (slot t : Nat) (s1 : Bool) (why : RemoveCause) (m : Member) (r : StepRun)
    (hr : (s.stream s1).run = some r) (hp : r.sealPt = none) (hm : s.member s1 slot = some m) (ho : m.out = none)
    (hw : (s.sess slot).waiting = []) (hg : aget s.migrations slot = none) :
    Completes (.memberRemove s1 slot why t) s fun s' =>
      s'.member s1 slot = none ∧ (s'.entry slot).holder = .none ∧
      (s'.entry slot).committed = (s.sess slot).shadow.entry.committed ∧
      (s'.entry slot).state = (if why = .unreachable then .ready else .fenced) := by
  have hs : ((s.stamp t).stream s1).run.any (fun r => r.sealPt.isSome) = false := by
    rw [show ((s.stamp t).stream s1).run = some r from hr, Option.any_some, hp]; rfl
  have hm' : (s.stamp t).member s1 slot = some m := hm
  have hl := State.removeMember_left (s := s.stamp t) why hm' ho hs hw hg
  have he : (s.stamp t).memberRemove s1 slot why = (s.stamp t).removeMember s1 slot why := by
    unfold State.memberRemove
    rw [hm']
    dsimp only
    rw [ho, hs, if_neg (by decide)]
    exact State.drainSession_quiet hl.session.waiting
  exact ⟨_, congrArg Host.Outcome.next he, hl.member, hl.session.holder, hl.session.committed, hl.state⟩

/-! ### Steps that are abandoned (R86, R92) -/

theorem State.newStepRecord_only {s : State} {b : Bool} {r : StepRecord} :
    Only (fun s t => { s with mem := t.mem, s0 := t.s0, s1 := t.s1 }) s (s.newStepRecord b r) :=
  .ite .refl (State.putStepRecord_only.then State.putStream_only)

theorem State.endRun_run (s : State) (b : Bool) : ((s.endRun b).stream b).run = none := by
  rw [State.endRun, State.stream_putStream]

/-- The abandonment of a step of one live member rolls the member back, then writes the step's record and frees the
stream. -/
theorem State.abandon_one {s : State} {b : Bool} {r : StepRun} {m : Member} (hr : (s.stream b).run = some r)
    (hp : r.sealPt = none) (hl : r.live = [m]) (hw : (s.sess m.slot).waiting = []) (hg : aget s.migrations m.slot = none) :
    ((s.abandon b).sess m.slot).RolledTo (s.sess m.slot).shadow.entry ∧ ((s.abandon b).entry m.slot).state = .ready ∧
      ((s.abandon b).stream b).run = none := by
  obtain ⟨hroll, hst, -, -⟩ := State.rollMember_spec (b := b) hw hg
  generalize hu : s.abandon b = u
  unfold State.abandon at hu
  rw [hr] at hu
  dsimp only at hu
  rw [hp, hl, if_neg (by decide), List.foldl_cons, List.foldl_nil, List.foldl_cons, List.foldl_nil] at hu
  generalize s.rollMember b m = v at hroll hst hu
  generalize hc : v.takeEnergy.2.countFor 0 15 v.takeEnergy.1 = w at hu
  have hkw : Only (fun s t => { s with power := t.power, tenants := t.tenants }) v w :=
    hc ▸ State.takeEnergy_only.mono.then State.countFor_only
  generalize StepRun.record _ b true w.now = rec at hu
  have hkx : Only (fun s t => { s with mem := t.mem, s0 := t.s0, s1 := t.s1 }) w ((w.newStepRecord b rec).endRun b) :=
    State.newStepRecord_only.then State.endRun_only
  have hrun := (w.newStepRecord b rec).endRun_run b
  generalize (w.newStepRecord b rec).endRun b = x at hu hkx hrun
  have hkf : Only (fun s t => { s with regs := t.regs, flagSets := t.flagSets }) x (x.setFlag fAbandoned 0) :=
    State.setFlag_only
  have hx : (x.setFlag fAbandoned 0).sess m.slot = v.sess m.slot :=
    (hkf.keeps (State.sess · m.slot)).trans ((hkx.keeps (State.sess · m.slot)).trans (hkw.keeps (State.sess · m.slot)))
  rw [← hx] at hroll
  rw [State.entry, ← hx] at hst
  rw [State.drainSession_quiet hroll.waiting] at hu
  subst hu
  exact ⟨hroll, hst, (hkf.keeps (State.stream · b)) ▸ hrun⟩

theorem stepAbandon_rolls (s : State) (t : Nat) (s1 : Bool) (m : Member) (r : StepRun) (hr : (s.stream s1).run = some r)
    (hp : r.sealPt = none) (hl : r.live = [m]) (hw : (s.sess m.slot).waiting = []) (hg : aget s.migrations m.slot = none) :
    Completes (.stepAbandon s1 t) s fun s' =>
      (s'.stream s1).run = none ∧ (s'.entry m.slot).state = .ready ∧ (s'.entry m.slot).holder = .none ∧
      (s'.entry m.slot).committed = (s.sess m.slot).shadow.entry.committed := by
  obtain ⟨hroll, hst, hrun⟩ := State.abandon_one (s := s.stamp t) hr hp hl hw hg
  exact ⟨_, rfl, hrun, hst, hroll.holder, hroll.committed⟩

end Sys2Proof.Machine

namespace Sys2Proof.Machine

/-! ### The reservation of a member that needs nothing new (R76, R166) -/

/-- What a reservation that finds every page in place may change. -/
def State.whileReserving (s t : State) : State :=
  { s with regs := t.regs, flagSets := t.flagSets, sessions := t.sessions, sds := t.sds }

theorem State.settleMap_only {s : State} {slot : Nat} : Only State.whileReserving s (s.settleMap slot) := by
  unfold State.settleMap
  extract_lets x n d b k free v
  have hv : Only State.whileReserving s v := rfl
  have hw : Only State.whileReserving v (v.putSess slot { x with mapHeld := b, dirHeld := k }) := rfl
  exact (hv.set hw).set State.flagIf_only.mono

theorem State.sess_settleMap (s : State) (slot : Nat) :
    (s.settleMap slot).sess slot =
      { s.sess slot with
        mapHeld := mapBlocksOf (s.sess slot).cur.kvMap, dirHeld := dirPagesOf (s.sess slot).cur.kvMap } :=
  (congrArg (agetD · slot (Session.free slot)) (s.settleMap_aside slot).sessions).trans (State.sess_putSess ..)

theorem cowBlocks_none (c : SessionCore) : cowBlocks c [] = 0 := by
  unfold cowBlocks sumBy countBy
  simp

/-- A session whose map holds the blocks that it needs settles it without taking more. -/
theorem State.reserveMap_held {s : State} {slot : Nat} (hb : (s.sess slot).mapHeld = mapBlocksOf (s.sess slot).cur.kvMap)
    (hk : (s.sess slot).dirHeld = dirPagesOf (s.sess slot).cur.kvMap) :
    ∃ u, s.reserveMap slot [] = some (0, u) ∧ Only State.whileReserving s u ∧ u.sess slot = s.sess slot := by
  have hno : ¬ ((s.sd (s.sess slot).cur.entry.homeSd).mapFree + (s.sess slot).mapHeld <
        mapBlocksOf (s.sess slot).cur.kvMap + 0 ∨
      (s.sd (s.sess slot).cur.entry.homeSd).dirFree + (s.sess slot).dirHeld < dirPagesOf (s.sess slot).cur.kvMap) := by
    rw [hb, hk]
    omega
  unfold State.reserveMap
  extract_lets x d b k extra v w
  have hx : extra = 0 := cowBlocks_none _
  clear_value extra
  subst hx
  refine ⟨v.putSd x.cur.entry.homeSd { w with mapFree := w.mapFree - 0 }, if_neg hno, ?_, ?_⟩
  · exact State.settleMap_only.set rfl
  · refine (State.sess_settleMap s slot).trans ?_
    rw [← hb, ← hk]

/-- What the next position of a session needs is in place: its page of every layer-group of this package, in T0 and its
own, and the metadata page in T0 (R76). -/
structure State.InPlace (s : State) (c : SessionCore) (m : Model) : Prop where
  pages : ((List.range m.layerGroups).all fun g => (m.remoteOf g).isSome ||
    decide (ceilDiv (c.kvLen + 1) m.pageTokens ≤ (c.lg g).usas.length)) = true
  written : ((c.writtenPages m c.kvLen 1).all fun p => decide (s.refCount p.2 ≤ 1) &&
    (s.leaf p.2).any fun l => l.tier == 0) = true
  metadata : (s.leaf c.entry.metaUsa).any (fun l => l.tier == 0) = true

theorem not_outside_of_inside {o : Option Leaf} (h : o.any (fun l => l.tier == 0) = true) :
    o.any (fun l => l.tier != 0) = false := by
  cases o with
  | none => rfl
  | some l => simpa using h

namespace State.InPlace
variable {s : State} {c : SessionCore} {m : Model}

/-- No layer-group grows. -/
theorem grows (h : s.InPlace c m) :
    ∀ p ∈ ((List.range m.layerGroups).filter fun g => (m.remoteOf g).isNone).map fun g =>
      (g, ceilDiv (c.kvLen + 1) m.pageTokens - (c.lg g).usas.length), p.2 = 0 := by
  intro p hp
  obtain ⟨g, hg, rfl⟩ := List.mem_map.mp hp
  obtain ⟨hin, hlocal⟩ := List.mem_filter.mp hg
  have hpage := List.all_eq_true.mp h.pages g hin
  rw [Option.isNone_iff_eq_none.mp hlocal, Option.isSome_none, Bool.false_or] at hpage
  exact Nat.sub_eq_zero_of_le (of_decide_eq_true hpage)

theorem owned (h : s.InPlace c m) {p : Nat × Nat} (hp : p ∈ c.writtenPages m c.kvLen 1) :
    s.refCount p.2 ≤ 1 ∧ (s.leaf p.2).any (fun l => l.tier == 0) = true := by
  simpa using List.all_eq_true.mp h.written p hp

/-- No page is copied. -/
theorem shared (h : s.InPlace c m) : ((c.writtenPages m c.kvLen 1).filter fun p => 1 < s.refCount p.2) = [] := by
  rw [List.filter_eq_nil_iff]
  intro p hp
  simpa using (h.owned hp).1

/-- No page is caged up. -/
theorem ups (h : s.InPlace c m) :
    ((c.entry.metaUsa :: ((c.writtenPages m c.kvLen 1).filter fun p => s.refCount p.2 ≤ 1).map (·.2)).filter fun u =>
      (s.leaf u).any fun l => l.tier != 0) = [] := by
  rw [List.filter_eq_nil_iff]
  intro u hu
  rw [Bool.not_eq_true]
  refine not_outside_of_inside ?_
  rcases List.mem_cons.mp hu with rfl | hu
  · exact h.metadata
  · obtain ⟨p, hp, rfl⟩ := List.mem_map.mp hu
    exact (h.owned (List.mem_of_mem_filter hp)).2

end State.InPlace

theorem State.quotaFits_zero (s : State) (t tier : Nat) : s.quotaFits t tier 0 = true := by
  simp [State.quotaFits]

theorem sumBy_zero {α : Type} {f : α → Nat} {l : List α} (h : ∀ x ∈ l, f x = 0) : sumBy f l = 0 := by
  unfold sumBy
  rw [List.sum_eq_zero_iff]
  intro n hn
  obtain ⟨x, hx, rfl⟩ := List.mem_map.mp hn
  exact h x hx

/-- A reservation that finds everything in place succeeds without pages or copies. -/
theorem State.reserveStep_inPlace {s : State} {slot : Nat} {m : Model} (hd : (s.entry slot).classD = false)
    (h : s.InPlace (s.sess slot).cur m) (hb : (s.sess slot).mapHeld = mapBlocksOf (s.sess slot).cur.kvMap)
    (hk : (s.sess slot).dirHeld = dirPagesOf (s.sess slot).cur.kvMap) :
    ∃ u, s.reserveStep slot m (s.sess slot).cur.kvLen 1 = .ok u [] [] 0 ∧ Only State.whileReserving s u ∧
      u.sess slot = s.sess slot := by
  obtain ⟨u, hu, honly, hsess⟩ := State.reserveMap_held hb hk
  refine ⟨u, ?_, honly, hsess⟩
  have hdur : ∀ n, s.durableFits slot n = true := fun n => by rw [State.durableFits, hd]; rfl
  unfold State.reserveStep
  extract_lets c e use need old shared own ups upUse fresh dirty full
  have hneed : sumBy (·.2) need = 0 := sumBy_zero h.grows
  have hgrow : (need.filter fun p => p.2 != 0) = [] := by
    rw [List.filter_eq_nil_iff]
    intro p hp
    simpa using h.grows p hp
  have hshared : shared = [] := h.shared
  have hups : ups = [] := h.ups
  have hfresh : fresh = 0 := by
    unfold fresh
    rw [hneed, hshared, List.length_nil, Nat.zero_add, Nat.zero_mul]
  have hup : upUse = 0 := by
    unfold upUse
    rw [hups]
    rfl
  rw [hdur, Bool.not_true, if_neg Bool.false_ne_true, hups, List.any_nil, if_neg Bool.false_ne_true, hfresh, hup,
    State.quotaFits_zero, Bool.not_true, if_neg Bool.false_ne_true, hgrow, hshared]
  dsimp only [State.growGroups, State.reserveCows, State.upCages]
  rw [hu]

end Sys2Proof.Machine

namespace Sys2Proof.Machine

/-! ### A session that decodes one token (R72, R73) -/

/-- A session with its open token alone to process. -/
structure Session.OneToken (x : Session) : Prop where
  pending : x.pending = []
  openToken : x.cur.openToken.isSome = true
  inputHeld : x.inputHeld = false

theorem Session.OneToken.positions {x : Session} (h : x.OneToken) : x.positions = 1 := by
  rw [Session.positions, h.pending, h.openToken]
  rfl

/-- The shape of a decode member without drafts. -/
def Shape.oneToken : Shape := { decode := true, drafts := 0, carried := 0, cls := 0, worst := 1 }

theorem State.shapeOf_oneToken {s : State} {slot budget room n : Nat} {m : Model} (h : (s.sess slot).OneToken)
    (hm : m.draftHead = false) (hb : 1 ≤ budget) (hr : 1 ≤ room) :
    s.shapeOf false slot 0 budget room n m = some .oneToken := by
  have hno : ¬ (budget = 0 ∨ room = 0) := by omega
  have hdraft : s.draftCount (s.sess slot) m budget room = 0 := by
    unfold State.draftCount
    rw [hm]
    rfl
  unfold State.shapeOf
  dsimp only
  rw [h.positions, h.inputHeld, if_pos (by rfl), if_neg hno, hdraft, h.pending]
  rfl

theorem State.eligible_ready {s : State} {slot : Nat} (h : s.eligible false slot = true) (hp : (s.sess slot).pending = []) :
    (s.sess slot).inputHeld = false := by
  unfold State.eligible at h
  simp only [hp, Bool.and_eq_true] at h
  simpa using h.1.1.1.1.1.1.2

/-- The one session of a package is the next to be tried where it may join a step. -/
theorem Forming.next_only {f : Forming} {slot : Nat} {x : Session} (hs : f.s.sessions = [(slot, x)])
    (he : f.s.eligible false slot = true) (ht : f.tried = []) : f.next false = some slot := by
  unfold Forming.next
  extract_lets cands tenants
  have hc : cands = [slot] := by
    unfold cands
    rw [hs, ht]
    simp [he]
  have hn : tenants = [(f.s.entry slot).tenant] := by
    unfold tenants
    rw [hc]
    rfl
  rw [hn, hc]
  dsimp only [minBy]
  rw [List.filter_cons_of_pos (by simp)]
  rfl

/-! ### A session joins the step (R59, R77) -/

/-- What the admission of a session may change. -/
def State.whileForming (s t : State) : State :=
  { s with draws := t.draws, regs := t.regs, flagSets := t.flagSets, sessions := t.sessions, sds := t.sds, tenants := t.tenants }

/-- What a step former has come to once a session has joined: its member is the last, its session is RUNNING under the
step former's lock, and its tenant has reserved W. -/
structure Forming.Joined (g : Forming) (ms : List Member) (s : State) (slot : Nat) (h : Shape) : Prop where
  members : ∃ mm, g.members = ms ++ [mm] ∧ mm.slot = slot ∧ mm.decode = h.decode ∧ mm.drafts = h.drafts ∧
    mm.worst = h.worst
  state : (g.s.entry slot).state = .running
  holder : (g.s.entry slot).holder = .stepFormer false
  reserved : (g.s.tenant (s.entry slot).tenant).reserved = (s.tenant (s.entry slot).tenant).reserved + h.worst
  frame : Only State.whileForming s g.s

theorem Forming.take_joined (f : Forming) (slot matched : Nat) (h : Shape) (s : State) (pages : List Nat)
    (cows : List CowPage) (blocks : Nat) : (f.take false slot matched h s pages cows blocks).Joined f.members s slot h := by
  unfold Forming.take
  extract_lets x e n cs
  generalize hq : s.draw = q
  obtain ⟨d, u⟩ := q
  dsimp -zeta only
  extract_lets mm v free d' w t fin z g
  have hu : u.sess = s.sess ∧ u.tenant = s.tenant ∧ Only State.whileForming s u := by
    cases hq
    exact ⟨rfl, rfl, rfl⟩
  obtain ⟨husess, hutenant, hu⟩ := hu
  have hv : Only State.whileForming u v := rfl
  have hw : Only (fun s t => { s with regs := t.regs, flagSets := t.flagSets, sds := t.sds }) v w :=
    Only.then (u := v.putSd n _) rfl State.checkOutboxLow_only
  have hz : Only State.whileForming w z := rfl
  have hg : Only (fun s t => { s with sessions := t.sessions }) z g := State.recount_only
  obtain ⟨r, c, p, hx⟩ := z.sess_recount slot
  have hzx : z.sess slot = _ := (hw.keeps (State.sess · slot)).trans (State.sess_putSess ..)
  have hwt : w.tenant e.tenant = s.tenant e.tenant :=
    (hw.keeps (State.tenant · e.tenant)).trans (congrFun hutenant _)
  have hgt : g.tenant e.tenant = _ := (hg.keeps (State.tenant · e.tenant)).trans (State.tenant_putTenant ..)
  have hgx : (g.entry slot).state = .running ∧ (g.entry slot).holder = .stepFormer false := by
    rw [State.entry, hx, hzx]
    exact ⟨rfl, rfl⟩
  refine ⟨⟨mm, rfl, rfl, rfl, rfl, rfl⟩, hgx.1, hgx.2, ?_, (((hu.set hv).set hw.mono).set hz).set hg.mono⟩
  calc (g.tenant e.tenant).reserved = (w.tenant e.tenant).reserved + h.worst := congrArg Tenant.reserved hgt
    _ = (s.tenant e.tenant).reserved + h.worst := by rw [hwt]

/-! ### The admission of the one session of a package (R63, R77, R495 to R497) -/

/-- A session that waits to decode one token, with room in its outbox. -/
structure State.Decodes (s : State) (slot : Nat) (m : Model) : Prop extends (s.sess slot).OneToken where
  model : aget s.models (s.entry slot).model = some m
  draftHead : m.draftHead = false
  outbox : s.outboxTest slot = true
  classD : (s.entry slot).classD = false
  inPlace : s.InPlace (s.sess slot).cur m
  mapHeld : (s.sess slot).mapHeld = mapBlocksOf (s.sess slot).cur.kvMap
  dirHeld : (s.sess slot).dirHeld = dirPagesOf (s.sess slot).cur.kvMap

/-- A tenant that may run one more member. -/
structure Tenant.Spare (t : Tenant) : Prop where
  remaining : 1 ≤ t.remaining
  bucketRate : t.bucketRate = 0
  maxRunning : 1 ≤ t.maxRunning

theorem Forming.tryAdmit_joined {f : Forming} {slot : Nat} {m : Model} (hd : f.s.Decodes slot m)
    (ht : (f.s.tenant (f.s.entry slot).tenant).Spare) (hb : 1 ≤ f.budget) (h0 : f.s.s0.run = none) (h1 : f.s.s1.run = none)
    (hm : f.members = []) :
    ∃ u, Only State.whileReserving f.s u ∧ u.sess slot = f.s.sess slot ∧
      (f.tryAdmit false slot).Joined [] u slot .oneToken := by
  obtain ⟨u, hu, honly, hsess⟩ := State.reserveStep_inPlace hd.classD hd.inPlace hd.mapHeld hd.dirHeld
  refine ⟨u, honly, hsess, ?_⟩
  have hpos := hd.toOneToken.positions
  have hrun : ∀ g : Forming, g.s.s0.run = none → g.s.s1.run = none → g.members = [] → ∀ k, g.running k = 0 := by
    intro g h0 h1 hm k
    unfold Forming.running
    rw [h0, h1, hm]
    rfl
  unfold Forming.tryAdmit
  extract_lets f1 s e t
  rw [show aget s.models e.model = some m from hd.model]
  dsimp -zeta only
  rw [show s.outboxTest slot = true from hd.outbox, Bool.not_true, if_neg Bool.false_ne_true]
  extract_lets s0 f2
  rw [if_neg (show ¬ 2 ≤ (s.sess slot).positions by rw [hpos]; decide)]
  dsimp -zeta only
  have hroom : t.room = t.remaining := if_pos ht.bucketRate
  have hleast : (s.sess slot).smallestWorst false 0 = 1 := if_neg (by rw [hpos]; simp)
  rw [State.shapeOf_oneToken (s := s) hd.toOneToken hd.draftHead (budget := f2.budget) hb (by decide)]
  dsimp -zeta only
  rw [hleast, if_neg (Nat.not_lt.mpr ht.remaining), hroom,
    State.shapeOf_oneToken (s := s) hd.toOneToken hd.draftHead (budget := f2.budget) hb ht.remaining]
  dsimp -zeta only
  rw [hrun f2 h0 h1 hm, if_neg (Nat.not_le.mpr ht.maxRunning)]
  have hres : s.reserveStep slot m ((s.sess slot).cur.kvLen + 0) (Shape.oneToken.inputs (s.sess slot)) = .ok u [] [] 0 := hu
  unfold Forming.tryReserve
  dsimp only
  rw [hres, ← hm]
  exact Forming.take_joined f2 slot 0 .oneToken u [] [] 0

end Sys2Proof.Machine

namespace Sys2Proof.Machine

/-! ### The step former (R67, R77) -/

/-- A tenant whose finish tag on S0 is at least the stream's virtual time (R77). -/
def Tenant.floored (v : Nat) (t : Tenant) : Tenant := if tagLower v (t.finish false) v then t.setFinish false v else t

/-- A state whose tenants' finish tags are at least the stream's virtual time. -/
def State.floored (s : State) (v : Nat) : State := { s with tenants := s.tenants.map fun p => (p.1, p.2.floored v) }

theorem Tenant.setFinish_self (t : Tenant) : t.setFinish false t.finish0 = t := rfl

theorem Tenant.floored_eq (t : Tenant) (v : Nat) : ∃ f, t.floored v = t.setFinish false f := by
  unfold Tenant.floored
  split
  · exact ⟨v, rfl⟩
  · exact ⟨_, t.setFinish_self.symm⟩

theorem State.tenant_floored (s : State) (v k : Nat) : ∃ f, (s.floored v).tenant k = (s.tenant k).setFinish false f := by
  unfold State.tenant agetD State.floored
  dsimp only
  rw [aget_map s.tenants (Tenant.floored v)]
  cases aget s.tenants k with
  | none => exact ⟨_, Tenant.undeclared.setFinish_self.symm⟩
  | some t =>
    rw [Option.map_some, Option.getD_some, Option.getD_some]
    exact t.floored_eq v

theorem Forming.loop_one {f : Forming} {limit slot : Nat} (hb : 1 ≤ f.budget) (hl : 1 ≤ limit) (hm : f.members = [])
    (hn : f.next false = some slot) : Forming.loop false limit 1 f = f.tryAdmit false slot := by
  have hno : ¬ (f.budget = 0 ∨ limit ≤ f.members.length) := by rw [hm, List.length_nil]; omega
  unfold Forming.loop
  rw [if_neg hno, hn]
  rfl

theorem State.countPreemption_none {s : State} (h : s.s1.run = none) : s.countPreemption = s := by
  unfold State.countPreemption
  rw [h]

theorem State.endShifts_only {s : State} {b : Bool} :
    Only (fun s t => { s with regs := t.regs, shifts := t.shifts }) s (s.endShifts b) := by
  unfold State.endShifts
  extract_lets ends v
  refine .ite .refl (Only.set (u := v) rfl (.foldl (fun _ _ => ?_) _))
  exact State.setRegFld_only.mono.then State.markReg_only

/-- An S0 step has formed at `t` with one member that decodes one token of the session of a slot. -/
structure State.Forms (s u : State) (slot t k : Nat) : Prop where
  run : ∃ r mm, u.s0.run = some r ∧ r.number = s.s0.step + 1 ∧ r.startPt = t ∧ r.sealPt = none ∧ r.members = [mm] ∧
    mm.slot = slot ∧ mm.decode = true ∧ mm.drafts = 0 ∧ mm.worst = 1
  step : u.s0.step = s.s0.step + 1
  state : (u.entry slot).state = .running
  holder : (u.entry slot).holder = .stepFormer false
  reserved : (u.tenant k).reserved = (s.tenant k).reserved + 1

theorem State.stepForm_forms {s : State} {slot : Nat} {x : Session} {m : Model} (hmay : s.mayForm false = true)
    (h1 : s.s1.run = none) (hs : s.sessions = [(slot, x)]) (he : s.eligible false slot = true) (hd : s.Decodes slot m)
    (ht : (s.tenant (s.entry slot).tenant).Spare) (hb : 1 ≤ s.regFld 0x03 0 0x00 15 0)
    (hl : 1 ≤ s.regFld 0x03 0 0x00 63 48) :
    s.Forms (s.stepForm false) slot s.now (s.entry slot).tenant := by
  have h0 : s.s0.run = none := by
    simp only [State.mayForm, Bool.and_eq_true, Option.isNone_iff_eq_none] at hmay
    exact hmay.1.1.2
  obtain ⟨f, hf⟩ := s.tenant_floored s.s0.vtime (s.entry slot).tenant
  unfold State.stepForm
  rw [hmay, Bool.not_true, if_neg Bool.false_ne_true]
  extract_lets st floor v f0 g w r y
  have hv : v = s.floored s.s0.vtime := rfl
  have hdv : v.Decodes slot m := ⟨hd.toOneToken, hd.model, hd.draftHead, hd.outbox, hd.classD,
    ⟨hd.inPlace.pages, hd.inPlace.written, hd.inPlace.metadata⟩, hd.mapHeld, hd.dirHeld⟩
  have htv : (v.tenant (v.entry slot).tenant).Spare := by
    rw [show v.tenant (v.entry slot).tenant = _ from hf]
    exact ⟨ht.remaining, ht.bucketRate, ht.maxRunning⟩
  have hn : f0.next false = some slot := Forming.next_only hs he rfl
  have hg : g = f0.tryAdmit false slot := by
    have hlen : v.sessions.length = 1 := congrArg List.length hs
    unfold g
    rw [hlen]
    exact Forming.loop_one hb hl rfl hn
  obtain ⟨u, hu, hsess, hj⟩ := Forming.tryAdmit_joined (f := f0) hdv htv hb h0 h1 rfl
  rw [← hg] at hj
  obtain ⟨mm, hmm, hslot, hdec, hdr, hw⟩ := hj.members
  have hw1 : w.s1.run = none := by
    have hus1 : w.s1 = v.s1 := (hj.frame.keeps State.s1).trans (hu.keeps State.s1)
    rw [hus1]
    exact h1
  have hnow : w.now = s.now := (hj.frame.keeps State.now).trans (hu.keeps State.now)
  have hent : u.entry slot = s.entry slot := congrArg (fun x : Session => x.cur.entry) hsess
  have hres := hj.reserved
  rw [hent, hu.keeps (State.tenant · (s.entry slot).tenant), show f0.s.tenant (s.entry slot).tenant = _ from hf] at hres
  have hy : y.s1.run = none := hw1
  rw [hmm, List.nil_append, List.isEmpty_cons, if_neg Bool.false_ne_true, if_neg Bool.false_ne_true,
    State.countPreemption_none hy]
  exact ⟨⟨r, mm, rfl, rfl, hnow, rfl, hmm, hslot, hdec, hdr, hw⟩, rfl, hj.state, hj.holder, hres⟩

theorem stepForm_takes (s : State) (slot t : Nat) (x : Session) (m : Model) (hmay : s.mayForm false = true)
    (h1 : s.s1.run = none) (hs : s.sessions = [(slot, x)]) (he : s.eligible false slot = true) (hd : s.Decodes slot m)
    (ht : (s.tenant (s.entry slot).tenant).Spare) (hb : 1 ≤ s.regFld 0x03 0 0x00 15 0)
    (hl : 1 ≤ s.regFld 0x03 0 0x00 63 48) :
    Completes (.stepForm false t) s fun s' => s.Forms s' slot t (s.entry slot).tenant := by
  have hdt : (s.stamp t).Decodes slot m := ⟨hd.toOneToken, hd.model, hd.draftHead, hd.outbox, hd.classD,
    ⟨hd.inPlace.pages, hd.inPlace.written, hd.inPlace.metadata⟩, hd.mapHeld, hd.dirHeld⟩
  have hf := State.stepForm_forms (s := s.stamp t) hmay h1 hs he hdt ht hb hl
  have hk : Only _ ((s.stamp t).stepForm false) (((s.stamp t).stepForm false).endShifts false) := State.endShifts_only
  obtain ⟨hrun, hstep, hstate, hholder, hres⟩ := hf
  refine ⟨_, rfl, ⟨?_, ?_, ?_, ?_, ?_⟩⟩
  · rwa [hk.keeps State.s0]
  · rwa [hk.keeps State.s0]
  · rwa [hk.keeps (State.entry · slot)]
  · rwa [hk.keeps (State.entry · slot)]
  · rwa [hk.keeps (State.tenant · (s.entry slot).tenant)]

/-- Settles O18: a formed step is the admission of its one session (`stepForm_takes`); a member that leaves its step
(`memberRemove_removes`, `stepAbandon_rolls`) is rolled back. -/
theorem stepsFormAndLoseMembers : Obligations.StepsFormAndLoseMembers := by
  unfold Obligations.StepsFormAndLoseMembers
  refine ⟨?_, fun s slot t s1 why m r hr hp => ⟨?_, ?_⟩⟩
  · intro s slot t x m hmay h1 hs he hpend hopen _ hm hdraft hout hb hl hrem hrate hmax hcls hpages hwritten hmeta hmap hdir
    have hx : s.sess slot = x := by
      rw [State.sess, hs]
      simp [agetD, aget]
    subst hx
    have hone : (s.sess slot).OneToken := ⟨hpend, hopen, State.eligible_ready he hpend⟩
    obtain ⟨s', hx, h⟩ := stepForm_takes s slot t _ m hmay h1 hs he
      ⟨hone, hm, hdraft, hout, hcls, ⟨hpages, hwritten, hmeta⟩, hmap, hdir⟩ ⟨hrem, hrate, hmax⟩ hb hl
    exact ⟨s', hx, h.run, h.step, h.state, h.holder, h.reserved⟩
  · exact fun hm ho hw hg => memberRemove_removes s slot t s1 why m r hr hp hm ho hw hg
  · exact fun hl hw hg => stepAbandon_rolls s t s1 m r hr hp hl hw hg

end Sys2Proof.Machine

namespace Sys2Proof.Machine

/-! ### The seal of a member that commits (R78, R87, R88) -/

/-- No page is staged while no epoch runs (R343). -/
theorem State.beforeWrite_idle {s : State} (h : s.checkpoint.run = none) (page : Nat) :
    s.beforeWrite page = s := by
  unfold State.beforeWrite State.stagePage
  rw [h]
  exact ite_self s

namespace State.Beside
variable {slot : Nat} {s u : State}

theorem chained (k : Nat) (l : List Nat) :
    s.Beside slot (s.putSess slot
      { s.sess slot with cur := { (s.sess slot).cur with chainKey := k, chainTail := l } }) :=
  .putSess (by exact ⟨rfl, rfl, rfl, rfl, rfl⟩)

theorem advanceChain (m : Model) (n : Nat) : s.Beside slot (s.advanceChain slot m n) := by
  induction n generalizing s with
  | zero => exact refl s
  | succ n ih =>
    unfold State.advanceChain
    extract_lets x c p e k toks
    refine .ite (refl s) ?_
    have hk : s.Beside slot (s.domainKey e.homeSd (s.domainOf e.tenant)).2 := .of_only State.domainKey_only
    generalize s.domainKey e.homeSd (s.domainOf e.tenant) = q at hk ⊢
    obtain ⟨key, v⟩ := q
    dsimp -zeta only
    extract_lets prev h w
    have hw : v.Beside slot w := .of_only State.insertNode_only
    clear_value w
    exact (hk.trans hw).trans (.trans (chained _ _) ih)

theorem chainTokens (m : Model) (toks : List Nat) : s.Beside slot (s.chainTokens slot m toks) := by
  refine .trans (.putSess ?_) (advanceChain m _)
  exact ⟨rfl, rfl, rfl, rfl, rfl⟩

theorem touchMeta (h : s.checkpoint.run = none) : s.Beside slot (s.touchMeta slot) := by
  unfold State.touchMeta
  dsimp only
  rw [State.beforeWrite_idle h]
  exact .ite (refl s) (.of_only State.markWritten_only)

theorem sealText (step : Nat) (md : Model) (o : MemberOut) : s.Beside slot (s.sealText slot step md o) := by
  unfold State.sealText
  refine .ite (refl s) ?_
  extract_lets x all
  generalize releaseText all _ = q
  obtain ⟨out, held⟩ := q
  refine .trans (.trans (.putSess ?_) (.of_only State.addRegFld_only)) (sessionRecord _ _ _ _)
  exact ⟨rfl, rfl, rfl, rfl, rfl⟩

theorem parkOver : s.Beside slot (s.parkOver slot) := by
  unfold State.parkOver
  refine .ite ?_ (refl s)
  refine .trans (.putSess ?_) (.of_only State.putSd_only)
  exact ⟨rfl, rfl, rfl, rfl, rfl⟩

end State.Beside

end Sys2Proof.Machine

namespace Sys2Proof.Machine

/-! ### What a seal commits into a session (R78, R87) -/

/-- The values `y` of a session `x` that has been sealed with a member's prompt tokens and its output. -/
structure Session.Commits (x : Session) (m : Member) (o : MemberOut) (step : Nat) (y : Session) : Prop where
  committed : y.cur.entry.committed = x.cur.entry.committed + (m.promptTokens x).length + o.tokens.length
  lastSeal : y.cur.entry.lastSeal = step
  openToken : y.cur.openToken = o.tokens.getLast?
  pending : y.pending = x.pending.drop (m.matched + m.carried)
  waiting : y.waiting = x.waiting

theorem Session.Commits.alike {x y z : Session} {m : Member} {o : MemberOut} {step : Nat} (h : x.Commits m o step y)
    (h' : y.Alike z) : x.Commits m o step z :=
  ⟨h'.committed.trans h.committed, h'.lastSeal.trans h.lastSeal, h'.openToken.trans h.openToken,
    h'.pending.trans h.pending, h'.waiting.trans h.waiting⟩

/-- A session that has reached DONE (R64). -/
structure Session.Ended (x : Session) : Prop where
  state : x.cur.entry.state = .waiting
  reason : x.cur.entry.waitReason = .input
  peerDone : x.peerDone = true

theorem State.sealCore_commits {s : State} {b : Bool} {step : Nat} {m : Member} {md : Model} {o : MemberOut}
    (ho : m.out = some o) :
    s.SameMoves (s.sealCore b step m md) ∧ (s.sess m.slot).Commits m o step ((s.sealCore b step m md).sess m.slot) := by
  unfold State.sealCore
  rw [ho]
  extract_lets x e prompt drawn text seq committed kvLen _ c v
  have hx : x.Commits m o step (v.sess m.slot) := by
    rw [show v.sess m.slot = _ from State.sess_putSess ..]
    exact ⟨rfl, rfl, rfl, rfl, rfl⟩
  have hv : s.SameMoves v := ⟨rfl, rfl, rfl⟩
  have hb := State.Beside.chainTokens (s := v) (slot := m.slot) md (seq.take (kvLen - x.cur.kvLen))
  clear_value v
  exact ⟨hv.trans hb.toSameMoves, hx.alike hb.session⟩

theorem State.sess_parkOver (s : State) (slot : Nat) :
    ∃ p, (s.parkOver slot).sess slot = { s.sess slot with parkRequest := p } := by
  unfold State.parkOver
  dsimp only
  split
  · exact ⟨true, State.sess_putSess ..⟩
  · exact ⟨_, rfl⟩

theorem State.sealDone_ends (s : State) (slot step reason : Nat) :
    s.Beside slot (s.sealDone slot step reason) ∧ ((s.sealDone slot step reason).sess slot).Ended := by
  unfold State.sealDone
  extract_lets x v _ w
  have hv : s.Beside slot v := .sessionRecord ..
  have hw : v.Beside slot w := .putSess (by exact ⟨rfl, rfl, rfl, rfl, rfl⟩)
  have hp : (w.sess slot).peerDone = true := by rw [show w.sess slot = _ from State.sess_putSess ..]
  clear_value w
  have hz : w.Beside slot (w.setWait slot .input) := .putSess (by exact ⟨rfl, rfl, rfl, rfl, rfl⟩)
  refine ⟨((hv.trans hw).trans hz).trans .parkOver, ?_⟩
  obtain ⟨p, h⟩ := (w.setWait slot .input).sess_parkOver slot
  rw [h, State.sess_setWait]
  exact ⟨rfl, rfl, hp⟩

theorem State.wakeOutbox_other {s : State} {i j : Nat} (h : (s.entry j).waitReason ≠ .outboxFull) :
    (s.wakeOutbox i).sess j = s.sess j := by
  unfold State.wakeOutbox
  dsimp only
  split
  next hi =>
    obtain ⟨-, hr, -⟩ := hi
    exact State.sess_putSess_other _ _ fun e => h (e ▸ hr)
  · rfl

/-- A session that does not wait for outbox room stays as it is when room is given back (R63). -/
theorem State.wakeOutboxes_other {s : State} {j : Nat} (sd : Nat) (h : (s.entry j).waitReason ≠ .outboxFull) :
    (s.wakeOutboxes sd).sess j = s.sess j := by
  unfold State.wakeOutboxes
  generalize s.sessions.map (·.1) = l
  induction l generalizing s with
  | nil => rfl
  | cons i l ih =>
    rw [List.foldl_cons]
    split
    · have hi := State.wakeOutbox_other (i := i) h
      rw [ih (by rwa [State.entry, hi]), hi]
    · exact ih h

theorem State.returnReserved_ended {s : State} {slot : Nat} (h : (s.sess slot).Ended) :
    s.Beside slot (s.returnReserved slot) ∧ ((s.returnReserved slot).sess slot).Ended := by
  unfold State.returnReserved
  extract_lets x n _ v
  have hv : s.Beside slot v := .of_only State.putSd_only
  have hw : v.Beside slot (v.putSess slot { x with reserved := 0 }) := .putSess (by exact ⟨rfl, rfl, rfl, rfl, rfl⟩)
  have he : ((v.putSess slot { x with reserved := 0 }).sess slot).Ended := by
    rw [State.sess_putSess]
    exact ⟨h.state, h.reason, h.peerDone⟩
  refine ⟨(hv.trans hw).trans (.wakeOutboxes n), ?_⟩
  rwa [State.wakeOutboxes_other n (by rw [State.entry, he.reason]; nofun)]

theorem State.sealOutbox_waiting {s : State} {slot : Nat} (h : (s.entry slot).state = .waiting) : s.sealOutbox slot = s :=
  if_neg fun ⟨hr, _⟩ => by rw [h] at hr; cases hr

theorem State.sealPush_none {s : State} {b : Bool} {slot : Nat} (h : s.migrations = []) : s.sealPush b slot = s := by
  unfold State.sealPush
  rw [h]
  rfl

/-! ### The seal of one member (R88) -/

/-- A session that a seal has committed and that has reached DONE. -/
structure Session.SealedBy (x : Session) (m : Member) (o : MemberOut) (step : Nat) (y : Session) : Prop
    extends x.Commits m o step y, y.Ended where
  holder : y.cur.entry.holder = .none

theorem State.sealCommitted_seals {s : State} {b : Bool} {step : Nat} {m : Member} {md : Model} {o : MemberOut}
    (ho : m.out = some o) (he : o.ending = .stop) (hm : s.migrations = []) (hc : s.checkpoint.run = none) :
    s.SameMoves (s.sealCommitted b step m md) ∧
      (s.sess m.slot).SealedBy m o step ((s.sealCommitted b step m md).sess m.slot) := by
  unfold State.sealCommitted
  extract_lets a c d g h text i k l n
  have ha : s.SameMoves a := ⟨State.updMember_only.keeps State.migrations, State.updMember_only.keeps State.incoming,
    State.updMember_only.keeps State.checkpoint⟩
  have hsess : a.sess m.slot = s.sess m.slot := State.updMember_only.keeps (State.sess · m.slot)
  obtain ⟨hac, hcore⟩ : a.SameMoves c ∧ (a.sess m.slot).Commits m o step (c.sess m.slot) := State.sealCore_commits ho
  have hd : c.Beside m.slot d := .trans (.of_only State.dropOriginals_only) (.of_only State.settleMember_only)
  have hg : d.Beside m.slot g := .trans (.trans .settleMap (.settleText _)) .recount
  have hcg := hac.trans (hd.trans hg).toSameMoves
  have hh : g.Beside m.slot h := .touchMeta (by rw [(ha.trans hcg).checkpoint, hc])
  have ht : h.Beside m.slot text := by
    unfold text
    rw [ho]
    exact .sealText step md o
  obtain ⟨hti, hend⟩ : text.Beside m.slot i ∧ (i.sess m.slot).Ended := by
    unfold i State.sealTransition
    rw [ho, Option.map_some, he]
    exact text.sealDone_ends ..
  obtain ⟨hik, hkend⟩ := State.returnReserved_ended hend
  have hct := (((hd.trans hg).trans hh).trans ht).trans (hti.trans hik)
  have hk : k.sess m.slot = ((i.returnReserved m.slot).sess m.slot).withEntry _ := State.sess_unlock ..
  have hsk : s.SameMoves k := ((ha.trans hac).trans hct.toSameMoves).trans ⟨rfl, rfl, rfl⟩
  have hseal : (s.sess m.slot).SealedBy m o step (k.sess m.slot) := by
    obtain ⟨hcom, hlast, hopen, hpend, hwait⟩ := hsess ▸ hcore.alike hct.session
    rw [hk]
    exact ⟨⟨hcom, hlast, hopen, hpend, hwait⟩, ⟨hkend.state, hkend.reason, hkend.peerDone⟩, rfl⟩
  have hl : l = k := by
    unfold l
    rw [State.sealOutbox_waiting hseal.state, State.sealPush_none (hsk.migrations.trans hm)]
  clear_value n l k
  subst hl
  rw [ho]
  exact ⟨hsk.trans ⟨rfl, rfl, rfl⟩, hseal⟩

theorem State.sealMember_seals {s : State} {b : Bool} {step : Nat} {m : Member} {md : Model} {o : MemberOut}
    (hmd : s.modelOf m.slot = some md) (ho : m.out = some o) (he : o.ending = .stop) (hw : (s.sess m.slot).waiting = [])
    (hf : m.lateFence = none) (hm : s.migrations = []) (hc : s.checkpoint.run = none) :
    s.SameMoves (s.sealMember b step m) ∧ (s.sess m.slot).SealedBy m o step ((s.sealMember b step m).sess m.slot) ∧
      ((s.sealMember b step m).sess m.slot).shadow = ((s.sealMember b step m).sess m.slot).cur := by
  obtain ⟨hmoves, hseal⟩ := State.sealCommitted_seals (b := b) (step := step) (md := md) ho he hm hc
  have hn : (s.sess m.slot).cancelBefore s.now = false := by rw [Session.cancelBefore, hw, List.any_nil]
  unfold State.sealMember
  rw [hmd, hf, hn]
  dsimp only
  rw [if_neg Bool.false_ne_true]
  generalize s.sealCommitted b step m md = u at hmoves hseal
  have hx : (u.putSess m.slot { u.sess m.slot with shadow := (u.sess m.slot).cur }).sess m.slot =
      { u.sess m.slot with shadow := (u.sess m.slot).cur } := State.sess_putSess ..
  rw [State.drainSession_quiet (by rw [hx]; exact hseal.waiting.trans hw), hx]
  exact ⟨hmoves.trans ⟨rfl, rfl, rfl⟩,
    ⟨⟨hseal.committed, hseal.lastSeal, hseal.openToken, hseal.pending, hseal.waiting⟩,
      ⟨hseal.state, hseal.reason, hseal.peerDone⟩, hseal.holder⟩, rfl⟩

/-! ### SEAL_APPLY (R88) -/

/-- Nothing waits for a cut while nothing migrates (R346). -/
theorem State.afterCut_still {s : State} (hm : s.migrations = []) (hi : s.incoming = []) : s.afterCut = s := by
  unfold State.afterCut
  dsimp only
  rw [hm, List.map_nil, List.foldl_nil, hi, List.map_nil, List.foldl_nil]

theorem State.cutRecord_none {s : State} (h : s.checkpoint.run = none) (sd : Nat) : s.cutRecord sd = s := by
  unfold State.cutRecord
  rw [h]

/-- A seal that reaches one member of a table SD. -/
theorem State.sealApply_one {s : State} {b : Bool} {sd pt : Nat} {r : StepRun} {m : Member}
    (hr : (s.stream b).run = some r) (hp : r.sealPt = some pt)
    (hl : (r.live.filter fun m => tableSd m.slot == sd) = [m]) :
    s.sealApply b sd = if b then s.sealMember b r.number m else (s.sealMember b r.number m).cutRecord sd := by
  unfold State.sealApply
  rw [hr]
  dsimp only
  rw [hp, hl, Option.isNone_some, if_neg Bool.false_ne_true, List.foldl_cons, List.foldl_nil]

theorem sealApply_commits (s : State) (sd t pt : Nat) (r : StepRun) (m : Member) (o : MemberOut) (md : Model)
    (hsd : sd < 12) (hr : s.s0.run = some r) (hp : r.sealPt = some pt)
    (hl : (r.live.filter fun m => tableSd m.slot == sd) = [m]) (ho : m.out = some o) (he : o.ending = .stop)
    (hmd : s.modelOf m.slot = some md) (hw : (s.sess m.slot).waiting = []) (hf : m.lateFence = none)
    (hm : s.migrations = []) (hi : s.incoming = []) (hc : s.checkpoint.run = none) :
    Completes (.sealApply false sd t) s fun s' =>
      (s.sess m.slot).SealedBy m o r.number (s'.sess m.slot) ∧ (s'.sess m.slot).shadow = (s'.sess m.slot).cur := by
  obtain ⟨hmoves, hseal, hshadow⟩ :=
    State.sealMember_seals (s := s.stamp t) (b := false) (step := r.number) hmd ho he hw hf hm hc
  have ha : (s.stamp t).sealApply false sd = (s.stamp t).sealMember false r.number m := by
    rw [State.sealApply_one (s := s.stamp t) (b := false) hr hp hl, if_neg Bool.false_ne_true]
    exact State.cutRecord_none (by rw [hmoves.checkpoint]; exact hc) sd
  have hx : exec (.sealApply false sd t) s = .next (((s.stamp t).sealMember false r.number m).snapPart (some sd)) := by
    refine (if_pos (decide_eq_true hsd)).trans ?_
    rw [ha, if_neg Bool.false_ne_true, State.afterCut_still (hmoves.migrations.trans hm) (hmoves.incoming.trans hi)]
  refine ⟨_, hx, ?_⟩
  dsimp only
  rw [State.snapPart_only.keeps (State.sess · m.slot)]
  exact ⟨hseal, hshadow⟩

end Sys2Proof.Machine

namespace Sys2Proof.Machine

/-! ### The outcome of a step (R89, R491, R494, R500) -/

/-- The ledger has a row for a tenant. -/
def State.Lists (s : State) (k : Nat) : Prop := ∃ v, aget s.tenants k = some v

namespace State.Lists
variable {s : State} {k : Nat}

theorem putTenant (h : s.Lists k) (j : Nat) (x : Tenant) : (s.putTenant j x).Lists k := by
  obtain ⟨v, hv⟩ := h
  unfold State.Lists
  rw [show (s.putTenant j x).tenants = aset s.tenants j x from rfl, aget_aset]
  split
  · exact ⟨x, rfl⟩
  · exact ⟨v, hv⟩

theorem countFor (h : s.Lists k) (j i n : Nat) : (s.countFor j i n).Lists k := by
  unfold State.countFor
  split
  · exact h
  · exact h.putTenant j _

theorem chargeMember (h : s.Lists k) (m : Member) : (s.chargeMember m).Lists k := by
  unfold State.chargeMember
  split
  · exact h.countFor ..
  · split
    · exact h
    · exact ((((h.countFor ..).countFor ..).countFor ..).countFor ..).countFor ..

theorem splitEnergy (h : s.Lists k) (r : StepRun) : (s.splitEnergy r).Lists k := by
  unfold State.splitEnergy
  extract_lets ms a alpha ss bs share ts u
  have hu : u.Lists k := List.foldlRecOn (motive := fun v : State => v.Lists k) ts _ h fun _ hv _ _ => hv.countFor ..
  exact hu.countFor ..

theorem postCharges (h : s.Lists k) (n : Nat) : (s.postCharges n).Lists k := by
  obtain ⟨v, hv⟩ := h
  exact ⟨_, (aget_map s.tenants (fun x => x.post n s.now) k).trans (congrArg _ hv)⟩

/-- Every row of the ledger tells which step was posted last (R500). -/
theorem markPosted (h : s.Lists k) (b : Bool) (n : Nat) :
    (if b then ((s.markPosted b n).tenant k).posted1 else ((s.markPosted b n).tenant k).posted0) = n := by
  obtain ⟨v, hv⟩ := h
  have hm := (aget_map s.tenants
    (fun x => if b then { x with posted1 := n, snapPt := s.now } else { x with posted0 := n, snapPt := s.now }) k).trans
    (congrArg _ hv)
  unfold State.tenant agetD State.markPosted
  dsimp only
  rw [hm]
  cases b <;> rfl

end State.Lists

/-- What the posting of a step leaves: everything but the ledger, the records and the state of the streams. -/
def State.withOutcome (s t : State) : State :=
  { s with tenants := t.tenants, mem := t.mem, checkpoint := t.checkpoint, s0 := t.s0, s1 := t.s1 }

theorem State.endRun_free (s : State) (b : Bool) :
    ((s.endRun b).stream b).paceUntil = (if s.power.pacing then s.now + s.power.pacingUs * 1000 else 0) := by
  rw [State.endRun, State.stream_putStream]

theorem State.stepOutcome_posts {s : State} {b : Bool} {r : StepRun} {pt k : Nat} (hr : (s.stream b).run = some r)
    (hp : r.sealPt = some pt) (hl : r.live = []) (hk : s.Lists k) :
    ((s.stepOutcome b).stream b).run = none ∧
      ((s.stepOutcome b).stream b).paceUntil = (if s.power.pacing then s.now + s.power.pacingUs * 1000 else 0) ∧
      (if b then ((s.stepOutcome b).tenant k).posted1 else ((s.stepOutcome b).tenant k).posted0) = r.number := by
  unfold State.stepOutcome
  rw [hr]
  dsimp -zeta only
  rw [hp]
  dsimp -zeta only
  rw [hl, List.isEmpty_nil, Bool.not_true, if_neg Bool.false_ne_true]
  extract_lets a c d e f g
  have ha : Only State.withOutcome s a := .foldl (fun _ _ => State.chargeMember_only.mono) _
  have hc : Only State.withOutcome a c := State.splitEnergy_only.mono
  have hd : Only State.withOutcome c d := .ite .refl State.postCharges_only.mono
  have he : Only State.withOutcome d e := rfl
  have hf : Only State.withOutcome e f := State.putStepRecord_only.mono
  have hg : Only State.withOutcome f g := .ite .refl State.cutLedger_only.mono
  have hsg : Only State.withOutcome s g := ((((ha.set hc).set hd).set he).set hf).set hg
  have hak : a.Lists k := List.foldlRecOn (motive := fun v : State => v.Lists k) _ _ hk fun _ hv _ _ => hv.chargeMember _
  have hdk : d.Lists k := by
    unfold d
    split
    · exact hak.splitEnergy r
    · exact (hak.splitEnergy r).postCharges pt
  have ht : (g.endRun b).tenant k = e.tenant k := by
    have hfe : f.tenant k = e.tenant k := State.putStepRecord_only.keeps (State.tenant · k)
    have hgf : g.tenant k = f.tenant k := by
      unfold g
      split
      · rfl
      · exact State.cutLedger_only.keeps (State.tenant · k)
    exact (State.endRun_only.keeps (State.tenant · k)).trans (hgf.trans hfe)
  refine ⟨g.endRun_run b, ?_, ?_⟩
  · rw [g.endRun_free b, hsg.keeps State.power, hsg.keeps State.now]
  · rw [ht]
    exact hdk.markPosted b r.number

end Sys2Proof.Machine

namespace Sys2Proof.Machine

/-! ### The work of a step's boundary (R90, R259, R262, R267, R483) -/

/-- A state with the streams, the transactions and the epoch of another. -/
def State.withSteps (s t : State) : State :=
  { t with now := s.now, s0 := s.s0, s1 := s.s1, txns := s.txns, checkpoint := s.checkpoint }

section Boundary
variable {s u : State}

/-- A fold whose steps hold while no epoch runs. -/
theorem Only.foldl_idle {α : Type} {f : State → α → State} (h : s.checkpoint.run = none)
    (hf : ∀ u x, u.checkpoint.run = none → Only State.withSteps u (f u x)) (l : List α) :
    Only State.withSteps s (l.foldl f s) := by
  induction l generalizing s with
  | nil => exact .refl
  | cons x l ih =>
    have hx := hf s x h
    exact hx.set (ih ((congrArg Checkpoint.run (hx.keeps State.checkpoint)).trans h))

theorem State.moveBlock_keeps {n : Nat} {p : RowBlock × RowBlock} : Only State.withSteps s (s.moveBlock n p) := by
  unfold State.moveBlock
  refine .ite .refl (.ite rfl (.foldl (fun _ _ => ?_) _))
  exact State.send_only.mono

theorem State.sweepTable_keeps {id : Nat} : Only State.withSteps s (s.sweepTable id) := by
  unfold State.sweepTable
  split
  · exact .refl
  · extract_lets busy gone v n
    refine Only.set (u := v) rfl (.foldl (fun _ _ => .foldl (fun _ _ => .ite .refl (.foldl (fun _ _ => ?_) _)) _) _)
    exact State.freePage_only.mono

theorem State.sweepAdapter_keeps {key : Nat} : Only State.withSteps s (s.sweepAdapter key) := by
  unfold State.sweepAdapter
  split
  · exact .refl
  next a _ =>
    have hp : Only State.withSteps s (a.pages.foldl State.freePage s) := .foldl (fun _ _ => State.freePage_only.mono) _
    exact .ite .refl (hp.set rfl)

theorem State.switchTable_keeps {id : Nat} : Only State.withSteps s (s.switchTable id) := by
  unfold State.switchTable
  split
  · exact .refl
  · split
    · exact .refl
    · extract_lets n moved poisoned v w old x
      have hv : Only State.withSteps s v := .foldl (fun _ _ => moveBlock_keeps) _
      have hw : Only State.withSteps v w := .foldl (fun _ _ => .ite State.setFlag_only.mono .refl) _
      have hx : Only State.withSteps w x := rfl
      refine .ite ?_ ((((hv.set hw).set hx).set sweepTable_keeps).set State.complete_only.mono)
      exact State.putTable_only.mono.set State.complete_only.mono

theorem State.switchTables_keeps : Only State.withSteps s s.switchTables := .foldl (fun _ _ => switchTable_keeps) _

theorem State.followAdapters_keeps {n : Nat} : Only State.withSteps s (s.followAdapters n) := by
  unfold State.followAdapters
  extract_lets due _ v
  refine Only.set (u := v) rfl (.foldl (fun w id => ?_) _)
  split
  · exact .refl
  · extract_lets slots old x
    have hx : Only State.withSteps w x := .foldl (fun _ _ => State.putEntry_only.mono) _
    exact hx.set (.foldl (fun _ _ => sweepAdapter_keeps) _)

theorem State.boundary_keeps : Only State.withSteps s s.boundary := by
  unfold State.boundary
  extract_lets v
  have hv : Only State.withSteps s v := switchTables_keeps.set followAdapters_keeps
  exact hv.set rfl

theorem State.fwSwitch_keeps {c : Nat} : Only State.withSteps s (s.fwSwitch c) := by
  unfold State.fwSwitch
  extract_lets f v _ w _ x
  have hv : Only State.withSteps s v := .ite rfl .refl
  have hw : Only State.withSteps v w := .ite rfl .refl
  have hx : Only State.withSteps w x := rfl
  exact .ite .refl (((hv.set hw).set hx).set rfl)

theorem State.writeRow_keeps {t : RowTable} {b : RowBlock} {row : Nat} {bs : List Byte} (h : s.checkpoint.run = none) :
    Only State.withSteps s (s.writeRow t b row bs) := by
  unfold State.writeRow
  extract_lets a
  split
  · rfl
  · dsimp only
    rw [State.beforeWrite_idle h]
    rfl

theorem State.updateBatch_keeps {id step n : Nat} (h : s.checkpoint.run = none) :
    Only State.withSteps s (s.updateBatch id step n) := by
  unfold State.updateBatch
  split
  · exact .refl
  · extract_lets due v finish
    generalize splitDuplicates due = q
    obtain ⟨good, bad⟩ := q
    dsimp -zeta only
    extract_lets act w
    have hact : ∀ u row, u.checkpoint.run = none → Only State.withSteps u (act u row) := by
      intro u row hu
      unfold act
      dsimp only
      split
      · exact .refl
      · exact .ite .refl (writeRow_keeps hu)
    have hfinish : ∀ st u x, Only State.withSteps u (finish st u x) := by
      intro st u x
      unfold finish
      split
      · exact State.complete_only.mono
      · exact .refl
    have hv : Only State.withSteps s v := rfl
    have hw : Only State.withSteps v w := .foldl_idle (s := v) h hact _
    exact (hv.set hw).set ((Only.foldl (hfinish _) _).set (.foldl (hfinish _) _))

theorem State.updateBatches_keeps {step n : Nat} (h : s.checkpoint.run = none) :
    Only State.withSteps s (s.updateBatches step n) :=
  (Only.foldl_idle h (fun _ _ => updateBatch_keeps) _).set State.sendUpdates_only.mono

/-- No configuration is applied while none is due (R90). -/
theorem State.ctApplyDue_none {n : Nat} (h : s.ctDue n = false) : s.ctApplyDue n = s := by
  unfold State.ctDue at h
  rw [List.any_eq_false] at h
  unfold State.ctApplyDue
  rw [List.filter_eq_nil_iff.mpr h]
  rfl

theorem State.s0Boundary_keeps {step : Nat} (h : s.checkpoint.run = none) (hd : s.ctDue s.now = false) :
    Only State.withSteps s (s.s0Boundary step) := by
  have hv : Only State.withSteps s (s.updateBatches step s.now) := updateBatches_keeps h
  have hdue : (s.updateBatches step s.now).ctDue s.now = false := (hv.keeps (State.ctDue · s.now)).trans hd
  have hnow := hv.keeps State.now
  have hrun : (s.updateBatches step s.now).checkpoint.run = none :=
    (congrArg Checkpoint.run (hv.keeps State.checkpoint)).trans h
  unfold State.s0Boundary
  generalize s.updateBatches step s.now = v at hv hdue hnow hrun
  dsimp only
  rw [hnow, State.ctApplyDue_none hdue, hrun, Option.any_none, if_neg Bool.false_ne_true]
  exact (hv.set (.foldl (fun _ _ => fwSwitch_keeps) _)).set State.snapMark_only.mono

end Boundary

end Sys2Proof.Machine

namespace Sys2Proof.Machine

/-! ### The seal is issued (R87, R92) -/

/-- A stream's step and the stamp of its last seal. -/
def Stream.progress (x : Stream) : Option StepRun × Nat := (x.run, x.lastSeal)

theorem State.putStepRecord_progress (s : State) (b : Bool) (i : Nat) (r : StepRecord) :
    ((s.putStepRecord b i r).stream b).progress = (s.stream b).progress := by
  unfold State.putStepRecord
  extract_lets cfg base j x v
  have hv : (v.stream b).progress = x.progress := by
    unfold v
    rw [State.stream_putStream]
    rfl
  have hmem : ∀ mem, ({ v with mem := mem } : State).stream b = v.stream b := fun _ => rfl
  split
  · rfl
  · split
    · exact (congrArg Stream.progress (hmem _)).trans hv
    · exact hv

theorem State.newStepRecord_progress (s : State) (b : Bool) (r : StepRecord) :
    ((s.newStepRecord b r).stream b).progress = (s.stream b).progress := by
  unfold State.newStepRecord
  extract_lets x v
  split
  · rfl
  · rw [State.stream_putStream]
    exact s.putStepRecord_progress b x.head r

/-- The step of a seal issued while no configuration is due, as its stream then tells it. -/
theorem State.sealStamp_progress {s : State} (b : Bool) (r : StepRun) (hd : s.ctDue s.now = false) :
    ((s.sealStamp b r).stream b).progress =
      (some { r with sealPt := some s.now, commitAtSeal := false, energy := s.power.energyMj - s.power.energyMark }, s.now) := by
  have hc : (!b && s.takeEnergy.2.ctDue s.takeEnergy.2.now) = false := by
    rw [show s.takeEnergy.2.ctDue s.takeEnergy.2.now = s.ctDue s.now from rfl, hd, Bool.and_false]
  unfold State.sealStamp
  dsimp only
  rw [State.newStepRecord_progress, State.stream_putStream, hc]
  rfl

theorem State.sealStamp_only {s : State} {b : Bool} {r : StepRun} :
    Only (fun s t => { s with power := t.power, mem := t.mem, s0 := t.s0, s1 := t.s1 }) s (s.sealStamp b r) :=
  (State.takeEnergy_only.mono.then State.putStream_only).then State.newStepRecord_only

theorem sealIssue_stamps (s : State) (t : Nat) (b : Bool) (r : StepRun) (hr : (s.stream b).run = some r)
    (hp : r.sealPt = none) (hs : r.suspended = false) (hdr : s.power.drain.isNone = true)
    (hl : r.live.all (s.memberDone b) = true) (hd : s.ctDue t = false) (hc : s.checkpoint.run = none) :
    Completes (.sealIssue b t) s fun s' =>
      (s'.stream b).run = some { r with sealPt := some t, commitAtSeal := false,
                                        energy := s.power.energyMj - s.power.energyMark } ∧
      (s'.stream b).lastSeal = t := by
  have hprog := State.sealStamp_progress (s := s.stamp t) b r hd
  have hk : Only _ (s.stamp t) ((s.stamp t).sealStamp b r) := State.sealStamp_only
  have hno : ¬ (r.sealPt.isSome || r.suspended || (s.stamp t).power.drain.isSome ||
      !r.live.all ((s.stamp t).memberDone b)) = true := by
    have hdr' : (s.stamp t).power.drain.isSome = false := by rw [← Option.not_isNone]; exact congrArg _ hdr
    have hl' : r.live.all ((s.stamp t).memberDone b) = true := hl
    rw [hp, hs, hdr', hl']
    decide
  have he : (s.stamp t).sealIssue b =
      if b then ((s.stamp t).sealStamp b r).boundary.fwSwitch 3
      else ((s.stamp t).sealStamp b r).boundary.s0Boundary r.number := by
    unfold State.sealIssue
    rw [show ((s.stamp t).stream b).run = some r from hr]
    exact if_neg hno
  refine ⟨_, congrArg Host.Outcome.next he, ?_⟩
  have hrun : ((s.stamp t).sealStamp b r).checkpoint.run = none := (congrArg Checkpoint.run (hk.keeps State.checkpoint)).trans hc
  have hdue : ((s.stamp t).sealStamp b r).ctDue ((s.stamp t).sealStamp b r).now = false :=
    (hk.keeps fun u => u.ctDue u.now).trans hd
  generalize (s.stamp t).sealStamp b r = u at hprog hrun hdue
  have hb : Only State.withSteps u u.boundary := State.boundary_keeps
  have hfin : Only State.withSteps u (if b then u.boundary.fwSwitch 3 else u.boundary.s0Boundary r.number) := by
    split
    · exact hb.set State.fwSwitch_keeps
    · exact hb.set (State.s0Boundary_keeps ((congrArg Checkpoint.run (hb.keeps State.checkpoint)).trans hrun)
        ((hb.keeps fun u => u.ctDue u.now).trans hdue))
  have := (hfin.keeps fun u => (u.stream b).progress).trans hprog
  exact Prod.mk.inj this

/-- Settles O21: each command of a seal is followed to what it commits (`sealIssue_stamps`, `sealApply_commits`,
`State.stepOutcome_posts`). -/
theorem sealsCommitAStep : Obligations.SealsCommitAStep := by
  unfold Obligations.SealsCommitAStep
  intro s sd t s1 r
  refine ⟨fun hr hp hs hdr hl hd hc => sealIssue_stamps s t s1 r hr hp hs hdr hl hd hc, ?_, ?_⟩
  · intro m o md pt hsd hr hp hl ho he _ hmd hw hf hm hi hc
    obtain ⟨s', hx, h, hshadow⟩ := sealApply_commits s sd t pt r m o md hsd hr hp hl ho he hmd hw hf hm hi hc
    exact ⟨s', hx, h.committed, h.state, h.reason, h.holder, h.lastSeal, h.openToken, h.peerDone, h.pending, hshadow⟩
  · intro pt k v hr hp hl hk
    exact ⟨_, rfl, State.stepOutcome_posts (s := s.stamp t) hr hp hl ⟨v, hk⟩⟩

end Sys2Proof.Machine

namespace Sys2Proof.Machine

/-! ### Tier use (R115, R116) -/

theorem Tri.get_set (x : Tri) (tier v : Nat) : (x.set tier v).get tier = v := by
  unfold Tri.get Tri.set
  split_ifs <;> rfl

section Use
variable {s : State} {t : Nat}

theorem State.addUse_only {tier n : Nat} : Only (fun s t => { s with tenants := t.tenants }) s (s.addUse t tier n) :=
  .ite rfl rfl

/-- A tenant whose reservation is counted. -/
theorem State.tenant_addUse (tier n : Nat) (h : t ≠ 0) :
    (s.addUse t tier n).tenant t =
      { s.tenant t with used := (s.tenant t).used.set tier ((s.tenant t).used.get tier + n) } := by
  rw [State.addUse, if_neg h, State.tenant_putTenant]

theorem State.used_addUse (tier n : Nat) (h : t ≠ 0) :
    ((s.addUse t tier n).tenant t).used.get tier = (s.tenant t).used.get tier + n := by
  rw [State.tenant_addUse tier n h, Tri.get_set]

theorem State.used_dropUse (tier n : Nat) (h : t ≠ 0) :
    ((s.dropUse t tier n).tenant t).used.get tier = (s.tenant t).used.get tier - n := by
  rw [State.dropUse, if_neg h, State.tenant_putTenant]
  exact Tri.get_set ..

end Use

/-! ### Frames returned (R101, R110) -/

section Frames
variable {s : State}

/-- A state with the pools and the tenants of another. -/
def State.withFrames (s t : State) : State := { s with pools := t.pools, tenants := t.tenants }

theorem State.giveFrame_only {sd tier pool cls frame : Nat} :
    Only (fun s t => { s with pools := t.pools }) s (s.giveFrame sd tier pool cls frame) := by
  obtain ⟨p, h⟩ := s.giveFrame_frame sd tier pool cls frame
  exact h ▸ rfl

theorem State.giveScale_only {sd : Nat} {i : Option Nat} :
    Only (fun s t => { s with pools := t.pools }) s (s.giveScale sd i) := by
  obtain ⟨p, h⟩ := s.giveScale_frame sd i
  exact h ▸ rfl

theorem State.releaseFrame_frames {sd tier pool cls frame tenant n : Nat} {scale : Option Nat} :
    Only State.withFrames s (s.releaseFrame sd tier pool cls frame tenant n scale) :=
  (giveFrame_only.mono.then giveScale_only).then dropUse_only

/-- The tier use of a frame that is given back is released. -/
theorem State.releaseFrame_used {sd tier pool cls frame tenant n : Nat} {scale : Option Nat} (h : tenant ≠ 0) :
    ((s.releaseFrame sd tier pool cls frame tenant n scale).tenant tenant).used.get tier =
      (s.tenant tenant).used.get tier - pageUse cls n := by
  have hp : Only (fun s t => { s with pools := t.pools }) s ((s.giveFrame sd tier pool cls frame).giveScale sd scale) :=
    giveFrame_only.set giveScale_only
  rw [State.releaseFrame, State.used_dropUse tier _ h, hp.keeps (State.tenant · tenant)]

end Frames

/-! ### A cage starts (C2 and C3 of R110) -/

section Start
variable {s u : State} {page tier : Nat} {named : Option Nat} {src : CageSource} {urgent : Bool}

/-- A cage in progress is written. -/
def State.putCage (s : State) (id : Nat) (c : Cage) : State := { s with cages := aset s.cages id c }

/-- A page whose leaf bears a cage (C3). -/
def Leaf.caged (l : Leaf) (up : Bool) (id : Nat) : Leaf := { l with cage := if up then .up else .down, cageId := id }

/-- The cage of a page whose destination is reserved. -/
def State.newCage (s : State) (page : Nat) (l : Leaf) (tier pool frame : Nat) (scale : Option Nat) (src : CageSource)
    (urgent : Bool) : Cage :=
  { usa := page, up := tier < l.tier, tier := tier, pool := pool, frame := frame, scale := scale, source := src
    urgent := urgent, start := s.now, c5 := none, c7 := none, oldTier := l.tier, oldPool := l.pool
    oldFrame := l.frame, oldScale := l.scale, marked := [], pins := 0 }

/-- The state in which a page's frame of a tier is taken and its use counted (C2). -/
def State.reserved (s : State) (l : Leaf) (tier : Nat) (q : List (Nat × ClassPool)) : State :=
  { s with pools := q }.addUse l.tenant tier (pageUse l.sizeClass l.scaleBytes)

theorem State.reserved_only {l : Leaf} {q : List (Nat × ClassPool)} : Only State.withFrames s (s.reserved l tier q) :=
  (show Only State.withFrames s { s with pools := q } from rfl).then addUse_only

/-- A cage that starts reserves a frame of the pool chosen and the use of its tier, and takes the leaf. -/
theorem State.startCage_started (h : s.startCage page tier named src urgent = some u) :
    ∃ l id p fr blk q, s.leaf page = some l ∧ s.choosePool (ownerSd page) tier l.sizeClass named = some p ∧
      u = ((s.reserved l tier q).putLeaf page (l.caged (tier < l.tier) id)).putCage id
        (s.newCage page l tier p fr blk src urgent) := by
  unfold State.startCage at h
  extract_lets n at h
  split at h
  · cases h
  next l hl =>
  split at h
  · cases h
  split at h
  next p id hp _ =>
    split at h
    · cases h
    next fr v hf =>
    obtain ⟨q, rfl⟩ := State.takeFrame_frame hf
    extract_lets sc at h
    have hsc : ∀ x, sc = some x → ∃ q, x.2 = { s with pools := q } := by
      intro x hx
      unfold sc at hx
      split at hx
      · cases hx; exact ⟨q, rfl⟩
      · obtain ⟨⟨i, w⟩, hi, rfl⟩ := Option.map_eq_some_iff.1 hx
        obtain ⟨q', rfl⟩ := State.takeScale_frame hi
        exact ⟨q', rfl⟩
    clear_value sc
    split at h
    · cases h
    next blk w =>
    obtain ⟨q', rfl⟩ := hsc _ rfl
    cases h
    refine ⟨l, id, p, fr, blk, q', hl, hp, ?_⟩
    simp only [Leaf.caged, decide_eq_true_eq]
    rfl
  · cases h

/-- The reservation of C2 of a cage out of T0 succeeds: its use fits, its pool has a frame and a CAGE_ID is free. -/
structure State.HasRoom (s : State) (page tier : Nat) (named : Option Nat) (l : Leaf) (p : Nat) : Prop where
  quota : s.quotaFits l.tenant tier (pageUse l.sizeClass l.scaleBytes) = true
  pool : s.choosePool (ownerSd page) tier l.sizeClass named = some p
  cageId : (s.freeCageId (ownerSd page)).isSome = true
  frame : (s.pool (poolKey (ownerSd page) tier p l.sizeClass)).pool.take.isSome = true

theorem State.HasRoom.starts {l : Leaf} {p : Nat} (h : s.HasRoom page tier named l p) (hl : s.leaf page = some l)
    (ht : tier ≠ 0) : ∃ u, s.startCage page tier named src urgent = some u := by
  obtain ⟨id, hid⟩ := Option.isSome_iff_exists.1 h.cageId
  obtain ⟨q, hf⟩ := Option.isSome_iff_exists.1 h.frame
  simp [State.startCage, State.takeFrame, hl, h.quota, h.pool, hid, hf, ht]

theorem State.freeCageId_idle (h : s.cages = []) (sd : Nat) : (s.freeCageId sd).isSome = true := by
  unfold State.freeCageId
  rw [List.find?_isSome, h]
  exact ⟨sd * 4096 + 0 + 1, List.mem_map.2 ⟨0, List.mem_range.2 (by decide), rfl⟩, rfl⟩

theorem State.activeCages_idle (h : s.cages = []) (sd : Nat) : s.activeCages sd = 0 := by
  rw [State.activeCages, h]; rfl

/-! ### Requests (C1 of R110) -/

/-- A page that an eviction to a tier may take at once: resident, neither pinned nor frozen, written by no step, in a die
with fewer than MAX_ACTIVE cages (R109). -/
structure State.Evictable (s : State) (page tier : Nat) (l : Leaf) : Prop where
  leaf : s.leaf page = some l
  pinned : l.pinned = false
  orphan : l.orphan = false
  frozen : l.frozen = false
  resident : l.cage = .resident
  lower : l.tier < tier
  tier_le : tier ≤ 2
  unwritten : s.writtenInFlight page = false
  active : s.activeCages (ownerSd page) < s.regFld 0x05 0 0x20 5 0

theorem State.Evictable.requestCage_eq {l : Leaf} (h : s.Evictable page tier l)
    (hs : s.startCage page tier named src src.isWrite = some u) : s.requestCage page tier named src = u := by
  have hne : (tier == l.tier) = false := beq_eq_false_iff_ne.2 h.lower.ne'
  simp [State.requestCage, h.leaf, h.pinned, h.orphan, h.frozen, h.resident, h.unwritten, hs, hne,
    Nat.not_lt.2 h.tier_le, Nat.not_le.2 h.active]

end Start

/-! ### The events of a cage (R110) -/

/-- C2 and C3: an accepted eviction takes its frame, its use and the leaf. -/
theorem State.Evictable.taken {s : State} {page tier p : Nat} {named : Option Nat} {src : CageSource} {l : Leaf}
    (h : s.Evictable page tier l) (hr : s.HasRoom page tier named l p) (hi : s.cages = []) (ht : l.tenant ≠ 0) :
    (∃ id c', (s.requestCage page tier named src).cages = [(id, c')] ∧ c'.usa = page ∧ c'.tier = tier ∧
      c'.pool = p ∧ c'.up = false ∧ c'.c5 = none ∧
      (s.requestCage page tier named src).leaf page = some { l with cage := .down, cageId := id }) ∧
    ((s.requestCage page tier named src).tenant l.tenant).used.get tier =
      (s.tenant l.tenant).used.get tier + pageUse l.sizeClass l.scaleBytes ∧
    (s.requestCage page tier named src).mem = s.mem := by
  obtain ⟨u, hu⟩ := hr.starts (src := src) (urgent := src.isWrite) h.leaf (Nat.ne_zero_of_lt h.lower)
  rw [h.requestCage_eq hu]
  obtain ⟨l', id, p', fr, blk, q, hl', hp', rfl⟩ := State.startCage_started hu
  obtain rfl : l = l' := Option.some.inj (h.leaf.symm.trans hl')
  obtain rfl : p = p' := Option.some.inj (hr.pool.symm.trans hp')
  have hdown : decide (tier < l.tier) = false := decide_eq_false h.lower.not_gt
  refine ⟨⟨id, s.newCage page l tier p fr blk src src.isWrite, ?_, rfl, rfl, rfl, hdown, rfl, ?_⟩,
    State.used_addUse tier _ ht, State.reserved_only.keeps State.mem⟩
  · change aset (s.reserved l tier q).cages id _ = _
    rw [State.reserved_only.keeps State.cages, hi]
    rfl
  · rw [hdown]
    exact State.leaf_putLeaf ..

/-- C5: the last segment is copied. -/
theorem cageCopyDone_holds (s : State) (id t : Nat) (c : Cage) (hc : aget s.cages id = some c) (h5 : c.c5 = none) :
    Completes (.cageCopyDone id false t) s fun s' =>
      aget s'.cages id = some { c with c5 := some t } ∧ s'.mem = s.mem := by
  have he : (s.stamp t).cageCopied id false = (s.stamp t).putCage id { c with c5 := some t } := by
    simp only [State.cageCopied, State.stamp_cages, hc, h5]; rfl
  exact ⟨_, congrArg Host.Outcome.next he, aget_aset_same .., rfl⟩

/-- The state at C7, before flags, counts and the sessions' residence: the leaf names the new copy and the held writes go
there. -/
def State.switched (s : State) (id : Nat) (c : Cage) (l : Leaf) : State :=
  { (s.putLeaf c.usa { l with tier := c.tier, pool := c.pool, frame := c.frame, scale := c.scale, cage := .resident
                              cageId := 0 }).putCage id { c with c7 := some s.now, marked := [] } with
    mem := applyHeld s.mem c.usa s.heldWrites
    heldWrites := s.heldWrites.filter fun w => w.1 != c.usa }

/-- A state with the flags, the counts and the sessions of another. -/
def State.withCounts (s t : State) : State := { s with regs := t.regs, flagSets := t.flagSets, sessions := t.sessions }

theorem State.cageSwitch_only {s : State} {id t5 : Nat} {c : Cage} {l : Leaf} (hc : aget s.cages id = some c)
    (h5 : c.c5 = some t5) (h7 : c.c7 = none) (hl : s.leaf c.usa = some l) :
    Only State.withCounts (s.switched id c l) (s.cageSwitch id) := by
  unfold State.cageSwitch
  rw [hc]
  dsimp -zeta only
  rw [h5, h7, hl]
  dsimp -zeta only
  extract_lets n v w x y
  have hw : Only State.withCounts (s.switched id c l) w := by
    rw [State.switched, h5]; rfl
  have hx : Only State.withCounts w x := flagIf_only.mono
  have hy : Only State.withCounts x y := .ite addRegFld_only.mono addRegFld_only.mono
  exact ((hw.set hx).set hy).set (.foldl (fun _ _ => recount_only.mono) _)

/-- C7: the switch point. -/
theorem cageSwitchPoint_switches (s : State) (page id t t5 : Nat) (c : Cage) (l : Leaf) (hl : s.leaf page = some l)
    (hu : c.usa = page) (hc : aget s.cages id = some c) (h5 : c.c5 = some t5) (h7 : c.c7 = none) :
    Completes (.cageSwitchPoint id t) s fun s' =>
      s'.leaf page = some { l with tier := c.tier, pool := c.pool, frame := c.frame, scale := c.scale,
                                   cage := .resident, cageId := 0 } ∧
      aget s'.cages id = some { c with c7 := some t, marked := [] } ∧ s'.mem = applyHeld s.mem page s.heldWrites ∧
      (s'.heldWrites.all fun w => w.1 != page) = true := by
  subst hu
  have h := State.cageSwitch_only (s := s.stamp t) hc h5 h7 hl
  refine ⟨_, rfl, ?_, ?_, h.keeps State.mem, ?_⟩
  · exact (h.keeps (State.leaf · c.usa)).trans (State.leaf_putLeaf ..)
  · exact (h.keeps fun u => aget u.cages id).trans (aget_aset_same ..)
  · rw [h.keeps State.heldWrites]
    exact List.all_eq_true.2 fun w hw => (List.mem_filter.1 hw).2

/-- Where no request waits at a die, none is made again. -/
theorem State.retryCages_none {s : State} {sd : Nat} (h : (s.sd sd).cageWaiting = []) :
    Only (fun s t => { s with sds := t.sds }) s (s.retryCages sd) := by
  rw [State.retryCages, h]
  exact putSd_only

/-- C9: the old frame and its use are returned. -/
theorem cageRelease_returns (s : State) (page id t : Nat) (c : Cage) (l : Leaf) (hl : s.leaf page = some l)
    (hu : c.usa = page) (hc : aget s.cages id = some c) (h7 : c.c7.isSome = true) (hp : c.pins = 0)
    (hw : (s.sd (ownerSd page)).cageWaiting = []) (ht : l.tenant ≠ 0) :
    Completes (.cageRelease id t) s fun s' =>
      aget s'.cages id = none ∧ s'.leaf page = some l ∧
      (s'.tenant l.tenant).used.get c.oldTier =
        (s.tenant l.tenant).used.get c.oldTier - pageUse l.sizeClass l.scaleBytes ∧ s'.mem = s.mem := by
  subst hu
  refine ⟨_, rfl, ?_⟩
  obtain ⟨t7, h7⟩ := Option.isSome_iff_exists.1 h7
  unfold State.cageRelease
  rw [show aget (s.stamp t).cages id = some c from hc]
  dsimp -zeta only
  rw [h7, show (s.stamp t).leaf c.usa = some l from hl]
  dsimp -zeta only
  rw [hp, if_neg (by decide)]
  extract_lets n u v
  have hu : Only State.withFrames (s.stamp t) u := State.releaseFrame_frames
  have hq : Only (fun s t => { s with sessions := t.sessions }) v (v.wakeQuota l.tenant) := State.wakeQuota_only
  have hnone : ((v.wakeQuota l.tenant).sd n).cageWaiting = [] := by
    rw [hq.keeps (State.sd · n)]
    exact (congrArg StateDie.cageWaiting (hu.keeps (State.sd · n))).trans hw
  have hend : Only (fun s t => { s with sessions := t.sessions, sds := t.sds }) v ((v.wakeQuota l.tenant).retryCages n) :=
    hq.mono.then (State.retryCages_none hnone)
  refine ⟨?_, ?_, ?_, ?_⟩
  · exact (hend.keeps fun u => aget u.cages id).trans (aget_adel_same ..)
  · exact (hend.keeps (State.leaf · c.usa)).trans ((hu.keeps (State.leaf · c.usa)).trans hl)
  · rw [hend.keeps (State.tenant · l.tenant)]
    exact State.releaseFrame_used ht
  · exact (hend.keeps State.mem).trans (hu.keeps State.mem)

/-- Settles O22: one lemma per event of the cage; an accepted request is the cage that `startCage_started` describes. -/
theorem cagesMovePages : Obligations.CagesMovePages := by
  unfold Obligations.CagesMovePages
  intro s page tier p id t t5 src c l hl hu
  refine ⟨?_, cageCopyDone_holds s id t c, cageSwitchPoint_switches s page id t t5 c l hl hu, ?_⟩
  · intro hp ho hf hc h0 ht hw hi hm hpool hten hq hk
    have he : (s.stamp t).Evictable page tier l :=
      ⟨hl, hp, ho, hf, hc, by omega, by omega, hw, (State.activeCages_idle (s := s.stamp t) hi _).symm ▸ hm⟩
    have hr : (s.stamp t).HasRoom page tier (some p) l p := ⟨hq, if_pos hpool, State.freeCageId_idle hi _, hk⟩
    exact ⟨_, rfl, he.taken hr hi hten⟩
  · intro hc h7 hp hw ht _
    exact cageRelease_returns s page id t c l hl hu hc h7 hp hw ht

end Sys2Proof.Machine

namespace Sys2Proof.Machine

/-! ### What a request for a page leaves (R109, R110) -/

/-- A value of a state die that its new part keeps is the same on every die. -/
theorem State.sd_putSd_keeps {α : Type} (g : StateDie → α) (s : State) {n : Nat} {d : StateDie} (h : g d = g (s.sd n))
    (m : Nat) : g ((s.putSd n d).sd m) = g (s.sd m) := by
  by_cases hm : m = n
  · subst hm; rw [State.sd_putSd, h]
  · rw [State.sd_putSd_other _ _ hm]

theorem State.releaseFrame_sds (s : State) (sd tier pool cls frame tenant n : Nat) (scale : Option Nat) :
    (s.releaseFrame sd tier pool cls frame tenant n scale).sds = s.sds := State.releaseFrame_frames.keeps State.sds

theorem State.dropCage_sds (s : State) (id : Nat) : (s.dropCage id).sds = s.sds := by
  unfold State.dropCage
  split
  · rfl
  · split
    · rfl
    · exact State.releaseFrame_sds ..

/-- Requests change pages only, and no die's policy fault. -/
structure State.Asks (s u : State) : Prop where
  only : Only State.withPages s u
  faulted : ∀ n, (u.sd n).policyFaulted = (s.sd n).policyFaulted

namespace State.Asks
variable {s u v : State} {page tier : Nat} {named : Option Nat} {src : CageSource}

theorem refl (s : State) : s.Asks s := ⟨.refl, fun _ => rfl⟩

theorem trans (h : s.Asks u) (h' : u.Asks v) : s.Asks v :=
  ⟨h.only.set h'.only, fun n => (h'.faulted n).trans (h.faulted n)⟩

theorem ite {c : Prop} [Decidable c] (h : s.Asks u) (h' : s.Asks v) : s.Asks (if c then u else v) := by
  split
  · exact h
  · exact h'

theorem foldl {α : Type} {f : State → α → State} (hf : ∀ u x, State.Asks u (f u x)) (l : List α) (s : State) :
    s.Asks (l.foldl f s) := by
  induction l generalizing s with
  | nil => exact refl s
  | cons x l ih => exact (hf s x).trans (ih _)

/-- An operation on pages that leaves the state dies alone. -/
theorem of_sds (h : Only State.withPages s u) (hd : u.sds = s.sds) : s.Asks u :=
  ⟨h, fun n => congrArg (fun d => (agetD d n (StateDie.reset n)).policyFaulted) hd⟩

theorem putSd (n : Nat) {d : StateDie} (h : d.policyFaulted = (s.sd n).policyFaulted) : s.Asks (s.putSd n d) :=
  ⟨rfl, s.sd_putSd_keeps _ h⟩

theorem setFlag (f : FlagId) (i : Nat) : s.Asks (s.setFlag f i) :=
  .of_sds State.setFlag_only.mono (State.setFlag_only.keeps State.sds)

theorem dropRequest (page : Nat) : s.Asks (s.dropRequest page) := setFlag ..

theorem queueCage : s.Asks (s.queueCage page tier named src) := putSd _ rfl

theorem dropCage (id : Nat) : s.Asks (s.dropCage id) := .of_sds State.dropCage_only (s.dropCage_sds id)

theorem startCage {urgent : Bool} (h : s.startCage page tier named src urgent = some u) : s.Asks u := by
  obtain ⟨l, id, p, fr, blk, q, _, _, rfl⟩ := State.startCage_started h
  have hr : Only State.withFrames s (s.reserved l tier q) := State.reserved_only
  have hu : Only State.withPages (s.reserved l tier q) (((s.reserved l tier q).putLeaf page
      (l.caged (tier < l.tier) id)).putCage id (s.newCage page l tier p fr blk src urgent)) := rfl
  exact of_sds (hr.mono.then hu) (hr.keeps State.sds)

/-- A request starts a cage, cancels one, waits at its die or is dropped. -/
theorem requestCage : s.Asks (s.requestCage page tier named src) := by
  unfold State.requestCage
  extract_lets n
  split
  · exact dropRequest page
  next l _ =>
    extract_lets v
    have hv : s.Asks v := (dropCage _).trans (setFlag ..)
    refine ite (dropRequest page) (ite ?cancel (ite (dropRequest page) (ite (dropRequest page) (ite ?frozen
      (ite queueCage ?start)))))
    case cancel =>
      refine ite ?_ hv
      cases hc : v.startCage page tier named src true with
      | none => exact hv.trans queueCage
      | some w => exact hv.trans (startCage hc)
    case frozen => exact ite (dropRequest page) queueCage
    case start =>
      split
      next w hw => exact startCage hw
      · exact ite queueCage (dropRequest page)

theorem demote : s.Asks (s.demote page src) := ite (requestCage.trans requestCage) requestCage

theorem relieve : s.Asks (s.relieve page src) := by
  unfold State.relieve
  split
  · exact refl s
  · exact ite requestCage (ite requestCage (refl s))

theorem demoteList (src : CageSource) (need : Nat) (l : List Nat) (s : State) : s.Asks (s.demoteList src need l).2 := by
  induction l generalizing s need with
  | nil => exact refl s
  | cons x l ih =>
    unfold State.demoteList
    split
    · exact refl s
    · exact relieve.trans (ih _ _)

/-- The default policy only makes requests (R119). -/
theorem defaultPolicy (sd : Nat) : s.Asks (s.defaultPolicy sd) := by
  have hpark (src : Nat → CageSource) (l : List Nat) (u : State) :
      u.Asks (l.foldl (fun s i => (s.parkPages i).foldl (fun s p => s.demote p (src i)) s) u) :=
    foldl (fun _ _ => foldl (fun _ _ => demote) _ _) l u
  unfold State.defaultPolicy
  extract_lets cfg overUse a hot b wait long c parked d low
  have hd : s.Asks d :=
    (((hpark (fun _ => .policy) _ s).trans (foldl (fun _ _ => requestCage) _ a)).trans (hpark (fun _ => .policy) _ b)).trans
      (hpark .park _ c)
  exact ite (hd.trans (foldl (fun _ _ => demote) _ d)) hd

end State.Asks

/-! ### Access decay and the tier policy (R107, R117) -/

/-- A lookup after a change of every entry by its key. -/
theorem aget_mapKey {α : Type} (l : List (Nat × α)) (f : Nat → α → α) (k : Nat) :
    aget (l.map fun p => (p.1, f p.1 p.2)) k = (aget l k).map (f k) := by
  induction l with
  | nil => rfl
  | cons p l ih =>
    obtain ⟨j, w⟩ := p
    by_cases h : j = k
    · subst h; simp [aget]
    · simp [aget, h, ih]

/-- A page after the decay sweep of a die (R107). -/
def Leaf.decayed (l : Leaf) (sd page : Nat) : Leaf := if ownerSd page = sd then { l with access := l.access / 2 } else l

theorem State.leaf_accessDecay (s : State) (sd page : Nat) :
    (s.accessDecay sd).leaf page = (s.leaf page).map fun l => l.decayed sd page := by
  have hmap : (s.leaves.map fun p => if ownerSd p.1 == sd then (p.1, { p.2 with access := p.2.access / 2 }) else p) =
      s.leaves.map fun p => (p.1, p.2.decayed sd p.1) :=
    List.map_congr_left fun p _ => by by_cases h : ownerSd p.1 = sd <;> simp [Leaf.decayed, h]
  unfold State.accessDecay
  extract_lets mine leaves d cold all u v
  have hv : v.leaves = leaves := State.flagIf_only.keeps State.leaves
  calc aget v.leaves page = aget leaves page := by rw [hv]
    _ = aget (s.leaves.map fun p => (p.1, p.2.decayed sd p.1)) page := congrArg (aget · page) hmap
    _ = _ := aget_mapKey s.leaves (fun k l => l.decayed sd k) page

/-- A run of the policy reads the lists, and its fault stands. -/
theorem State.tierPolicy_sd (s : State) (sd : Nat) (asks : List (Nat × Nat × Option Nat)) (fault : Bool) :
    ((s.tierPolicy sd asks fault).sd sd).hot = [] ∧ ((s.tierPolicy sd asks fault).sd sd).cold = [] ∧
      ((s.tierPolicy sd asks fault).sd sd).policyFaulted = ((s.sd sd).policyFaulted || fault) := by
  unfold State.tierPolicy
  extract_lets d u v w
  have hv : v.sd sd = u.sd sd := State.flagIf_only.keeps (State.sd · sd)
  have hw : v.Asks w := .ite (.defaultPolicy sd) (.foldl (fun _ _ => .ite .requestCage (.dropRequest _)) _ _)
  rw [State.sd_putSd]
  exact ⟨rfl, rfl, by rw [hw.faulted sd, hv, State.sd_putSd]⟩

/-! ### The retention sweep (R145) -/

section Nodes
variable {s : State}

theorem State.freePage_sds (s : State) (page : Nat) : (s.freePage page).sds = s.sds := by
  unfold State.freePage
  split
  · rfl
  · extract_lets n v l old w x
    have hv : v.sds = s.sds := by
      unfold v
      split
      · rfl
      · split
        · rfl
        · exact (State.setFlag_only.keeps State.sds).trans (s.dropCage_sds _)
    have hw : w.sds = v.sds := by
      unfold w
      generalize old = o
      rcases o with _ | ⟨id, c⟩
      · rfl
      · exact State.releaseFrame_sds ..
    exact (State.releaseFrame_sds ..).trans (hw.trans hv)

theorem State.freeUnheld_sds (s : State) (page : Nat) : (s.freeUnheld page).sds = s.sds := by
  unfold State.freeUnheld
  split
  · rfl
  · split
    · rfl
    · exact s.freePage_sds page

/-- A reference that goes changes no node. -/
theorem State.nodes_dropRef (s : State) (page : Nat) (who : Option Nat) (n : Nat) :
    ((s.dropRef page who).sd n).nodes = (s.sd n).nodes := by
  unfold State.dropRef
  dsimp only
  split
  · rfl
  · split
    · exact congrArg (fun d => (agetD d n (StateDie.reset n)).nodes) (s.freeUnheld_sds page)
    · split
      · change ((s.putSd _ _).sd n).nodes = _
        refine s.sd_putSd_keeps StateDie.nodes ?_ n
        rfl
      · refine s.sd_putSd_keeps StateDie.nodes ?_ n
        rfl

/-- A node that leaves the tree takes every node of its key along. -/
theorem State.nodes_dropNode (s : State) (sd : Nat) (nd : PrefixNode) :
    ((s.dropNode sd nd).sd sd).nodes = (s.sd sd).nodes.filter fun q => q.key != nd.key := by
  unfold State.dropNode
  extract_lets d u
  have hrefs (l : List Nat) (v : State) : ((l.foldl (fun s u => s.dropRef u none) v).sd sd).nodes = (v.sd sd).nodes :=
    List.foldlRecOn (motive := fun w : State => (w.sd sd).nodes = (v.sd sd).nodes) l _ rfl
      fun w hw p _ => (w.nodes_dropRef p none sd).trans hw
  rw [hrefs, State.sd_putSd]

theorem State.nodes_dropNodes (l : List PrefixNode) (s : State) (sd : Nat) :
    ((l.foldl (fun s nd => s.dropNode sd nd) s).sd sd).nodes =
      (s.sd sd).nodes.filter fun q => l.all fun nd => q.key != nd.key := by
  induction l generalizing s with
  | nil => simp
  | cons nd l ih => simp [ih, State.nodes_dropNode, List.filter_filter, Bool.and_comm]

/-- Every node that the sweep leaves was matched within the retention time. -/
theorem State.retentionSweep_recent (s : State) (sd : Nat) :
    ((s.retentionSweep sd).sd sd).nodes.all
      (fun nd => decide (s.now ≤ nd.lastMatch + s.regFld 0x06 0 0x00 31 16 * 1000000000)) = true := by
  unfold State.retentionSweep
  extract_lets age
  rw [State.nodes_dropNodes, List.all_eq_true]
  intro q hq
  obtain ⟨hmem, hkept⟩ := List.mem_filter.1 hq
  rw [decide_eq_true_eq]
  by_contra hold
  have hgone := List.all_eq_true.1 hkept q (List.mem_filter.2 ⟨hmem, decide_eq_true (Nat.not_le.1 hold)⟩)
  simp at hgone

end Nodes

/-! ### Quotas (R116, R122) -/

/-- A record enters the outbox, or waits before it: the entry stands. -/
theorem State.entry_sessionRecord (s : State) (slot type status : Nat) (body text : List Byte) :
    (s.sessionRecord slot type status body text).entry slot = s.entry slot := by
  unfold State.sessionRecord State.putRecord
  dsimp only
  split
  · exact s.entry_putSess slot _
  · split
    · exact s.entry_putSess slot _
    · exact (State.checkOutboxLow_only.keeps (State.entry · slot)).trans (State.entry_putSess ..)

/-- Pressure demotion leaves the entry of the session that waits (R122, R123). -/
theorem State.entry_pressure (s : State) (slot refused : Nat) : (s.pressure slot refused).entry slot = s.entry slot := by
  have hlist (u : State) (n : Nat) (l : List Nat) : (u.demoteList (.pressure slot) n l).2.entry slot = u.entry slot :=
    (State.Asks.demoteList (.pressure slot) n l u).only.keeps (State.entry · slot)
  unfold State.pressure
  extract_lets e t short x u
  have hu : u.entry slot = s.entry slot := s.entry_putSess slot _
  split
  next got v hv =>
  have hv : v.entry slot = s.entry slot := by
    rw [← hu, ← hlist u short (u.demotionPages slot), hv]
  split
  · exact hv
  · refine (hlist ..).trans ((State.setFlag_only.keeps (State.entry · slot)).trans ?_)
    exact (v.entry_sessionRecord slot ..).trans hv

/-! ### The commands (R107, R116, R117, R122, R145) -/

theorem accessDecay_halves (s : State) (sd t page : Nat) (l : Leaf) (hsd : sd < 12) (hl : s.leaf page = some l) :
    Completes (.accessDecay sd t) s fun s' =>
      s'.leaf page = some (if ownerSd page = sd then { l with access := l.access / 2 } else l) := by
  refine ⟨_, if_pos hsd, (State.leaf_accessDecay ..).trans ?_⟩
  rw [show (s.stamp t).leaf page = some l from hl]
  rfl

theorem tierPolicyRun_reads (s : State) (sd t : Nat) (asks : List (Nat × Nat × Option Nat)) (fault : Bool) (hsd : sd < 12)
    (hr : (s.sd sd).policyRunning = false) :
    Completes (.tierPolicyRun sd asks fault t) s fun s' =>
      (s'.sd sd).hot = [] ∧ (s'.sd sd).cold = [] ∧ (s'.sd sd).policyFaulted = ((s.sd sd).policyFaulted || fault) := by
  have hstart : (s.stamp t).policyStart sd asks fault = (s.stamp t).tierPolicy sd asks fault :=
    if_neg (Bool.eq_false_iff.1 hr)
  exact ⟨_, if_pos hsd, hstart ▸ State.tierPolicy_sd (s.stamp t) sd asks fault⟩

theorem quotaReservation_fits (s : State) (tenant tier bytes t : Nat) (asker : QuotaFor) (ht : tenant ≠ 0)
    (hq : s.quotaFits tenant tier bytes = true) :
    Completes (.quotaReservation tenant tier bytes asker t) s fun s' =>
      (s'.tenant tenant).used.get tier = (s.tenant tenant).used.get tier + bytes ∧
      (s'.tenant tenant).quota = (s.tenant tenant).quota ∧ s'.sessions = s.sessions := by
  refine ⟨_, if_pos hq, State.used_addUse tier bytes ht, ?_, State.addUse_only.keeps State.sessions⟩
  rw [State.tenant_addUse tier bytes ht]
  rfl

theorem quotaReservation_host (s : State) (tenant tier bytes t : Nat) (f : Frame)
    (hq : s.quotaFits tenant tier bytes = false) :
    Completes (.quotaReservation tenant tier bytes (.host f) t) s fun s' =>
      s'.tenants = s.tenants ∧ Answered s s' f stQuota :=
  ⟨_, if_neg (Bool.eq_false_iff.1 hq), State.complete_only.keeps State.tenants, (s.stamp t).complete_answered f stQuota⟩

theorem quotaReservation_session (s : State) (tenant tier bytes t slot : Nat)
    (hq : s.quotaFits tenant tier bytes = false) (hr : (s.entry slot).state = .ready) :
    Completes (.quotaReservation tenant tier bytes (.step slot) t) s fun s' =>
      (s'.entry slot).state = .waiting ∧ (s'.entry slot).waitReason = .quota := by
  have he : (((s.stamp t).setWait slot .quota).pressure slot bytes).entry slot =
      ((s.sess slot).waits .quota t).cur.entry :=
    (State.entry_pressure ..).trans (congrArg (fun x : Session => x.cur.entry) (State.sess_setWait ..))
  exact ⟨_, (if_neg (Bool.eq_false_iff.1 hq)).trans (if_pos hr), congrArg Entry.state he, congrArg Entry.waitReason he⟩

theorem quotaRelease_returns (s : State) (tenant tier bytes t : Nat) (ht : tenant ≠ 0) :
    Completes (.quotaRelease tenant tier bytes t) s fun s' =>
      (s'.tenant tenant).used.get tier = (s.tenant tenant).used.get tier - bytes ∧ s'.leaves = s.leaves := by
  refine ⟨_, rfl, ?_, (State.wakeQuota_only.keeps State.leaves).trans (State.dropUse_only.keeps State.leaves)⟩
  rw [State.wakeQuota_only.keeps (State.tenant · tenant)]
  exact State.used_dropUse tier bytes ht

/-- Settles O23, a lemma for each command: the sweeps by what they leave of a leaf and of the nodes, a policy run by
`State.Asks` (it only makes requests), a refusal by `entry_pressure`. -/
theorem sweepsPolicyRunsAndQuotas : Obligations.SweepsPolicyRunsAndQuotas := by
  unfold Obligations.SweepsPolicyRunsAndQuotas
  constructor
  · intro s sd t page l asks fault hsd
    exact ⟨accessDecay_halves s sd t page l hsd, tierPolicyRun_reads s sd t asks fault hsd,
      _, if_pos hsd, (s.stamp t).retentionSweep_recent sd⟩
  · intro s tenant tier bytes t slot asker f ht _
    exact ⟨quotaReservation_fits s tenant tier bytes t asker ht,
      fun hq => ⟨quotaReservation_host s tenant tier bytes t f hq,
        quotaReservation_session s tenant tier bytes t slot hq⟩,
      quotaRelease_returns s tenant tier bytes t ht⟩

end Sys2Proof.Machine

namespace Sys2Proof.Machine

/-! ### Pages made and written for another package's request (R95, R99, R101, R177) -/

section Shards
variable {s u : State}

theorem State.checkPoolLow_only {sd cls before : Nat} : Only State.withPages s (s.checkPoolLow sd cls before) :=
  .ite (setFlag_only.mono.set rfl) .refl

theorem State.takeScaleFor_only {sd n : Nat} {blk : Option Nat}
    (h : (if n = 0 then some (none, s) else (s.takeScale sd).map fun p => (some p.1, p.2)) = some (blk, u)) :
    Only State.withPages s u := by
  split at h
  · cases h; exact .refl
  · obtain ⟨⟨i, v⟩, hv, he⟩ := Option.map_eq_some_iff.mp h
    cases he
    obtain ⟨q, rfl⟩ := takeScale_frame hv
    rfl

theorem State.allocAt_only {usa cls n tenant : Nat} {owner : Option Nat} (h : s.allocAt usa cls n tenant owner = some u) :
    Only State.withPages s u := by
  unfold State.allocAt at h
  dsimp only at h
  split at h
  · cases h
  next fr v hv =>
    obtain ⟨q, rfl⟩ := takeFrame_frame hv
    split at h
    · cases h
    next blk w hw =>
      cases h
      have hs : Only State.withPages s w := Only.set (u := { s with pools := q }) rfl (takeScaleFor_only hw)
      have hl : ∀ l, Only State.withPages s ((w.addUse tenant 0 (pageUse cls n)).putLeaf usa l) := fun _ =>
        (hs.then addUse_only).set rfl
      exact (hl _).set checkPoolLow_only

theorem State.allocPage_only {sd cls n tenant a : Nat} {owner : Option Nat}
    (h : s.allocPage sd cls n tenant owner = some (a, u)) : Only State.withPages s u := by
  unfold State.allocPage at h
  dsimp only at h
  obtain ⟨v, hv, he⟩ := Option.map_eq_some_iff.mp h
  cases he
  exact Only.set (u := s.draw.2) rfl (allocAt_only hv)

/-- A state with the pages, the shards and the marks of copies of another. -/
def State.withShards (s t : State) : State :=
  { State.withPages s t with channels := t.channels, kvShards := t.kvShards }

theorem State.growShard_only {sd tenant n : Nat} {md : Model} {us : List Nat}
    (h : s.growShard sd tenant md n = some (us, u)) : Only State.withShards s u := by
  induction n generalizing s us with
  | zero => cases h; exact .refl
  | succ n ih =>
    unfold State.growShard at h
    split at h
    · cases h
    · split at h
      · cases h
      next a v hv =>
        obtain ⟨⟨l, w⟩, hw, he⟩ := Option.map_eq_some_iff.mp h
        cases he
        exact (allocPage_only hv).mono.set (ih hw)

/-- A write of a page lands, or is held for a cage. -/
theorem State.writePage_only {page addr slot : Nat} {bs : List Byte} :
    Only State.withShards s (s.writePage page addr bs slot) := by
  unfold State.writePage
  split
  · exact .refl
  · extract_lets v hold
    have hv : Only State.withShards s v := rfl
    have hhold : Only State.withShards v hold := rfl
    refine .ite (.ite (hv.set hhold) ((hv.set hhold).set (Asks.requestCage.only.mono))) ?_
    split
    · exact .ite (hv.set hhold) (hv.set rfl)
    · exact hv.set rfl

end Shards

/-! ### Part trains (R179) -/

/-- Each train has a last part. -/
theorem partsOf_eq_append (bs : List Byte) : ∃ ps p, partsOf bs = ps ++ [p] := by
  have hne : partsOf bs ≠ [] := by
    unfold partsOf cutParts
    split
    · exact List.cons_ne_nil _ _
    · exact List.cons_ne_nil _ _
  exact ⟨_, _, (List.dropLast_append_getLast hne).symm⟩

theorem State.sendParts_only {s : State} {pkg dd sd unit op request : Nat} {oph : List (Nat × Nat × Nat)} {bs : List Byte}
    {note : List Nat} :
    Only (fun s t => { s with tenants := t.tenants, gallery := t.gallery }) s
      (s.sendParts pkg dd sd unit op request oph bs note) := .foldl (fun _ _ => send_only) _

/-- A train of one part is whole with that part. -/
theorem wholeTrain_one (bs : List Byte) : wholeTrain (addPart [] 0 bs) 1 = some bs :=
  congrArg some (List.append_nil bs)

/-- The last part of a train is among the packets that the fabric has taken. -/
theorem State.sendParts_hands (s : State) (pkg dd sd unit op request : Nat) (oph : List (Nat × Nat × Nat)) (bs : List Byte)
    (note : List Nat) :
    ∃ p ∈ (s.sendParts pkg dd sd unit op request oph bs note).gallery.sending, p.opcode = op ∧ p.dstPkg = pkg := by
  obtain ⟨ps, q, hps⟩ := partsOf_eq_append bs
  unfold State.sendParts
  dsimp only
  rw [hps, List.zipIdx_append, List.foldl_append]
  obtain ⟨p, hp, hop, hpkg, -⟩ := State.send_hands _ pkg dd 2 sd unit op _ q note
  exact ⟨p, by rw [List.zipIdx_singleton, List.foldl_cons, List.foldl_nil, hp]; simp, hop, hpkg⟩

/-! ### A holder serves a whole request (R177) -/

/-- An ATT_REPLY goes to a package, and the requests that wait for parts are as before. -/
structure State.Replies (pkg : Nat) (s u : State) : Prop where
  attRequests : u.attRequests = s.attRequests
  reply : ∃ p ∈ u.gallery.sending, p.opcode = 0x21 ∧ p.dstPkg = pkg

theorem State.sendParts_replies {s v : State} {pkg tenant n dd sd unit request : Nat} {oph : List (Nat × Nat × Nat)}
    {bs : List Byte} {note : List Nat} (h : Only State.withShards s v) :
    s.Replies pkg ((v.charge tenant 10 n).sendParts pkg dd sd unit 0x21 request oph bs note) where
  attRequests := calc
    _ = (v.charge tenant 10 n).attRequests := sendParts_only.keeps State.attRequests
    _ = v.attRequests := charge_only.keeps State.attRequests
    _ = s.attRequests := h.keeps State.attRequests
  reply := sendParts_hands ..

/-- A request that is served is answered, whatever the status; the reply goes to its sender where no home is noted. -/
theorem State.serveAttention_replies {s : State} {src handle : Nat} (layer group positions request first : Nat)
    (c : KvShard) (md : Model) (bs : List Byte) (hh : aget s.gallery.homes handle = none) :
    s.Replies src (s.serveAttention src handle layer group positions request first c md bs) := by
  unfold State.serveAttention
  extract_lets lg hd gh qg per kv qs old home answer
  have hhome : home = src := by unfold home; rw [hh]
  have hanswer : ∀ (v : State) (status n : Nat) (rows : List Partial), Only State.withShards s v →
      s.Replies src (answer v status n rows) := by
    intro v status n rows hv
    rw [← hhome]
    exact sendParts_replies hv
  split
  · exact hanswer _ _ _ _ .refl
  next new v hv =>
  extract_lets us w put x n
  have hput : ∀ v p, Only State.withShards v (put v p) := fun v p =>
    .foldl (fun _ _ => (Only.foldl (fun _ _ => writePage_only) _).then flagIf_only) _
  have hw : Only State.withShards v w := rfl
  have hx : Only State.withShards s x := ((growShard_only hv).set hw).set (.foldl hput _)
  split
  · exact hanswer _ _ _ _ hx
  · exact hanswer _ _ _ _ hx

/-- A request of one part is whole as it arrives. -/
theorem attReq_replies (s : State) (h : Head) (handle layer group positions request first tenant model sd t : Nat)
    (payload : List Byte) (md : Model) (ha : Accepted (s.stamp t) h 0x20) (hsd : sd < 12)
    (hc : aget s.kvShards handle = none) (hm : aget s.models model = some md)
    (hr : aget s.attRequests (h.srcPkg * 2 ^ 32 + request) = none) (hh : aget s.gallery.homes handle = none) :
    Completes (.attReq h handle layer group positions 0 request 1 first tenant model sd payload t) s fun s' =>
      aget s'.attRequests (h.srcPkg * 2 ^ 32 + request) = none ∧
      ∃ p ∈ s'.gallery.sending, p.opcode = 0x21 ∧ p.dstPkg = h.srcPkg := by
  have hport : (portExists h && decide (sd < 12)) = true := by rw [ha.port, decide_eq_true hsd]; rfl
  have hserve := State.serveAttention_replies (src := h.srcPkg)
    (s := { s.stamp t with attRequests := adel s.attRequests (h.srcPkg * 2 ^ 32 + request) })
    layer group positions request first ⟨h.srcPkg, tenant, model, sd, []⟩ md payload hh
  refine ⟨_, (if_pos hport).trans (congrArg _ (ha.receives _)), ?_⟩
  dsimp only
  rw [agetD, agetD, State.stamp_attRequests, State.stamp_kvShards, State.stamp_models, hr, hc, Option.getD_none,
    Option.getD_none, hm, wholeTrain_one]
  exact ⟨hserve.attRequests ▸ aget_adel_same .., hserve.reply⟩

theorem attReqPartsTimeout_discards (s : State) (src request t : Nat) (set : PartSet)
    (hs : aget s.attRequests (src * 2 ^ 32 + request) = some set) (ht : set.since + s.remoteLimit < t) :
    Completes (.attReqPartsTimeout src request t) s fun s' => aget s'.attRequests (src * 2 ^ 32 + request) = none := by
  have hlate : ((aget (s.stamp t).attRequests (src * 2 ^ 32 + request)).any
      fun p => p.since + (s.stamp t).remoteLimit < (s.stamp t).now) = true := by
    rw [State.stamp_attRequests, hs]
    exact decide_eq_true ht
  exact ⟨_, congrArg Host.Outcome.next (if_pos hlate), aget_adel_same ..⟩

/-! ### A reply in time (R178) -/

/-- What waits for a request is a wait of a live member for that request. -/
theorem State.waiterOf_live {s : State} {request : Nat} {b : Bool} {m : Member} {w : RemoteWait}
    (h : s.waiterOf request = some (b, m, w)) :
    ∃ r, (s.stream b).run = some r ∧ m ∈ r.live ∧ w.request = request := by
  have hlook : ∀ c, (((s.stream c).run.map StepRun.live).getD [] |>.findSome? fun m =>
      (m.remote.find? fun w => w.request == request).map fun w => (c, m, w)) = some (b, m, w) →
      ∃ r, (s.stream b).run = some r ∧ m ∈ r.live ∧ w.request = request := by
    intro c hc
    obtain ⟨q, hq, hfound⟩ := List.exists_of_findSome?_eq_some hc
    obtain ⟨v, hv, he⟩ := Option.map_eq_some_iff.mp hfound
    cases he
    cases hrun : (s.stream b).run with
    | none => rw [hrun] at hq; cases hq
    | some r =>
      rw [hrun] at hq
      exact ⟨r, rfl, hq, by simpa using List.find?_some hv⟩
  unfold State.waiterOf at h
  dsimp only at h
  split at h
  next r hr => exact hlook false (hr.trans h)
  · exact hlook true h

theorem State.member_of_live {s : State} {b : Bool} {r : StepRun} {m : Member} (hr : (s.stream b).run = some r)
    (hm : m ∈ r.live) : ∃ q, s.member b m.slot = some q := by
  unfold State.member
  rw [hr, Option.bind_some, ← Option.isSome_iff_exists, List.find?_isSome]
  exact ⟨m, hm, beq_self_eq_true _⟩

/-- A whole reply with STATUS OK ends the wait for its request. -/
theorem State.takeReply_ends {s : State} {b : Bool} {m q : Member} {w : RemoteWait} {bs : List Byte} {md : Model}
    (hq : s.member b m.slot = some q) (hst : leAt bs 24 2 = stOk) (hmd : s.modelOf m.slot = some md) :
    ∃ m', (s.takeReply b m w bs).member b m.slot = some m' ∧ ∀ r ∈ m'.remote, r.request ≠ w.request := by
  unfold State.takeReply
  dsimp only
  rw [hst, if_neg (by decide), if_neg (not_not_intro rfl), hmd]
  refine ⟨_, State.member_updMember hq (fun _ => rfl) (fun _ => rfl) (fun _ => rfl), fun r hr => ?_⟩
  simpa using (List.mem_filter.mp hr).2

theorem attReply_ends (s : State) (h : Head) (request t : Nat) (s1 : Bool) (payload : List Byte) (m : Member) (md : Model)
    (w : RemoteWait) (ha : Accepted (s.stamp t) h 0x21) (hw : s.waiterOf request = some (s1, m, w))
    (ht : t ≤ w.issued + s.remoteLimit) (hp : w.parts = []) (hst : leAt payload 24 2 = stOk)
    (hmd : s.modelOf m.slot = some md) :
    Completes (.attReply h 0 request 1 payload t) s fun s' =>
      ∃ m', s'.member s1 m.slot = some m' ∧ ∀ r ∈ m'.remote, r.request ≠ request := by
  obtain ⟨r, hr, hlive, rfl⟩ := State.waiterOf_live hw
  obtain ⟨q, hq⟩ := State.member_of_live hr hlive
  have hin : ¬ w.issued + (s.stamp t).remoteLimit < (s.stamp t).now := Nat.not_lt.mpr ht
  refine .of_accepted ha rfl ?_
  dsimp only
  rw [show (s.stamp t).waiterOf w.request = _ from hw]
  dsimp only
  rw [if_neg hin, hp, wholeTrain_one]
  exact State.takeReply_ends (s := s.stamp t) hq hst hmd

/-! ### No reply in time (R178) -/

/-- A member that is lost leaves its step; no command of its session is left to apply. -/
theorem State.loseMember_left {s : State} {b : Bool} {slot : Nat} {m : Member} (why : RemoveCause)
    (hm : s.member b slot = some m) (ho : m.out = none) (hs : (s.stream b).run.any (fun r => r.sealPt.isSome) = false)
    (hw : (s.sess slot).waiting = []) (hg : aget s.migrations slot = none) :
    (s.loseMember b slot why).Left b slot why (s.sess slot).shadow.entry := by
  have hl := State.removeMember_left why hm ho hs hw hg
  rwa [State.loseMember, State.drainSession_quiet hl.session.waiting]

theorem remoteTimeout_removes (s : State) (slot request issued t : Nat) (s1 : Bool) (m : Member)
    (hm : s.member s1 slot = some m) (ho : m.out = none) (hs : (s.stream s1).run.all (fun r => r.sealPt.isNone) = true)
    (hr : (m.remote.any fun w => w.request == request && w.issued == issued) = true) (ht : issued + s.remoteLimit < t)
    (hw : (s.sess slot).waiting = []) (hg : aget s.migrations slot = none) :
    Completes (.remoteTimeout s1 slot request issued false t) s fun s' =>
      s'.member s1 slot = none ∧ (s'.entry slot).state = .ready ∧ (s'.entry slot).holder = .none := by
  have hlate : ((m.remote.any fun w => w.request == request && w.issued == issued) &&
      decide (issued + (s.stamp t).remoteLimit < (s.stamp t).now) && m.out.isNone) = true := by
    rw [hr, decide_eq_true (show issued + (s.stamp t).remoteLimit < (s.stamp t).now from ht), ho]
    rfl
  have hseal : (s.stream s1).run.any (fun r => r.sealPt.isSome) = false := by
    cases hrun : (s.stream s1).run with
    | none => rfl
    | some r => rw [hrun] at hs; simpa using hs
  have he : exec (.remoteTimeout s1 slot request issued false t) s =
      .next (((s.stamp t).setFlag fRemoteTimeout (s.entry slot).homeSd).loseMember s1 slot .unreachable) := by
    refine congrArg Host.Outcome.next ?_
    dsimp only
    rw [show (s.stamp t).member s1 slot = some m from hm]
    exact if_pos hlate
  have hf : Only (fun s t => { s with regs := t.regs, flagSets := t.flagSets }) (s.stamp t)
      ((s.stamp t).setFlag fRemoteTimeout (s.entry slot).homeSd) := State.setFlag_only
  refine ⟨_, he, ?_⟩
  generalize (s.stamp t).setFlag fRemoteTimeout (s.entry slot).homeSd = u at hf
  have hl := State.loseMember_left (s := u) (m := m) .unreachable ((hf.keeps (State.member · s1 slot)).trans hm) ho
    ((hf.keeps fun u => (u.stream s1).run.any fun r => r.sealPt.isSome).trans hseal)
    ((hf.keeps fun u => (u.sess slot).waiting).trans hw) ((hf.keeps fun u => aget u.migrations slot).trans hg)
  exact ⟨hl.member, hl.state, hl.session.holder⟩

/-- Settles O25, a lemma for each message and timer: a served request is answered whatever its status
(`serveAttention_replies`), a reply ends the wait (`takeReply_ends`), a lost member leaves its step (`loseMember_left`). -/
theorem remoteAttention : Obligations.RemoteAttention := by
  unfold Obligations.RemoteAttention
  intro s h handle layer group positions request first tenant model sd slot issued t s1 payload m md w
  exact ⟨attReq_replies s h handle layer group positions request first tenant model sd t payload md,
    attReqPartsTimeout_discards s handle request t, attReply_ends s h request t s1 payload m md w,
    remoteTimeout_removes s slot request issued t s1 m⟩

end Sys2Proof.Machine

namespace Sys2Proof.Machine
-- In order, as in the tests: many proofs at once would each wait for the others in a thread of its own.
set_option Elab.async false

/-! ### A slot of Zynut-W (R209, R210) -/

/-- The state `v` is `s` but for time and the cores, of which only core `i` differs: it is `q`. -/
structure State.CoreIs (s : State) (i : Nat) (q : Core) (v : State) : Prop where
  frame : Only (fun s t => { s with pt := t.pt, now := t.now, cores := t.cores }) s v
  core : v.core i = q
  other : ∀ j, j ≠ i → v.core j = s.core j

/-- What a slot does that neither branches, waits at a barrier nor halts. -/
def ZwAct.stays : ZwAct → Bool
  | .branch _ | .loop _ _ | .call _ | .ret _ | .bar _ | .halt => false
  | _ => true

/-- The core `c` with its bundle open and empty. -/
def Core.opened (c : Core) : Core := { c with bundle := some ⟨false, [], []⟩ }

/-- The core `c` after the writes of a bundle. -/
def Core.wrote (c : Core) (writes : List (Nat × Nat)) : Core := { c with regs := writes.foldl WRegs.write c.regs }

/-- The state `s` after `n` values are drawn. -/
def State.drew (s : State) (n : Nat) : State := { s with draws := s.draws + n }

section Slot
variable {s u v : State} {i slot n : Nat} {c q : Core} {x : Instr} {writes : List (Nat × Nat)} {acts : List ZwAct}

theorem State.CoreIs.putCore (h : s.CoreIs i q v) (q' : Core) : s.CoreIs i q' (v.putCore i q') :=
  ⟨h.frame.then State.putCore_only, v.core_putCore i q', fun j hj => (v.core_putCore_other q' hj).trans (h.other j hj)⟩

/-- Values drawn as a slot executes. -/
theorem State.CoreIs.draw (h : s.CoreIs i q v) (n : Nat) :
    (s.drew n).CoreIs i q (v.drew n) :=
  ⟨congrArg (State.drew · n) h.frame, h.core, h.other⟩

theorem State.CoreIs.zwRead (h : s.CoreIs i q v) (hq : q.sram = (s.core i).sram) (a n : Nat) :
    v.zwRead i a n = s.zwRead i a n := by
  unfold State.zwRead
  rw [h.core, hq, h.frame.keeps State.clusterSram]

theorem lt_clusterBase {a n : Nat} (h : a + n ≤ 0x400000) : a < clusterBase := by
  unfold clusterBase; omega

theorem zwRange_core {a n : Nat} (i : Nat) (h : a + n ≤ 0x400000) : zwRange i a n = true := by simp [zwRange, h]

theorem State.zwRead_core (s : State) (i : Nat) {a : Nat} (h : a < clusterBase) (n : Nat) :
    s.zwRead i a n = memRead (s.core i).sram a n := if_pos h

/-- A slot reads the core SRAM that its core has as the bundle issues. -/
theorem State.CoreIs.reads_sram (h : s.CoreIs i c.opened u) {a n : Nat} (ha : a + n ≤ 0x400000) :
    u.zwRead i a n = memRead c.sram a n := by
  rw [u.zwRead_core i (lt_clusterBase ha), h.core]
  rfl

theorem State.zwWrite_core (s : State) (i : Nat) {a : Nat} (h : a < clusterBase) (bs : List Byte) :
    s.zwWrite i a bs = s.putCore i { s.core i with sram := memWrite (s.core i).sram a bs } := if_pos h

theorem ZwReady.loops (h : ZwReady s i c) : c.loops = [] := by
  obtain ⟨_, _, _, _, _, _, hl, _⟩ := h
  exact hl

theorem ZwReady.core (h : ZwReady s i c) : s.core i = c := by
  obtain ⟨_, _, hc, _⟩ := h
  exact hc

theorem bar_of_stays (ha : ∀ a ∈ acts, a.stays = true) (k : Bool) : Bundle.bar ⟨k, writes, acts⟩ = none := by
  refine List.findSome?_eq_none_iff.2 fun a h => ?_
  have hs := ha a h
  cases a with
  | bar => cases hs
  | _ => rfl

theorem not_halt_of_stays (ha : ∀ a ∈ acts, a.stays = true) : acts.contains .halt = false :=
  Bool.eq_false_iff.2 fun h => Bool.false_ne_true (ha _ (List.contains_iff_mem.1 h))

/-- After a bundle that does not branch the core is at the next one. -/
theorem State.zwAdvance_stays (hl : (s.core i).loops = []) (ha : ∀ a ∈ acts, a.stays = true) :
    s.zwAdvance i acts = s.putCore i { s.core i with pc := (s.core i).after } := by
  have hnone {g : ZwAct → Option Core} (hg : ∀ a, a.stays = true → g a = none) : acts.findSome? g = none :=
    List.findSome?_eq_none_iff.2 fun a h => hg a (ha a h)
  unfold State.zwAdvance
  dsimp only
  rw [hnone fun a h => by
    cases a with
    | branch | call | ret | loop => cases h
    | _ => rfl, hl]
  simp only [loopNext, Option.getD_none, Core.after, ← hl]

/-- A whole bundle that stays takes effect: what it writes, then what else it does, then the pc. -/
theorem State.zwCommit_stays (hc : s.core i = { c with bundle := some ⟨false, writes, acts⟩ })
    (hbar : c.barrier = none) (hbun : c.bundle = none) (ha : ∀ a ∈ acts, a.stays = true) :
    s.zwCommit i =
      (acts.foldl (State.zwAct i) (s.putCore i (c.wrote writes))).zwAdvance i acts := by
  simp only [State.zwCommit, State.zwFinish, hc, Option.bind_some, bar_of_stays ha, not_halt_of_stays ha,
    Bool.false_eq_true, if_false, Core.wrote, hbar, hbun]

theorem State.CoreIs.zwExec_stays (hu : s.CoreIs i c.opened u)
    (hbar : c.barrier = none) (hbun : c.bundle = none) (ha : ∀ a ∈ acts, a.stays = true) :
    ∃ v, (s.drew n).CoreIs i (c.wrote writes) v ∧
      u.zwExec i slot true ⟨false, [], []⟩ (.ok writes acts n) = (acts.foldl (State.zwAct i) v).zwAdvance i acts := by
  have hopen := (hu.putCore { c with bundle := some ⟨false, writes, acts⟩ }).draw n
  have hw : ¬ (writes.any fun w => ([] : List (Nat × Nat)).any fun v => v.1 == w.1) = true := by simp
  refine ⟨_, hopen.putCore _, Eq.trans ?_ (State.zwCommit_stays hopen.core hbar hbun ha)⟩
  refine (if_neg Bool.false_ne_true).trans ((if_neg hw).trans ((if_pos rfl).trans ?_))
  rw [hu.core]
  rfl

theorem Only.of_cores {pt now : Nat} {cs : List (Nat × Core)} (hu : u = { s with pt := pt, now := now, cores := cs }) :
    Only (fun s t => { s with pt := t.pt, now := t.now, cores := t.cores }) s u := by
  subst hu
  rfl

/-- A slot of core `i`, in the state of core `c` where its bundle is open and empty, executes with the outcome `o`. -/
def ZwExecutes (x : Instr) (s : State) (i slot : Nat) (c : Core) (o : ZwOut) : Prop :=
  ∃ t f, exec x s = s.zwSlot (zwOne i) t slot f ∧
    ∀ u, s.CoreIs i c.opened u → f u c.regs = o

/-- The slot of a core that is ready to issue reads what its core holds (R210). -/
theorem ZwExecutes.issue {o : ZwOut} (hx : ZwExecutes x s i slot c o) (h : ZwReady s i c) :
    ∃ u, s.CoreIs i c.opened u ∧
      exec x s = .next (u.zwExec i slot true ⟨false, [], []⟩ o) := by
  obtain ⟨t, f, he, hf⟩ := hx
  obtain ⟨u, hc, ho, hu, hs⟩ := State.zwSlot_issue h t slot f
  have hu' : s.CoreIs i c.opened u := ⟨.of_cores hu, hc, ho⟩
  exact ⟨u, hu', by rw [he, hs, hf u hu']⟩

/-- What a slot of a core that is ready to issue comes to: its writes in the registers of the core `v`, then its acts, then
the next bundle. -/
theorem Completes.of_slot {P : State → Prop} (h : ZwReady s i c) (hx : ZwExecutes x s i slot c (.ok writes acts n))
    (ha : ∀ a ∈ acts, a.stays = true)
    (hP : ∀ v, (s.drew n).CoreIs i (c.wrote writes) v →
      ∀ w, w = acts.foldl (State.zwAct i) v →
        (w.core i).loops = [] ∧ P (w.putCore i { w.core i with pc := (w.core i).after })) : Completes x s P := by
  obtain ⟨u, hu, he⟩ := hx.issue h
  obtain ⟨_, _, _, _, hbar, hbun, _, _⟩ := h
  obtain ⟨v, hv, hw⟩ := hu.zwExec_stays hbar hbun ha
  obtain ⟨hl, hp⟩ := hP v hv _ rfl
  rw [hw, State.zwAdvance_stays hl ha] at he
  exact ⟨_, he, hp⟩

/-- A slot whose acts leave the machine as it was but for time and its core. -/
theorem ZwRuns.of_slot (h : ZwReady s i c) (hx : ZwExecutes x s i slot c (.ok writes acts 0))
    (ha : ∀ a ∈ acts, a.stays = true) (hl : q.loops = [])
    (hq : ∀ v, s.CoreIs i (c.wrote writes) v →
      s.CoreIs i q (acts.foldl (State.zwAct i) v)) : ZwRuns x s i { q with pc := q.after } :=
  Completes.of_slot h hx ha fun v hv w hw => by
    have hq : s.CoreIs i q w := hw ▸ hq v hv
    rw [hq.core]
    have hr := hq.putCore { q with pc := q.after }
    exact ⟨hl, hr.core, hr.other, hr.frame⟩

end Slot

/-! ### Exceptions (R217) -/

section Exception
variable {s : State} {i slot code : Nat} {c : Core} {x : Instr}

theorem State.coreSteps_idle (h0 : s.s0.run = none) (h1 : s.s1.run = none) (i : Nat) : s.coreSteps i = [] := by
  simp [State.coreSteps, State.stream, h0, h1]

/-- With no step in flight an exception stops its core, and nothing else but a flag changes. -/
theorem State.zwException_idle (h0 : s.s0.run = none) (h1 : s.s1.run = none) (i code slots : Nat) :
    (s.zwException i code slots).core i = { s.core i with
      state := .stopped, bundle := none, barrier := none, matrix := [], deferred := [], loops := [], depth := 0
      exc := code, excSlot := slots, excPc := (s.core i).pc, excStep := (s.core i).excStep % 2 ^ 48 } := by
  simp only [State.zwException, State.coreSteps_idle h0 h1, State.abandonWhere, List.foldl_cons, List.foldl_nil,
    List.any_nil, Bool.false_eq_true, if_false, List.head?_nil, Option.map_none, Option.getD_none]
  split
  · exact State.core_putCore ..
  · exact (State.setFlag_only.keeps (State.core · i)).trans (State.core_putCore ..)

/-- A slot that faults stops its core, whose registers and memory stand. -/
theorem ZwStops.of_slot (h : ZwReady s i c) (h0 : s.s0.run = none) (h1 : s.s1.run = none)
    (hx : ZwExecutes x s i slot c (.fault code)) : ZwStops x s i code (2 ^ slot) := by
  obtain ⟨u, hu, he⟩ := hx.issue h
  have hs := u.zwException_idle ((hu.frame.keeps fun u => u.s0.run).trans h0)
    ((hu.frame.keeps fun u => u.s1.run).trans h1) i code (2 ^ slot)
  rw [hu.core] at hs
  refine ⟨_, he, ?_⟩
  dsimp only [State.zwExec]
  rw [h.core, if_neg Bool.false_ne_true, hs]
  exact ⟨rfl, rfl, rfl, rfl, rfl, rfl⟩

end Exception

end Sys2Proof.Machine

namespace Sys2Proof.Machine
-- In order, as in the tests: many proofs at once would each wait for the others in a thread of its own.
set_option Elab.async false

/-! ### Exchange slots (R207, R216) -/

section Exchange
variable {s v : State} {i len t n a : Nat} {c q : Core} {x : Instr} {g : State → WRegs → Nat → ZwOut}

theorem State.CoreIs.store (h : s.CoreIs i q v) (ha : a < clusterBase) (bs : List Byte) :
    s.CoreIs i { q with sram := memWrite q.sram a bs } (v.zwWrite i a bs) := by
  rw [v.zwWrite_core i ha, h.core]
  exact h.putCore _

/-- An exchange slot whose length is a multiple of 64 passes its check (R216). -/
theorem ZwExecutes.of_exchange {o : ZwOut} (hx : exec x s = s.zwExchange (zwOne i) len t g) (hn : c.regs.s len = n)
    (h64 : n % 64 = 0)
    (hg : ∀ u, s.CoreIs i c.opened u → g u c.regs n = o) :
    ZwExecutes x s i slotExchange c o := by
  subst hn
  exact ⟨t, _, hx, fun u hu => (if_neg (not_not.2 h64)).trans (hg u hu)⟩

theorem ZwExecutes.of_exchange_unaligned (hx : exec x s = s.zwExchange (zwOne i) len t g) (h64 : c.regs.s len % 64 ≠ 0) :
    ZwExecutes x s i slotExchange c (.fault 2) :=
  ⟨t, _, hx, fun _ _ => if_pos h64⟩

end Exchange

section ExchangeSlots
variable {s : State} {i t dst src len aux pkg die n : Nat} {c : Core}

theorem zwXfence_runs (h : ZwReady s i c) : ZwRuns (.zwXfence (zwOne i) t) s i { c with pc := c.after } :=
  .of_slot (q := c) (writes := []) (acts := []) h
    ⟨t, _, show execZwXfence .. = _ from rfl, fun _ _ => rfl⟩ (by simp) h.loops fun _ hv => hv

theorem zwXcopy_copies (h : ZwReady s i c) (hn : c.regs.s len = n) (h64 : n % 64 = 0)
    (hd : c.regs.s dst + n ≤ 0x400000) (hs : c.regs.s src + n ≤ 0x400000) :
    ZwRuns (.zwXcopy (zwOne i) dst src len t) s i
      { c with sram := memWrite c.sram (c.regs.s dst) (memRead c.sram (c.regs.s src) n), pc := c.after } := by
  refine .of_slot (writes := []) (acts := [.store (c.regs.s dst) (memRead c.sram (c.regs.s src) n)])
    (q := { c with sram := memWrite c.sram (c.regs.s dst) (memRead c.sram (c.regs.s src) n) }) h
    (.of_exchange (show execZwXcopy .. = _ from rfl) hn h64 fun u hu => ?_) (List.forall_mem_singleton.2 rfl) h.loops
    fun v hv => hv.store (lt_clusterBase hd) _
  simp [zwOne, zwRange_core i hd, zwRange_core i hs, hu.reads_sram hs]

theorem zwXstream_loads (h : ZwReady s i c) (hn : c.regs.s len = n) (h64 : n % 64 = 0)
    (hd : c.regs.s dst + n ≤ 0x400000) (bs : List Byte) :
    ZwRuns (.zwXstream (zwOne i) dst src len (some (c.model, bs)) t) s i
      { c with sram := memWrite c.sram (c.regs.s dst) (bytesAt bs 0 n), pc := c.after } := by
  refine .of_slot (writes := []) (acts := [.store (c.regs.s dst) (bytesAt bs 0 n)])
    (q := { c with sram := memWrite c.sram (c.regs.s dst) (bytesAt bs 0 n) }) h
    (.of_exchange (show execZwXstream (zwOne i) dst src len (some (c.model, bs)) t s = _ from rfl) hn h64 fun u hu => ?_)
    (List.forall_mem_singleton.2 rfl) h.loops fun v hv => hv.store (lt_clusterBase hd) _
  simp [zwOne, zwRange_core i hd, hu.core, Core.opened]

theorem zwXsend_sends (h : ZwReady s i c) (hn : c.regs.s len = n) (h64 : n % 64 = 0) (hi : i < 512)
    (hd : c.regs.s dst + n ≤ 0x400000) (hs : c.regs.s src + n ≤ 0x400000) {j : Nat}
    (hj : j = 8 * (i / 8) + c.regs.s aux % 8) (hji : j ≠ i) :
    Completes (.zwXsend (zwOne i) dst src len aux t) s fun s' =>
      (s'.core j).sram = memWrite (s.core j).sram (c.regs.s dst) (memRead c.sram (c.regs.s src) n) ∧
      s'.core i = { c with pc := c.after } := by
  refine .of_slot (writes := []) (acts := [.send j (c.regs.s dst) (memRead c.sram (c.regs.s src) n)]) (n := 0) h
    (.of_exchange (show execZwXsend .. = _ from rfl) hn h64 fun u hu => ?_) (List.forall_mem_singleton.2 rfl) fun v hv w hw => ?_
  · subst hj
    simp [zwOne, Nat.not_le.2 hi, Nat.not_lt.2 hd, zwRange_core i hs, hu.reads_sram hs]
  · have hwj : w.core j = { s.core j with
        sram := memWrite (s.core j).sram (c.regs.s dst) (memRead c.sram (c.regs.s src) n) } := by
      rw [hw, ← show v.core j = s.core j from hv.other j hji]
      exact (congrArg (State.core · j) (v.zwWrite_core j (lt_clusterBase hd) _)).trans (State.core_putCore ..)
    have hwi : w.core i = c := by
      rw [hw]
      refine (congrArg (State.core · i) (v.zwWrite_core j (lt_clusterBase hd) _)).trans ?_
      exact (State.core_putCore_other _ _ hji.symm).trans hv.core
    rw [hwi]
    refine ⟨h.loops, ?_, State.core_putCore ..⟩
    rw [State.core_putCore_other _ _ hji, hwj]

theorem zwXappend_appends (h : ZwReady s i c) (hn : c.regs.s len = n) (h64 : n % 64 = 0)
    (hs : c.regs.s src + n ≤ 0x400000) :
    Completes (.zwXappend (zwOne i) src len aux t) s fun s' =>
      s'.appends = s.appends ++ [(i, c.regs.s aux, memRead c.sram (c.regs.s src) n)] ∧
      s'.core i = { c with pc := c.after } := by
  refine .of_slot (writes := []) (acts := [.append (c.regs.s aux) (memRead c.sram (c.regs.s src) n)]) (n := 0) h
    (.of_exchange (show execZwXappend .. = _ from rfl) hn h64 fun u hu => ?_) (List.forall_mem_singleton.2 rfl) fun v hv w hw => ?_
  · simp [zwOne, zwRange_core i hs, hu.reads_sram hs]
  · have hwi : w.core i = c := hw ▸ hv.core
    have hwa : w.appends = v.appends ++ [(i, c.regs.s aux, memRead c.sram (c.regs.s src) n)] := hw ▸ rfl
    rw [hwi]
    refine ⟨h.loops, ?_, State.core_putCore ..⟩
    rw [State.putCore_appends, hwa, hv.frame.keeps State.appends]
    rfl

/-- A payload of at most 4 KiB leaves in one packet, for the die that the slot names (R216, R316). -/
theorem State.zwAct_gallery (s : State) (i a : Nat) {bs : List Byte} (h0 : 0 < bs.length) (h4 : bs.length ≤ 4096) :
    ∃ q, (s.zwAct i (.gallery pkg die a bs)).gallery.sending = s.gallery.sending ++ [q] ∧ q.opcode = 0x37 ∧
      q.dstPkg = pkg ∧ q.dstDie = die ∧ q.payload = bs := by
  have hc : ceilDiv bs.length 4096 = 1 := by
    obtain ⟨n, hn⟩ := Nat.exists_eq_succ_of_ne_zero h0.ne'
    rw [hn] at h4 ⊢
    exact (Nat.add_div_right n (by decide)).trans (congrArg (· + 1) (Nat.div_eq_of_lt h4))
  unfold State.zwAct
  dsimp only
  rw [hc, List.range_one, List.foldl_cons, List.foldl_nil]
  unfold State.send
  extract_lets p u
  have hu : u.gallery = s.gallery := by
    unfold u
    split
    · exact State.charge_only.keeps State.gallery
    · rfl
  exact ⟨p, by rw [← hu], rfl, rfl, rfl, by simp [p, List.take_of_length_le h4]⟩

theorem State.zwAct_gallery_only (s : State) (i a : Nat) (bs : List Byte) :
    Only (fun s t => { s with tenants := t.tenants, gallery := t.gallery }) s (s.zwAct i (.gallery pkg die a bs)) :=
  .foldl (fun _ _ => State.send_only) _

theorem zwXgallery_sends (h : ZwReady s i c) (hn : c.regs.s len = n) (h64 : n % 64 = 0)
    (hs : c.regs.s src + n ≤ 0x400000) (h0 : 0 < n) (h4 : n ≤ 4096) :
    Completes (.zwXgallery (zwOne i) dst src len pkg die t) s fun s' =>
      (∃ q, s'.gallery.sending = s.gallery.sending ++ [q] ∧ q.opcode = 0x37 ∧ q.dstPkg = pkg ∧ q.dstDie = die ∧
        q.payload = memRead c.sram (c.regs.s src) n) ∧ s'.core i = { c with pc := c.after } := by
  refine .of_slot (writes := []) (acts := [.gallery pkg die (c.regs.s dst) (memRead c.sram (c.regs.s src) n)]) (n := 0)
    h (.of_exchange (show execZwXgallery .. = _ from rfl) hn h64 fun u hu => ?_) (List.forall_mem_singleton.2 rfl) fun v hv w hw => ?_
  · simp [zwOne, zwRange_core i hs, hu.reads_sram hs]
  · have hwi : w.core i = c := by
      rw [hw]
      exact ((v.zwAct_gallery_only i _ _).keeps (State.core · i)).trans hv.core
    have hq := v.zwAct_gallery (pkg := pkg) (die := die) i (c.regs.s dst)
      (bs := memRead c.sram (c.regs.s src) n) (by simpa using h0) (by simpa using h4)
    rw [hv.frame.keeps State.gallery] at hq
    rw [hwi]
    exact ⟨h.loops, hw ▸ hq, State.core_putCore ..⟩

theorem zwXcopy_stops (h : ZwReady s i c) (h64 : c.regs.s len % 64 ≠ 0) (h0 : s.s0.run = none) (h1 : s.s1.run = none) :
    ZwStops (.zwXcopy (zwOne i) dst src len t) s i 2 (2 ^ 7) :=
  .of_slot h h0 h1 (.of_exchange_unaligned (show execZwXcopy .. = _ from rfl) h64)

end ExchangeSlots

end Sys2Proof.Machine

namespace Sys2Proof.Machine
-- In order, as in the tests: many proofs at once would each wait for the others in a thread of its own.
set_option Elab.async false

/-! ### Matrix slots (R211, R214) -/

section Matrix
variable {s u : State} {i e t : Nat} {c : Core} {x : Instr} {m : MatCmd} {y : Tile} {P : State → Prop}

/-- A matrix slot adds its command to those its core has issued. -/
theorem ZwRuns.of_matrix {g : WRegs → MatCmd} (h : ZwReady s i c) (he : e < 4)
    (hx : exec x s = s.zwMatrix (zwOne i) e t g) (hg : g c.regs = m) :
    ZwRuns x s i { c with matrix := c.matrix ++ [m], pc := c.after } := by
  refine .of_slot (q := { c with matrix := c.matrix ++ [m] }) (acts := [.matrix m]) (writes := []) h
    ⟨t, _, hx.trans (if_neg (Nat.not_le.2 he)), fun _ _ => hg ▸ rfl⟩ (List.forall_mem_singleton.2 rfl) h.loops fun v hv => ?_
  change s.CoreIs i _ (v.putCore i _)
  rw [hv.core]
  exact hv.putCore _

/-- The core `c` with a tile's new content. -/
def Core.withTile (c : Core) (r : Nat) (y : Tile) : Core := { c with regs := { c.regs with tile := aset c.regs.tile r y } }

@[simp] theorem Core.withTile_t (c : Core) (r : Nat) (y : Tile) : (c.withTile r y).regs.t r = y := agetD_aset_same ..

theorem State.mma_congr (h : ∀ a n, u.zwRead i a n = s.zwRead i a n) (m : MatCmd) (y : Tile) :
    u.mma i m y = s.mma i m y := by
  simp only [State.mma, State.operandRows, h]
  rfl

theorem State.matExec_tzero (hc : s.core i = c) (hm : m.op = .tzero) :
    (s.matExec i m).core i = c.withTile m.tile ⟨signed 16 m.a, [], false⟩ := by
  obtain ⟨engine, op, tile, fmtA, fmtB, a, b, k, unscaled⟩ := m
  subst hc hm
  exact State.core_putCore ..

theorem State.matExec_mma (hc : s.core i = c) (hm : m.op = .mma) (hv : (c.regs.t m.tile).invalid = false)
    (hy : s.mma i m (c.regs.t m.tile) = ⟨some y, none, [], none⟩) :
    (s.matExec i m).core i = c.withTile m.tile y := by
  subst hc
  simp only [State.matExec, hm, hy, hv]
  exact State.core_putCore ..

theorem State.timg_stores (hv : y.invalid = false) (ha : m.a + 19456 ≤ 0x400000) :
    s.timg i m y = ⟨none, some (m.a, (List.range 1024).flatMap fun j => accImage (y.acc j)), [], none⟩ := by
  simp [State.timg, zwRange_core i ha, hv]

theorem State.matExec_timg (hc : s.core i = c) (hm : m.op = .timg) (hv : (c.regs.t m.tile).invalid = false)
    (ha : m.a + 19456 ≤ 0x400000) :
    (s.matExec i m).core i = { c with
      sram := memWrite c.sram m.a ((List.range 1024).flatMap fun j => accImage ((c.regs.t m.tile).acc j)) } := by
  subst hc
  simp only [State.matExec, hm, State.timg_stores hv ha, State.zwWrite_core _ i (lt_clusterBase ha)]
  exact State.core_putCore ..

theorem State.matExec_mma_bad {code : Nat} (hc : s.core i = c) (hm : m.op = .mma)
    (hy : s.mma i m (c.regs.t m.tile) = .bad code) :
    (s.matExec i m).core i = { c.withTile m.tile { c.regs.t m.tile with invalid := true } with
      deferred := c.deferred ++ [(m.engine, code)] } := by
  subst hc
  simp only [State.matExec, hm, hy, MatOut.bad]
  refine (State.core_putCore ..).trans ?_
  simp only [beq_self_eq_true, Bool.true_or, if_true, State.core_putCore]
  rfl

/-- The only command of a core is the oldest of its engine and waits for none. -/
theorem exec_zwMatrixDone_single (hi : i < 516) (hin : s.coreIn i = true) (hm : (s.core i).matrix = [m])
    (he : m.engine < 4) :
    exec (.zwMatrixDone i m.engine t) s =
      .next (((s.stamp t).putCore i { s.core i with matrix := [] }).matExec i m) := by
  have hin' : (s.stamp t).coreIn i = true := hin
  have hm' : ((s.stamp t).core i).matrix = [m] := hm
  have hx : exec (.zwMatrixDone i m.engine t) s = execZwMatrixDone i m.engine t s := rfl
  rw [hx, execZwMatrixDone, if_neg (Nat.not_le.2 he), State.zwEvent, if_neg (Nat.not_le.2 hi), if_pos hin', hm']
  simp [indexOf?, State.matComplete, hm', needed]
  rfl

/-- What the only command of a core comes to when it completes (R211). -/
theorem Completes.of_matrixDone (hi : i < 516) (he : m.engine < 4) (hin : s.coreIn i = true) (hm : (s.core i).matrix = [m])
    (hP : ∀ v, s.CoreIs i { s.core i with matrix := [] } v → P (v.matExec i m)) :
    Completes (.zwMatrixDone i m.engine t) s P :=
  have hs : s.CoreIs i (s.core i) (s.stamp t) := ⟨rfl, rfl, fun _ _ => rfl⟩
  ⟨_, exec_zwMatrixDone_single hi hin hm he, hP _ (hs.putCore _)⟩

end Matrix

/-- Settles O47: a matrix slot adds its command (`ZwRuns.of_matrix`), which takes effect as `matExec` has it for its
operation; an exchange slot by what its act does to memories, the append unit and the fabric. -/
theorem zwMatrixAndExchangeSlots : Obligations.ZwMatrixAndExchangeSlots := by
  intro s i e tile fmtA fmtB sA sB sK dst src len aux pkg die n t c m y bs hi he
  constructor
  · intro h
    refine ⟨.of_matrix h he rfl rfl, .of_matrix h he rfl rfl, .of_matrix h he rfl rfl, .of_matrix h he rfl rfl,
      .of_matrix h he rfl rfl, .of_matrix h he rfl rfl, zwXfence_runs h, fun hn h64 => ⟨zwXcopy_copies h hn h64,
        fun hc hd hs hj => zwXsend_sends h hn h64 hc hd hs rfl hj, fun hd => zwXstream_loads h hn h64 hd bs,
        fun hs => ⟨zwXappend_appends h hn h64 hs, zwXgallery_sends h hn h64 hs⟩⟩, zwXcopy_stops h⟩
  · rintro hin rfl hm rfl
    refine ⟨fun ho => ?_, fun ho hvalid hy => ?_, fun ho hvalid ha => ?_, fun code ho hy => ?_⟩ <;>
      refine .of_matrixDone hi he hin hm fun v hv => ?_
    · rw [State.matExec_tzero hv.core ho]
      exact ⟨rfl, Core.withTile_t .., rfl⟩
    · rw [State.matExec_mma hv.core ho hvalid ((State.mma_congr (hv.zwRead rfl) ..).trans hy)]
      exact ⟨rfl, Core.withTile_t .., rfl⟩
    · rw [State.matExec_timg hv.core ho hvalid ha]
      dsimp only
      exact ⟨rfl, rfl, rfl⟩
    · rw [State.matExec_mma_bad hv.core ho ((State.mma_congr (hv.zwRead rfl) ..).trans hy)]
      exact ⟨rfl, congrArg Tile.invalid (Core.withTile_t ..)⟩

end Sys2Proof.Machine

namespace Sys2Proof.Machine
-- In order, as in the tests: many proofs at once would each wait for the others in a thread of its own.
set_option Elab.async false

/-! ### Lanes of vector registers (R206, R215) -/

section Lanes

theorem ofLanes_lt (l : List Nat) : ofLanes l < 2 ^ (32 * l.length) := by
  induction l with
  | nil => simp [ofLanes]
  | cons x l ih =>
    calc x % 2 ^ 32 + 2 ^ 32 * ofLanes l < 2 ^ 32 + 2 ^ 32 * ofLanes l :=
          Nat.add_lt_add_right (Nat.mod_lt _ (by decide)) _
      _ = 2 ^ 32 * (ofLanes l + 1) := by rw [Nat.mul_succ, Nat.add_comm]
      _ ≤ 2 ^ 32 * 2 ^ (32 * l.length) := Nat.mul_le_mul_left _ ih
      _ = 2 ^ (32 * (l.length + 1)) := by rw [← Nat.pow_add, Nat.mul_succ, Nat.add_comm]

/-- A lane of a register made of lanes. -/
theorem ofLanes_lane (l : List Nat) (k : Nat) : ofLanes l / 2 ^ (32 * k) % 2 ^ 32 = l.getD k 0 % 2 ^ 32 := by
  induction l generalizing k with
  | nil => simp [ofLanes]
  | cons x l ih =>
    have hx : x % 2 ^ 32 < 2 ^ 32 := Nat.mod_lt _ (by decide)
    cases k with
    | zero => simp [ofLanes]
    | succ k =>
      rw [Nat.mul_succ, Nat.add_comm, Nat.pow_add, ← Nat.div_div_eq_div_mul, ofLanes,
        Nat.add_mul_div_left _ _ (by decide), Nat.div_eq_of_lt hx, Nat.zero_add, ih]
      rfl

theorem agetD_putReg (l : List (Nat × Nat)) (r v j : Nat) :
    agetD (putReg l r v) j 0 = if j = r then v else agetD l j 0 := by
  unfold putReg agetD
  split
  · rw [aget_adel]; split <;> simp_all
  · rw [aget_aset]; split <;> simp

/-- A write of a vector register (R206). -/
theorem WRegs.write_vector (w : WRegs) {r : Nat} (hr : r < 32) (v : Nat) :
    w.write (32 + r, v) = { w with vector := putReg w.vector r (v % 2 ^ 2048) } := by
  have h1 : ¬ 32 + r < 32 := by omega
  have h2 : 32 + r < 64 := by omega
  simp only [WRegs.write, if_neg h1, if_pos h2, Nat.add_sub_cancel_left]

theorem length_lanesOf (v : Nat) : (lanesOf v).length = 64 := by simp [lanesOf]

theorem WRegs.length_lanes (w : WRegs) (r : Nat) (pair : Bool) :
    (w.lanes r pair).length = if pair then 128 else 64 := by
  cases pair <;> simp [WRegs.lanes, length_lanesOf]

theorem getD_lanesOf (v : Nat) {k : Nat} (hk : k < 64) : (lanesOf v).getD k 0 = v / 2 ^ (32 * k) % 2 ^ 32 := by
  simp [lanesOf, hk]

/-- A lane of a register, the first of a pair or alone. -/
theorem WRegs.getD_lanes (w : WRegs) (r : Nat) (pair : Bool) {k : Nat} (hk : k < 64) :
    (w.lanes r pair).getD k 0 = w.v r / 2 ^ (32 * k) % 2 ^ 32 := by
  rw [WRegs.lanes, List.getD_append _ _ _ _ (by rwa [length_lanesOf]), getD_lanesOf _ hk]

/-- A lane of the second register of a pair. -/
theorem WRegs.getD_lanes_second (w : WRegs) (r : Nat) {k : Nat} (hk : k < 64) :
    (w.lanes r true).getD (64 + k) 0 = w.v (r + 1) / 2 ^ (32 * k) % 2 ^ 32 := by
  rw [WRegs.lanes, List.getD_append_right _ _ _ _ (by rw [length_lanesOf]; exact Nat.le_add_right ..), length_lanesOf,
    Nat.add_sub_cancel_left, if_pos rfl, getD_lanesOf _ hk]

/-- A property of lanes holds of every lane if it holds of those of the first register, and of those of the second. -/
theorem forall_lanes {P : Nat → Prop} {pair : Bool} (h : ∀ k, k < 64 → P k)
    (h' : pair = true → ∀ k, k < 64 → P (64 + k)) (k : Nat) (hk : k < if pair then 128 else 64) : P k := by
  rcases Nat.lt_or_ge k 64 with hlt | hge
  · exact h k hlt
  · obtain ⟨j, rfl⟩ := Nat.exists_eq_add_of_le hge
    cases pair with
    | false => exact absurd hk (Nat.not_lt.2 hge)
    | true => exact h' rfl j (Nat.add_lt_add_iff_left.1 hk)

theorem WRegs.getD_lanes_lt (w : WRegs) (r : Nat) {pair : Bool} {k : Nat} (hk : k < if pair then 128 else 64) :
    (w.lanes r pair).getD k 0 < 2 ^ 32 := by
  refine forall_lanes (P := fun k => (w.lanes r pair).getD k 0 < 2 ^ 32) (fun k hk => ?_) (fun hp k hk => ?_) k hk
  · rw [w.getD_lanes r pair hk]; exact Nat.mod_lt _ (by decide)
  · rw [hp, w.getD_lanes_second r hk]; exact Nat.mod_lt _ (by decide)

/-- The registers after the writes of a vector slot. -/
def WRegs.putLanes (w : WRegs) (r : Nat) (pair : Bool) (l : List Nat) : WRegs :=
  (laneWrites r pair l).foldl WRegs.write w

variable {w : WRegs} {r : Nat} {pair : Bool} {l : List Nat}

theorem WRegs.putLanes_eq (hr : r < 32) (hp : pair = true → r + 1 < 32) :
    w.putLanes r pair l = { w with
      vector := if pair
        then putReg (putReg w.vector r (ofLanes (l.take 64) % 2 ^ 2048)) (r + 1) (ofLanes (l.drop 64) % 2 ^ 2048)
        else putReg w.vector r (ofLanes (l.take 64) % 2 ^ 2048) } := by
  cases pair with
  | false =>
    simp only [WRegs.putLanes, laneWrites, Bool.false_eq_true, if_false, List.foldl_cons, List.foldl_nil,
      w.write_vector hr]
  | true =>
    have h33 : 33 + r = 32 + (r + 1) := by omega
    simp only [WRegs.putLanes, laneWrites, if_true, List.foldl_cons, List.foldl_nil, h33, WRegs.write_vector _ hr,
      WRegs.write_vector _ (hp rfl)]

/-- A vector slot writes vector registers only. -/
theorem WRegs.putLanes_vector (hr : r < 32) (hp : pair = true → r + 1 < 32) :
    w.putLanes r pair l = { w with vector := (w.putLanes r pair l).vector } := by
  rw [WRegs.putLanes_eq hr hp]

theorem WRegs.v_putLanes (hr : r < 32) (hp : pair = true → r + 1 < 32) (j : Nat) :
    (w.putLanes r pair l).v j =
      if j = r then ofLanes (l.take 64) % 2 ^ 2048
      else if pair = true ∧ j = r + 1 then ofLanes (l.drop 64) % 2 ^ 2048 else w.v j := by
  rw [WRegs.putLanes_eq hr hp]
  cases pair with
  | false => simp only [WRegs.v, Bool.false_eq_true, if_false, agetD_putReg, false_and]
  | true =>
    simp only [WRegs.v, if_true, agetD_putReg, true_and]
    rcases eq_or_ne j r with rfl | hj
    · rw [if_pos rfl, if_pos rfl, if_neg (by omega)]
    · rw [if_neg hj, if_neg hj]

theorem ofLanes_mod (h : l.length ≤ 64) : ofLanes l % 2 ^ 2048 = ofLanes l :=
  Nat.mod_eq_of_lt ((ofLanes_lt l).trans_le
    (pow_le_pow_right₀ one_le_two (show 32 * l.length ≤ 2048 by omega)))

/-- The lanes read back as they were written. -/
theorem WRegs.getD_putLanes (hr : r < 32) (hp : pair = true → r + 1 < 32) (hl : l.length = if pair then 128 else 64)
    {k : Nat} (hk : k < if pair then 128 else 64) :
    ((w.putLanes r pair l).lanes r pair).getD k 0 = l.getD k 0 % 2 ^ 32 := by
  refine forall_lanes (P := fun k => ((w.putLanes r pair l).lanes r pair).getD k 0 = l.getD k 0 % 2 ^ 32)
    (fun j hj => ?_) (fun hpair j hj => ?_) k hk
  · rw [WRegs.getD_lanes _ _ _ hj, WRegs.v_putLanes hr hp, if_pos rfl, ofLanes_mod (List.length_take_le ..), ofLanes_lane]
    simp [List.getD_eq_getElem?_getD, hj]
  · subst hpair
    rw [WRegs.getD_lanes_second _ _ hj, WRegs.v_putLanes hr hp, if_neg (Nat.succ_ne_self r), if_pos ⟨rfl, rfl⟩,
      ofLanes_mod (by rw [List.length_drop, hl]; decide), ofLanes_lane]
    simp [List.getD_eq_getElem?_getD]

theorem getD_map_zipIdx {α : Type} (l : List α) (f : α × Nat → Nat) {k : Nat} (hk : k < l.length) (d : α) :
    (l.zipIdx.map f).getD k 0 = f (l.getD k d, k) := by
  simp [List.getD_eq_getElem?_getD, hk]

theorem getD_zip {α β : Type} (l : List α) (m : List β) {k : Nat} (hk : k < l.length) (hm : k < m.length) (a : α)
    (b : β) : (l.zip m).getD k (a, b) = (l.getD k a, m.getD k b) := by
  simp [List.getD_eq_getElem?_getD, hk, hm]

theorem length_maskLanes {old new : List Nat} (h : new.length = old.length) (p : Nat) :
    (maskLanes p old new).length = old.length := by
  simp [maskLanes, h]

theorem getD_maskLanes {old new : List Nat} (h : new.length = old.length) (p : Nat) {k : Nat} (hk : k < old.length) :
    (maskLanes p old new).getD k 0 = if bitOf p k then new.getD k 0 else old.getD k 0 := by
  rw [maskLanes, getD_map_zipIdx _ _ (by simp [h, hk]) (0, 0), getD_zip _ _ hk (h ▸ hk)]

end Lanes

section VectorSlots
variable {s : State} {i t vd va vb p n : Nat} {pair : Bool} {c : Core} {x : Instr} {new : List Nat}
  {old a b : Nat → Nat} {P Q : Nat → Nat → Prop}

theorem stays_of_flags {acts : List ZwAct} (ha : ∀ a ∈ acts, ∃ b, a = .flag b) : ∀ a ∈ acts, a.stays = true := by
  intro a h
  obtain ⟨b, rfl⟩ := ha a h
  rfl

theorem State.zwAct_flags_only {acts : List ZwAct} (ha : ∀ a ∈ acts, ∃ b, a = .flag b) (v : State) :
    Only (fun s t => { s with regs := t.regs, flagSets := t.flagSets }) v (acts.foldl (State.zwAct i) v) := by
  induction acts generalizing v with
  | nil => exact .refl
  | cons a l ih =>
    obtain ⟨b, rfl⟩ := ha _ (List.mem_cons_self ..)
    exact Only.then State.engFlag_only (ih (fun a h => ha a (List.mem_cons_of_mem _ h)) _)

theorem pairBad_subset {rs rs' : List Nat} (h : pairBad pair rs = false) (hs : rs' ⊆ rs) : pairBad pair rs' = false := by
  cases pair with
  | false => rfl
  | true =>
    simp only [pairBad, Bool.true_and, List.any_eq_false] at h ⊢
    exact fun r hr => h r (hs hr)

theorem pairBad_cons {r : Nat} {rs : List Nat} (h : pairBad pair (r :: rs) = false) (hr : r < 32) :
    pair = true → r + 1 < 32 := by
  rintro rfl
  refine Nat.lt_of_le_of_ne hr fun h32 => ?_
  cases Nat.succ.inj h32
  cases h

theorem ZwLanes.mono (h : ZwLanes x s i vd pair P) (hPQ : ∀ k y, (k < if pair then 128 else 64) → P k y → Q k y) :
    ZwLanes x s i vd pair Q := by
  obtain ⟨s', he, hl, hrest⟩ := h
  exact ⟨s', he, fun k hk => hPQ k _ hk (hl k hk), hrest⟩

/-- A vector slot puts its lanes where the predicate's bit is 1, and may raise flags (R215). -/
theorem ZwLanes.of_slot {acts : List ZwAct} (h : ZwReady s i c) (hvd : vd < 32) (hpair : pairBad pair [vd] = false)
    (hlen : new.length = if pair then 128 else 64)
    (hx : ZwExecutes x s i slotVector c
      (.ok (laneWrites vd pair (maskLanes (c.regs.p p) (c.regs.lanes vd pair) new)) acts n))
    (hacts : ∀ a ∈ acts, ∃ b, a = .flag b)
    (hold : ∀ k, old k = (c.regs.lanes vd pair).getD k 0) :
    ZwLanes x s i vd pair fun k y => y = if bitOf (c.regs.p p) k then new.getD k 0 % 2 ^ 32 else old k := by
  have hp := pairBad_cons hpair hvd
  have hl := c.regs.length_lanes vd pair
  have hno := hlen.trans hl.symm
  refine Completes.of_slot h hx (stays_of_flags hacts) fun v hv w hw => ?_
  have hflags : Only (fun s t => { s with regs := t.regs, flagSets := t.flagSets }) v w :=
    hw ▸ State.zwAct_flags_only hacts v
  have hwi := (hflags.keeps (State.core · i)).trans hv.core
  rw [hwi, h.core]
  refine ⟨h.loops, fun k hk => ?_, fun r hr hr' => ?_, ?_, fun j hj => ?_, ?_, ?_⟩
  · rw [State.core_putCore]
    refine (WRegs.getD_putLanes hvd hp ((length_maskLanes hno _).trans hl) hk).trans ?_
    rw [getD_maskLanes hno _ (hl ▸ hk), hold k]
    split
    · rfl
    · exact Nat.mod_eq_of_lt (c.regs.getD_lanes_lt _ hk)
  · rw [State.core_putCore]
    exact (WRegs.v_putLanes hvd hp r).trans ((if_neg hr).trans (if_neg hr'))
  · rw [State.core_putCore]
    exact congrArg (fun g : WRegs => { c with regs := g, pc := c.after }) (WRegs.putLanes_vector hvd hp)
  · rw [State.core_putCore_other _ _ hj]
    exact (hflags.keeps (State.core · j)).trans (hv.other j hj)
  · exact (hflags.keeps State.mem).trans (hv.frame.keeps State.mem)
  · exact (hflags.keeps State.clusterSram).trans (hv.frame.keeps State.clusterSram)

/-- A lane-wise operation on va, vb and vd (R215). -/
theorem ZwLanes.of_lanes {f : (k a b d : Nat) → Nat} (h : ZwReady s i c) (hvd : vd < 32)
    (hpair : pairBad pair [vd, va, vb] = false) (hold : ∀ k, old k = (c.regs.lanes vd pair).getD k 0)
    (ha : ∀ k, a k = (c.regs.lanes va pair).getD k 0) (hb : ∀ k, b k = (c.regs.lanes vb pair).getD k 0)
    (hx : exec x s = s.zwLanes (zwOne i) t vd va vb p pair n f) :
    ZwLanes x s i vd pair fun k y =>
      y = if bitOf (c.regs.p p) k then f k (a k) (b k) (old k) % 2 ^ 32 else old k := by
  have hla := c.regs.length_lanes va pair
  have hlb := c.regs.length_lanes vb pair
  have hld := c.regs.length_lanes vd pair
  have hslot := ZwLanes.of_slot (p := p) (n := n) (acts := [])
    (new := ((c.regs.lanes va pair).zip ((c.regs.lanes vb pair).zip (c.regs.lanes vd pair))).zipIdx.map
      fun x => f x.2 x.1.1 x.1.2.1 x.1.2.2)
    h hvd (pairBad_subset hpair (by simp)) (by simp [hla, hlb, hld])
    ⟨t, _, hx, fun u hu => by rw [hpair]; rfl⟩ (List.forall_mem_nil _) hold
  refine hslot.mono fun k y hk hy => ?_
  rw [hy, getD_map_zipIdx _ _ (by simp [hla, hlb, hld, hk]) (0, 0, 0), getD_zip _ _ (hla ▸ hk) (by simp [hlb, hld, hk]),
    getD_zip _ _ (hlb ▸ hk) (hld ▸ hk), ← ha, ← hb, ← hold]

/-- What VCVT makes of the lanes of va: codes, and which overflowed (R195). -/
def cvtLanes (fmt imm draws : Nat) (l : List Nat) : List (Nat × Bool) := l.zipIdx.map fun x =>
  if imm % 2 = 1 then cvtTo fmt (Config.freeValue (draws + x.2)) x.1
  else (cvtFrom fmt (Config.freeValue (draws + x.2)) x.1, false)

theorem zwVcvt_executes {fmt imm : Nat} (hpair : pairBad pair [vd, va] = false) (hres : fmtReserved fmt = false) :
    ZwExecutes (.zwVcvt (zwOne i) vd va p pair fmt imm t) s i slotVector c
      (.ok (laneWrites vd pair (maskLanes (c.regs.p p) (c.regs.lanes vd pair)
        ((cvtLanes fmt imm s.draws (c.regs.lanes va pair)).map (·.1))))
        (if (cvtLanes fmt imm s.draws (c.regs.lanes va pair)).zipIdx.any fun x => x.1.2 && bitOf (c.regs.p p) x.2
          then [.flag 1] else []) 128) := by
  refine ⟨t, _, show execZwVcvt .. = _ from rfl, fun u hu => ?_⟩
  rw [← hu.frame.keeps State.draws]
  exact (if_neg (Bool.eq_false_iff.1 hpair)).trans (if_neg (Bool.eq_false_iff.1 hres))

theorem zwVcvt_lanes {fmt imm : Nat} (h : ZwReady s i c) (hvd : vd < 32) (hpair : pairBad pair [vd, va] = false)
    (hold : ∀ k, old k = (c.regs.lanes vd pair).getD k 0)
    (ha : ∀ k, a k = (c.regs.lanes va pair).getD k 0) (hres : fmtReserved fmt = false) :
    ZwLanes (.zwVcvt (zwOne i) vd va p pair fmt imm t) s i vd pair fun k y =>
      y = if bitOf (c.regs.p p) k then
        (if imm % 2 = 1 then (cvtTo fmt (Config.freeValue (s.draws + k)) (a k)).1
          else cvtFrom fmt (Config.freeValue (s.draws + k)) (a k)) % 2 ^ 32
        else old k := by
  have hl := c.regs.length_lanes va pair
  refine (ZwLanes.of_slot h hvd (pairBad_subset hpair (by simp)) (by simp [cvtLanes, hl])
    (zwVcvt_executes hpair hres) (by split <;> simp) hold).mono fun k y hk hy => ?_
  rw [hy, cvtLanes, List.map_map, getD_map_zipIdx _ _ (hl ▸ hk) 0, ← ha]
  dsimp only [Function.comp_apply]
  split
  · split <;> rfl
  · rfl

theorem cvtTo_nan {fmt free y : Nat} {f : FpFmt} (hf : fpFmt fmt = some f) (hy : fp32IsNan y = true) :
    (cvtTo fmt free y).1 = f.nan := by
  have hd : fmtFP32.decode y = .nan := by simpa [fp32IsNan] using hy
  simp [cvtTo, hf, hd]

theorem cvtTo_fin {fmt free y : Nat} {f : FpFmt} {m e : Int} (hf : fpFmt fmt = some f)
    (hd : fmtFP32.decode y = .fin m e) (hm : m ≠ 0) : cvtTo fmt free y = f.round m e := by
  simp [cvtTo, hf, hd, hm]

theorem cvtFrom_nan {fmt free y : Nat} {f : FpFmt} (hf : fpFmt fmt = some f) (hd : f.decode y = .nan) :
    cvtFrom fmt free y = fmtFP32.nan := by
  simp [cvtFrom, hf, hd]

theorem cvtFrom_fin {fmt free y : Nat} {f : FpFmt} {m e : Int} (hf : fpFmt fmt = some f)
    (hd : f.decode y = .fin m e) (hm : m ≠ 0) : cvtFrom fmt free y = rne32 m e := by
  simp [cvtFrom, hf, hd, hm]

theorem sfu_rsqrt {y : Nat} (h : y ≠ 2 ^ 31) (free : Nat) : sfu 2 free y = rsqrt32 y :=
  (show sfu 2 free y = if y = fmtFP32.sign then free % 2 ^ 32 else rsqrt32 y from rfl).trans (if_neg h)

/-- The greater or the lesser of two numbers that are not both 0. -/
theorem fp32Pick_ordered {a b : Nat} (greater : Bool) (free : Nat) (ha : fp32IsNan a = false) (hb : fp32IsNan b = false)
    (hz : ¬ (a % 2 ^ 31 = 0 ∧ b % 2 ^ 31 = 0)) :
    fp32Pick greater free a b = if fp32Lt a b = greater then b else a := by
  rw [fp32Pick, ha, hb, if_neg (by decide), if_neg fun h => hz ⟨h.1, h.2.1⟩]

theorem zwVsfu_lanes {imm : Nat} (h : ZwReady s i c) (hvd : vd < 32) (hpair : pairBad pair [vd, va] = false)
    (hold : ∀ k, old k = (c.regs.lanes vd pair).getD k 0)
    (ha : ∀ k, a k = (c.regs.lanes va pair).getD k 0) (himm : imm % 8 ≤ 4) :
    ZwLanes (.zwVsfu (zwOne i) vd va p pair imm t) s i vd pair fun k y =>
      y = if bitOf (c.regs.p p) k then sfu (imm % 8) (Config.freeValue (s.draws + k)) (a k) % 2 ^ 32 else old k := by
  have hl := c.regs.length_lanes va pair
  have hslot := ZwLanes.of_slot (p := p) (n := 128) (acts := []) (x := .zwVsfu (zwOne i) vd va p pair imm t)
    (new := (c.regs.lanes va pair).zipIdx.map fun x => sfu (imm % 8) (Config.freeValue (s.draws + x.2)) x.1)
    h hvd (pairBad_subset hpair (by simp)) (by simp [hl])
    ⟨t, _, show execZwVsfu .. = _ from rfl, fun u hu => by
      rw [← hu.frame.keeps State.draws]
      exact if_neg (by simp [hpair, himm])⟩ (List.forall_mem_nil _) hold
  refine hslot.mono fun k y hk hy => ?_
  rw [hy, getD_map_zipIdx _ _ (hl ▸ hk) 0, ← ha]

theorem zwVld_lanes {sr addr : Nat} (h : ZwReady s i c) (hvd : vd < 32) (hpair : pairBad pair [vd] = false)
    (hold : ∀ k, old k = (c.regs.lanes vd pair).getD k 0)
    (hsr : addr = c.regs.s sr) (hal : addr % vecBytes pair = 0) (hr : zwRange i addr (vecBytes pair) = true) :
    ZwLanes (.zwVld (zwOne i) vd p pair sr t) s i vd pair fun k y =>
      y = if bitOf (c.regs.p p) k then leAt (s.zwRead i addr (vecBytes pair)) (4 * k) 4 % 2 ^ 32
        else old k := by
  subst hsr
  have hd := c.regs.length_lanes vd pair
  have hslot := ZwLanes.of_slot (p := p) (n := 0) (acts := []) (x := .zwVld (zwOne i) vd p pair sr t)
    (new := (List.range (c.regs.lanes vd pair).length).map fun k =>
      leAt (s.zwRead i (c.regs.s sr) (vecBytes pair)) (4 * k) 4)
    h hvd hpair (by simp [hd])
    ⟨t, _, show execZwVld .. = _ from rfl, fun u hu => by
      rw [← hu.zwRead (by rw [h.core]; rfl)]
      exact (if_neg (Bool.eq_false_iff.1 hpair)).trans (if_neg (by simp [zwOne, hal, hr]))⟩ (List.forall_mem_nil _) hold
  refine hslot.mono fun k y hk hy => ?_
  rw [hy, hd]
  simp [List.getD_eq_getElem?_getD, hk]

theorem vecBytes_eq (pair : Bool) : vecBytes pair = 4 * if pair then 128 else 64 := by
  cases pair <;> rfl

theorem zipIdx_eq_map_range (l : List Nat) : l.zipIdx = (List.range l.length).map fun k => (l.getD k 0, k) := by
  refine List.ext_getElem (by simp) fun k hk _ => ?_
  have hk : k < l.length := by simpa using hk
  simp [hk]

/-- The stores of the lanes chosen: lane `k` goes to `addr + 4 * k`. -/
def laneStores (pred addr : Nat) (y : Nat → Nat) (ks : List Nat) : List ZwAct :=
  ks.filterMap fun k => if bitOf pred k then some (.store (addr + 4 * k) (leBytes 4 (y k))) else none

theorem stays_of_laneStores {pred addr : Nat} {y : Nat → Nat} {ks : List Nat} :
    ∀ a ∈ laneStores pred addr y ks, a.stays = true := by
  intro a ha
  obtain ⟨k, _, hk⟩ := List.mem_filterMap.1 ha
  split at hk
  · cases hk; rfl
  · cases hk

/-- A memory after those stores. -/
def storeLanes (pred addr : Nat) (y : Nat → Nat) (m : List Host.Cell) (ks : List Nat) : List Host.Cell :=
  ks.foldl (fun m k => if bitOf pred k then memWrite m (addr + 4 * k) (leBytes 4 (y k)) else m) m

theorem State.CoreIs.storesLanes {v : State} {q : Core} {pred addr : Nat} {y : Nat → Nat} {ks : List Nat}
    (h : s.CoreIs i q v) (hks : ∀ k ∈ ks, addr + 4 * k < clusterBase) :
    s.CoreIs i { q with sram := storeLanes pred addr y q.sram ks }
      ((laneStores pred addr y ks).foldl (State.zwAct i) v) := by
  induction ks generalizing q v with
  | nil => exact h
  | cons k ks ih =>
    have hrest := fun j hj => hks j (List.mem_cons_of_mem _ hj)
    by_cases hb : bitOf pred k = true
    · simp only [laneStores, storeLanes, List.filterMap_cons, List.foldl_cons, if_pos hb]
      exact ih (h.store (hks k (List.mem_cons_self ..)) (leBytes 4 (y k))) hrest
    · simp only [laneStores, storeLanes, List.filterMap_cons, List.foldl_cons, if_neg hb]
      exact ih h hrest

theorem zwVst_stores {sr addr : Nat} (h : ZwReady s i c) (hpair : pairBad pair [va] = false)
    (ha : ∀ k, a k = (c.regs.lanes va pair).getD k 0)
    (hsr : addr = c.regs.s sr) (hal : addr % vecBytes pair = 0) (hin : addr + vecBytes pair ≤ 0x400000) :
    ZwRuns (.zwVst (zwOne i) va p pair sr t) s i { c with
      sram := storeLanes (c.regs.p p) addr a c.sram (List.range (if pair then 128 else 64)),
      pc := c.after } := by
  subst hsr
  have hl := c.regs.length_lanes va pair
  have hlow : ∀ k ∈ List.range (if pair then 128 else 64), c.regs.s sr + 4 * k < clusterBase := by
    intro k hk
    have hlt : 4 * k < vecBytes pair := by
      rw [vecBytes_eq]
      exact Nat.mul_lt_mul_of_pos_left (List.mem_range.1 hk) (by decide)
    exact ((Nat.add_lt_add_left hlt _).trans_le hin).trans (by decide)
  refine .of_slot (writes := [])
    (acts := laneStores (c.regs.p p) (c.regs.s sr) a (List.range (if pair then 128 else 64)))
    (q := { c with sram := storeLanes .. }) h
    ⟨t, _, show execZwVst .. = _ from rfl, fun u hu => ?_⟩ stays_of_laneStores h.loops fun v hv => hv.storesLanes hlow
  refine (if_neg (Bool.eq_false_iff.1 hpair)).trans ((if_neg (by simp [zwOne, hal, zwRange_core i hin])).trans ?_)
  rw [zipIdx_eq_map_range, hl, List.filterMap_map, funext ha]
  rfl

/-- The blocks of `m` × 32 lanes as VQUANT stores them: mantissas of `b` bits, then exponent bytes (R196, log entry 55). -/
def quantBytes (b m : Nat) (l : List Nat) : List Byte :=
  ((List.range m).flatMap fun k => packCodes b (facetBlock b ((l.drop (32 * k)).take 32)).2.1) ++
    (List.range m).map fun k => BitVec.ofNat 8 (facetBlock b ((l.drop (32 * k)).take 32)).1

theorem zwVquant_stores {fmt sr addr m : Nat} {bytes : List Byte} (h : ZwReady s i c) (hpair : pairBad pair [va] = false)
    (hfmt : fmt ≤ 2) (hsr : addr = c.regs.s sr) (hm : m = if pair then 4 else 2)
    (hin : addr + m * (4 * fmtBits fmt + 1) ≤ 0x400000) (hb : bytes = quantBytes (fmtBits fmt) m (c.regs.lanes va pair)) :
    Completes (.zwVquant (zwOne i) va pair fmt sr t) s fun s' =>
      s'.core i = { c with sram := memWrite c.sram addr bytes, pc := c.after } ∧ s'.mem = s.mem := by
  have hx : ∃ lost : Bool, ZwExecutes (.zwVquant (zwOne i) va pair fmt sr t) s i slotVector c
      (.ok [] (.store addr bytes :: if lost then [.flag 2] else []) 0) := by
    refine ⟨((List.range m).map fun k => facetBlock (fmtBits fmt) (((c.regs.lanes va pair).drop (32 * k)).take 32)).any
      fun x => x.2.2, t, _, show execZwVquant .. = _ from rfl, fun u hu => ?_⟩
    subst hsr hm
    refine (if_neg (Bool.eq_false_iff.1 hpair)).trans ((if_neg (Nat.not_lt.2 hfmt)).trans
      ((if_neg (by rw [show zwRange (zwOne i).core _ _ = true from zwRange_core i hin]; decide)).trans ?_))
    dsimp only
    rw [hb, quantBytes, List.flatMap_map, List.map_map]
    rfl
  obtain ⟨lost, hx⟩ := hx
  have hflag : ∀ a ∈ (if lost then [ZwAct.flag 2] else []), ∃ b, a = .flag b := by cases lost <;> simp
  refine .of_slot h hx (List.forall_mem_cons.2 ⟨rfl, stays_of_flags hflag⟩) fun v hv w hw => ?_
  have hs := hv.store (lt_clusterBase hin) bytes
  have hf : Only (fun s t => { s with regs := t.regs, flagSets := t.flagSets }) (v.zwWrite i addr bytes) w :=
    hw ▸ State.zwAct_flags_only hflag _
  rw [(hf.keeps (State.core · i)).trans hs.core]
  exact ⟨h.loops, State.core_putCore .., (hf.keeps State.mem).trans (hs.frame.keeps State.mem)⟩

end VectorSlots

/-- Settles O46: every slot that writes vd goes through `ZwLanes.of_slot`, which says what a write of lanes leaves in the
registers; the two that store, by the memory after their stores. -/
theorem zwVectorSlots : Obligations.ZwVectorSlots := by
  intro s i vd va vb p sr fmt imm addr t pair c old a b h hvd hva hvb hpair hold ha hb
  have hd : pairBad pair [vd] = false := pairBad_subset hpair (by simp)
  have hda : pairBad pair [vd, va] = false := pairBad_subset hpair (by simp)
  have hva : pairBad pair [va] = false := pairBad_subset hpair (by simp)
  refine ⟨fun op f hop => ?_, fun op greater hop => ?_, fun hsr hal hr => ⟨zwVld_lanes h hvd hd hold hsr hal hr,
    zwVst_stores h hva ha hsr hal⟩, fun f hf hres => ⟨fun himm => ?_, fun himm => ?_⟩, fun hk => ?_,
    fun n bytes hfmt hsr hn hin hbytes => zwVquant_stores h hva hfmt hsr hn hin hbytes⟩
  · have hx : exec (op (zwOne i) vd va vb p pair t) s = s.zwLanes (zwOne i) t vd va vb p pair 0 fun _ => f := by
      simp only [List.mem_cons, Prod.mk.injEq, List.not_mem_nil, or_false] at hop
      obtain ⟨rfl, rfl⟩ | ⟨rfl, rfl⟩ | ⟨rfl, rfl⟩ | ⟨rfl, rfl⟩ := hop <;> rfl
    exact .of_lanes h hvd hpair hold ha hb hx
  · have hx : exec (op (zwOne i) vd va vb p pair t) s = s.zwLanes (zwOne i) t vd va vb p pair 128 fun k a b _ =>
        fp32Pick greater (Config.freeValue (s.draws + k)) a b := by
      simp only [List.mem_cons, Prod.mk.injEq, List.not_mem_nil, or_false] at hop
      obtain ⟨rfl, rfl⟩ | ⟨rfl, rfl⟩ := hop <;> rfl
    refine (ZwLanes.of_lanes h hvd hpair hold ha hb hx).mono fun k y hk hy => ?_
    rw [hy]
    refine ⟨fun hbit => by rw [hbit]; rfl, fun hbit hna hnb hz => ?_⟩
    rw [if_pos hbit, fp32Pick_ordered _ _ hna hnb hz]
    split
    · exact Nat.mod_eq_of_lt (hb k ▸ c.regs.getD_lanes_lt _ hk)
    · exact Nat.mod_eq_of_lt (ha k ▸ c.regs.getD_lanes_lt _ hk)
  · refine (zwVcvt_lanes h hvd hda hold ha hres).mono fun k y _ hy => ?_
    rw [hy]
    refine ⟨fun hbit => by rw [hbit]; rfl, fun hbit => ?_⟩
    rw [if_pos hbit, if_pos himm]
    exact ⟨fun hn => by rw [cvtTo_nan hf hn], fun m e hd hm => by rw [cvtTo_fin hf hd hm]⟩
  · refine (zwVcvt_lanes h hvd hda hold ha hres).mono fun k y _ hy => ?_
    rw [hy]
    refine ⟨fun hbit => by rw [hbit]; rfl, fun hbit => ?_⟩
    rw [if_pos hbit, if_neg (by omega)]
    exact ⟨fun hn => by rw [cvtFrom_nan hf hn], fun m e hd hm => by rw [cvtFrom_fin hf hd hm]⟩
  · refine (zwVsfu_lanes h hvd hda hold ha hk).mono fun k y _ hy => ?_
    rw [hy]
    refine ⟨fun hbit => by rw [hbit]; rfl, fun hbit => ?_⟩
    rw [if_pos hbit]
    exact ⟨fun h0 => by rw [h0]; rfl, fun h1 => by rw [h1]; rfl, fun h2 hz => by rw [h2, sfu_rsqrt hz],
      fun h3 => by rw [h3]; rfl, fun h4 => by rw [h4]; rfl⟩

end Sys2Proof.Machine


namespace Sys2Proof.Machine
-- In order, as in the tests: many proofs at once would each wait for the others in a thread of its own.
set_option Elab.async false

/-! ### What a sound state is made of, and what passes it on (R206, R207, R220)

Few operations write a memory, a core or a sequencer. One that does is sound by the lemma about that write
(`Sound.setMem`, `Sound.putCore`, `Sound.putSeqr`); one with a frame that leaves those parts out is sound by its
frame (`Only.sound`); every other one is sound as its parts are. A state that differs elsewhere is sound by
`Sound.congr`. -/

/-- Every state that an answer holds is sound. -/
def SoundIn {α : Type} (get : α → State) (o : Option α) : Prop := ∀ x, o = some x → Sound (get x)

section Sound
variable {s u : State} {K : State → State → State}

theorem Sound.mem_wf (h : Sound s) : Memory.wf s.mem = true := h.1

/-- A state with the same memories, cores and sequencers. -/
theorem Sound.congr (h : Sound s) (hm : u.mem = s.mem := by rfl) (hc : u.cores = s.cores := by rfl)
    (hk : u.clusterSram = s.clusterSram := by rfl) (hq : u.sequencers = s.sequencers := by rfl) : Sound u := by
  unfold Sound
  rw [hm, hc, hk, hq]
  exact h

/-- New contents of state memory in canonical form. -/
theorem Sound.setMem (h : Sound s) {m : List Host.Cell} (hm : Memory.wf m = true) : Sound { s with mem := m } :=
  ⟨hm, h.2⟩

/-- An operation whose frame leaves out memories, cores and sequencers. -/
theorem Only.sound (h : Only K s u) (hs : Sound s) (hK : ∀ s t, Sound s → Sound (K s t) := by exact fun _ _ h => h) :
    Sound u :=
  (show u = K s u from h) ▸ hK s u hs

theorem Sound.ite {c : Prop} [Decidable c] (h : Sound s) (h' : Sound u) : Sound (if c then s else u) := by
  split
  · exact h
  · exact h'

theorem Sound.foldl {α : Type} {f : State → α → State} {l : List α} (hf : ∀ u x, Sound u → Sound (f u x))
    (h : Sound s) :
    Sound (l.foldl f s) := by
  induction l generalizing s with
  | nil => exact h
  | cons x l ih => exact ih (hf s x h)

theorem Sound.of_pair {α : Type} {a : α} {p : α × State} (e : p = (a, u)) (h : Sound p.2) : Sound u := by
  rw [e] at h
  exact h

end Sound

section SoundIn
variable {α β : Type} {get : α → State} {get' : β → State} {o o' : Option α}

theorem SoundIn.none : SoundIn get none := nofun

theorem SoundIn.some {x : α} (h : Sound (get x)) : SoundIn get (some x) := by
  rintro _ ⟨⟩
  exact h

theorem SoundIn.ite {c : Prop} [Decidable c] (h : SoundIn get o) (h' : SoundIn get o') :
    SoundIn get (if c then o else o') := by
  split
  · exact h
  · exact h'

theorem SoundIn.map {f : α → β} (h : SoundIn get o) (hf : ∀ x, Sound (get x) → Sound (get' (f x))) :
    SoundIn get' (o.map f) := by
  intro y hy
  obtain ⟨x, hx, rfl⟩ := Option.map_eq_some_iff.1 hy
  exact hf x (h x hx)

theorem SoundIn.getD {o : Option State} {d : State} (h : SoundIn id o) (h' : Sound d) : Sound (o.getD d) := by
  cases o with
  | none => exact h'
  | some u => exact h u rfl

theorem SoundIn.bind {f : α → Option β} (hf : ∀ x, SoundIn get' (f x)) : SoundIn get' (o.bind f) := by
  intro y hy
  obtain ⟨x, _, hx⟩ := Option.bind_eq_some_iff.1 hy
  exact hf x y hx

end SoundIn

/-- The state of a success is sound. -/
def SoundOk {ε : Type} (e : Except ε State) : Prop := ∀ u, e = .ok u → Sound u

section SoundOk
variable {ε : Type} {e e' : Except ε State}

theorem SoundOk.error {x : ε} : SoundOk (.error x) := by
  intro u hu
  cases hu

theorem SoundOk.ok {u : State} (h : Sound u) : SoundOk (.ok u : Except ε State) := by
  rintro _ ⟨⟩
  exact h

theorem SoundOk.ite {c : Prop} [Decidable c] (h : SoundOk e) (h' : SoundOk e') : SoundOk (if c then e else e') := by
  split
  · exact h
  · exact h'

theorem SoundOk.foldl {α : Type} {f : Except ε State → α → Except ε State} {l : List α}
    (hf : ∀ e x, SoundOk e → SoundOk (f e x)) (h : SoundOk e) : SoundOk (l.foldl f e) :=
  List.foldlRecOn l f h fun _ he x _ => hf _ x he

end SoundOk

end Sys2Proof.Machine

namespace Sys2Proof.Machine
-- In order, as in the tests: many proofs at once would each wait for the others in a thread of its own.
set_option Elab.async false

/-! ### Soundness: pages and cages -/

section
open State
variable {s : State}

/-! #### Shared operations -/

theorem State.draw_sound (h : Sound s) : Sound s.draw.2 := h

theorem State.putRecord_sound {slot : Nat} {r : Record} (h : Sound s) : Sound (s.putRecord slot r) := by
  unfold State.putRecord
  extract_lets
  refine .ite h ?_
  split
  · exact h
  · exact checkOutboxLow_only.sound h

theorem State.sessionRecord_sound {slot type status : Nat} {body text : List Byte} (h : Sound s) :
    Sound (s.sessionRecord slot type status body text) :=
  putRecord_sound h

theorem State.takeFrame_sound {sd tier pool cls : Nat} (h : Sound s) :
    SoundIn Prod.snd (s.takeFrame sd tier pool cls) := by
  unfold State.takeFrame
  extract_lets
  split
  · exact .none
  · exact .some h

theorem State.takeScale_sound {sd : Nat} (h : Sound s) : SoundIn Prod.snd (s.takeScale sd) := by
  unfold State.takeScale
  extract_lets
  split
  · exact .none
  · exact .some h

theorem State.freshUsa_sound {sd cls : Nat} (h : Sound s) : Sound (s.freshUsa sd cls).2 := by
  unfold State.freshUsa
  split
  next e1 =>
    exact (.of_pair e1 (draw_sound h))

/-! #### Packets -/

theorem State.receive_sound {x : Head} {op : Nat} {act : State → State} (h : Sound s)
    (hact : ∀ u, Sound u → Sound (act u)) :
    Sound (s.receive x op act) := by
  rcases s.receive_cases x op act with ⟨k, e⟩ | e <;> rw [e]
  · exact countDrop_only.sound h
  · exact hact _ h

/-! #### Pages of sessions (R126 to R166) -/

theorem State.takeRef_sound {page : Nat} {who : Option Nat} {u : State} (h : Sound s)
    (e : (s.takeRef page who).1 = some u) : Sound u := by
  unfold State.takeRef at e
  extract_lets at e
  split at e
  · cases e
  · split at e
    · split at e
      · cases e
      · cases e
        exact h
    · split at e
      · cases e
      · cases e
        exact h

theorem State.takeRef_refused_sound {page : Nat} {who : Option Nat} (h : Sound s) : Sound (s.takeRef page who).2 := by
  unfold State.takeRef
  extract_lets
  split
  · exact h
  · split
    · split
      · exact setFlag_only.sound h
      · exact h
    · extract_lets
      split
      · exact setFlag_only.sound h
      · exact h

theorem State.releaseFrame_sound {sd tier pool cls frame tenant scaleBytes : Nat} {scale : Option Nat} (h : Sound s) :
    Sound (s.releaseFrame sd tier pool cls frame tenant scaleBytes scale) :=
  dropUse_only.sound (giveScale_only.sound (giveFrame_only.sound h))

theorem State.dropCage_sound {id : Nat} (h : Sound s) : Sound (s.dropCage id) := by
  unfold State.dropCage
  split
  · exact h
  next c _ =>
    split
    · exact h
    next l _ =>
      extract_lets s1 s2
      have h1 : Sound s1 := releaseFrame_sound h
      have hm : Memory.wf (if c.up then s1.mem else applyHeld s1.mem c.usa s1.heldWrites) = true := by
        split
        · exact h1.mem_wf
        · exact applyHeld_wf h1.mem_wf _ _
      exact h1.setMem hm

theorem State.freePage_sound {page : Nat} (h : Sound s) : Sound (s.freePage page) := by
  unfold State.freePage
  split
  · exact h
  · extract_lets _ s1 _ old s2 s3
    have h1 : Sound s1 := by
      unfold s1
      refine .ite h ?_
      split
      · exact h
      · exact setFlag_only.sound (dropCage_sound h)
    have h2 : Sound s2 := by
      unfold s2
      generalize old = o
      rcases o with _ | ⟨id, c⟩
      · exact h1
      · exact releaseFrame_sound h1
    have h3 : Sound s3 := releaseFrame_sound h2
    exact Sound.setMem (s := s3) h3 (memZero_wf (memZero_wf h3.mem_wf _ _) _ _)

theorem State.freeUnheld_sound {page : Nat} (h : Sound s) : Sound (s.freeUnheld page) := by
  unfold State.freeUnheld
  split
  · exact h
  · exact .ite h (freePage_sound h)

theorem State.dropRef_sound {page : Nat} {who : Option Nat} (h : Sound s) : Sound (s.dropRef page who) := by
  unfold State.dropRef
  extract_lets
  split
  · exact h
  · split
    · exact freeUnheld_sound h
    · exact .ite h h

theorem State.checkPoolLow_sound {sd cls before : Nat} (h : Sound s) : Sound (s.checkPoolLow sd cls before) := by
  unfold State.checkPoolLow
  exact .ite (setFlag_only.sound h) h

theorem State.allocAt_sound {usa cls scaleBytes tenant : Nat} {owner : Option Nat} (h : Sound s) :
    SoundIn id (s.allocAt usa cls scaleBytes tenant owner) := by
  unfold State.allocAt
  extract_lets
  split
  · exact .none
  next s1 e1 =>
    have h1 : Sound s1 := takeFrame_sound h _ e1
    extract_lets blk
    have hb : SoundIn Prod.snd blk := .ite (.some h1) (.map (takeScale_sound h1) fun _ hu => hu)
    clear_value blk
    split
    · exact .none
    next s2 =>
      have h2 : Sound s2 := hb _ rfl
      exact .some (checkPoolLow_sound (addUse_only.sound h2))

theorem State.allocPage_sound {sd cls scaleBytes tenant : Nat} {owner : Option Nat} (h : Sound s) :
    SoundIn Prod.snd (s.allocPage sd cls scaleBytes tenant owner) := by
  unfold State.allocPage
  split
  next e1 =>
    exact .map (allocAt_sound (.of_pair e1 (freshUsa_sound h))) (fun _ hu => hu)

theorem State.growGroup_sound {slot lg : Nat} {m : Model} (h : Sound s) :
    SoundIn Prod.snd (s.growGroup slot lg m) := by
  unfold State.growGroup
  extract_lets _ _ _ next got
  have hn : SoundIn Prod.snd next := by
    unfold next
    split
    · exact .none
    · exact .ite .none (.map (allocAt_sound h) fun _ hu => hu)
  have hg : SoundIn Prod.snd got := by
    unfold got
    clear_value next
    split
    · exact .some (hn _ rfl)
    · exact allocPage_sound h
  clear_value got
  split
  · exact .none
  next u =>
    have hu : Sound u := hg _ rfl
    exact .some (putSess_only.sound (addRegFld_only.sound hu))

theorem State.growGroupBy_sound {slot lg n : Nat} {m : Model} (h : Sound s) :
    SoundIn Prod.snd (s.growGroupBy slot lg m n) := by
  induction n generalizing s with
  | zero => exact .some h
  | succ n ih =>
    unfold State.growGroupBy
    split
    · exact .none
    next e => exact .map (ih (growGroup_sound h _ e)) fun _ hu => hu

theorem State.checkHot_sound {page : Nat} (h : Sound s) : Sound (s.checkHot page) := by
  unfold State.checkHot
  split
  · exact h
  · exact .ite h (flagIf_only.sound h)

theorem State.copyPage_sound {src dst : Nat} (h : Sound s) : Sound (s.copyPage src dst) := by
  unfold State.copyPage
  split
  · exact h
  · exact h.setMem (memCopy_wf (memCopy_wf h.mem_wf _ _ _) _ _ _)

theorem State.poisonPage_sound {page : Nat} (h : Sound s) : Sound (s.poisonPage page) := by
  unfold State.poisonPage
  split
  · exact h
  · exact .ite h (logError_only.sound (setFlag_only.sound h))

/-! #### Cages (R99, R109 to R114) -/

theorem State.startCage_sound {page tier : Nat} {pool : Option Nat} {src : CageSource} {urgent : Bool} (h : Sound s) :
    SoundIn id (s.startCage page tier pool src urgent) := by
  unfold State.startCage
  extract_lets
  split
  · exact .none
  next l _ =>
    refine .ite .none ?_
    split
    · split
      · exact .none
      next s1 e1 =>
        have h1 : Sound s1 := takeFrame_sound h _ e1
        extract_lets blk
        have hb : SoundIn Prod.snd blk := .ite (.some h1) (.map (takeScale_sound h1) fun _ hu => hu)
        clear_value blk
        split
        · exact .none
        next s2 =>
          have h2 : Sound s2 := hb _ rfl
          have h3 : Sound (s2.addUse l.tenant tier (pageUse l.sizeClass l.scaleBytes)) := addUse_only.sound h2
          exact .some h3
    · exact .none

theorem State.dropRequest_sound {page : Nat} (h : Sound s) : Sound (s.dropRequest page) := setFlag_only.sound h

theorem State.requestCage_sound {page tier : Nat} {pool : Option Nat} {src : CageSource} (h : Sound s) :
    Sound (s.requestCage page tier pool src) := by
  unfold State.requestCage
  extract_lets
  split
  · exact dropRequest_sound h
  · refine .ite (dropRequest_sound h) ?_
    split
    · extract_lets s1
      have h1 : Sound s1 := setFlag_only.sound (dropCage_sound h)
      exact .ite (SoundIn.getD (startCage_sound h1) h1) h1
    · refine .ite (dropRequest_sound h) ?_
      refine .ite (dropRequest_sound h) ?_
      refine .ite (.ite (dropRequest_sound h) h) ?_
      refine .ite h ?_
      split
      next e1 => exact startCage_sound h _ e1
      · exact .ite h (dropRequest_sound h)

theorem State.demote_sound {page : Nat} {src : CageSource} (h : Sound s) : Sound (s.demote page src) := by
  unfold State.demote
  exact .ite (requestCage_sound (requestCage_sound h)) (requestCage_sound h)

theorem State.retryCages_sound {sd : Nat} (h : Sound s) : Sound (s.retryCages sd) := by
  unfold State.retryCages
  exact .foldl (fun _ _ hu => requestCage_sound hu) h

theorem State.writePage_sound {page addr : Nat} {bs : List Byte} {slot : Nat} (h : Sound s) :
    Sound (s.writePage page addr bs slot) := by
  unfold State.writePage
  split
  · exact h
  · extract_lets s1 s2
    have h1 : Sound s1 := h
    have h2 : Sound s2 := h
    refine .ite (.ite h2 (requestCage_sound h2)) ?_
    split
    · exact .ite h2 (h1.setMem (memWrite_wf h1.mem_wf _ _))
    · exact h1.setMem (memWrite_wf h1.mem_wf _ _)

theorem State.relieve_sound {page : Nat} {src : CageSource} (h : Sound s) : Sound (s.relieve page src) := by
  unfold State.relieve
  split
  · exact h
  · exact .ite (requestCage_sound h) (.ite (requestCage_sound h) h)

theorem State.demoteList_sound {src : CageSource} {need : Nat} {l : List Nat} (h : Sound s) :
    Sound (s.demoteList src need l).2 := by
  induction l generalizing s need with
  | nil => exact h
  | cons u l ih =>
    unfold State.demoteList
    split
    · exact h
    · exact ih (relieve_sound h)

theorem State.pressure_sound {slot refused : Nat} (h : Sound s) : Sound (s.pressure slot refused) := by
  unfold State.pressure
  extract_lets
  split
  next e1 =>
    refine .ite (.of_pair e1 (demoteList_sound h)) ?_
    exact demoteList_sound (setFlag_only.sound (sessionRecord_sound (.of_pair e1 (demoteList_sound h))))

theorem State.cageCopied_sound {id : Nat} {poisoned : Bool} (h : Sound s) : Sound (s.cageCopied id poisoned) := by
  unfold State.cageCopied
  split
  · exact h
  · exact .ite h (.ite (poisonPage_sound (setFlag_only.sound (dropCage_sound h))) h)

theorem State.cageSwitch_sound {id : Nat} (h : Sound s) : Sound (s.cageSwitch id) := by
  unfold State.cageSwitch
  split
  · exact h
  · split
    · extract_lets _ s1 s2 s3 s4
      have h1 : Sound s1 := h
      have h2 : Sound s2 := h1.setMem (applyHeld_wf h1.mem_wf _ _)
      have h3 : Sound s3 := flagIf_only.sound h2
      have h4 : Sound s4 := .ite h3 h3
      exact .foldl (fun _ _ hu => recount_only.sound hu) h4
    · exact h

theorem State.cageRelease_sound {id : Nat} (h : Sound s) : Sound (s.cageRelease id) := by
  unfold State.cageRelease
  split
  · exact h
  · split
    · exact .ite h (retryCages_sound (wakeQuota_only.sound (releaseFrame_sound h)))
    · exact h

theorem State.defaultPolicy_sound {sd : Nat} (h : Sound s) : Sound (s.defaultPolicy sd) := by
  unfold State.defaultPolicy
  extract_lets _ _ s1 _ s2 _ _ s3 _ s4
  have h1 : Sound s1 := .foldl (fun _ _ hu => .foldl (fun _ _ hu => demote_sound hu) hu) h
  have h2 : Sound s2 := .foldl (fun _ _ hu => requestCage_sound hu) h1
  have h3 : Sound s3 := .foldl (fun _ _ hu => .foldl (fun _ _ hu => demote_sound hu) hu) h2
  have h4 : Sound s4 := .foldl (fun _ _ hu => .foldl (fun _ _ hu => demote_sound hu) hu) h3
  exact .ite (.foldl (fun _ _ hu => demote_sound hu) h4) h4

theorem State.tierPolicy_sound {sd : Nat} {asks : List (Nat × Nat × Option Nat)} {fault : Bool} (h : Sound s) :
    Sound (s.tierPolicy sd asks fault) := by
  unfold State.tierPolicy
  extract_lets _ _ s2 s3
  have h2 : Sound s2 := flagIf_only.sound h
  have h3 : Sound s3 := .ite (defaultPolicy_sound h2)
    (.foldl (fun _ _ hu => .ite (requestCage_sound hu) (dropRequest_sound hu)) h2)
  exact h3

theorem State.policyStart_sound {sd : Nat} {asks : List (Nat × Nat × Option Nat)} {fault : Bool} (h : Sound s) :
    Sound (s.policyStart sd asks fault) :=
  .ite h (tierPolicy_sound h)

theorem State.policyEnd_sound {sd : Nat} {asks : List (Nat × Nat × Option Nat)} {fault : Bool} (h : Sound s) :
    Sound (s.policyEnd sd asks fault) := by
  unfold State.policyEnd
  exact tierPolicy_sound h

/-! #### Text (R231 to R237) -/

theorem State.addPending_sound {slot limit : Nat} {fresh : Bool} {toks : List Nat} (h : Sound s) :
    Sound (s.addPending slot limit fresh toks) := by
  unfold State.addPending
  exact flagIf_only.sound h

theorem State.textInput_sound {slot count : Nat} (h : Sound s) : Sound (s.textInput slot count) := by
  unfold State.textInput
  extract_lets
  split
  · extract_lets
    split
    · extract_lets
      split
      · exact .ite (setFlag_only.sound h) (settleText_only.sound (flagIf_only.sound (addPending_sound h)))
  · exact h

end

end Sys2Proof.Machine

namespace Sys2Proof.Machine

/-! ### Soundness: sessions -/

section
open State
variable {s : State}

/-! #### Slots and locks (R34 to R61) -/

theorem State.chooseSd_sound (h : Sound s) : Sound s.chooseSd.2 := by
  unfold State.chooseSd
  split
  · exact h
  · exact h

theorem State.takeSlot_sound {sd : Nat} (h : Sound s) : SoundIn Prod.snd (s.takeSlot sd) := by
  intro x hx
  obtain ⟨p, _, rfl⟩ := Option.map_eq_some_iff.1 hx
  exact h

theorem State.freeSlot_sound {slot : Nat} (h : Sound s) : Sound (s.freeSlot slot) := by
  unfold State.freeSlot
  exact .ite (logError_only.sound (setFlag_only.sound h)) h

theorem State.sweepAdapter_sound {key : Nat} (h : Sound s) : Sound (s.sweepAdapter key) := by
  unfold State.sweepAdapter
  split
  · exact h
  · exact .ite h (.foldl (fun _ _ hu => freePage_sound hu) h)

theorem State.trimTail_sound {slot len : Nat} (h : Sound s) : Sound (s.trimTail slot len) := by
  unfold State.trimTail
  split
  · exact h
  · exact .foldl (fun _ _ hu => dropRef_sound hu) h

theorem State.rollback_sound {slot : Nat} (h : Sound s) : Sound (s.rollback slot) := by
  unfold State.rollback
  extract_lets _ _ _ n _ s1 s2 s3
  have h2 : Sound s2 := h.congr
  have h3 : Sound s3 := .foldl (fun _ _ hu => dropRef_sound hu) h2
  exact wakeOutboxes_only.sound (recount_only.sound (settleMap_only.sound (trimTail_sound h3)))

theorem State.breakLock_sound {slot status : Nat} (h : Sound s) : Sound (s.breakLock slot status) := by
  unfold State.breakLock
  extract_lets x s1 _ s2 s3 _ s4
  have h1 : Sound s1 := by
    unfold s1
    split
    next f _ =>
      extract_lets u
      have hu : Sound u := complete_only.sound h
      refine .ite ?_ hu
      exact putSess_only.sound (.foldl (fun _ _ hv => .ite hv (complete_only.sound hv)) hu)
    · exact h
  have h2 : Sound s2 := putSess_only.sound h1
  have h3 : Sound s3 := fence_only.sound (rollback_sound h2)
  have h4 : Sound s4 := putEntry_only.sound h3
  exact setFlag_only.sound (sessionEvent_only.sound h4)

theorem State.completeMoved_sound {f : Frame} {slot : Nat} (h : Sound s) : Sound (s.completeMoved f slot) := by
  unfold State.completeMoved
  exact completeWith_only.sound h

theorem State.commandFor_sound {f : Frame} {fieldsOk dormantOk detachedOk : Bool} {childSd : Option Nat}
    {act : Nat → State → State} (h : Sound s)
    (hact : ∀ i u, Sound u → Sound (act i u)) :
    Sound (s.commandFor f fieldsOk dormantOk detachedOk childSd act) := by
  unfold State.commandFor
  split
  exacts [complete_only.sound h, completeMoved_sound h, complete_only.sound h, h, hact _ _ h]

theorem State.command_sound {f : Frame} {fieldsOk dormantOk detachedOk : Bool} {act : Nat → State → State}
    (h : Sound s)
    (hact : ∀ i u, Sound u → Sound (act i u)) :
    Sound (s.command f fieldsOk dormantOk detachedOk act) :=
  commandFor_sound h (fun _ _ hu => hact _ _ hu)

/-! #### Session commands (R44) -/

theorem State.takeText_sound {slot : Nat} {f : Frame} (h : Sound s) : Sound (s.takeText slot f) := by
  unfold State.takeText
  exact .ite (complete_only.sound h) h

theorem actAppend_sound {f : Frame} {slot : Nat} (h : Sound s) : Sound (actAppend f slot s) := by
  unfold actAppend
  extract_lets
  split
  · exact takeText_sound h
  · split
    · exact takeText_sound h
    · exact takeText_sound h
    · exact takeText_sound h
    · exact takeText_sound h
    · exact takeText_sound h
    · exact complete_only.sound h
  · split
    · split
      · exact takeText_sound h
      · exact takeText_sound h
      · exact takeText_sound h
      · exact takeText_sound h
      · exact takeText_sound h
      · exact complete_only.sound h
    · exact takeText_sound h
  · exact complete_only.sound h

theorem actTimedAppend_sound {f : Frame} {slot : Nat} (h : Sound s) : Sound (actTimedAppend f slot s) := by
  unfold actTimedAppend
  extract_lets _ wait timer
  have hw : Sound (wait s) := h
  have ht : Sound (timer s) := takeText_sound h
  split
  · exact ht
  · split
    exacts [ht, hw, hw, hw, hw, complete_only.sound h]
  · exact .ite (complete_only.sound h) hw
  · exact complete_only.sound h

theorem actSessionAppend_sound {f : Frame} {slot : Nat} (h : Sound s) : Sound (actSessionAppend f slot s) :=
  .ite (complete_only.sound h) (.ite (actTimedAppend_sound h) (actAppend_sound h))

theorem actSessionResume_sound {f : Frame} {slot : Nat} (h : Sound s) : Sound (actSessionResume f slot s) := by
  unfold actSessionResume
  extract_lets _ _ _ s1
  have h1 : Sound s1 := disarm_only.sound (removeEdge_only.sound h)
  have hf {st : Nat} : Sound (s.complete f st) := complete_only.sound h
  refine .ite hf (.ite (.ite hf (takeText_sound h)) ?_)
  split
  · exact hf
  · exact hf
  · split
    exacts [.ite (takeText_sound (setState_only.sound h1)) hf, .ite (takeText_sound (putEntry_only.sound h1)) hf, hf]

theorem actSessionHold_sound {f : Frame} {slot : Nat} (h : Sound s) : Sound (actSessionHold f slot s) := by
  unfold actSessionHold
  extract_lets
  split
  exacts [complete_only.sound h, complete_only.sound h, complete_only.sound h, complete_only.sound h]

theorem State.afterRelease_sound {slot : Nat} (h : Sound s) : Sound (s.afterRelease slot) := by
  unfold State.afterRelease
  exact .ite (timeoutAction_only.sound h) (.ite h (.ite h (.ite h (wakeOutbox_only.sound h))))

theorem actSessionRelease_sound {f : Frame} {slot : Nat} (h : Sound s) : Sound (actSessionRelease f slot s) := by
  unfold actSessionRelease
  extract_lets
  split
  · exact complete_only.sound (afterRelease_sound h)
  · exact .ite (complete_only.sound (.ite h h)) (complete_only.sound h)
  · exact complete_only.sound h

theorem actSessionPark_sound {f : Frame} {slot : Nat} (h : Sound s) : Sound (actSessionPark f slot s) := by
  unfold actSessionPark
  extract_lets
  split
  · exact complete_only.sound (.ite h (.foldl (fun _ _ hu => requestCage_sound hu) h))
  · exact complete_only.sound (.ite h (.foldl (fun _ _ hu => requestCage_sound hu) h))
  · exact complete_only.sound (.ite h (.foldl (fun _ _ hu => requestCage_sound hu) h))
  · exact complete_only.sound (.ite h (.foldl (fun _ _ hu => requestCage_sound hu) h))
  · exact complete_only.sound h

theorem actSessionCancel_sound {f : Frame} {slot : Nat} (h : Sound s) : Sound (actSessionCancel f slot s) := by
  unfold actSessionCancel
  extract_lets _ drop
  have hd : Sound (drop s) := discardInput_only.sound (disarm_only.sound (removeEdge_only.sound h))
  split
  · exact complete_only.sound (setWait_only.sound (endGeneration_only.sound (discardInput_only.sound h)))
  · refine .ite (complete_only.sound h) ?_
    exact complete_only.sound (setWait_only.sound (endGeneration_only.sound (putEntry_only.sound hd)))
  · refine .ite (complete_only.sound h) ?_
    exact complete_only.sound (endGeneration_only.sound (putEntry_only.sound hd))
  · exact complete_only.sound h

theorem State.dropPages_sound {slot : Nat} (h : Sound s) : Sound (s.dropPages slot) := by
  unfold State.dropPages
  exact settleMap_only.sound (.foldl (fun _ _ hu => dropRef_sound hu) h)

theorem State.dropOutbox_sound {slot : Nat} (h : Sound s) : Sound (s.dropOutbox slot) := by
  unfold State.dropOutbox
  exact wakeOutboxes_only.sound h

theorem State.startClosing_sound {slot : Nat} (h : Sound s) : Sound (s.startClosing slot) := by
  unfold State.startClosing
  extract_lets s1 s2 s3
  have h1 : Sound s1 := discardInput_only.sound (disarm_only.sound (removeEdge_only.sound h))
  have h2 : Sound s2 := dropOutbox_sound (dropPages_sound h1)
  have h3 : Sound s3 := settleText_only.sound h2
  exact putSess_only.sound h3

theorem actSessionClose_sound {f : Frame} {slot : Nat} (h : Sound s) : Sound (actSessionClose f slot s) := by
  unfold actSessionClose
  extract_lets
  split
  · exact .foldl (fun _ _ hu => complete_only.sound hu) (startClosing_sound h)
  · exact .foldl (fun _ _ hu => complete_only.sound hu) (startClosing_sound h)
  · exact .foldl (fun _ _ hu => complete_only.sound hu) (startClosing_sound h)
  · exact .foldl (fun _ _ hu => complete_only.sound hu) (startClosing_sound h)
  · exact complete_only.sound h

theorem State.reserveSession_sound {slot home tenant : Nat} (h : Sound s) :
    SoundIn id (s.reserveSession slot home tenant) := by
  unfold State.reserveSession
  extract_lets
  refine .ite .none ?_
  split
  · exact .none
  next e1 =>
    exact .some (allocPage_sound h _ e1)

theorem State.sessionOpen_sound {f : Frame} (h : Sound s) : Sound (s.sessionOpen f) := by
  unfold State.sessionOpen
  extract_lets
  split
  next chosen s1 e1 =>
    have h1 : Sound s1 := .of_pair e1 (chooseSd_sound h)
    have hs : SoundIn Prod.snd (chosen.bind s1.takeSlot) := .bind fun _ => takeSlot_sound h1
    refine .ite (complete_only.sound h1) ?_
    refine .ite (complete_only.sound h1) ?_
    split
    · split
      · exact complete_only.sound h1
      · refine .ite (complete_only.sound h1) ?_
        split
        · exact complete_only.sound h1
        next s2 e2 =>
          have h2 : Sound s2 := hs _ e2
          extract_lets _ _ _ _ _ _ _ s3
          have h3 : Sound s3 := putSess_only.sound h2
          have hr {b : Bool} {o : Option State} (ho : SoundIn id o) : SoundIn id (if b then o else none) :=
            .ite ho .none
          split
          · exact h3
          next e3 => exact queueText_only.sound (hr (reserveSession_sound h3) _ e3)
    · exact complete_only.sound h1

theorem State.openPrepared_sound {slot : Nat} (h : Sound s) : Sound (s.openPrepared slot) := by
  unfold State.openPrepared
  extract_lets
  refine .ite h ?_
  split
  · exact h
  · exact .ite (complete_only.sound h) (completeWith_only.sound (recount_only.sound (.ite h h)))

theorem State.sharePages_sound {child : Nat} {m : Model} {l : List (Nat × Nat)} (h : Sound s) :
    SoundIn id (s.sharePages child m l) := by
  induction l generalizing s with
  | nil => exact .some h
  | cons p l ih =>
    obtain ⟨lg, u⟩ := p
    unfold State.sharePages
    split
    next u1 _ e1 =>
      have h1 : Sound u1 := takeRef_sound h (congrArg Prod.fst e1)
      exact ih (putSess_only.sound h1)
    next e1 =>
      have h1 := Sound.of_pair e1 (takeRef_refused_sound h)
      refine .ite .none ?_
      split
      · exact .none
      next u2 e2 =>
        have h2 : Sound u2 := allocPage_sound h1 _ e2
        exact ih (putSess_only.sound (copyPage_sound h2))

theorem actSessionFork_sound {f : Frame} {childSd : Option Nat} {slot : Nat} (h : Sound s) :
    Sound (actSessionFork f childSd slot s) := by
  unfold actSessionFork
  extract_lets
  refine .ite (complete_only.sound h) ?_
  split
  · exact complete_only.sound h
  · refine .ite (complete_only.sound h) ?_
    split
    · exact complete_only.sound h
    next child s1 e1 =>
      have h1 : Sound s1 := takeSlot_sound h _ e1
      extract_lets core _ s2
      have h2 : Sound s2 := putSess_only.sound h1
      split
      · exact complete_only.sound h
      next s3 e2 =>
        have h3 : Sound s3 := reserveSession_sound h2 _ e2
        extract_lets shared
        have hs : SoundIn id shared := by
          unfold shared
          split
          · exact .some h3
          · exact sharePages_sound h3
        clear_value shared
        split
        · exact complete_only.sound h
        next s4 =>
          have h4 : Sound s4 := hs _ rfl
          exact completeWith_only.sound (putSess_only.sound (recount_only.sound (settleMap_only.sound h4)))

end

end Sys2Proof.Machine

namespace Sys2Proof.Machine
-- In order, as in the tests: many proofs at once would each wait for the others in a thread of its own.
set_option Elab.async false

/-! ### Soundness: peers, migrations and tables -/

section
open State
variable {s : State}

theorem actSessionWaitPeer_sound {f : Frame} {slot : Nat} (h : Sound s) : Sound (actSessionWaitPeer f slot s) := by
  unfold actSessionWaitPeer
  extract_lets _ _ _ _ _ _ _ _ s2
  have h2 : Sound s2 := putSess_only.sound (disarm_only.sound h)
  refine .ite (complete_only.sound h) ?_
  split
  · exact complete_only.sound h
  · refine .ite (complete_only.sound h) (.ite (complete_only.sound h) ?_)
    split
    · refine .ite (complete_only.sound (setFlag_only.sound h)) (.ite (complete_only.sound (setFlag_only.sound h)) ?_)
      extract_lets _ s3 s4 s5
      have h4 : Sound s4 := setWait_only.sound (fixHeights_only.sound (linkWaiters_only.sound h2))
      have h5 : Sound s5 := .ite h4 (arm_only.sound h4)
      exact complete_only.sound h5

/-! #### Migration (R290 to R304) -/

theorem State.sendPrepare_sound {slot : Nat} {m : Migration} {push : Bool} (h : Sound s) :
    Sound (s.sendPrepare slot m push) := by
  unfold State.sendPrepare
  exact sendMig_only.sound h

theorem actSessionMigrate_sound {f : Frame} {slot : Nat} (h : Sound s) : Sound (actSessionMigrate f slot s) := by
  unfold actSessionMigrate
  exact .ite (complete_only.sound h) (.ite (complete_only.sound h) (sendPrepare_sound h))

theorem State.abortMigration_sound {slot status : Nat} (h : Sound s) : Sound (s.abortMigration slot status) := by
  unfold State.abortMigration
  split
  · exact h
  next m _ =>
    extract_lets s1 _ _ _ s2 s3
    have h1 : Sound s1 := h.congr
    have h2 : Sound s2 := .ite (putSess_only.sound h1) (putSess_only.sound h1)
    have h3 : Sound s3 := addRegFld_only.sound (setFlag_only.sound h2)
    refine .ite h1 ?_
    split
    · exact complete_only.sound h3
    · exact h3

theorem State.sendAbort_sound {slot : Nat} (h : Sound s) : Sound (s.sendAbort slot) := by
  unfold State.sendAbort
  split
  · exact h
  · exact sendMig_only.sound h

theorem State.endPush_sound {slot : Nat} (h : Sound s) : Sound (s.endPush slot) := by
  unfold State.endPush
  split
  · exact .ite (abortMigration_sound (sendAbort_sound h)) h
  · exact h

theorem State.migReady_sound {slot status : Nat} (h : Sound s) : Sound (s.migReady slot status) := by
  unfold State.migReady
  split
  · exact h
  · refine .ite (.ite h (abortMigration_sound h)) ?_
    refine .ite (.ite h (abortMigration_sound (setFlag_only.sound h))) ?_
    exact .ite (abortMigration_sound (sendAbort_sound h)) h

theorem State.sendHandover_sound {slot : Nat} (h : Sound s) : Sound (s.sendHandover slot) := by
  unfold State.sendHandover
  split
  · exact h
  · exact .ite h (sendMig_only.sound h)

theorem State.migCopyDone_sound {slot die chan sent : Nat} (h : Sound s) :
    Sound (s.migCopyDone slot die chan sent) := by
  unfold State.migCopyDone
  split
  · exact h
  · exact .ite h (sendHandover_sound h)

theorem State.goAway_sound {slot dest moveSeq : Nat} (h : Sound s) : Sound (s.goAway slot dest moveSeq) := by
  unfold State.goAway
  extract_lets s1 s2 x held _ _ _ s3
  have h1 : Sound s1 := discardInput_only.sound (disarm_only.sound h)
  have h2 : Sound s2 := settleText_only.sound (dropOutbox_sound (dropPages_sound h1))
  have h3 : Sound s3 := putSess_only.sound h2
  exact .foldl (fun _ _ hu => completeMoved_sound hu) h3

theorem State.migCommitted_sound {slot : Nat} (h : Sound s) : Sound (s.migCommitted slot) := by
  unfold State.migCommitted
  split
  · exact h
  next m _ =>
    refine .ite h ?_
    extract_lets hd us s1 seq s2 s3 s4 s5
    have h1 : Sound s1 := h.congr
    have h2 : Sound s2 := goAway_sound h1
    clear_value s2
    have h3 : Sound s3 := .ite h2 h2.congr
    have h5 : Sound s5 := flagIf_only.sound (markReg_only.sound (addRegFld_only.sound h3))
    split
    · exact completeWith_only.sound h5
    · exact h5

theorem State.allocTier_sound {sd tier cls scaleBytes tenant : Nat} {owner : Option Nat} (h : Sound s) :
    SoundIn Prod.snd (s.allocTier sd tier cls scaleBytes tenant owner) := by
  unfold State.allocTier
  refine .ite .none ?_
  refine .ite (allocPage_sound h) ?_
  split
  · exact .none
  next e1 =>
    split
    next e1 =>
      split
      · exact .none
      next e2 =>
        exact .some (addUse_only.sound (takeFrame_sound (.of_pair e1 (freshUsa_sound h)) _ e2))

theorem State.reservePages_sound {sd cls scaleBytes tenant : Nat} {owner : Option Nat} {l : List (Nat × Nat)}
    {acc : List (Nat × Nat × Nat)} (h : Sound s) :
    SoundIn Prod.snd (s.reservePages sd cls scaleBytes tenant owner l acc) := by
  induction l generalizing s acc with
  | nil => exact .some h
  | cons p l ih =>
    obtain ⟨lg, tier⟩ := p
    unfold State.reservePages
    split
    · exact .none
    next e1 => exact ih (allocTier_sound h _ e1)

theorem State.localSlot_sound {handle : Nat} (h : Sound s) : SoundIn Prod.snd (s.localSlot handle) := by
  unfold State.localSlot
  extract_lets
  refine .ite (.ite (.some h) .none) ?_
  split
  · exact .some h
  · exact .ite .none (.map (takeSlot_sound h) (fun _ hu => hu))

theorem State.prepare_sound {src : Nat} {p : PrepareMsg} (h : Sound s) : Sound (s.prepare src p).2 := by
  unfold State.prepare
  split
  · exact h
  next m _ =>
    split
    · exact h
    split
    · exact h
    split
    · exact h
    split
    · exact h
    extract_lets
    split
    · exact h
    split
    · exact h
    next s1 e1 =>
      have h1 : Sound s1 := localSlot_sound h _ e1
      split
      · exact h
      split
      · exact h
      next s2 e2 =>
        have h2 : Sound s2 := allocTier_sound h1 _ e2
        split
        · exact h
        next s3 e3 =>
          have h3 : Sound s3 := reservePages_sound h2 _ e3
          exact h3.congr

theorem State.freeIncoming_sound {handle : Nat} (h : Sound s) : Sound (s.freeIncoming handle) := by
  unfold State.freeIncoming
  split
  · exact h
  · extract_lets s1
    have h1 : Sound s1 := .foldl (fun _ _ hu => freePage_sound hu) h
    clear_value s1
    split
    · exact .ite h1.congr h1.congr
    · exact h1.congr

theorem State.commitHandover_sound {handle : Nat} {i : Incoming} {x : Session} (h : Sound s) :
    Sound (s.commitHandover handle i x) := by
  unfold State.commitHandover
  split
  · exact h
  next m _ =>
    extract_lets e seq e' _ core used spare n recs _ y s1 s2 s3 s4 s5 s6 s7 s8 holders s9
    have h2 : Sound s2 := .foldl (fun _ _ hu => freePage_sound hu) (h.congr (u := s1))
    have h4 : Sound s4 := .foldl (fun _ _ hu => hu) (putSess_only.sound h2)
    have h5 : Sound s5 := recount_only.sound (settleText_only.sound (settleMap_only.sound h4))
    have h6 : Sound s6 := .foldl (fun _ _ hu => putRecord_sound hu) h5
    have h7 : Sound s7 := .ite h6 (h6.congr)
    have h8 : Sound s8 := .ite h7 (sendMig_only.sound h7)
    have h9 : Sound s9 := .foldl (fun _ _ hu => sendMig_only.sound hu) h8
    exact sendMig_only.sound h9

theorem State.decideHandover_sound {handle : Nat} (h : Sound s) : Sound (s.decideHandover handle) := by
  unfold State.decideHandover
  split
  · exact h
  · split
    · exact h
    · exact .ite h (commitHandover_sound h)

theorem State.handover_sound {handle count : Nat} {x : Session} (h : Sound s) :
    Sound (s.handover handle count x) := by
  unfold State.handover
  split
  · exact h
  · exact decideHandover_sound h

theorem State.abortReq_sound {src handle seq : Nat} (h : Sound s) : Sound (s.abortReq src handle seq) := by
  unfold State.abortReq
  exact .ite (sendMig_only.sound h) (sendMig_only.sound (freeIncoming_sound h))

theorem State.closeNote_sound {src handle : Nat} (h : Sound s) : Sound (s.closeNote src handle) := by
  unfold State.closeNote
  exact sendMig_only.sound (.ite (freeSlot_sound h) h)

theorem State.kvPush_sound {handle lg index : Nat} {bs : List Byte} (h : Sound s) :
    Sound (s.kvPush handle lg index bs) := by
  unfold State.kvPush
  split
  · exact h
  · exact h

theorem State.sealNote_sound {handle count : Nat} (h : Sound s) : Sound (s.sealNote handle count) := by
  unfold State.sealNote
  split
  · exact h
  next i _ =>
    refine .ite h (h.setMem ?_)
    refine List.foldlRecOn (motive := fun m => Memory.wf m = true) _ _ h.mem_wf fun m hm q _ => ?_
    split
    · exact memWrite_wf hm _ _
    · exact hm

theorem State.retryNotes_sound {handle : Nat} (h : Sound s) : Sound (s.retryNotes handle) := by
  unfold State.retryNotes
  exact .foldl (fun _ _ hu => .ite (sealNote_sound hu) (dropNote_only.sound hu)) h

theorem State.sourceTimeout_sound {slot : Nat} (h : Sound s) : Sound (s.sourceTimeout slot) := by
  unfold State.sourceTimeout
  split
  · exact h
  · exact .ite h (.ite (setFlag_only.sound (sendAbort_sound h)) (abortMigration_sound (sendAbort_sound h)))

theorem State.destTimeout_sound {handle : Nat} (h : Sound s) : Sound (s.destTimeout handle) := by
  unfold State.destTimeout
  split
  · exact h
  · exact .ite h (freeIncoming_sound h)

/-! #### Checkpoints and restore (R333 to R359) -/

/-- A record's bytes over a zeroed range. -/
theorem foldl_memPut_wf {m : List Host.Cell} (hm : Memory.wf m = true) (a : Nat) (l : List Host.Cell) :
    Memory.wf (l.foldl (fun m c => memPut m (a + c.1) c.2) m) = true :=
  List.foldlRecOn (motive := fun m => Memory.wf m = true) l _ hm fun _ hb _ _ => memPut_wf hb _ _

theorem State.placeRecord_sound {u : Nat} {r : PageRecord} (h : Sound s) : Sound (s.placeRecord u r) :=
  h.setMem (foldl_memPut_wf (memZero_wf (foldl_memPut_wf (memZero_wf h.mem_wf _ _) _ _) _ _) _ _)

theorem State.unfreeze_sound {u : Nat} (h : Sound s) : Sound (s.unfreeze u) := by
  unfold State.unfreeze
  split
  · exact h
  · exact retryCages_sound (.ite (freePage_sound h) h)

theorem State.stagePage_sound {u : Nat} (h : Sound s) : Sound (s.stagePage u) := by
  unfold State.stagePage
  split
  · exact .ite h (unfreeze_sound h)
  · exact h

theorem State.beforeWrite_sound {u : Nat} (h : Sound s) : Sound (s.beforeWrite u) := .ite (stagePage_sound h) h

theorem State.touchMeta_sound {slot : Nat} (h : Sound s) : Sound (s.touchMeta slot) := by
  unfold State.touchMeta
  exact .ite h (beforeWrite_sound h)

theorem State.epochFail_sound (h : Sound s) : Sound s.epochFail := by
  unfold State.epochFail
  split
  · exact h
  · exact setFlag_only.sound (complete_only.sound (.foldl (fun _ _ hu => unfreeze_sound hu) h))

theorem State.checkpointCut_sound {step : Nat} (h : Sound s) : Sound (s.checkpointCut step) := by
  unfold State.checkpointCut
  split
  · exact h
  · exact .ite h (.ite (epochFail_sound h) (.foldl (fun _ _ hu => hu) h))

theorem State.cutRecord_sound {sd : Nat} (h : Sound s) : Sound (s.cutRecord sd) := by
  unfold State.cutRecord
  split
  · exact h
  · exact .ite h h

theorem State.stagingDone_sound {u : Nat} (h : Sound s) : Sound (s.stagingDone u) := by
  unfold State.stagingDone
  split
  · exact h
  · exact .ite (setFlag_only.sound h) (stagePage_sound h)

theorem State.storeWritten_sound {n : Nat} {ok : Bool} (h : Sound s) : Sound (s.storeWritten n ok) := by
  unfold State.storeWritten
  split
  · exact h
  · refine .ite (epochFail_sound (setFlag_only.sound h)) ?_
    split
    · exact h

theorem State.storeTimeout_sound (h : Sound s) :
    Sound s.storeTimeout := .ite (epochFail_sound (setFlag_only.sound h)) h

theorem State.loadRecorded_sound {src : RestoreSource} {r : Recorded} (h : Sound s) :
    Sound (s.loadRecorded src r) := by
  unfold State.loadRecorded
  extract_lets
  refine .ite h ?_
  extract_lets
  split
  · exact h
  · exact h

theorem State.restoreGroup_sound {f : Frame} {img : Option EpochImage} (h : Sound s) :
    Sound (s.restoreGroup f img) := by
  unfold State.restoreGroup
  refine .ite (complete_only.sound h) ?_
  refine .ite (complete_only.sound h) ?_
  extract_lets
  split
  · exact complete_only.sound h
  · refine .ite (complete_only.sound (flagIf_only.sound h)) ?_
    extract_lets s1 s2
    have h1 : Sound s1 := .foldl (fun _ _ hu => loadRecorded_sound hu) h
    have h2 : Sound s2 := .foldl (fun _ _ hu => putTenant_only.sound hu) h1
    exact complete_only.sound (.foldl (fun _ _ hu => hu) h2)

theorem State.restoreReserve_sound {slot home : Nat} {x : Session} {m : Model} (h : Sound s) :
    SoundIn (fun p => p.2.2) (s.restoreReserve slot home x m).2 := by
  unfold State.restoreReserve
  extract_lets
  split
  · exact .none
  split
  · exact .none
  split
  · exact .none
  next s1 e1 =>
    have h1 : Sound s1 := allocPage_sound h _ e1
    split
    · exact .none
    next s2 e2 =>
      have h2 : Sound s2 := reservePages_sound h1 _ e2
      exact .some h2

theorem State.restoreStart_sound {f : Frame} {slot : Nat} {x : Session} (h : Sound s) :
    Sound (s.restoreStart f slot x).2 := by
  unfold State.restoreStart
  extract_lets
  split
  · exact h
  split
  · exact h
  extract_lets
  split
  · exact h
  next u e1 =>
    have hu : Sound u := restoreReserve_sound h _ (congrArg Prod.snd e1)
    exact lockFor_only.sound (putCkp_only.sound hu)

theorem actSessionRestore_sound {f : Frame} {rec_ : Option Recorded} {slot : Nat} (h : Sound s) :
    Sound (actSessionRestore f rec_ slot s) := by
  unfold actSessionRestore
  extract_lets
  refine .ite (complete_only.sound h) ?_
  split
  · exact complete_only.sound (sendMig_only.sound h)
  · split
    · exact complete_only.sound h
    · extract_lets
      split
      next s1 e1 =>
        have h1 : Sound s1 := .of_pair e1 (restoreStart_sound h)
        refine .ite (complete_only.sound h) (.ite h1 ?_)
        exact putEntry_only.sound (settleText_only.sound (dropOutbox_sound (dropPages_sound h1)))

theorem State.adoptRestore_sound {f : Frame} {rec_ : Option Recorded} (h : Sound s) :
    Sound (s.adoptRestore f rec_) := by
  unfold State.adoptRestore
  split
  · exact complete_only.sound h
  next e1 =>
    extract_lets
    refine .ite (complete_only.sound h) ?_
    refine .ite (complete_only.sound h) ?_
    refine .ite (complete_only.sound h) ?_
    split
    · exact complete_only.sound h
    next e1 =>
      extract_lets s1
      have h1 : Sound s1 := loadRecorded_sound (localSlot_sound h _ e1)
      split
      next e2 =>
        exact .ite (complete_only.sound h) (.of_pair e2 (restoreStart_sound h1))

theorem State.restoredDeadline_sound {slot : Nat} (h : Sound s) : Sound (s.restoredDeadline slot) := by
  unfold State.restoredDeadline
  exact .ite h (.ite h (.ite (timeoutAction_only.sound h) (.ite h h)))

theorem State.restorePlaced_sound {slot : Nat} {records : List PageRecord} {ok : Bool} (h : Sound s) :
    Sound (s.restorePlaced slot records ok) := by
  unfold State.restorePlaced
  split
  · exact h
  next r _ =>
    extract_lets _ s1 news s2 _ s3 place s4 s5 s6 _ s7
    have h1 : Sound s1 := putCkp_only.sound h
    have hp (u : State) (p : Nat × Nat × Nat) (hu : Sound u) : Sound (place u p) := by
      unfold place
      split
      · exact placeRecord_sound hu
      · exact hu
    have h3 : Sound s3 := putSess_only.sound (.foldl (fun _ _ hu => freePage_sound hu) h1)
    have h4 : Sound s4 := .foldl (fun _ _ hu => hu) (.foldl hp h1)
    have h6 : Sound s6 := recount_only.sound (settleText_only.sound (settleMap_only.sound (putSess_only.sound h4)))
    have h7 : Sound s7 := putCkp_only.sound h6
    exact .ite (complete_only.sound (unlock_only.sound h3)) (complete_only.sound (restoredDeadline_sound h7))

/-! #### Row tables, adapters and recall (R253 to R276) -/

theorem State.freshKey_sound (h : Sound s) : Sound s.freshKey.2 := h

theorem State.writeRow_sound {t : RowTable} {b : RowBlock} {row : Nat} {bs : List Byte} (h : Sound s) :
    Sound (s.writeRow t b row bs) := by
  unfold State.writeRow
  extract_lets
  split
  · exact h.setMem (memWrite_wf h.mem_wf _ _)
  · extract_lets s1
    have h1 : Sound s1 := beforeWrite_sound h
    exact h1.setMem (memWrite_wf h1.mem_wf _ _)

theorem State.deliverResume_sound {handle callId : Nat} {text : List Byte} (h : Sound s) :
    Sound (s.deliverResume handle callId text) := by
  unfold State.deliverResume
  extract_lets
  split
  · exact h
  · exact command_sound h (fun _ _ hu => actSessionResume_sound hu)

theorem State.sweepTable_sound {id : Nat} (h : Sound s) : Sound (s.sweepTable id) := by
  unfold State.sweepTable
  split
  · exact h
  · extract_lets
    exact .foldl (fun _ _ hu => .foldl (fun _ _ hu => .ite hu (.foldl (fun _ _ hu => freePage_sound hu) hu)) hu) h

theorem State.lookupDone_sound {f : Frame} {t : RowTable} {rows : List (List Byte)} (h : Sound s) :
    Sound (s.lookupDone f t rows) := by
  unfold State.lookupDone
  extract_lets s1
  have h1 : Sound s1 := .ite (charge_only.sound h) h
  exact .ite (complete_only.sound (deliverResume_sound h1)) (completeWith_only.sound h1)

theorem State.gather_sound {f : Frame} {sd id : Nat} {t : RowTable} {bag : List Nat} (h : Sound s) :
    Sound (s.gather f sd id t bag) := by
  unfold State.gather
  extract_lets _ _ _ s1 owners
  have h1 : Sound s1 := putTable_only.sound h
  split
  · exact complete_only.sound h1
  · refine .ite (lookupDone_sound h1) ?_
    split
    next s2 reqs e2 =>
      have h2 : Sound s2 := by
        refine (congrArg (fun p => Sound p.1) e2).mp ?_
        refine List.foldlRecOn (motive := fun p : State × List (Nat × List Nat × List Byte) => Sound p.1) owners _ h1
          fun acc ha o _ => ?_
        exact send_only.sound (freshKey_sound ha)
      exact putTables_only.sound (freshKey_sound h2)

theorem State.lookup_sound {f : Frame} {sd id tenant mode : Nat} {bag : List Nat} (h : Sound s) :
    Sound (s.lookup f sd id tenant mode bag) := by
  unfold State.lookup
  split
  · exact complete_only.sound h
  · refine .ite (complete_only.sound h) ?_
    exact .ite (complete_only.sound h) (.ite (complete_only.sound (flagIf_only.sound h)) (gather_sound h))

theorem State.rowLookup_sound {f : Frame} {sd : Nat} (h : Sound s) : Sound (s.rowLookup f sd) :=
  .ite (complete_only.sound h) (.ite (complete_only.sound h) (.ite (complete_only.sound h) (lookup_sound h)))

theorem State.rowReply_sound {request : Nat} {bytes : List Byte} (h : Sound s) :
    Sound (s.rowReply request bytes) := by
  unfold State.rowReply
  split
  · exact h
  · split
    · exact h
    · exact .ite (sweepTable_sound (lookupDone_sound h)) h

theorem State.moveBlock_sound {n : Nat} {p : RowBlock × RowBlock} (h : Sound s) : Sound (s.moveBlock n p) :=
  .ite h (.ite (h.setMem (memCopy_wf h.mem_wf _ _ _)) (.foldl (fun _ _ hu => send_only.sound hu) h))

theorem State.switchTable_sound {id : Nat} (h : Sound s) : Sound (s.switchTable id) := by
  unfold State.switchTable
  split
  · exact h
  · split
    · exact h
    · extract_lets _ _ _ s1 s2
      have h1 : Sound s1 := .foldl (fun _ _ hu => moveBlock_sound hu) h
      have h2 : Sound s2 := .foldl (fun _ _ hu => .ite (setFlag_only.sound hu) hu) h1
      refine .ite (complete_only.sound (putTable_only.sound h)) ?_
      exact complete_only.sound (sweepTable_sound (putTable_only.sound h2))

theorem State.switchTables_sound (h : Sound s) : Sound s.switchTables := .foldl (fun _ _ hu => switchTable_sound hu) h

theorem State.updateBatch_sound {id step upTo : Nat} (h : Sound s) : Sound (s.updateBatch id step upTo) := by
  unfold State.updateBatch
  split
  · exact h
  · extract_lets _ s1 finish
    have h1 : Sound s1 := putTable_only.sound h
    have hf (st : Nat) (u : State) (x : RowUpdate) (hu : Sound u) : Sound (finish st u x) := by
      unfold finish
      split
      · exact complete_only.sound hu
      · exact hu
    split
    extract_lets apply s2
    have ha (u : State) (row : Nat) (hu : Sound u) : Sound (apply u row) := by
      unfold apply
      split
      · exact hu
      · exact .ite hu (writeRow_sound hu)
    have h2 : Sound s2 := .foldl ha h1
    exact .foldl (hf _) (.foldl (hf _) h2)

theorem State.updateBatches_sound {step upTo : Nat} (h : Sound s) : Sound (s.updateBatches step upTo) :=
  sendUpdates_only.sound (.foldl (fun _ _ hu => updateBatch_sound hu) h)

theorem State.allocPages_sound {sd tenant : Nat} {l acc : List Nat} (h : Sound s) :
    SoundIn Prod.snd (s.allocPages sd tenant l acc) := by
  induction l generalizing s acc with
  | nil => exact .some h
  | cons c l ih =>
    unfold State.allocPages
    split
    · exact .none
    next e1 => exact ih (allocPage_sound h _ e1)

theorem State.writeOver_sound {l : List Nat} {bs : List Byte} (h : Sound s) : Sound (s.writeOver l bs) := by
  induction l generalizing s bs with
  | nil => exact h
  | cons u l ih => exact ih (h.setMem (memWrite_wf h.mem_wf _ _))

theorem State.adapterRead_sound {k sd : Nat} {bs : List Byte} {ok : Bool} (h : Sound s) :
    Sound (s.adapterRead k sd bs ok) := by
  unfold State.adapterRead
  split
  · exact h
  next l _ =>
    extract_lets f _ s1
    have h1 : Sound s1 := putTables_only.sound h
    refine .ite (complete_only.sound h1) ?_
    split
    · exact complete_only.sound h1
    · refine .ite (complete_only.sound h1) (.ite (complete_only.sound h1) ?_)
      split
      · exact complete_only.sound h1
      next s2 e2 =>
        have h2 : Sound s2 := allocPages_sound h1 _ e2
        exact complete_only.sound (show Sound { s2.writeOver _ bs with adapters := _ } from writeOver_sound h2)

theorem State.adapterSwitch_sound {f : Frame} (h : Sound s) : Sound (s.adapterSwitch f) := by
  unfold State.adapterSwitch
  extract_lets
  refine .ite (complete_only.sound h) ?_
  refine .ite (complete_only.sound h) ?_
  split
  · exact complete_only.sound h
  · exact .ite (complete_only.sound h) (complete_only.sound (.foldl (fun _ _ hu => sweepAdapter_sound hu) h))

theorem actAdapterSwitch_sound {f : Frame} {slot : Nat} (h : Sound s) : Sound (actAdapterSwitch f slot s) := by
  unfold actAdapterSwitch
  extract_lets
  refine .ite (complete_only.sound h) ?_
  split
  · exact complete_only.sound h
  · exact .ite (complete_only.sound h) (complete_only.sound (sweepAdapter_sound h))

theorem State.followAdapters_sound {upTo : Nat} (h : Sound s) : Sound (s.followAdapters upTo) := by
  refine .foldl (fun u _ hu => ?_) h
  split
  · exact hu
  · exact .foldl (fun _ _ hu => sweepAdapter_sound hu) (.foldl (fun _ _ hu => hu) hu)

theorem State.scanDone_sound {k sd : Nat} (h : Sound s) : Sound (s.scanDone k sd) := by
  unfold State.scanDone
  split
  · exact h
  · split
    · exact h
    · extract_lets _ _ _ _ s1 s2 _ _ _ s3 s4
      have h2 : Sound s2 := charge_only.sound (h.congr (u := s1))
      have h4 : Sound s4 := drainInserts_only.sound (putTables_only.sound h2)
      exact .ite h (.ite h4 (.ite (lookup_sound h4) (completeWith_only.sound h4)))

/-! #### Session commands and events at the table SDs -/

theorem endingPush_sound {act : Nat → State → State} {slot : Nat} (h : Sound s)
    (hact : ∀ i u, Sound u → Sound (act i u)) :
    Sound (endingPush act slot s) := hact _ _ (endPush_sound h)

theorem State.sessionFrame_sound {f : Frame} {rec_ : Option Recorded} {childSd : Option Nat} (h : Sound s) :
    Sound (s.sessionFrame f rec_ childSd) := by
  unfold State.sessionFrame
  extract_lets
  refine .ite (command_sound h fun _ _ hu => actSessionAppend_sound hu) ?_
  refine .ite (command_sound h fun _ _ hu => actSessionResume_sound hu) ?_
  refine .ite (command_sound h fun _ _ hu => actSessionHold_sound hu) ?_
  refine .ite (command_sound h fun _ _ hu => actSessionRelease_sound hu) ?_
  refine .ite (command_sound h fun _ _ hu => actSessionPark_sound hu) ?_
  refine .ite (command_sound h fun _ _ hu => endingPush_sound hu fun _ _ hv => actSessionCancel_sound hv) ?_
  refine .ite (command_sound h fun _ _ hu => endingPush_sound hu fun _ _ hv => actSessionClose_sound hv) ?_
  refine .ite (commandFor_sound h fun _ _ hu => actSessionFork_sound hu) ?_
  refine .ite (command_sound h fun _ _ hu => actSessionMigrate_sound hu) ?_
  refine .ite (command_sound h fun _ _ hu => actSessionWaitPeer_sound hu) ?_
  refine .ite (command_sound h fun _ _ hu => actAdapterSwitch_sound hu) ?_
  exact .ite (adoptRestore_sound h) (command_sound h fun _ _ hu => actSessionRestore_sound hu)

theorem State.leaseNow_sound {slot : Nat} (h : Sound s) : Sound (s.leaseNow slot) := by
  unfold State.leaseNow
  extract_lets
  split
  · exact h
  · exact h

theorem State.drainStep_sound {slot : Nat} (h : Sound s) : Sound (s.drainStep slot) := by
  unfold State.drainStep
  extract_lets
  refine .ite h ?_
  split
  · exact h
  · exact leaseNow_sound (sessionFrame_sound h)

theorem State.drainCommands_sound {slot n : Nat} (h : Sound s) : Sound (s.drainCommands slot n) := by
  induction n generalizing s with
  | zero => exact h
  | succ n ih => exact ih (drainStep_sound h)

theorem State.drainSession_sound {slot : Nat} (h : Sound s) : Sound (s.drainSession slot) := drainCommands_sound h

theorem State.frameFor_sound {f : Frame} {rec_ : Option Recorded} {childSd : Option Nat} (h : Sound s) :
    Sound (s.frameFor f rec_ childSd) := by
  unfold State.frameFor
  extract_lets s1
  have h1 : Sound s1 := sessionFrame_sound h
  split
  · exact h1
  · exact drainSession_sound h1

theorem State.frameAt_sound {f : Frame} {rec_ : Option Recorded} (h : Sound s) :
    Sound (s.frameAt f rec_) := frameFor_sound h

theorem State.letGo_sound {slot : Nat} {f : Frame} (h : Sound s) : Sound (s.letGo slot f) := by
  unfold State.letGo
  exact unlock_only.sound h

theorem State.afterText_sound {slot : Nat} (h : Sound s) : Sound (s.afterText slot) := by
  unfold State.afterText
  extract_lets
  split
  · exact h
  · split
    · exact drainSession_sound (complete_only.sound (unlock_only.sound h))
    · exact .ite (drainSession_sound (letGo_sound h)) h

theorem State.afterWait_sound {slot count : Nat} {ws : List Frame} (h : Sound s) :
    Sound (s.afterWait slot count ws) := by
  unfold State.afterWait
  extract_lets
  split
  · exact drainSession_sound (.foldl (fun _ _ hu => complete_only.sound hu) (unlock_only.sound h))
  · exact .ite (drainSession_sound (unlock_only.sound h)) h

theorem State.textWork_sound {slot : Nat} {work : State → State} (h : Sound s)
    (hact : ∀ u, Sound u → Sound (work u)) : Sound (s.textWork slot work) := by
  unfold State.textWork
  extract_lets x ws s1
  clear_value ws
  have h1 : Sound s1 := by
    unfold s1
    split
    · exact letGo_sound h
    · exact h
  split
  · exact afterText_sound (hact _ h)
  · exact .ite (afterWait_sound (hact _ h)) (.ite h1 (afterWait_sound (hact _ (lockFor_only.sound h1))))

theorem State.textResume_sound {slot : Nat} (h : Sound s) : Sound (s.textResume slot) := by
  unfold State.textResume
  split
  · exact .ite (textInput_sound h) h
  · exact h

theorem State.closeReleased_sound {slot : Nat} (h : Sound s) : Sound (s.closeReleased slot) := by
  unfold State.closeReleased
  extract_lets x e s1 s2 s3 _ s4
  have h1 : Sound s1 := peerComplete_only.sound h
  have h2 : Sound s2 := by
    unfold s2
    split
    · exact complete_only.sound h1
    · exact h1
  have h3 : Sound s3 := .foldl (fun _ _ hu => complete_only.sound hu) h2
  have h4 : Sound s4 := sendMig_only.sound (freeGuest_only.sound h3)
  exact .ite h (sweepAdapter_sound (.ite (freeSlot_sound h3) h4.congr))

theorem State.timedRelease_sound {slot : Nat} (h : Sound s) : Sound (s.timedRelease slot) := by
  unfold State.timedRelease
  extract_lets
  split
  · exact h
  · exact frameAt_sound h

theorem State.leaseLapse_sound {slot : Nat} (h : Sound s) : Sound (s.leaseLapse slot) := by
  unfold State.leaseLapse
  extract_lets
  split
  · exact .ite (drainSession_sound (breakLock_sound (endPush_sound h))) h
  · exact h

end

end Sys2Proof.Machine

namespace Sys2Proof.Machine
-- In order, as in the tests: many proofs at once would each wait for the others in a thread of its own.
set_option Elab.async false

/-! ### Soundness: steps and the fabric -/

section
open State
variable {s : State}

/-! #### Shared prefixes (R132 to R145) -/

theorem State.domainKey_sound {sd dom : Nat} (h : Sound s) : Sound (s.domainKey sd dom).2 := by
  unfold State.domainKey
  split
  · exact h
  · split
    next s1 e1 =>
      have h1 : Sound s1 := .of_pair e1 (draw_sound h)
      exact putSd_only.sound h1

theorem State.sharePage_sound {slot page : Nat} (h : Sound s) : SoundIn Prod.snd (s.sharePage slot page) := by
  unfold State.sharePage
  split
  next e1 => exact .some (takeRef_sound h (congrArg Prod.fst e1))
  next u e1 =>
    have hu : Sound u := .of_pair e1 (takeRef_refused_sound h)
    split
    · exact .none
    · exact .ite .none (.map (allocPage_sound hu) fun _ hv => copyPage_sound hv)

theorem State.gainPages_sound {slot k : Nat} {m : Model} {l : List (Nat × Nat)} (h : Sound s) :
    SoundIn id (s.gainPages slot k m l) := by
  induction l generalizing s with
  | nil => exact .some h
  | cons p l ih =>
    obtain ⟨lg, page⟩ := p
    unfold State.gainPages
    refine .ite (ih h) ?_
    split
    · exact .none
    next e1 => exact ih (sharePage_sound h _ e1)

theorem State.walkNodes_sound {slot key n prev k : Nat} {m : Model} {toks : List Nat} (h : Sound s) :
    Sound (s.walkNodes slot key m n prev k toks).2 := by
  induction n generalizing s prev k toks with
  | zero => exact h
  | succ n ih =>
    unfold State.walkNodes
    extract_lets
    split
    · exact h
    split
    · exact h
    split
    · exact h
    split
    · exact h
    next u e1 =>
      have hu : Sound u := gainPages_sound h _ e1
      exact ih (addRegFld_only.sound (putSd_only.sound hu))

theorem State.walk_sound {slot : Nat} {m : Model} (h : Sound s) : Sound (s.walk slot m).2 := by
  unfold State.walk
  extract_lets
  split
  · exact h
  split
  next u e1 =>
    have hu : Sound u := .of_pair e1 (domainKey_sound h)
    exact walkNodes_sound (addRegFld_only.sound hu)

theorem State.dropNode_sound {sd : Nat} {nd : PrefixNode} (h : Sound s) : Sound (s.dropNode sd nd) := by
  unfold State.dropNode
  exact .foldl (fun _ _ hu => dropRef_sound hu) h

theorem State.treeRefs_sound {l : List Nat} (h : Sound s) : SoundIn id (s.treeRefs l) := by
  induction l generalizing s with
  | nil => exact .some h
  | cons u l ih =>
    unfold State.treeRefs
    refine .ite (ih h) ?_
    split
    · exact .none
    next e1 => exact ih (takeRef_sound h e1)

theorem State.makeRoom_sound {sd key : Nat} (h : Sound s) : Sound (s.makeRoom sd key) := by
  unfold State.makeRoom
  extract_lets
  refine .ite h ?_
  split
  · exact h
  · exact setFlag_only.sound (dropNode_sound h)

theorem State.insertNode_sound {slot n key prev : Nat} {toks : List Nat} {m : Model} (h : Sound s) :
    Sound (s.insertNode slot n key prev toks m) := by
  unfold State.insertNode
  extract_lets
  refine .ite h ?_
  split
  · exact flagIf_only.sound h
  · split
    · exact h
    next u e1 =>
      have hu : Sound u := treeRefs_sound h _ e1
      exact putSd_only.sound (makeRoom_sound hu)

theorem State.advanceChain_sound {slot n : Nat} {m : Model} (h : Sound s) : Sound (s.advanceChain slot m n) := by
  induction n generalizing s with
  | zero => exact h
  | succ n ih =>
    unfold State.advanceChain
    extract_lets
    refine .ite h ?_
    split
    next e1 => exact ih (insertNode_sound (.of_pair e1 (domainKey_sound h)))

theorem State.chainTokens_sound {slot : Nat} {m : Model} {toks : List Nat} (h : Sound s) :
    Sound (s.chainTokens slot m toks) := by
  unfold State.chainTokens
  exact advanceChain_sound h

theorem State.retentionSweep_sound {sd : Nat} (h : Sound s) : Sound (s.retentionSweep sd) := by
  unfold State.retentionSweep
  exact .foldl (fun _ _ hu => dropNode_sound hu) h

/-! #### Steps (R64 to R86) -/

theorem State.growGroups_sound {slot : Nat} {m : Model} {l : List (Nat × Nat)} (h : Sound s) :
    SoundIn Prod.snd (s.growGroups slot m l) := by
  induction l generalizing s with
  | nil => exact .some h
  | cons p l ih =>
    obtain ⟨lg, n⟩ := p
    unfold State.growGroups
    split
    · exact .none
    next e1 => exact .map (ih (growGroupBy_sound h _ e1)) fun _ hu => hu

theorem State.reserveCows_sound {slot : Nat} {m : Model} {l : List (Nat × Nat)} (h : Sound s) :
    SoundIn Prod.snd (s.reserveCows slot m l) := by
  induction l generalizing s with
  | nil => exact .some h
  | cons p l ih =>
    obtain ⟨lg, u⟩ := p
    unfold State.reserveCows
    extract_lets
    split
    · exact .none
    next e1 => exact .map (ih (allocPage_sound h _ e1)) fun _ hu => hu

theorem State.upCages_sound {slot : Nat} {l : List Nat} (h : Sound s) : SoundIn id (s.upCages slot l) := by
  induction l generalizing s with
  | nil => exact .some h
  | cons u l ih =>
    unfold State.upCages
    split
    · exact ih h
    · refine .ite (ih h) (.ite (ih h) ?_)
      extract_lets s1
      have h1 : Sound s1 := .ite (dropCage_sound h) h
      split
      · exact .none
      next e1 => exact ih (startCage_sound h1 _ e1)

theorem State.reserveMap_sound {slot : Nat} {cows : List CowPage} (h : Sound s) :
    SoundIn Prod.snd (s.reserveMap slot cows) := by
  unfold State.reserveMap
  exact .ite .none (.some (settleMap_only.sound h))

theorem State.reserveStep_sound {slot : Nat} {m : Model} {a n : Nat} {u : State} {pages : List Nat}
    {cows : List CowPage}
    {blocks : Nat} (h : Sound s) (e : s.reserveStep slot m a n = .ok u pages cows blocks) : Sound u := by
  unfold State.reserveStep at e
  extract_lets at e
  split at e
  · cases e
  split at e
  · cases e
  split at e
  · cases e
  split at e
  · cases e
  next e1 =>
    split at e
    · cases e
    next e2 =>
      split at e
      · cases e
      next e3 =>
        split at e
        · cases e
        next e4 =>
          cases e
          exact reserveMap_sound (upCages_sound (reserveCows_sound (growGroups_sound h _ e1) _ e2) _ e3) _ e4

theorem State.startPush_sound {slot : Nat} (h : Sound s) : Sound (s.startPush slot) := by
  unfold State.startPush
  exact .ite h (sendPrepare_sound h)

theorem Forming.take_sound {f : Forming} {s1 : Bool} {slot matched : Nat} {x : Shape} {pages : List Nat}
    {cows : List CowPage} {blocks : Nat} (h : Sound s) : Sound (f.take s1 slot matched x s pages cows blocks).s := by
  unfold Forming.take
  extract_lets
  split
  next u e1 =>
    have hu : Sound u := .of_pair e1 (draw_sound h)
    extract_lets _ v1 _ _ v2 _ _ v3 v4
    have h2 : Sound v2 := State.checkOutboxLow_only.sound (putSd_only.sound (putSess_only.sound hu))
    have h4 : Sound v4 := State.recount_only.sound (putTenant_only.sound h2)
    exact .ite (State.startPush_sound h4) h4

theorem Forming.tryReserve_sound {f : Forming} {s1 : Bool} {slot matched room n : Nat} {m : Model} {u : State}
    {x : Shape} (h : Sound s) (hu : Sound u) : Sound (f.tryReserve s1 slot matched room m s u n x).s := by
  induction n generalizing x with
  | zero => exact h
  | succ n ih =>
    unfold Forming.tryReserve
    extract_lets _ smaller
    split
    next e1 => exact Forming.take_sound (State.reserveStep_sound hu e1)
    · exact h
    · exact State.setFlag_only.sound h
    · exact setFlag_only.sound (addRegFld_only.sound h)
    · clear_value smaller
      split
      · exact ih
      · exact State.pressure_sound (setWait_only.sound h)

theorem Forming.tryAdmit_sound {f : Forming} (h : Sound f.s) {s1 : Bool} {slot : Nat} :
    Sound (f.tryAdmit s1 slot).s := by
  unfold Forming.tryAdmit
  extract_lets g u e
  have hu : Sound u := h
  split
  · exact hu
  split
  · exact setWait_only.sound hu
  split
  next sw e1 =>
    have hw : Sound sw := by
      split at e1
      · exact .of_pair e1 (State.walk_sound hu)
      · cases e1
        exact hu
    extract_lets s0 g'
    have h0 : Sound s0 := setReg_only.sound hu
    split
    · exact h0
    split
    · split
      · exact h0
      · exact State.setFlag_only.sound (setWait_only.sound h0)
    split
    · exact h0
    split
    · exact h0
    · exact Forming.tryReserve_sound h0 hw

theorem Forming.loop_sound {s1 : Bool} {limit n : Nat} {f : Forming} (h : Sound f.s) :
    Sound (Forming.loop s1 limit n f).s := by
  induction n generalizing f with
  | zero => exact h
  | succ n ih =>
    unfold Forming.loop
    split
    · exact h
    · split
      · exact h
      · exact ih (Forming.tryAdmit_sound h)

theorem State.countPreemption_sound (h : Sound s) : Sound s.countPreemption := by
  unfold State.countPreemption
  split
  · exact h
  · exact .ite (flagIf_only.sound h) (.ite h h)

theorem State.stepForm_sound {s1 : Bool} (h : Sound s) : Sound (s.stepForm s1) := by
  unfold State.stepForm
  refine .ite h ?_
  extract_lets _ _ _ _ _ s2
  have h2 : Sound s2 := Forming.loop_sound h
  refine .ite (putStream_only.sound h2) ?_
  exact .ite (putStream_only.sound h2) (countPreemption_sound (putStream_only.sound h2))

theorem State.releaseMember_sound {m : Member} {charged : Nat} (h : Sound s) : Sound (s.releaseMember m charged) := by
  unfold State.releaseMember
  exact .foldl (fun _ _ hu => freePage_sound hu) h

theorem State.dropPushed_sound {slot : Nat} (h : Sound s) : Sound (s.dropPushed slot) := by
  unfold State.dropPushed
  split
  · exact .ite (sendMig_only.sound h) h
  · exact h

theorem State.rollMember_sound {s1 : Bool} {m : Member} (h : Sound s) : Sound (s.rollMember s1 m) := by
  unfold State.rollMember
  exact setState_only.sound (dropPushed_sound (unlock_only.sound (rollback_sound (releaseMember_sound
    (updMember_only.sound h)))))

theorem State.removeMember_sound {s1 : Bool} {slot : Nat} {why : RemoveCause} (h : Sound s) :
    Sound (s.removeMember s1 slot why) := by
  unfold State.removeMember
  split
  · exact h
  · refine .ite h ?_
    extract_lets s1
    have h1 : Sound s1 := setFlag_only.sound (rollMember_sound h)
    split
    · exact h1
    · exact fenceReport_only.sound (endPush_sound h1)
    · exact fenceReport_only.sound (endPush_sound h1)
    · exact fenceReport_only.sound (endPush_sound h1)

/-! #### KV append and attention (R81, R167, R177) -/

theorem State.loseMember_sound {s1 : Bool} {slot : Nat} {why : RemoveCause} (h : Sound s) :
    Sound (s.loseMember s1 slot why) :=
  drainSession_sound (removeMember_sound h)

theorem State.copyOnWrite_sound {s1 : Bool} {slot lg u : Nat} {md : Model} (h : Sound s) :
    Sound (s.copyOnWrite s1 slot lg u md).2 := by
  unfold State.copyOnWrite
  split
  · exact h
  split
  · exact h
  next w _ =>
    have hc : Sound (s.copyPage u w.copy) := copyPage_sound h
    exact updMember_only.sound (show Sound ((s.copyPage u w.copy).remapPage slot lg u w.copy md) from hc)

theorem State.appendPosition_sound {s1 : Bool} {slot lg pos : Nat} {md : Model} {kv : List (List Nat × List Nat)}
    (h : Sound s) :
    Sound (s.appendPosition s1 slot lg pos md kv) := by
  unfold State.appendPosition
  split
  · exact h
  · split
    next s2 e1 =>
      have h2 : Sound s2 := .of_pair e1 (copyOnWrite_sound h)
      extract_lets _ put
      have hp (u : State) (p : (List Nat × List Nat) × Nat) (hu : Sound u) : Sound (put u p) :=
        flagIf_only.sound (.foldl (fun _ _ hu => writePage_sound hu) hu)
      exact Sound.foldl hp h2

theorem State.pushLayer_sound {slot lg first last : Nat} {md : Model} (h : Sound s) :
    Sound (s.pushLayer slot lg first last md) := by
  unfold State.pushLayer
  split
  · exact h
  · refine .ite h ?_
    extract_lets _ _ _ send s1
    have hp (u : State) (k : Nat) (hu : Sound u) : Sound (send u k) := by
      unfold send
      split
      · exact hu
      · exact send_only.sound hu
    have h1 : Sound s1 := .foldl hp h
    exact h1

theorem State.appendGroup_sound {s1 : Bool} {slot lg start : Nat} {md : Model}
    {kv : List (List (List Nat × List Nat))} (h : Sound s) :
    Sound (s.appendGroup s1 slot lg start md kv) := by
  unfold State.appendGroup
  extract_lets _ s1 s2
  have h1 : Sound s1 := .foldl (fun _ _ hu => appendPosition_sound hu) h
  have h2 : Sound s2 := updMember_only.sound h1
  exact .ite (pushLayer_sound h2) h2

theorem State.kvAppend_sound {s1 : Bool} {slot layer : Nat} {kv : List (List (List Nat × List Nat))} (h : Sound s) :
    Sound (s.kvAppend s1 slot layer kv) := by
  unfold State.kvAppend
  split
  · exact .foldl (fun _ _ hu => appendGroup_sound hu) (flagIf_only.sound h)
  · exact h

theorem State.dispatchSpan_sound {decode : Bool} {home lg k start n : Nat} {us : List Nat} {md : Model} {w : AttnWork}
    (h : Sound s) : Sound (s.dispatchSpan decode home lg k start n us md w).2 := by
  unfold State.dispatchSpan
  split
  · exact addRegFld_only.sound h
  extract_lets pages unit s1 ids s2
  have h1 : Sound s1 := .foldl (fun u _ hu => checkHot_sound (show Sound (u.markRead _) from hu)) h
  have h2 : Sound s2 := h1
  exact markReg_only.sound (addRegFld_only.sound h2)

theorem State.spanDispatch_sound {s1 : Bool} {slot lg : Nat} {queries : List (List (List Nat))}
    {kv : List (List (List Nat × List Nat))} (h : Sound s) : Sound (s.spanDispatch s1 slot lg queries kv) := by
  unfold State.spanDispatch
  split
  · extract_lets _ _ _ _ _ _ _ _ _ _ _ _ u1 _ u2 r
    have h1 : Sound u1 := flagIf_only.sound h
    have hr : Sound r.2 :=
      List.foldlRecOn (motive := fun p : AttnWork × State => Sound p.2) _ _ h1 fun _ hp _ _ => dispatchSpan_sound hp
    refine .ite h ?_
    split
    · exact updMember_only.sound (sendParts_only.sound (h1.congr (u := u2)))
    · exact .ite h (updMember_only.sound hr)
  · exact h

theorem State.spanDone_sound {s1 : Bool} {slot lg k : Nat} {bad : Option Nat} {unreachable : Bool} (h : Sound s) :
    Sound (s.spanDone s1 slot lg k bad unreachable) := by
  unfold State.spanDone
  split
  · split
    · exact h
    · split
      · exact h
      · refine .ite h ?_
        extract_lets _ _ s1
        have h1 : Sound s1 := by
          unfold s1
          split
          · exact .ite (poisonPage_sound h) h
          · exact h
        refine .ite (loseMember_sound (setFlag_only.sound h1)) ?_
        exact .ite (loseMember_sound (setFlag_only.sound h1)) (updMember_only.sound (addRegFld_only.sound h1))
  · exact h

theorem State.growShard_sound {sd tenant n : Nat} {md : Model} (h : Sound s) :
    SoundIn Prod.snd (s.growShard sd tenant md n) := by
  induction n generalizing s with
  | zero => exact .some h
  | succ n ih =>
    unfold State.growShard
    refine .ite .none ?_
    split
    · exact .none
    next e1 => exact .map (ih (allocPage_sound h _ e1)) fun _ hu => hu

theorem State.serveAttention_sound {src handle layer group positions request first : Nat} {c : KvShard} {md : Model}
    {bs : List Byte} (h : Sound s) :
    Sound (s.serveAttention src handle layer group positions request first c md bs) := by
  unfold State.serveAttention
  extract_lets _ _ _ _ _ _ _ _ _ answer
  have ha (u : State) (st n : Nat) (rows : List Partial) (hu : Sound u) : Sound (answer u st n rows) :=
    sendParts_only.sound (charge_only.sound hu)
  split
  · exact ha _ _ _ _ h
  next e1 =>
    extract_lets _ s1 put s2
    have h1 : Sound s1 := growShard_sound h _ e1
    have hp (u : State) (p : List (List Nat × List Nat) × Nat) (hu : Sound u) : Sound (put u p) :=
      .foldl (fun _ _ hu => flagIf_only.sound (.foldl (fun _ _ hu => writePage_sound hu) hu)) hu
    have h2 : Sound s2 := .foldl hp h1
    exact .ite (ha _ _ _ _ h2) (ha _ _ _ _ h2)

theorem State.takeReply_sound {s1 : Bool} {m : Member} {w : RemoteWait} {bs : List Byte} (h : Sound s) :
    Sound (s.takeReply s1 m w bs) := by
  unfold State.takeReply
  extract_lets
  refine .ite (loseMember_sound (setFlag_only.sound h)) ?_
  refine .ite (loseMember_sound (setFlag_only.sound h)) ?_
  split
  · exact h
  · exact updMember_only.sound h

/-! #### Events of migrations and epochs -/

theorem State.takePrepare_sound {src : Nat} {p : PrepareMsg} (h : Sound s) : Sound (s.takePrepare src p) := by
  unfold State.takePrepare
  split
  next e1 =>
    exact sendMig_only.sound (.of_pair e1 (prepare_sound h))

theorem State.endMigration_sound {slot status : Nat} (h : Sound s) : Sound (s.endMigration slot status) :=
  drainSession_sound (abortMigration_sound h)

theorem State.copyEnds_sound {slot die chan sent : Nat} {poison : Bool} (h : Sound s) :
    Sound (s.copyEnds slot die chan sent poison) := by
  unfold State.copyEnds
  refine .ite (migCopyDone_sound h) ?_
  split
  · exact h
  · exact .ite (endMigration_sound (sendAbort_sound h)) h

theorem State.migAborted_sound {slot : Nat} (h : Sound s) : Sound (s.migAborted slot) := .ite (endMigration_sound h) h

theorem State.afterCut_sound (h : Sound s) : Sound s.afterCut := by
  unfold State.afterCut
  exact .foldl (fun _ _ hu => decideHandover_sound hu) (.foldl (fun _ _ hu => sendHandover_sound hu) h)

theorem State.pushArrives_sound {handle lg index : Nat} {bs : List Byte} (h : Sound s) :
    Sound (s.pushArrives handle lg index bs) :=
  decideHandover_sound (retryNotes_sound (kvPush_sound h))

theorem State.cutAtPt_sound (h : Sound s) : Sound s.cutAtPt := by
  unfold State.cutAtPt
  split
  · exact h
  · refine .ite h ?_
    exact afterCut_sound (cutLedger_only.sound (.foldl (fun _ _ hu => cutRecord_sound hu) (checkpointCut_sound h)))

/-! #### Hoist channels (R277 to R283) -/

theorem State.schedule_sound {die : Nat} (h : Sound s) : Sound (s.schedule die) := by
  unfold State.schedule
  split
  · exact h
  · exact .foldl (fun _ _ hu => .ite hu (.ite hu (.ite hu hu))) h

theorem State.pinAll_sound {pages : List Nat} {ws : List (Nat × Nat)} (h : Sound s) : Sound (s.pinAll pages ws) := by
  unfold State.pinAll
  exact .foldl (fun _ _ hu => hu) (.foldl (fun _ _ hu => hu) h)

theorem State.unpinPage_sound {u : Nat} (h : Sound s) : Sound (s.unpinPage u) := by
  unfold State.unpinPage
  split
  · exact h
  · exact .ite (freePage_sound h) h

theorem State.hoistEnd_sound {die chan status addr : Nat} (h : Sound s) :
    Sound (s.hoistEnd die chan status addr) := by
  unfold State.hoistEnd
  extract_lets _ s1 s2 s3 _ s4
  split
  · exact h
  · have h2 : Sound s2 := .foldl (fun _ _ hu => unpinPage_sound hu) (h.congr (u := s1))
    have h3 : Sound s3 := .foldl (fun _ _ hu => hu.congr) h2
    have h4 : Sound s4 := h3.congr
    refine schedule_sound (.ite ?_ (flagIf_only.sound h4))
    exact setFlag_only.sound (.foldl (fun _ _ hu => poisonPage_sound hu) h4)

theorem State.hoistIssue_sound {die chan : Nat} {d : Descriptor} (h : Sound s) : Sound (s.hoistIssue die chan d) := by
  unfold State.hoistIssue
  extract_lets _ _ _ s1 _ f1 f2 pages ws
  have h1 : Sound s1 := h.congr
  have h2 : Sound (s1.pinAll pages ws) := pinAll_sound h1
  clear_value f1 f2
  refine .ite h (.ite (hoistEnd_sound h1) ?_)
  split
  exacts [schedule_sound h2.congr, hoistEnd_sound h1, hoistEnd_sound h1, hoistEnd_sound h1]

theorem State.writeUsa_sound {a : Nat} {bs : List Byte} {slot : Nat} (h : Sound s) :
    Sound (s.writeUsa a bs slot) := by
  refine .foldl (fun u _ hu => ?_) h
  extract_lets
  split
  · exact writePage_sound (beforeWrite_sound hu)
  · exact hu

theorem State.sendSegment_sound {die chan : Nat} {d : Descriptor} {seg addr : Nat} {bs : List Byte} (h : Sound s) :
    Sound (s.sendSegment die chan d seg addr bs) := by
  unfold State.sendSegment
  extract_lets _ s1 s2
  have h1 : Sound s1 := send_only.sound h
  have h2 : Sound s2 := by
    unfold s2
    refine .ite h1 ?_
    split
    · exact charge_only.sound h1
    · exact h1
  split
  · exact h2
  · exact h2

theorem State.putDest_sound {die chan : Nat} {d : Descriptor} {seg addr : Nat} {bs : List Byte} (h : Sound s) :
    Sound (s.putDest die chan d seg addr bs) :=
  .ite (writeUsa_sound h) (.ite h (.ite (sendSegment_sound h) (.ite h (sendSegment_sound h))))

theorem State.hoistCheck_sound {die chan : Nat} (h : Sound s) : Sound (s.hoistCheck die chan) := by
  unfold State.hoistCheck
  extract_lets
  split
  · exact h
  · exact .ite (hoistEnd_sound h) h

theorem State.countCodec_sound {die : Nat} {raw coded : List Byte} (h : Sound s) :
    Sound (s.countCodec die raw coded) :=
  .ite h (.foldl (fun _ _ hu => hu) (addRegFld_only.sound h))

theorem State.hoistCode_sound {die chan : Nat} {d : Descriptor} {input : List Byte} (h : Sound s) :
    Sound (s.hoistCode die chan d input) := by
  unfold State.hoistCode
  refine .ite (putDest_sound (countCodec_sound h)) ?_
  split
  · exact putDest_sound h
  · exact hoistEnd_sound (flagIf_only.sound h)

theorem State.segmentDone_sound {die chan : Nat} {given : List Byte} {ok : Bool} (h : Sound s) :
    Sound (s.segmentDone die chan given ok) := by
  unfold State.segmentDone
  extract_lets c
  split
  · exact h
  · split
    · exact h
    · extract_lets _ _ bad _ _ _ s1 s2 s3 s4
      have h1 : Sound s1 := addRegFld_only.sound h.congr
      have h2 : Sound s2 := .ite h1 h1.congr
      have h3 : Sound s3 := .ite (putDest_sound h2) (.ite (hoistCode_sound h2) h2)
      have h4 : Sound s4 := hoistCheck_sound h3
      refine .ite h ?_
      clear_value bad
      split
      · exact hoistEnd_sound h
      · exact .ite h4 (schedule_sound h4)

theorem State.hoistProgram_sound {die chan : Nat} {segs : List (Nat × Nat)} {fault : Bool} (h : Sound s) :
    Sound (s.hoistProgram die chan segs fault) := by
  unfold State.hoistProgram
  extract_lets
  split
  · exact h
  · exact .ite h (.ite (hoistEnd_sound h) (schedule_sound h))

theorem State.channelReset_sound {die chan : Nat} (h : Sound s) : Sound (s.channelReset die chan) := by
  unfold State.channelReset
  extract_lets s1
  have h1 : Sound s1 := .ite (hoistEnd_sound h) h
  exact .foldl (fun _ _ hu => drainSession_sound (abortMigration_sound (sendAbort_sound (breakLock_sound hu)))) h1

theorem State.segAck_sound {die chan tag seg status : Nat} (h : Sound s) :
    Sound (s.segAck die chan tag seg status) := by
  unfold State.segAck
  extract_lets
  split
  · exact .ite h (.ite (hoistEnd_sound h) (hoistCheck_sound h))
  · exact h

theorem State.segData_sound {hd : Head} {tag seg chan addr : Nat} {drain : Bool} {bs : List Byte} (h : Sound s) :
    Sound (s.segData hd tag seg chan addr drain bs) := by
  unfold State.segData
  extract_lets bad s1 page owner s2 _ s3
  have h1 : Sound s1 := .ite h (.ite (emit_only.sound h) (writeUsa_sound h))
  have h2 : Sound s2 := by
    unfold s2
    clear_value owner
    split
    next k i =>
      refine .ite h1 (decideHandover_sound ?_)
      exact h1
    · exact h1
  have h3 : Sound s3 := .ite h2 h2
  exact send_only.sound h3

/-! #### Gallery ports (R317 to R329) -/

theorem State.protect_sound {x : Packet} (h : Sound s) : Sound (s.protect x).2 := by
  unfold State.protect
  split
  · exact h
  next slot j _ =>
    extract_lets _ _ _ _ _ s1 ev s2 _ _ s3
    have he (u : State) (code : Nat) (hu : Sound u) : Sound (ev u code) := hu.congr
    have h1 : Sound s1 := h.congr
    have h2 : Sound s2 := .ite (he _ _ (setFlag_only.sound h1)) h1
    have h3 : Sound s3 := .ite (he _ _ (setFlag_only.sound h2.congr)) h2
    split
    · exact h
    · exact h3

theorem State.unsent_sound {x : Packet} (h : Sound s) : Sound (s.unsent x) := .ite (.ite (hoistEnd_sound h) h) h

theorem State.egress_sound {p : Nat} (h : Sound s) : Sound (s.egress p) := by
  unfold State.egress
  split
  · exact h
  next fq x _ =>
    extract_lets g
    refine .ite h ?_
    extract_lets
    split
    · split
      next u e1 =>
        have hu : Sound u := .of_pair e1 (protect_sound h)
        exact emit_only.sound (putPort_only.sound hu)
      next u e1 =>
        have hu : Sound u := .of_pair e1 (protect_sound h)
        exact unsent_sound (putPort_only.sound hu)
    · exact emit_only.sound (putPort_only.sound h)

/-! #### The seal of a step (R87 to R92) -/

theorem State.putStepRecord_sound {s1 : Bool} {index : Nat} {r : StepRecord} (h : Sound s) :
    Sound (s.putStepRecord s1 index r) := by
  unfold State.putStepRecord
  extract_lets _ _ _ _ s2
  have h2 : Sound s2 := putStream_only.sound h
  clear_value s2
  refine .ite h ?_
  split
  · exact h2.setMem (memWrite_wf h2.mem_wf _ _)
  · exact h2

theorem State.newStepRecord_sound {s1 : Bool} {r : StepRecord} (h : Sound s) : Sound (s.newStepRecord s1 r) := by
  unfold State.newStepRecord
  exact .ite h (putStream_only.sound (putStepRecord_sound h))

theorem State.parkOver_sound {slot : Nat} (h : Sound s) : Sound (s.parkOver slot) := by
  unfold State.parkOver
  exact .ite h h

theorem State.settleMember_sound {m : Member} {n : Nat} (h : Sound s) : Sound (s.settleMember m n) := by
  have hr : Sound (s.releaseMember m n) := releaseMember_sound h
  exact putTenant_only.sound hr

theorem State.returnReserved_sound {slot : Nat} (h : Sound s) : Sound (s.returnReserved slot) := by
  unfold State.returnReserved
  exact wakeOutboxes_only.sound h

theorem State.sealCancelled_sound {s1 : Bool} {m : Member} (h : Sound s) : Sound (s.sealCancelled s1 m) := by
  unfold State.sealCancelled
  exact setState_only.sound (dropPushed_sound (unlock_only.sound (rollback_sound (settleMember_sound
    (updMember_only.sound h)))))

theorem State.dropOriginals_sound {m : Member} (h : Sound s) : Sound (s.dropOriginals m) :=
  .foldl (fun _ _ hu => dropRef_sound hu) h

theorem State.sealCore_sound {s1 : Bool} {step : Nat} {m : Member} {md : Model} (h : Sound s) :
    Sound (s.sealCore s1 step m md) := by
  unfold State.sealCore
  exact chainTokens_sound h

theorem State.sealText_sound {slot step : Nat} {md : Model} {o : MemberOut} (h : Sound s) :
    Sound (s.sealText slot step md o) := by
  unfold State.sealText
  refine .ite h ?_
  extract_lets
  split
  · exact sessionRecord_sound h

theorem State.sealDone_sound {slot step reason : Nat} (h : Sound s) : Sound (s.sealDone slot step reason) := by
  unfold State.sealDone
  exact parkOver_sound (setWait_only.sound (sessionRecord_sound h))

theorem State.sealToolCall_sound {slot step list index : Nat} {call : List Byte} (h : Sound s) :
    Sound (s.sealToolCall slot step list index call) := by
  unfold State.sealToolCall
  extract_lets _ _ _ _ s1 s2 s3
  have h3 : Sound s3 := setWait_only.sound (sessionRecord_sound (putEntry_only.sound h))
  exact parkOver_sound (.ite h3 (arm_only.sound h3))

theorem State.sealTransition_sound {slot step : Nat} {o : Option MemberOut} (h : Sound s) :
    Sound (s.sealTransition slot step o) := by
  unfold State.sealTransition
  split
  exacts [sealDone_sound h, sealDone_sound h, sealDone_sound h, .ite (sealDone_sound h) (sealToolCall_sound h), h]

theorem State.sealOutbox_sound {slot : Nat} (h : Sound s) : Sound (s.sealOutbox slot) := .ite (parkOver_sound h) h

theorem State.sealPush_sound {s1 : Bool} {slot : Nat} (h : Sound s) : Sound (s.sealPush s1 slot) := by
  unfold State.sealPush
  split
  · exact h
  · refine .ite h ?_
    extract_lets u x v
    have hu : Sound u := sendMig_only.sound h
    refine .ite hu ?_
    exact putSess_only.sound (show Sound v from hu)

theorem State.sealCommitted_sound {s1 : Bool} {step : Nat} {m : Member} {md : Model} (h : Sound s) :
    Sound (s.sealCommitted s1 step m md) := by
  unfold State.sealCommitted
  extract_lets u1 u2 u3 u4 u5 u6 u7 u8 u9 c
  have h2 : Sound u2 := sealCore_sound (updMember_only.sound h)
  have h3 : Sound u3 := settleMember_sound (dropOriginals_sound h2)
  have h4 : Sound u4 := recount_only.sound (settleText_only.sound (settleMap_only.sound h3))
  have h5 : Sound u5 := touchMeta_sound h4
  have h6 : Sound u6 := by
    unfold u6
    split
    · exact sealText_sound h5
    · exact h5
  have h7 : Sound u7 := sealTransition_sound h6
  have h8 : Sound u8 := unlock_only.sound (returnReserved_sound h7)
  have h9 : Sound u9 := sealPush_sound (sealOutbox_sound h8)
  clear_value u9
  split
  · exact h9
  · exact h9

theorem State.sealMember_sound {s1 : Bool} {step : Nat} {m : Member} (h : Sound s) :
    Sound (s.sealMember s1 step m) := by
  unfold State.sealMember
  split
  · exact h
  · extract_lets s1 _ _ s3
    have h1 : Sound s1 := .ite (sealCancelled_sound h) (sealCommitted_sound h)
    have h3 : Sound s3 := by
      unfold s3
      split
      · exact fenceReport_only.sound (endPush_sound h1)
      · exact h1
    exact drainSession_sound h3

theorem State.sealApply_sound {s1 : Bool} {sd : Nat} (h : Sound s) : Sound (s.sealApply s1 sd) := by
  unfold State.sealApply
  split
  · exact h
  · refine .ite h ?_
    extract_lets _ s1
    have h1 : Sound s1 := .foldl (fun _ _ hu => sealMember_sound hu) h
    exact .ite h1 (cutRecord_sound h1)

theorem State.stepOutcome_sound {s1 : Bool} (h : Sound s) : Sound (s.stepOutcome s1) := by
  unfold State.stepOutcome
  split
  · exact h
  · split
    · exact h
    · refine .ite h ?_
      extract_lets u1 u2 u3 u4 u5 u6
      have h2 : Sound u2 := splitEnergy_only.sound (.foldl (fun _ _ hu => chargeMember_only.sound hu) h)
      have h3 : Sound u3 := .ite h2 (postCharges_only.sound h2)
      have h5 : Sound u5 := putStepRecord_sound (markPosted_only.sound h3)
      have h6 : Sound u6 := .ite h5 (cutLedger_only.sound h5)
      exact endRun_only.sound h6

theorem State.abandon_sound {s1 : Bool} (h : Sound s) : Sound (s.abandon s1) := by
  unfold State.abandon
  split
  · exact h
  next r _ =>
    refine .ite h ?_
    extract_lets ms u1
    have h1 : Sound u1 := .foldl (fun _ _ hu => rollMember_sound hu) h
    split
    next e u e1 =>
      have hu : Sound u := .of_pair e1 (takeEnergy_only.sound h1)
      extract_lets u2 u3 u4
      have h4 : Sound u4 :=
        setFlag_only.sound (endRun_only.sound (newStepRecord_sound (countFor_only.sound hu)))
      exact .foldl (fun _ _ hv => drainSession_sound hv) h4

theorem State.memberRemove_sound {s1 : Bool} {slot : Nat} {why : RemoveCause} (h : Sound s) :
    Sound (s.memberRemove s1 slot why) := by
  unfold State.memberRemove
  split
  · exact h
  · split
    · split
      exacts [updMember_only.sound h, updMember_only.sound h, h]
    · exact loseMember_sound h

end

end Sys2Proof.Machine

namespace Sys2Proof.Machine
-- In order, as in the tests: many proofs at once would each wait for the others in a thread of its own.
set_option Elab.async false

/-! ### Soundness: the package -/

section
open State
variable {s : State}

/-! #### The drain journal (R379 to R394) -/

theorem State.entryFails_sound {w : JournalWrite} (h : Sound s) : Sound (s.entryFails w) := by
  unfold State.entryFails
  exact .foldl (fun _ _ hu => hu) h

theorem State.drainNext_sound (h : Sound s) : Sound s.drainNext := by
  unfold State.drainNext
  split
  · exact h
  · split
    · exact h
    · exact .ite h h

theorem State.settleSteps_sound (h : Sound s) : Sound s.settleSteps := by
  unfold State.settleSteps
  refine .foldl (fun _ _ hu => ?_) h
  exact .ite (stepOutcome_sound (.foldl (fun _ _ hv => sealApply_sound hv) hu)) (abandon_sound hu)

theorem State.startDrain_sound {thermal : Bool} (h : Sound s) : Sound (s.startDrain thermal) :=
  .ite h (drainNext_sound (.foldl (fun _ _ hu => entryFails_sound hu) (epochFail_sound (settleSteps_sound h))))

theorem State.drainStart_sound (h : Sound s) : Sound s.drainStart :=
  .ite h (startDrain_sound (.foldl (fun _ _ hu => .ite hu hu) h))

theorem State.stopped_sound : Sound s.stopped := ⟨rfl, nofun, nofun, nofun⟩

theorem State.drainEnd_sound {watts : Nat} (h : Sound s) : Sound (s.drainEnd watts) := by
  unfold State.drainEnd
  split
  · exact h
  · exact .ite h (stopped_sound (s := s)).congr

theorem State.payloadDone_sound {seq mbps : Nat} {ok : Bool} (h : Sound s) : Sound (s.payloadDone seq mbps ok) := by
  unfold State.payloadDone
  split
  · exact h
  · exact .ite h (.ite (checkStore_only.sound (drainNext_sound (setFlag_only.sound (entryFails_sound h)))) h)

theorem State.journalCommit_sound {seq : Nat} {ok : Bool} (h : Sound s) : Sound (s.journalCommit seq ok) := by
  unfold State.journalCommit
  split
  · exact h
  · refine .ite h ?_
    split
    · exact checkStore_only.sound (drainNext_sound (setFlag_only.sound (entryFails_sound h)))
    · exact .ite (drainNext_sound h) (checkStore_only.sound (.ite h (charge_only.sound h)))

/-! #### Expanders and drives (R416 to R422) -/

theorem State.loseSession_sound {slot : Nat} {why : RemoveCause} {status : Nat} (h : Sound s) :
    Sound (s.loseSession slot why status) := by
  unfold State.loseSession
  extract_lets _ s1 _ s2
  have h1 : Sound s1 := abortMigration_sound (sendAbort_sound h)
  have h2 : Sound s2 := by
    unfold s2
    split
    · exact putSess_only.sound (complete_only.sound h1)
    · exact h1
  refine .ite h (.ite (memberRemove_sound h) (.ite (memberRemove_sound h) ?_))
  exact drainSession_sound (fenceReport_only.sound (endPush_sound h2))

theorem State.losePool_sound {tier pool : Nat} (h : Sound s) : Sound (s.losePool tier pool) := by
  unfold State.losePool
  extract_lets _ s1 _ _ s2
  have h1 : Sound s1 := .foldl (fun _ _ hu => setFlag_only.sound (dropCage_sound hu)) h
  have h2 : Sound s2 := .foldl (fun _ _ hu => hu) h1
  exact .foldl (fun _ _ hu => loseSession_sound hu) h2

theorem State.removeExpander_sound {i : Nat} {surprise : Bool} (h : Sound s) :
    Sound (s.removeExpander i surprise) := by
  unfold State.removeExpander
  extract_lets _ s1
  have h1 : Sound s1 := losePool_sound h.congr
  clear_value s1
  exact .ite h (setFlag_only.sound h1).congr

theorem State.evacuatePass_sound {i : Nat} (h : Sound s) : Sound (s.evacuatePass i) := by
  unfold State.evacuatePass
  refine .foldl (fun _ _ hu => .ite hu (.ite (requestCage_sound hu) ?_)) h
  exact .ite (requestCage_sound (requestCage_sound hu)) (requestCage_sound hu)

theorem State.evacuate_sound {i : Nat} (h : Sound s) : Sound (s.evacuate i) := .ite (evacuatePass_sound h) h

theorem State.evacuatePassDone_sound {i : Nat} (h : Sound s) : Sound (s.evacuatePassDone i) := by
  unfold State.evacuatePassDone
  exact .ite h (.ite h (.ite (evacuatePass_sound h) (setFlag_only.sound (evacuatePass_sound h))))

theorem State.judgeDrives_sound (h : Sound s) : Sound s.judgeDrives := by
  unfold State.judgeDrives
  exact checkStore_only.sound h

theorem State.driveDown_sound {d : Nat} (h : Sound s) : Sound (s.driveDown d) := by
  unfold State.driveDown
  exact judgeDrives_sound h

/-! #### The host ports (R395 to R414) -/

theorem State.fnEnabled_sound {fn : Nat} (h : Sound s) : Sound (s.fnEnabled fn) := by
  unfold State.fnEnabled
  exact .ite h h

theorem State.dqCtl_sound {fn q v : Nat} (h : Sound s) : Sound (s.dqCtl fn q v) := by
  unfold State.dqCtl
  exact .ite (.ite h h) (.ite (fnEnabled_sound h) h)

theorem State.rqCtl_sound {fn q v : Nat} (h : Sound s) : Sound (s.rqCtl fn q v) := by
  unfold State.rqCtl
  exact .ite (.ite h h) (.ite (fnEnabled_sound h) h)

theorem State.textCtl_sound {fn v : Nat} (h : Sound s) : Sound (s.textCtl fn v) := by
  unfold State.textCtl
  exact .ite (.ite h h) h

theorem State.ringCtl_sound {fn : Nat} {ring : Ring} {v : Nat} (h : Sound s) : Sound (s.ringCtl fn ring v) := by
  unfold State.ringCtl
  split
  exacts [dqCtl_sound h, rqCtl_sound h, textCtl_sound h]

theorem State.abortSessions_sound {p : Frame → Bool} (h : Sound s) : Sound (s.abortSessions p) := by
  refine .foldl (fun u _ hu => ?_) h
  extract_lets
  split
  · exact .ite (drainSession_sound (breakLock_sound (endPush_sound hu))) hu
  · exact hu

theorem State.abortFrames_sound {fn : Nat} {p : Frame → Bool} (h : Sound s) : Sound (s.abortFrames fn p) := by
  unfold State.abortFrames
  exact flagIf_only.sound (.foldl (fun _ _ hu => complete_only.sound hu) (abortSessions_sound h))

theorem State.quitStep_sound {slot : Nat} (h : Sound s) : Sound (s.quitStep slot) := by
  refine .foldl (fun u _ hu => ?_) h
  split
  · exact .ite (sealMember_sound hu) (drainSession_sound (rollMember_sound hu))
  · exact hu

theorem State.detachSessions_sound {fn : Nat} (h : Sound s) : Sound (s.detachSessions fn) := by
  unfold State.detachSessions
  exact .foldl (fun _ _ hu => .ite hu (.ite hu hu)) (.foldl (fun _ _ hu => quitStep_sound hu) h)

theorem State.endReset_sound {fn : Nat} (h : Sound s) : Sound (s.endReset fn) := by
  unfold State.endReset
  exact detachSessions_sound (abortFrames_sound h)

theorem State.quitMembers_sound {p : Member → Bool} (h : Sound s) : Sound (s.quitMembers p) :=
  .foldl (fun _ _ hu => .foldl (fun _ _ hu => .ite (drainSession_sound (rollMember_sound hu)) hu) hu) h

theorem State.drainEnds_sound {u : DrainUnit} (h : Sound s) : Sound (s.drainEnds u) := by
  unfold State.drainEnds
  split
  · exact .ite h (.ite (endReset_sound h) (abortFrames_sound h))
  · split
    · exact h
    · exact .ite h (abortFrames_sound h)
  · exact quitMembers_sound h
  · exact quitMembers_sound h
  · split
    · exact h
    · split
      · exact h
      · exact .ite h (.foldl (fun _ _ hu => hu) (flagIf_only.sound h))
  · exact drainInserts_only.sound (.foldl (fun _ _ hu => complete_only.sound hu) h)

theorem State.tdiError_sound {fn : Nat} (h : Sound s) : Sound (s.tdiError fn) := by
  unfold State.tdiError
  exact startReset_only.sound (setFlag_only.sound h)

theorem State.ringWrite_sound {fn : Nat} {ring : Ring} {v : Nat} (h : Sound s) : Sound (s.ringWrite fn ring v) :=
  .ite (tdiError_sound h) (ringCtl_sound h)

/-! #### Dies that leave service (R457, R484 to R487) -/

theorem State.fatal_sound {die code detail : Nat} : Sound (s.fatal die code detail) := (stopped_sound (s := s)).congr

theorem State.mgmtFail_sound (h : Sound s) : Sound s.mgmtFail := by
  unfold State.mgmtFail
  exact .ite (fatal_sound) (abandon_sound (abandon_sound h))

theorem State.moveShards_sound {k : Nat} (h : Sound s) : Sound (s.moveShards k) := by
  unfold State.moveShards
  exact .foldl (fun _ _ hu => hu) h

theorem State.abandonWhere_sound {p : State → Bool → Bool} (h : Sound s) : Sound (s.abandonWhere p) :=
  .foldl (fun _ _ hu => .ite (abandon_sound hu) hu) h

theorem State.fenceCd_sound {d : Nat} (h : Sound s) : Sound (s.fenceCd d) := by
  unfold State.fenceCd
  extract_lets s1
  have h1 : Sound s1 := abandonWhere_sound h
  obtain ⟨hm, hc, hk, hq⟩ := h1
  exact ⟨hm, fun c hx => hc c (List.mem_of_mem_filter hx), fun m hx => hk m (List.mem_of_mem_filter hx), hq⟩

theorem State.dropStack_sound {k : Nat} (h : Sound s) : Sound (s.dropStack k) := by
  unfold State.dropStack
  exact .foldl (fun _ _ hu => .ite hu (freePage_sound hu)) h

theorem State.fenceSd_sound {k : Nat} (h : Sound s) : Sound (s.fenceSd k) := by
  unfold State.fenceSd
  extract_lets s1 _ _ s2 s3 s4 s5 _ s7
  have h1 : Sound s1 := .ite (epochFail_sound h) h
  have h2 : Sound s2 := .foldl (fun _ _ hu => loseSession_sound hu) h1
  have h3 : Sound s3 := .foldl (fun _ _ hu => freeIncoming_sound hu) h2
  have h4 : Sound s4 := .foldl (fun _ _ hu => channelReset_sound hu) h3
  have h5 : Sound s5 := dropStack_sound h4
  have h7 : Sound s7 := putSd_only.sound h5
  clear_value s7
  exact moveShards_sound h7.congr

theorem State.hostLost_sound {port : Nat} (h : Sound s) : Sound (s.hostLost port) := by
  unfold State.hostLost
  exact .foldl (fun _ _ hu => startReset_only.sound hu) (setFlag_only.sound h)

theorem State.fenceIod_sound {i : Nat} (h : Sound s) : Sound (s.fenceIod i) := by
  unfold State.fenceIod
  extract_lets _ s1 s2 _ s3 s4 s5 s6 s7 s8 s9
  have h1 : Sound s1 := abandonWhere_sound h
  have h2 : Sound s2 := .ite h1.congr h1
  have h4 : Sound s4 := losePool_sound (h2.congr (u := s3))
  have h5 : Sound s5 := .foldl (fun _ _ hu => channelReset_sound hu) h4
  have h6 : Sound s6 := .foldl (fun _ _ hu => portDown_only.sound hu) h5
  have h7 : Sound s7 := hostLost_sound h6
  have h8 : Sound s8 := .foldl (fun _ _ hu => removeExpander_sound hu) h7
  have h9 : Sound s9 := .ite (driveDown_sound h8) h8
  clear_value s9
  exact h9.congr

theorem State.fenceDie_sound {d : Nat} (h : Sound s) : Sound (s.fenceDie d) := by
  unfold State.fenceDie
  extract_lets s1
  have hout (u : State) (d : Nat) (hu : Sound u) : Sound (u.dieOut d) := hu.congr
  have hp : Sound ((s.portSafe (d - 30)).dieOut d) := hout _ _ (portSafe_only.sound h)
  have h1 : Sound s1 := .ite (hout _ _ (fenceCd_sound h)) (.ite (fenceSd_sound h) (.ite (fenceIod_sound h) hp))
  clear_value s1
  exact setFlag_only.sound h1.congr

theorem State.fenceCluster_sound {l : Nat} (h : Sound s) : Sound (s.fenceCluster l) := .ite h (abandonWhere_sound h)

theorem State.fenceUnit_sound {die kind index : Nat} (h : Sound s) : Sound (s.fenceUnit die kind index) := by
  unfold State.fenceUnit
  extract_lets
  split
  · split
    · exact .ite (fenceCluster_sound h) h
    · exact h
  · split
    · split
      · exact fenceCluster_sound h
      · exact h
    · exact .ite (.ite (fenceDie_sound h) h) (.ite (portDown_only.sound h) h)

theorem State.idleClusters_sound {ls : List Nat} (h : Sound s) :
    Sound (s.idleClusters ls) := .foldl (fun _ _ hu => hu) h

theorem State.stopKernel_sound {mi : Nat} {clusters : List Nat} {die : Nat} (h : Sound s) :
    Sound (s.stopKernel mi clusters die) :=
  logError_only.sound (setFlag_only.sound (idleClusters_sound h))

theorem State.detect_sound {cls die blk inst code detail : Nat} (h : Sound s) :
    Sound (s.detect cls die blk inst code detail) := by
  unfold State.detect
  refine .ite (poisonPage_sound h) ?_
  refine .ite (stopKernel_sound h) ?_
  refine .ite (logError_only.sound h) ?_
  split
  · extract_lets s1
    have h1 : Sound s1 := logError_only.sound h
    exact .ite h1 (.ite (fatal_sound) (fenceDie_sound h1))
  · exact fatal_sound

/-! #### Security -/

theorem State.secure_sound {id : Nat} {k : SpdmSession → State → State} (h : Sound s)
    (hact : ∀ x u, Sound u → Sound (k x u)) : Sound (s.secure id k) := by
  unfold State.secure
  split
  · exact hact _ _ h
  · exact h

/-! #### What a committed image makes of the state (R463 to R472) -/

theorem State.applyParam_sound {s0 : State} {i : HfItem} (h : Sound s) : SoundOk (s0.applyParam s i) := by
  unfold State.applyParam
  extract_lets
  exact .ite .error (.ite (.ok (.ite h h)) (.ite (.ok h) (.ok h)))

theorem State.applyBlob_sound {s0 : State} {i : HfItem} (h : Sound s) :
    SoundOk (s0.applyBlob s i) := .ite .error (.ok h)

theorem State.applyWeights_sound {i : HfItem} (h : Sound s) :
    SoundOk (s.applyWeights i) := .ite .error (.ite (.ok h) (.ok h))

theorem State.applyDefect_sound {i : HfItem} (h : Sound s) : SoundOk (s.applyDefect i) :=
  .ite .error (.ok (.ite h (fenceUnit_sound h)))

theorem State.applyItem_sound {s0 : State} {i : HfItem} (h : Sound s) : SoundOk (s0.applyItem s i) := by
  unfold State.applyItem
  refine .ite .error ?_
  split
  exacts [applyParam_sound h, applyBlob_sound h, applyWeights_sound h, applyDefect_sound h, .error]

theorem State.applyItems_sound {s0 : State} {l : List HfItem} (h : Sound s) : SoundOk (s0.applyItems s l) := by
  induction l generalizing s with
  | nil => exact .ok h
  | cons i l ih =>
    unfold State.applyItems
    split
    · exact .error
    next e1 => exact ih (applyItem_sound h _ e1)

theorem State.applyReg_sound {n key v : Nat} (h : Sound s) : Sound (s.applyReg n key v) := by
  unfold State.applyReg
  exact .ite h (.ite h (.ite h (.ite h (.ite (.foldl (fun _ _ hu => hu) h) (.ite h h)))))

theorem State.applyRegs_sound {x : CtTxn} (h : Sound s) : Sound (s.applyRegs x) := by
  unfold State.applyRegs
  exact .foldl (fun _ _ hu => applyReg_sound hu) h

theorem State.sizeAll_sound (h : Sound s) : Sound s.sizeAll := by
  unfold State.sizeAll
  extract_lets s1
  have h1 : Sound s1 := .foldl (fun u n hu => (show Sound (u.sizeSd n) from hu)) h
  exact h1

theorem State.tablePage_sound {usa tier pool cls tenant : Nat} (h : Sound s) :
    SoundIn id (s.tablePage usa tier pool cls tenant) := by
  unfold State.tablePage
  extract_lets
  refine .ite .none ?_
  split
  · exact .none
  next e1 =>
    exact .some (addUse_only.sound (takeFrame_sound h _ e1))

theorem State.tablePages_sound {usa tier pool cls tenant k : Nat} (h : Sound s) :
    SoundIn id (s.tablePages usa tier pool cls tenant k) := by
  induction k generalizing s usa with
  | zero => exact .some h
  | succ k ih =>
    unfold State.tablePages
    split
    · exact .none
    next e1 => exact ih (tablePage_sound h _ e1)

theorem State.placeBytes_sound {sd tier pool bytes tenant : Nat} (h : Sound s) :
    SoundIn Prod.snd (s.placeBytes sd tier pool bytes tenant) := by
  unfold State.placeBytes
  extract_lets
  split
  next e1 =>
    exact .map (tablePages_sound (.of_pair e1 (draw_sound h))) (fun _ hu => hu)

theorem State.placeBlocks_sound {t : RowTable} {tier pool : Nat} {l : List RowBlock} (h : Sound s) :
    SoundIn Prod.snd (s.placeBlocks t tier pool l) := by
  induction l generalizing s with
  | nil => exact .some h
  | cons b l ih =>
    unfold State.placeBlocks
    refine .ite (.map (ih h) fun _ hu => hu) ?_
    split
    · exact .none
    next e1 => exact .map (ih (placeBytes_sound h _ e1)) fun _ hu => hu

theorem State.declareTable_sound {t tenant v : Nat} (h : Sound s) : SoundIn id (s.declareTable t tenant v) := by
  unfold State.declareTable
  extract_lets
  refine .ite .none ?_
  split
  · exact .none
  next s1 e1 =>
    have h1 : Sound s1 := placeBlocks_sound h _ e1
    extract_lets home
    clear_value home
    split
    · exact .some (putTable_only.sound h1)
    · exact .map (placeBytes_sound h1) fun _ hu => putTable_only.sound (hu.setMem (memWrite_wf hu.mem_wf _ _))

theorem State.declareIndex_sound {t tenant v : Nat} (h : Sound s) : SoundIn id (s.declareIndex t tenant v) := by
  unfold State.declareIndex
  extract_lets
  split
  · exact .none
  · extract_lets
    refine .ite .none ?_
    split
    · exact .some h
    · exact .ite .none (.some (addUse_only.sound h))

theorem State.declareAll_sound {s0 : State} {x : CtTxn} (h : Sound s) : SoundOk (s0.declareAll s x) := by
  unfold State.declareAll
  extract_lets _ _ _ _ s1 _ s2 _ r
  have h1 : Sound s1 := .foldl (fun _ _ hu => .foldl (fun _ _ hv => freePage_sound hv) hu) h
  have h2 : Sound s2 := putTables_only.sound h1
  have hr : SoundOk r := by
    refine .foldl (fun e d he => ?_) (.ok h2)
    split
    · exact .error
    next u =>
      have hu : Sound u := he _ rfl
      split
      · exact .error
      next e2 => exact .ok (declareTable_sound hu _ e2)
  refine .foldl (fun e d he => ?_) hr
  split
  · exact .error
  next u =>
    have hu : Sound u := he _ rfl
    split
    · exact .error
    next e2 => exact .ok (declareIndex_sound hu _ e2)

theorem State.rebuildFabric_sound (h : Sound s) : Sound s.rebuildFabric := by
  unfold State.rebuildFabric
  exact .ite h (.foldl (fun _ _ hu => hu) h)

theorem State.settleTenants_sound {s0 : State} (h : Sound s) : Sound (s0.settleTenants s) := by
  unfold State.settleTenants
  extract_lets s1 s2 _ s3
  have h1 : Sound s1 := h
  have h2 : Sound s2 := .foldl (fun _ _ hu => flagIf_only.sound hu) h1
  have h3 : Sound s3 := .foldl (fun _ _ hu => .ite hu hu) h2
  exact .foldl (fun _ _ hu => wakeQuota_only.sound hu) h3

theorem State.unbind_sound {s0 : State} (h : Sound s) : Sound (s0.unbind s) := h

theorem State.startShifts_sound {s0 : State} (h : Sound s) : Sound (s0.startShifts s) := h

theorem State.drainPorts_sound {s0 : State} (h : Sound s) : Sound (s0.drainPorts s) := .foldl (fun _ _ hu => hu) h

theorem State.trainPorts_sound {s0 : State} (h : Sound s) :
    Sound (s0.trainPorts s) := .foldl (fun _ _ hu => .ite hu hu) h

theorem State.epochSwitch_sound {s0 : State} (h : Sound s) : Sound (s0.epochSwitch s) := by
  unfold State.epochSwitch
  extract_lets lost _ s1 s2
  have h2 : Sound s2 := epochFail_sound (show Sound s1 from h)
  exact .foldl (fun _ _ hu => .ite (loseSession_sound hu) hu) h2

theorem State.ctBuild_sound {x : CtTxn} (h : Sound s) : SoundOk (s.ctBuild x) := by
  unfold State.ctBuild
  refine .ite .error (.ite .error (.ite .error ?_))
  extract_lets s1
  have h1 : Sound s1 := .ite h h
  split
  · exact .error
  next u1 e1 =>
    have hu1 : Sound u1 := applyItems_sound h1 _ e1
    extract_lets s2 s3
    have h2 : Sound s2 := rebuildFabric_sound (applyRegs_sound hu1)
    have h3 : Sound s3 := .ite h2 (sizeAll_sound h2)
    split
    · exact .error
    · split
      · exact .error
      next u2 e2 =>
        have hu2 : Sound u2 := declareAll_sound h3 _ e2
        extract_lets s4 s5 s6
        have h4 : Sound s4 :=
          trainPorts_sound (drainPorts_sound (startShifts_sound (unbind_sound (settleTenants_sound hu2))))
        have h5 : Sound s5 := .ite h4 (epochSwitch_sound h4)
        have h6 : Sound s6 := .ite h5 h5.congr
        exact .ok (h6.congr)

/-! #### Configuration transactions (R473 to R481) -/

theorem State.ctApply_sound {x : CtTxn} (h : Sound s) : Sound (s.ctApply x) := by
  unfold State.ctApply
  split
  · exact setFlag_only.sound (putTxn_only.sound h)
  next u e1 =>
    have hu : Sound u := ctBuild_sound h _ e1
    exact putTxn_only.sound hu

theorem State.ctApplyDue_sound {pt : Nat} (h : Sound s) :
    Sound (s.ctApplyDue pt) := .foldl (fun _ _ hu => ctApply_sound hu) h

/-- A command of the configuration transaction that CT_CMD carries. -/
theorem State.ctCommand_sound {fn v : Nat} {act : CtTxn → State → State} (h : Sound s)
    (hact : ∀ x u, Sound u → Sound (act x u)) : Sound (s.ctCommand fn v act) := by
  unfold State.ctCommand
  extract_lets s1
  have h1 : Sound s1 := setReg_only.sound h
  refine .ite (ctResult_only.sound h1) ?_
  split
  · exact ctResult_only.sound h1
  · exact .ite (ctResult_only.sound h1) (hact _ _ h1)

theorem State.ctCommit_sound {fn v : Nat} (h : Sound s) : Sound (s.ctCommit fn v) := by
  refine ctCommand_sound h fun x u hu => ?_
  extract_lets _ u1
  have h1 : Sound u1 := ctResult_only.sound (putTxn_only.sound hu)
  refine .ite (ctResult_only.sound hu) ?_
  split
  · exact ctResult_only.sound (putTxn_only.sound hu)
  · exact .ite h1 (ctApplyDue_sound h1)

/-! #### Bring-up (R448 to R459) -/

theorem State.inPhase_sound {p : Nat} {act : State → State} (h : Sound s)
    (hact : ∀ u, Sound u → Sound (act u)) : Sound (s.inPhase p act) := .ite (hact _ h) h

theorem State.resetNow_sound : Sound s.resetNow := putBoot_only.sound (stopped_sound (s := s))

theorem State.thermRelease_sound (h : Sound s) : Sound s.thermRelease := .ite h h

theorem State.resetLow_sound (h : Sound s) : Sound s.resetLow := by
  unfold State.resetLow
  exact .ite h (thermRelease_sound (resetNow_sound))

theorem State.pwrgdLow_sound (h : Sound s) : Sound s.pwrgdLow := by
  unfold State.pwrgdLow
  exact .ite h (resetNow_sound)

theorem State.vinLoss_sound : Sound s.vinLoss :=
  thermRelease_sound (putBoot_only.sound resetNow_sound)

theorem State.scrub_sound (h : Sound s) : Sound s.scrub := .ite h h

theorem State.pwrgdHigh_sound {railsOk : Bool} (h : Sound s) : Sound (s.pwrgdHigh railsOk) := by
  unfold State.pwrgdHigh
  extract_lets _ s1 _ _ _ _ s2 s3
  have h1 : Sound s1 := putBoot_only.sound h
  have h3 : Sound s3 := .foldl (fun _ _ hu => logError_only.sound hu) (h1.congr (u := s2))
  exact .ite h (.ite h1 (scrub_sound (.ite h3 (emit_only.sound h3))))

theorem State.programT1_sound {i : Nat} (h : Sound s) : Sound (s.programT1 i) := by
  unfold State.programT1
  extract_lets
  split
  · exact .ite h (logError_only.sound h)

theorem State.mapProgram_sound {map : List (Nat × Nat × Nat)} (h : Sound s) : Sound (s.mapProgram map) := by
  refine inPhase_sound h fun u hu => ?_
  extract_lets _ _ s1 _ _ _ s2 s3 _ _ _ s4 s5
  have h2 : Sound s2 := hu.congr
  clear_value s2
  have h3 : Sound s3 := .foldl (fun _ _ hv => programT1_sound hv) (h2.congr (u := s2.programMaps))
  have h4 : Sound s4 := .foldl (fun _ _ hv => hv.congr) h3
  have h5 : Sound s5 := .ite (.foldl (fun _ _ hv => hv.congr) h4) h4
  clear_value s5
  exact h5.congr

theorem State.fetchFirmware_sound {die unit : Nat} {ok : Bool} (h : Sound s) :
    Sound (s.fetchFirmware die unit ok) := by
  unfold State.fetchFirmware
  extract_lets _ _ _ s1 s2
  have h1 : Sound s1 := putBoot_only.sound h
  clear_value s1
  have h2 : Sound s2 := logError_only.sound h1
  clear_value s2
  exact .ite h (.ite h1 (.ite h2.congr (detect_sound h1)))

theorem State.recoverSession_sound {boot : Nat} {r : Recorded} (h : Sound s) : Sound (s.recoverSession boot r) := by
  unfold State.recoverSession
  extract_lets
  refine .ite (loadRecorded_sound h) ?_
  exact .ite (loadRecorded_sound h) (logError_only.sound (loadRecorded_sound h))

theorem State.recover_sound {mbps : Nat} (h : Sound s) : Sound (s.recover mbps) := by
  refine inPhase_sound h fun u hu => ?_
  extract_lets _ s1 prev s2
  have h1 : Sound s1 := hu
  have h2 : Sound s2 := by
    unfold s2
    split
    · exact .foldl (fun u n hv => (show Sound (u.rebuildSlots n) from hv))
        (.foldl (fun _ _ hv => putTenant_only.sound hv) (.foldl (fun _ _ hv => recoverSession_sound hv) h1))
    · exact h1
  exact recompute_only.sound (putBoot_only.sound h2)

theorem State.commitFlash_sound {x : CtTxn} (h : Sound s) : SoundIn id (s.commitFlash x) := by
  unfold State.commitFlash
  split
  next u e1 =>
    have hu : Sound u := ctBuild_sound (show Sound { s with sessions := [] } from h) _ e1
    exact .some hu
  · exact .none

theorem State.headframe_sound {image : List Byte} {g : ImageSig} (h : Sound s) : Sound (s.headframe image g) := by
  refine inPhase_sound h fun u hu => ?_
  extract_lets _ s1 s2 _ s3
  have h2 : Sound s2 := flagIf_only.sound (putBoot_only.sound hu)
  have h3 : Sound s3 := by
    unfold s3
    split
    next e1 => exact SoundIn.bind (fun _ => commitFlash_sound h2) _ e1
    · exact putBoot_only.sound h2
  exact putBoot_only.sound h3

theorem State.fwSwitch_sound {c : Nat} (h : Sound s) : Sound (s.fwSwitch c) := by
  unfold State.fwSwitch
  extract_lets f s1 _ s2
  have h1 : Sound s1 := .ite h.congr h
  have h2 : Sound s2 := .ite h1.congr h1
  clear_value s2
  exact .ite h h2.congr

theorem State.fwSwitches_sound (h : Sound s) : Sound s.fwSwitches := .foldl (fun _ _ hu => fwSwitch_sound hu) h

theorem State.fwCmd_sound {v : Nat} (h : Sound s) : Sound (s.fwCmd v) := by
  unfold State.fwCmd
  extract_lets s1 _ _ _ g
  have h1 : Sound s1 := setReg_only.sound h
  clear_value g
  refine .ite h1 ?_
  split
  · exact setFlag_only.sound h1
  · exact .ite (setFlag_only.sound h1) (.ite h1.congr (fwSwitch_sound h1.congr))

/-! #### Observation and register writes -/

theorem State.pcsWrite_sound {port addr v : Nat} (h : Sound s) : Sound (s.pcsWrite port addr v) := by
  unfold State.pcsWrite
  split
  · exact h
  · exact .ite h (.ite h (.ite h (.ite h (.ite h h))))

theorem State.orTdi_sound {fn : Nat} {changes : Bool} {act : State} (h : Sound s) (ha : Sound act) :
    Sound (s.orTdi fn changes act) :=
  .ite (tdiError_sound h) ha

theorem State.writeWindow_sound {fn w : Nat} {isLen : Bool} {f : Nat → Nat} (h : Sound s) :
    Sound (s.writeWindow fn w isLen f) := by
  unfold State.writeWindow
  extract_lets
  split
  split
  exact orTdi_sound h (putFn_only.sound h)

theorem State.writeMsix_sound {fn k : Nat} {f : Nat → Nat} (h : Sound s) : Sound (s.writeMsix fn k f) := by
  unfold State.writeMsix
  exact .ite h (.ite h h)

theorem State.bar2Write_sound {fn addr bytes v : Nat} (h : Sound s) : Sound (s.bar2Write fn addr bytes v) := by
  unfold State.bar2Write
  extract_lets x a f
  refine .ite h (.ite ?_ (.ite ?_ (.ite ?_ ?_)))
  · exact .ite h (.ite (orTdi_sound h (putDq_only.sound h)) (.ite (putDq_only.sound h) h))
  · exact .ite h (orTdi_sound h (putRq_only.sound h))
  · exact .ite h (orTdi_sound h (putFn_only.sound h))
  · exact .ite (writeWindow_sound h) (.ite (writeMsix_sound h) h)

/-! #### The boundary of a step (R87, R90, R483) -/

theorem State.sealStamp_sound {s1 : Bool} {r : StepRun} (h : Sound s) : Sound (s.sealStamp s1 r) := by
  unfold State.sealStamp
  split
  next u e1 =>
    have hu : Sound u := .of_pair e1 (takeEnergy_only.sound h)
    exact newStepRecord_sound (putStream_only.sound hu)

theorem State.boundary_sound (h : Sound s) : Sound s.boundary := by
  unfold State.boundary
  exact followAdapters_sound (switchTables_sound h)

theorem State.s0Boundary_sound {step : Nat} (h : Sound s) : Sound (s.s0Boundary step) := by
  unfold State.s0Boundary
  extract_lets s1 s2 s3
  have h1 : Sound s1 := updateBatches_sound h
  have h2 : Sound s2 := ctApplyDue_sound h1
  have h3 : Sound s3 := .ite (checkpointCut_sound h2) h2
  exact snapMark_only.sound (fwSwitches_sound h3)

theorem State.sealIssue_sound {s1 : Bool} (h : Sound s) : Sound (s.sealIssue s1) := by
  unfold State.sealIssue
  split
  · exact h
  · refine .ite h ?_
    extract_lets s1
    have h1 : Sound s1 := boundary_sound (sealStamp_sound h)
    exact .ite (fwSwitch_sound h1) (s0Boundary_sound h1)

end

end Sys2Proof.Machine

namespace Sys2Proof.Machine
-- In order, as in the tests: many proofs at once would each wait for the others in a thread of its own.
set_option Elab.async false

section
open State

/-! ### Soundness: cores and sequencers (R206, R207, R220) -/

theorem mem_aset {α : Type} {l : List (Nat × α)} {k : Nat} {v : α} {x : Nat × α} (hx : x ∈ aset l k v) :
    x = (k, v) ∨ x ∈ l := by
  induction l with
  | nil => exact .inl (List.mem_singleton.1 hx)
  | cons p l ih =>
    unfold aset at hx
    split at hx
    · exact List.mem_cons.1 hx
    · split at hx
      · exact (List.mem_cons.1 hx).imp_right (List.mem_cons_of_mem _)
      · rcases List.mem_cons.1 hx with rfl | hx
        · exact .inr List.mem_cons_self
        · exact (ih hx).imp_right (List.mem_cons_of_mem _)

theorem mem_of_aget {α : Type} {l : List (Nat × α)} {k : Nat} {v : α} (h : aget l k = some v) : (k, v) ∈ l := by
  induction l with
  | nil => cases h
  | cons p l ih =>
    unfold aget at h
    split at h
    next hk =>
      cases h
      exact hk ▸ List.mem_cons_self
    · exact List.mem_cons_of_mem _ (ih h)

theorem agetD_of_forall {α : Type} {P : α → Prop} {l : List (Nat × α)} {d : α} (h : ∀ x ∈ l, P x.2) (hd : P d)
    (k : Nat) :
    P (agetD l k d) := by
  unfold agetD
  cases ha : aget l k with
  | none => exact hd
  | some v => exact h _ (mem_of_aget ha)

theorem forall_aset {α : Type} {P : α → Prop} {l : List (Nat × α)} {v : α} (h : ∀ x ∈ l, P x.2) (hv : P v) (k : Nat) :
    ∀ x ∈ aset l k v, P x.2 := fun x hx => by
  rcases mem_aset hx with rfl | hx
  · exact hv
  · exact h x hx

/-- A core as a sound state holds it: SRAM in canonical form, scalar registers of 64 bits. -/
def Core.Fits (c : Core) : Prop := Memory.wf c.sram = true ∧ ∀ r ∈ c.regs.scalar, r.2 < 2 ^ 64

/-- A sequencer as a sound state holds it: registers of 32 bits. -/
def Sequencer.Fits (q : Sequencer) : Prop := ∀ r ∈ q.regs, r.2 < 2 ^ 32

/-- An instruction that goes on leaves a sequencer whose registers fit. -/
def ZmOut.Fits : ZmOut → Prop
  | .next q | .full q => q.Fits
  | .ended | .fault _ _ => True

section Units
variable {s : State} {i : Nat} {c : Core} {q : Sequencer}

theorem Sound.core (h : Sound s) (i : Nat) : (s.core i).Fits := by
  obtain ⟨_, hc, _, _⟩ := h
  exact agetD_of_forall hc ⟨rfl, nofun⟩ i

theorem Sound.putCore (h : Sound s) (hc : c.Fits) : Sound (s.putCore i c) := by
  obtain ⟨hm, hcs, hk, hq⟩ := h
  exact ⟨hm, forall_aset (P := Core.Fits) hcs hc i, hk, hq⟩

theorem Sound.seqr (h : Sound s) (i : Nat) : (s.seqr i).Fits := by
  obtain ⟨_, _, _, hq⟩ := h
  exact agetD_of_forall hq nofun i

theorem Sound.putSeqr (h : Sound s) (hq : q.Fits) : Sound (s.putSeqr i q) := by
  obtain ⟨hm, hc, hk, hqs⟩ := h
  exact ⟨hm, hc, hk, forall_aset (P := Sequencer.Fits) hqs hq i⟩

theorem putReg_lt {l : List (Nat × Nat)} {n r v : Nat} (h : ∀ x ∈ l, x.2 < n) (hv : v < n) :
    ∀ x ∈ putReg l r v, x.2 < n := by
  unfold putReg
  split
  · exact fun x hx => h x (List.mem_of_mem_filter hx)
  · exact forall_aset (P := (· < n)) h hv r

theorem WRegs.write_scalar_lt {w : WRegs} (h : ∀ r ∈ w.scalar, r.2 < 2 ^ 64) (x : Nat × Nat) :
    ∀ r ∈ (w.write x).scalar, r.2 < 2 ^ 64 := by
  unfold WRegs.write
  split
  · split
    · exact h
    · exact putReg_lt h (Nat.mod_lt _ (by decide))
  · split
    · exact h
    · split
      · exact h
      · exact h

theorem Core.Fits.wrote (h : c.Fits) (writes : List (Nat × Nat)) : (c.wrote writes).Fits :=
  ⟨h.1, List.foldlRecOn (motive := fun w : WRegs => ∀ r ∈ w.scalar, r.2 < 2 ^ 64) writes WRegs.write h.2
    fun _ hw x _ => WRegs.write_scalar_lt hw x⟩

theorem Core.Fits.sram (h : c.Fits) (a : Nat) (bs : List Byte) : { c with sram := memWrite c.sram a bs }.Fits :=
  ⟨memWrite_wf h.1 _ _, h.2⟩

theorem Sequencer.Fits.setReg (h : q.Fits) (r v : Nat) : (q.setReg r v).Fits := by
  unfold Sequencer.setReg
  split
  · exact h
  · exact putReg_lt h (Nat.mod_lt _ (by decide))

end Units

/-! #### Zynut-W -/

section ZynutW
variable {s : State}

theorem State.zwWrite_sound {i a : Nat} {bs : List Byte} (h : Sound s) : Sound (s.zwWrite i a bs) := by
  refine .ite (h.putCore ((h.core i).sram a bs)) ?_
  obtain ⟨hm, hc, hk, hq⟩ := h
  have hold := agetD_of_forall (P := fun m => Memory.wf m = true) hk (d := []) rfl (i / 8)
  exact ⟨hm, hc, forall_aset (P := fun m => Memory.wf m = true) hk (memWrite_wf hold _ _) _, hq⟩

theorem State.zwException_sound {i code slots : Nat} (h : Sound s) : Sound (s.zwException i code slots) := by
  unfold State.zwException
  extract_lets _ _ s1 _ s2 s3 s4
  have h1 : Sound s1 := h.putCore (h.core i)
  have h4 : Sound s4 := .foldl (fun _ _ hu => hu.congr) (abandonWhere_sound (setFlag_only.sound h1))
  exact .ite h1 (.ite (stopKernel_sound h4) h4)

theorem State.matExec_sound {i : Nat} {m : MatCmd} (h : Sound s) : Sound (s.matExec i m) := by
  unfold State.matExec
  extract_lets _ t r s1 put s2 s3 s4 s5
  have h1 : Sound s1 := h.congr
  have hp (u : State) (x : Tile) (hu : Sound u) : Sound (put u x) := hu.putCore (hu.core i)
  have h2 : Sound s2 := by
    unfold s2
    split
    · exact hp _ _ h1
    · exact h1
  have h3 : Sound s3 := by
    unfold s3
    split
    · exact zwWrite_sound h2
    · exact h2
  have h4 : Sound s4 := .foldl (fun _ _ hu => engFlag_only.sound hu) h3
  have h5 : Sound s5 := .ite (hp _ _ h4) h4
  split
  · exact h5.putCore (h5.core i)
  · exact h4

theorem State.matComplete_sound {i n : Nat} {engines : List Nat} (h : Sound s) : Sound (s.matComplete i n engines) :=
  .foldl (fun _ _ hu => matExec_sound hu) (h.putCore (h.core i))

theorem State.matWait_sound {i : Nat} {engines : List Nat} (h : Sound s) :
    Sound (s.matWait i engines) := matComplete_sound h

theorem State.zwStart_sound {i : Nat} {b : ZwStart} (h : Sound s) : Sound (s.zwStart i b) := h.putCore (h.core i)

theorem State.zwBegin_sound {z : ZwIssue} (h : Sound s) : Sound (s.zwBegin z) := by
  unfold State.zwBegin
  extract_lets _ _ s1
  have h1 : Sound s1 := matWait_sound h
  refine .ite (zwException_sound h) ?_
  split
  · exact zwException_sound h
  · split
    · exact zwException_sound h1
    · exact h1.putCore (h1.core z.core)

theorem State.zwAct_sound {i : Nat} {a : ZwAct} (h : Sound s) : Sound (State.zwAct i s a) := by
  cases a with
  | store | send => exact zwWrite_sound h
  | matrix => exact h.putCore (h.core i)
  | gallery => exact (State.zwAct_gallery_only s i _ _).sound h
  | poison => exact .ite (poisonPage_sound h) (.foldl (fun _ _ hu => loseMember_sound (loseMember_sound hu)) h)
  | flag => exact engFlag_only.sound h
  | append => exact h.congr
  | branch | loop | call | ret | bar | halt => exact h

theorem State.zwAdvance_sound {i : Nat} {acts : List ZwAct} (h : Sound s) : Sound (s.zwAdvance i acts) := by
  refine h.putCore ?_
  generalize hf : acts.findSome? _ = o
  cases o with
  | none => exact h.core i
  | some c =>
    obtain ⟨a, _, ha⟩ := List.exists_of_findSome?_eq_some hf
    split at ha
    · cases ha
      exact h.core i
    · cases ha
      exact h.core i
    · cases ha
      exact h.core i
    · split at ha
      · cases ha
      · split at ha <;> cases ha <;> exact h.core i
    · cases ha

theorem State.zwFinish_sound {i : Nat} (h : Sound s) : Sound (s.zwFinish i) := by
  unfold State.zwFinish
  split
  · exact h
  next b _ =>
    extract_lets _ s1 _ s2 s3 s4
    have h1 : Sound s1 := .ite (matWait_sound h) h
    have h2 : Sound s2 := h1.putCore ((h1.core i).wrote b.writes)
    have h3 : Sound s3 := .foldl (fun _ _ hu => zwAct_sound hu) h2
    have h4 : Sound s4 := matWait_sound h3
    split
    · exact zwException_sound h1
    · refine .ite ?_ (zwAdvance_sound h3)
      split
      · exact zwException_sound h4
      · exact h4.putCore (h4.core i)

theorem State.zwCommit_sound {i : Nat} (h : Sound s) : Sound (s.zwCommit i) := by
  unfold State.zwCommit
  extract_lets
  split
  · exact zwFinish_sound h
  · extract_lets s1
    have h1 : Sound s1 := h.putCore (h.core i)
    exact .ite (zwFinish_sound h) (.ite (.foldl (fun _ _ hu => zwFinish_sound hu) h1) h1)

theorem State.zwExec_sound {i slot : Nat} {last : Bool} {b : Bundle} {r : ZwOut} (h : Sound s) :
    Sound (s.zwExec i slot last b r) := by
  unfold State.zwExec
  refine .ite (.ite (zwCommit_sound h) h) ?_
  cases r with
  | fault => exact zwException_sound h
  | ok writes acts n =>
    have h0 (b : Option Bundle) : Sound (s.putCore i { s.core i with bundle := b }) := h.putCore (h.core i)
    have h1 (b : Option Bundle) : Sound ((s.putCore i { s.core i with bundle := b }).drew n) := (h0 b).congr
    exact .ite (zwException_sound h) (.ite (zwCommit_sound (h1 _)) (h1 _))

theorem State.zwSlot_sound {z : ZwIssue} {t slot : Nat} {f : State → WRegs → ZwOut} (h : Sound s) :
    Ends Sound (s.zwSlot z t slot f) := by
  unfold State.zwSlot
  extract_lets s0 s1 _ s2
  have h0 : Sound s0 := h.congr
  have h1 : Sound s1 := by
    unfold s1
    split
    · exact zwStart_sound h0
    · exact h0
  have h2 : Sound s2 := .ite (zwBegin_sound h1) h1
  split
  · exact .fault
  split
  · exact .next h0
  split
  · exact .next h1
  refine .next ?_
  split
  · exact h2
  · exact zwExec_sound h2

theorem State.zwExchange_sound {z : ZwIssue} {len t : Nat} {f : State → WRegs → Nat → ZwOut} (h : Sound s) :
    Ends Sound (s.zwExchange z len t f) :=
  zwSlot_sound h

theorem State.zwAlu_sound {z : ZwIssue} {t rd ra rb : Nat} {f : Nat → Nat → Nat} (h : Sound s) :
    Ends Sound (s.zwAlu z t rd ra rb f) :=
  zwSlot_sound h

theorem State.zwCmp_sound {z : ZwIssue} {t rd ra rb : Nat} {f : Nat → Nat → Bool} (h : Sound s) :
    Ends Sound (s.zwCmp z t rd ra rb f) :=
  zwSlot_sound h

theorem State.zwLanes_sound {z : ZwIssue} {t vd va vb p draws : Nat} {pair : Bool}
    {f : Nat → Nat → Nat → Nat → Nat}
    (h : Sound s) : Ends Sound (s.zwLanes z t vd va vb p pair draws f) :=
  zwSlot_sound h

theorem State.zwMatrix_sound {z : ZwIssue} {e t : Nat} {f : WRegs → MatCmd} (h : Sound s) :
    Ends Sound (s.zwMatrix z e t f) := by
  unfold State.zwMatrix
  split
  · exact .fault
  · exact zwSlot_sound h

theorem State.zwEvent_sound {core t : Nat} {f : State → State} (h : Sound s) (hact : ∀ u, Sound u → Sound (f u)) :
    Ends Sound (s.zwEvent core t f) := by
  have h0 : Sound (s.stamp t) := h.congr
  unfold State.zwEvent
  split
  · exact .fault
  · exact .next (.ite (hact _ h0) h0)

end ZynutW

/-! #### Zynut-M -/

section ZynutM
variable {s : State} {q : Sequencer}

theorem State.loopEnd_sound {n : Nat} {w : List (Nat × Nat)} (h : Sound s) : Sound (s.loopEnd n q w) := by
  refine .ite (.ite (currentLoop_only.sound h) h) (.ite (.ite h ?_) (.ite h (thermalLoop_only.sound h)))
  exact (voltagePort_only.sound (voltagePort_only.sound h)).congr

theorem State.loopFaulted_sound {n : Nat} (h : Sound s) : Sound (s.loopFaulted n) :=
  .ite (currentLoopFault_only.sound h) (.ite (voltageLoopFault_only.sound h) h)

theorem State.zmStart_sound {i : Nat} {r : ZmStart} (h : Sound s) : Sound (s.zmStart i r) := by
  unfold State.zmStart
  extract_lets _ _ _ pure_
  split
  · exact h
  · extract_lets _ s1
    have h1 : Sound s1 := by
      refine h.putSeqr ?_
      cases pure_ with
      | true => exact nofun
      | false => exact h.seqr i
    exact .ite (.ite h.congr h) (.ite h (.ite h1.congr h1))

theorem State.zmFault_sound {i code trap : Nat} (h : Sound s) : Sound (s.zmFault i code trap) := by
  unfold State.zmFault
  extract_lets _ _ s1 s2
  have h2 : Sound s2 := setFlag_only.sound (h.putSeqr (h.seqr i))
  split
  exacts [policyEnd_sound h2, hoistProgram_sound h2, h2, h2, loopFaulted_sound h2]

theorem State.zmEnd_sound {i : Nat} (h : Sound s) (hq : q.Fits) : Sound (s.zmEnd i q) := by
  unfold State.zmEnd
  extract_lets s1
  have h1 : Sound s1 := h.putSeqr hq
  split
  exacts [policyEnd_sound h1, hoistProgram_sound h1, h1, h1, loopEnd_sound h1]

theorem State.zmStep_sound {i op : Nat} {fs : List (Nat × Nat × Nat)} {f : Sequencer → ZmOut} (h : Sound s)
    (hf : ∀ q, q.Fits → (f q).Fits) : Sound (s.zmStep i op fs f) := by
  unfold State.zmStep
  extract_lets q
  have hq : q.Fits := h.seqr i
  split
  · exact h
  · split
    · exact zmFault_sound h
    · refine .ite (zmFault_sound h) (.ite (zmFault_sound h) (.ite h ?_))
      have ho := hf { q with count := q.count + 1 } hq
      cases hr : f { q with count := q.count + 1 } <;> rw [hr] at ho
      case next => exact h.putSeqr ho
      case full => exact setFlag_only.sound (h.putSeqr ho)
      case ended => exact zmEnd_sound h hq
      case fault => exact zmFault_sound h

theorem State.zmRun_sound {z : ZmIssue} {t op : Nat} {fs : List (Nat × Nat × Nat)} {f : Sequencer → ZmOut}
    (h : Sound s)
    (hf : ∀ q, q.Fits → (f q).Fits) : Ends Sound (s.zmRun z t op fs f) := by
  unfold State.zmRun
  extract_lets s1 s2
  have h1 : Sound s1 := h.congr
  have h2 : Sound s2 := by
    unfold s2
    split
    · exact zmStart_sound h1
    · exact h1
  split
  · exact .fault
  · exact .next (.ite (zmStep_sound h2 hf) h2)

theorem Sequencer.put_fits (h : q.Fits) (rd v : Nat) : (q.put rd v).Fits := h.setReg rd v

theorem Sequencer.branch_fits (h : q.Fits) (c : Bool) (off : Nat) : (q.branch c off).Fits := by
  unfold Sequencer.branch
  split
  · exact h
  · exact h

theorem ZmOut.Fits.ite {c : Prop} [Decidable c] {o o' : ZmOut} (h : o.Fits) (h' : o'.Fits) :
    (if c then o else o').Fits := by
  split
  · exact h
  · exact h'

theorem State.zmAlu_sound {z : ZmIssue} {t op rd ra rb : Nat} {f : Nat → Nat → Nat} (h : Sound s) :
    Ends Sound (s.zmAlu z t op rd ra rb f) :=
  zmRun_sound h fun _ hq => Sequencer.put_fits hq _ _

theorem State.zmImm_sound {z : ZmIssue} {t op rd ra imm : Nat} {f : Nat → Nat} (h : Sound s) :
    Ends Sound (s.zmImm z t op rd ra imm f) :=
  zmRun_sound h fun _ hq => Sequencer.put_fits hq _ _

theorem State.zmBranch_sound {z : ZmIssue} {t op ra rb off : Nat} {c : Nat → Nat → Bool} (h : Sound s) :
    Ends Sound (s.zmBranch z t op ra rb off c) :=
  zmRun_sound h fun _ hq => Sequencer.branch_fits hq _ _

end ZynutM

end

end Sys2Proof.Machine

namespace Sys2Proof.Machine
-- In order, as in the tests: many proofs at once would each wait for the others in a thread of its own.
set_option Elab.async false

section
open State

/-! ### Soundness: commands -/

theorem Ends.ite {P : State → Prop} {c : Prop} [Decidable c] {o o' : Host.Outcome State Fault Refusal} (h : Ends P o)
    (h' : Ends P o') : Ends P (if c then o else o') := by
  split
  · exact h
  · exact h'

section Commands
variable {s : State} {t : Nat}

theorem sessionFork_sound {f : Frame} (h : Sound s) : Ends Sound (exec (.sessionFork f t) s) := by
  have hc : Sound (s.stamp t).chooseSd.2 := chooseSd_sound h.congr
  exact .next (frameFor_sound hc)

theorem quotaReservation_sound {tenant tier bytes : Nat} {asker : QuotaFor} (h : Sound s) :
    Ends Sound (exec (.quotaReservation tenant tier bytes asker t) s) := by
  have ht : Sound (s.stamp t) := h.congr
  refine .ite (.next (addUse_only.sound ht)) ?_
  cases asker with
  | step => exact .ite (.next (pressure_sound (setWait_only.sound ht))) (.next ht)
  | host => exact .next (complete_only.sound ht)
  | cage => exact .next (dropRequest_sound ht)

theorem remoteTimeout_sound {s1 expert : Bool} {slot request issued : Nat} (h : Sound s) :
    Ends Sound (exec (.remoteTimeout s1 slot request issued expert t) s) := by
  have ht : Sound (s.stamp t) := h.congr
  refine .next ?_
  split
  · exact ht
  · exact .ite (loseMember_sound (setFlag_only.sound ht)) ht

theorem attReq_sound {hd : Head} {handle layer group positions part request parts first tenant model sd : Nat}
    {payload : List Byte} (h : Sound s) :
    Ends Sound
      (exec (.attReq hd handle layer group positions part request parts first tenant model sd payload t) s) := by
  have ht : Sound (s.stamp t) := h.congr
  refine .guard (receive_sound ht fun u hu => ?_)
  dsimp only
  split
  · exact serveAttention_sound hu.congr
  · exact hu.congr

theorem attReply_sound {hd : Head} {part request parts : Nat} {payload : List Byte} (h : Sound s) :
    Ends Sound (exec (.attReply hd part request parts payload t) s) := by
  have ht : Sound (s.stamp t) := h.congr
  refine .guard (receive_sound ht fun u hu => ?_)
  dsimp only
  split
  · exact setFlag_only.sound hu
  · refine .ite (setFlag_only.sound hu) ?_
    split
    · exact takeReply_sound hu
    · exact updMember_only.sound hu

theorem accImages_sound {hd : Head} {step reduction first : Nat} {images : List (List Byte)} {info : SplitInfo}
    (h : Sound s) : Ends Sound (exec (.accImages hd step reduction first images info t) s) := by
  have ht : Sound (s.stamp t) := h.congr
  refine .guard (receive_sound ht fun u hu => ?_)
  exact flagIf_only.sound (.ite (addRegFld_only.sound hu.congr) hu.congr)

theorem loopFaultHoldExpire_sound (h : Sound s) : Ends Sound (exec (.loopFaultHoldExpire t) s) := by
  have ht : Sound (s.stamp t) := h.congr
  have hp (u : State) (p : Power) (hu : Sound u) : Sound { u with power := p } := hu.congr
  refine .next ?_
  split
  · exact .ite (hp _ _ (portSafe_only.sound (portSafe_only.sound ht))) ht
  · exact ht

theorem loopSwapTimeout_sound {eid : Nat} (h : Sound s) : Ends Sound (exec (.loopSwapTimeout eid t) s) := by
  have ht : Sound (s.stamp t) := h.congr
  refine .guard ?_
  split
  · exact .ite (portSafe_only.sound ht) ht
  · exact ht

theorem pldmPmcRequest_sound {sensor : Nat} (h : Sound s) : Ends Sound (exec (.pldmPmcRequest sensor t) s) := by
  have ht : Sound (s.stamp t) := h.congr
  refine .next ?_
  split
  · exact emit_only.sound ht
  · exact emit_only.sound ht

theorem ctStageWrite_sound {fn addr v : Nat} (h : Sound s) : Ends Sound (exec (.ctStageWrite fn addr v t) s) := by
  have ht : Sound (s.stamp t) := h.congr
  show Ends Sound (execCtStageWrite fn addr v t s)
  unfold execCtStageWrite
  split
  · exact .guard (stageWrite_only.sound ht)
  · exact .fault

theorem ledDumpWritten_sound {ok : Bool} (h : Sound s) : Ends Sound (exec (.ledDumpWritten ok t) s) := by
  have ht : Sound (s.stamp t) := h.congr
  refine .next ?_
  split
  · exact .ite (dumpEnd_only.sound (emit_only.sound ht)) (dumpEnd_only.sound ht)
  · exact ht

theorem zwBarrierTimeout_sound {core : Nat} (h : Sound s) : Ends Sound (exec (.zwBarrierTimeout core t) s) := by
  show Ends Sound (execZwBarrierTimeout core t s)
  refine zwEvent_sound h fun u hu => ?_
  split
  · exact .ite (zwException_sound hu) hu
  · exact hu

theorem zwWatchdog_sound {core : Nat} (h : Sound s) : Ends Sound (exec (.zwWatchdog core t) s) :=
  show Ends Sound (execZwWatchdog core t s) from zwEvent_sound h fun _ hu => .ite (zwException_sound hu) hu

theorem zwMatrixDone_sound {core engine : Nat} (h : Sound s) : Ends Sound (exec (.zwMatrixDone core engine t) s) := by
  refine .ite .fault (zwEvent_sound h fun u hu => ?_)
  split
  · exact matComplete_sound hu
  · exact hu

theorem zmTld_sound {z : ZmIssue} {rd ra imm : Nat} (h : Sound s) : Ends Sound (exec (.zmTld z rd ra imm t) s) := by
  refine zmRun_sound h fun q hq => ?_
  split
  · exact Sequencer.put_fits hq _ _
  · trivial

theorem zmQget_sound {z : ZmIssue} {rd imm : Nat} (h : Sound s) : Ends Sound (exec (.zmQget z rd imm t) s) := by
  refine zmRun_sound h fun q hq => ?_
  split
  · exact Sequencer.put_fits (q := { q with inputs := aset q.inputs (imm % 16) _ }) hq _ _
  · trivial

theorem zmQput_sound {z : ZmIssue} {rd ra imm : Nat} (h : Sound s) : Ends Sound (exec (.zmQput z rd ra imm t) s) :=
  zmRun_sound h fun q hq =>
    .ite (Sequencer.put_fits (q := { q with pushes := q.pushes ++ [(imm % 16, q.reg ra)] }) hq _ _) (hq.setReg _ _)

theorem zmTnow_sound {z : ZmIssue} {rd imm : Nat} (h : Sound s) : Ends Sound (exec (.zmTnow z rd imm t) s) :=
  zmRun_sound (.ite h h.congr) fun _ hq => Sequencer.put_fits hq _ _

end Commands

/-- Every command that comes to a next state keeps the state sound. -/
theorem exec_sound {s : State} (c : Instr) (h : Sound s) : Ends Sound (exec c s) := by
  unfold exec
  cases c with
  | dqTailWrite | rqHeadWrite | textHeadWrite | ideStreamStop => exact .absent <| .ite h h
  | dqCtlEnableWrite => exact .absent <| ringWrite_sound h
  | frameFetch => exact .absent <| fetch_only.sound h
  | timedFrameRelease | codewordUncorrectable | tfqHwmRead | errSelWrite | ledTselWrite => exact .absent h
  | statusRecordWrite => exact .absent <| statusWrite_only.sound h
  | recordDeliver => exact .next <| deliver_only.sound h
  | modUsExpire => exact .absent <| modExpire_only.sound h
  | functionLevelReset | vfDisable => exact .absent <| startReset_only.sound h
  | surpriseDown => exact .absent <| .foldl (fun _ _ hu => startReset_only.sound hu) (setFlag_only.sound h)
  | hostAttach => exact .absent <| .foldl (fun _ _ hu => hu) h
  | drainTimeout => exact .absent <| drainEnds_sound h
  | sessionOpen => exact .next <| sessionOpen_sound h
  | openPrepared => exact .next <| drainSession_sound (openPrepared_sound h)
  | sessionAppend | sessionResume | sessionHold | sessionRelease | sessionPark | sessionCancel
    | sessionClose | sessionMigrate | sessionWaitPeer | sessionRestore => exact .next <| frameAt_sound h
  | timedAppendRelease => exact .next <| timedRelease_sound h
  | closeReleaseDone => exact .next <| closeReleased_sound h
  | sessionFork => exact sessionFork_sound h
  | restorePagesPlaced => exact .next <| drainSession_sound (restorePlaced_sound h)
  | rowLookup => exact .guard <| rowLookup_sound h
  | rowUpdate => exact .next <| rowUpdate_only.sound h
  | tableSwitch => exact .next <| tableSwitch_only.sound h
  | recallQuery => exact .guard <| recallQuery_only.sound h
  | recallInsert => exact .next <| recallInsert_only.sound h
  | recallShardScanDone => exact .guard <| scanDone_sound h
  | adapterLoad => exact .next <| adapterLoad_only.sound h
  | adapterImageReadDone => exact .guard <| adapterRead_sound h
  | adapterSwitch => exact .next <| .ite (adapterSwitch_sound h) (frameAt_sound h)
  | ckpCut => exact .next <| ckpCut_only.sound h
  | ckpRestoreGroup => exact .next <| restoreGroup_sound h
  | probe => exact .next <| probe_only.sound h
  | textInput => exact .next <| textWork_sound h (fun _ hu => textInput_sound hu)
  | textFrameResume => exact .next <| textWork_sound h (fun _ hu => textResume_sound hu)
  | timerFire => exact .next <| timerFire_only.sound h
  | timeoutCommit => exact .next <| timeoutCommit_only.sound h
  | notBeforeReached => exact .next <| notBefore_only.sound h
  | leaseLapse => exact .next <| leaseLapse_sound h
  | peerComplete => exact .next <| peerComplete_only.sound h
  | outboxRecordWrite => exact .next <| recordEnters_only.sound h
  | stepForm => exact .next <| endShifts_only.sound (stepForm_sound h)
  | stepPacingExpire => exact .next <| .ite (putStream_only.sound h) h
  | quotaReservation => exact quotaReservation_sound h
  | quotaRelease => exact .next <| wakeQuota_only.sound (dropUse_only.sound h)
  | kvAppend => exact .next <| kvAppend_sound h
  | spanDispatch => exact .next <| spanDispatch_sound h
  | spanPartialDone => exact .next <| spanDone_sound h
  | samplerDraw => exact .next <| samplerDraw_only.sound h
  | s1Suspend => exact .next <| s1Suspend_only.sound h
  | s1Resume => exact .next <| s1Resume_only.sound h
  | sealIssue => exact .next <| sealIssue_sound h
  | sealApply => exact .guard <| .ite (sealApply_sound h) (snapPart_only.sound (afterCut_sound (sealApply_sound h)))
  | stepOutcome => exact .next <| stepOutcome_sound h
  | memberRemove => exact .next <| memberRemove_sound h
  | stepAbandon => exact .next <| abandon_sound h
  | remoteTimeout => exact remoteTimeout_sound h
  | mgmtFailover => exact .next <| mgmtFail_sound h
  | cageRequest => exact .next <| requestCage_sound h
  | cageCopyDone => exact .next <| cageCopied_sound h
  | cageSwitchPoint => exact .next <| cageSwitch_sound h
  | cageRelease => exact .next <| cageRelease_sound h
  | accessDecay => exact .guard <| accessDecay_only.sound h
  | tierPolicyRun => exact .guard <| policyStart_sound h
  | prefixRetentionSweep => exact .guard <| retentionSweep_sound h
  | hoistIssue => exact .absent <| hoistIssue_sound h
  | hoistSegmentDone => exact .absent <| segmentDone_sound h
  | hoistProgramRun => exact .absent <| hoistProgram_sound h
  | hoistChannelReset => exact .absent <| channelReset_sound h
  | segmentResend => exact .absent <| resend_only.sound h
  | migCopyDone => exact .next <| copyEnds_sound h
  | prepare => exact .absent <| receive_sound h (fun _ hu => takePrepare_sound hu)
  | ready => exact .absent <| receive_sound h (fun _ hu => drainSession_sound (migReady_sound hu))
  | handover => exact .absent <| receive_sound h (fun _ hu => handover_sound hu)
  | committed => exact .absent <| receive_sound h (fun _ hu => migCommitted_sound hu)
  | abortReq => exact .absent <| receive_sound h (fun _ hu => abortReq_sound hu)
  | aborted => exact .absent <| receive_sound h (fun _ hu => migAborted_sound hu)
  | homeUpdate => exact .absent <| receive_sound h (fun _ hu => homeUpdate_only.sound hu)
  | closeNote => exact .absent <| receive_sound h (fun _ hu => closeNote_sound hu)
  | sealNote => exact .absent <| receive_sound h (fun _ hu => sealNote_sound hu)
  | dropNote => exact .absent <| receive_sound h (fun _ hu => dropNote_only.sound hu)
  | phaseTimeout => exact .next <| drainSession_sound (sourceTimeout_sound h)
  | linkControlFlit => exact .absent <| linkControl_only.sound h
  | portTrained => exact .absent <| trained_only.sound h
  | laneLockLoss => exact .absent <| portDown_only.sound h
  | rollCallSend => exact .absent <| rollCallSend_only.sound h
  | rollCall => exact .absent <| receive_sound h (fun _ hu => rollCall_only.sound hu)
  | rollCallMissed => exact .absent <| .ite (portDown_only.sound h) h
  | syncSend => exact .next <| syncSend_only.sound h
  | sync | kernelData | mgmt | closeNoteAck => exact .absent <| receive_sound h (fun _ hu => hu)
  | syncReply => exact .absent <| receive_sound h (fun _ hu => syncReply_only.sound hu)
  | syncLost => exact .next <| syncLost_only.sound h
  | packetEnqueue => exact .next <| takeSending_only.sound h
  | egressSelect => exact .absent <| egress_sound h
  | packetTransit => exact .next <| transit_only.sound h
  | transitCreditTimeout => exact .absent <| transitTimeout_only.sound h
  | segData => exact .absent <| receive_sound h (fun _ hu => segData_sound hu)
  | segAck => exact .absent <| receive_sound h (fun _ hu => segAck_sound hu)
  | groupCtl => exact .absent <| receive_sound h (fun _ hu => groupCtl_only.sound hu)
  | attReq => exact attReq_sound h
  | attReply => exact attReply_sound h
  | expertTokens => exact .guard <| receive_sound h (fun _ hu => send_only.sound hu)
  | expertReply =>
    exact .guard <| receive_sound h (fun _ hu => .ite (setFlag_only.sound hu) (updMember_only.sound hu))
  | accImages => exact accImages_sound h
  | anchor => exact .guard <| receive_sound h (fun _ hu => hu)
  | rowReq => exact .guard <| receive_sound h (fun _ hu => rowReq_only.sound hu)
  | rowReply => exact .guard <| receive_sound h (fun _ hu => rowReply_sound hu)
  | rowUpd => exact .guard <| receive_sound h (fun _ hu => rowUpd_only.sound hu)
  | kvPush => exact .absent <| receive_sound h (fun _ hu => pushArrives_sound hu)
  | hotCacheRefresh | busRecover | ctCmdInvalidOp | ethLinkChange => exact .guard h
  | tick1ms => exact .next <| tick_only.sound h
  | stagingCopyDone => exact .next <| stagingDone_sound h
  | ckpStoreWriteDone => exact .next <| afterCut_sound (storeWritten_sound h)
  | ckpManifestDurable => exact .next <| manifestDurable_only.sound h
  | storeTimeout => exact .next <| afterCut_sound (storeTimeout_sound h)
  | uvDetect => exact .guard <| .ite h (setFlag_only.sound h)
  | drainStart => exact .next <| drainStart_sound h
  | journalEntryStart => exact .next <| journalStart_only.sound h
  | journalCapture => exact .next <| journalCapture_only.sound h
  | journalPayloadDone => exact .next <| payloadDone_sound h
  | journalCommit => exact .next <| journalCommit_sound h
  | drainEnd => exact .next <| drainEnd_sound h
  | thermalDrain => exact .next <| .ite h (startDrain_sound (setFlag_only.sound h))
  | thermtrip => exact .next <| stopped_sound (s := s)
  | pwrgdAssert => exact .next <| pwrgdHigh_sound h
  | resetNAssert => exact .next <| resetLow_sound h
  | pwrgdFall => exact .next <| pwrgdLow_sound h
  | vinPkgLoss => exact .next vinLoss_sound
  | eidSupplyLoss | eidSupplyReturn => exact .guard <| portSafe_only.sound h
  | currentLoopRun => exact .guard <| .ite h (.ite (currentLoopFault_only.sound h) h)
  | voltageLoopRun =>
    exact .next <| .ite (voltageLoopFault_only.sound h) (.ite h (voltagePort_only.sound (voltagePort_only.sound h)))
  | thermalLoopRun => exact .next <| .ite h (.ite h h)
  | healthTest => exact .guard <| healthTest_only.sound h
  | energyRecompute => exact .next <| recompute_only.sound h
  | pmbusPoll => exact .next (.congr (.foldl (fun _ _ hu => pollConverter_only.sound hu) (h.congr (u := s.stamp _))))
  | capRelax => exact .next <| capRelax_only.sound h
  | loopFaultHoldExpire => exact loopFaultHoldExpire_sound h
  | loopSwapTimeout => exact loopSwapTimeout_sound h
  | prechargeDone | chargeDone | contactorOpen => exact .guard <| .ite (setPort_only.sound h) h
  | pwrCapWrite | getVersion | secSvnCommit => exact .next h
  | eidRetire => exact .guard <| retire_only.sound h
  | eidAdmit => exact .guard <| admitPort_only.sound h
  | expanderAttach => exact .guard <| attachExpander_only.sound h
  | expanderRemoval => exact .guard <| removeExpander_sound h
  | xpnEvacuate => exact .guard <| evacuate_sound h
  | xpnCancel => exact .guard <| evacuateCancel_only.sound h
  | evacuatePassDone => exact .guard <| evacuatePassDone_sound h
  | driveDown => exact .guard <| driveDown_sound h
  | driveAttach => exact .guard <| driveAttach_only.sound h
  | ethFrameReceive => exact .guard <| ethReceive_only.sound h
  | p0Done => exact .guard <| p0Done_only.sound h
  | romSelftestDone => exact .guard <| romPass_only.sound h
  | electionTimeout => exact .next <| electionOver_only.sound h
  | stage1Verify => exact .next <| stage1_only.sound h
  | recoveryImage => exact .next <| recoveryImage_only.sound h
  | assayDone => exact .next <| assay_only.sound h
  | mapProgram => exact .next <| mapProgram_sound h
  | firmwareBroadcast => exact .next <| broadcast_only.sound h
  | firmwareFetch => exact .guard <| fetchFirmware_sound h
  | journalRecovery => exact .next <| recover_sound h
  | headframeCommit => exact .next <| headframe_sound h
  | weightShardReadDone => exact .next <| shardRead_only.sound h
  | getCapabilities => exact .next <| getCapabilities_only.sound h
  | negotiateAlgorithms => exact .next <| negotiate_only.sound h
  | getDigests => exact .next <| getDigests_only.sound h
  | getCertificate => exact .next <| getCertificate_only.sound h
  | challenge => exact .next <| challenge_only.sound h
  | getMeasurements => exact .next <| getMeasurements_only.sound h
  | keyExchange => exact .next <| keyExchange_only.sound h
  | finish => exact .next <| finish_only.sound h
  | endSession | heartbeat | keyUpdate | setCkpKey => exact .next <| secure_sound h (fun _ _ hu => hu)
  | setJobKey => exact .next <| secure_sound h (fun _ _ hu => setJobKey_only.sound hu)
  | clearJobKey => exact .next <| secure_sound h (fun _ _ hu => clearJobKey_only.sound hu)
  | ownerEnrol => exact .next <| secure_sound h (fun _ _ hu => ownerEnrol_only.sound hu)
  | keyManifest => exact .next <| rotateKeys_only.sound h
  | ideKm => exact .guard <| secure_sound h (fun _ _ hu => hu)
  | tdispRequest => exact .guard <| tdisp_only.sound h
  | fwStage => exact .guard <| fwStage_only.sound h
  | pldmPmcRequest => exact pldmPmcRequest_sound h
  | ctBegin => exact .guard <| ctBegin_only.sound h
  | ctCommit => exact .guard <| ctCommit_sound h
  | ctAbort => exact .guard <| ctAbort_only.sound h
  | ctLoadPatch => exact .guard <| ctLoadPatch_only.sound h
  | ctStageWrite => exact ctStageWrite_sound h
  | ctApplyAtPt => exact .next <| .ite h (ctApplyDue_sound h)
  | w1cClear => exact .next <| writeFlags_only.sound h
  | obsSnapGo => exact .absent <| snapGo_only.sound h
  | snapshotWritten => exact .next <| snapWritten_only.sound h
  | obsCic => exact .absent <| clearIfCount_only.sound h
  | obsHwmClr => exact .absent <| hwmClear_only.sound h
  | errClear | attReqPartsTimeout => exact .next <| .ite h h
  | errorDetect => exact .guard <| detect_sound h
  | ledDump => exact .absent <| ledgerDump_only.sound h
  | ledDumpWritten => exact ledDumpWritten_sound h
  | bruFence => exact .next <| .ite h (.ite (setFlag_only.sound h) (fenceDie_sound h))
  | bruFwSwitch => exact .next <| fwCmd_sound h
  | hifRebindGo => exact .absent <| rebind_only.sound h
  | registerWrite => exact .ite .fault (.ite (.next (.ite (bar2Write_sound h) h)) (.next (.ite (pcsWrite_sound h) h)))
  | zwBarrierTimeout => exact zwBarrierTimeout_sound h
  | zwWatchdog => exact zwWatchdog_sound h
  | zwMatrixDone => exact zwMatrixDone_sound h
  | zwAdd | zwSub | zwAnd | zwOr | zwXor | zwShl | zwShr | zwSar | zwMul | zwMin | zwMax => exact zwAlu_sound h
  | zwAddi | zwLi | zwLd | zwSt | zwBr | zwBrp | zwBrnp | zwLoop | zwCall | zwRet | zwBar | zwHalt
    | zwVld | zwVst | zwVcvt | zwVsfu | zwVquant | zwXfence => exact zwSlot_sound h
  | zwCmpeq | zwCmplt | zwCmpltu => exact zwCmp_sound h
  | zwTzero | zwMma | zwTout | zwTimg | zwTadd | zwTpre => exact zwMatrix_sound h
  | zwVadd | zwVsub | zwVmul | zwVmax | zwVmin | zwVfma => exact zwLanes_sound h
  | zwXcopy | zwXsend | zwXstream | zwXappend | zwXgallery => exact zwExchange_sound h
  | zmAdd | zmSub | zmAnd | zmOr | zmXor | zmSll | zmSrl | zmSra | zmMul | zmMulhu | zmSltu | zmSlt
    | zmMinu | zmMaxu | zmDivu => exact zmAlu_sound h
  | zmAddi | zmAndi | zmOri | zmXori | zmSlli | zmSrli | zmSrai | zmSltiu => exact zmImm_sound h
  | zmLui | zmQcnt => exact zmRun_sound h fun _ hq => Sequencer.put_fits hq _ _
  | zmLd | zmLdb => exact zmRun_sound h fun _ hq => .ite (Sequencer.put_fits hq _ _) trivial
  | zmSt | zmStb => exact zmRun_sound h fun _ hq => .ite hq trivial
  | zmTld => exact zmTld_sound h
  | zmQput => exact zmQput_sound h
  | zmQget => exact zmQget_sound h
  | zmTnow => exact zmTnow_sound h
  | zmTset | zmJr | zmOut => exact zmRun_sound h fun _ hq => hq
  | zmBeq | zmBne | zmBltu | zmBgeu | zmBlt | zmBge => exact zmBranch_sound h
  | zmJal => exact zmRun_sound h fun _ hq => hq.setReg _ _
  | zmEnd | zmTrap => exact zmRun_sound h fun _ _ => trivial
  | vauxLoss => exact .next (resetNow_sound (s := s))
  | destPhaseTimeout => exact .next <| destTimeout_sound h
  | homeUpdateAck => exact .absent <| receive_sound h (fun _ hu => homeUpdateAck_only.sound hu)
  | closeNoteRetry => exact .next <| closeNoteAgain_only.sound h
  | ckpCutAtPt => exact .next <| cutAtPt_sound h
  | snapshotAtPt => exact .next <| .ite h (snapNow_only.sound h)
  | patchReadDone => exact .guard <| patchRead_only.sound h
  | hotListReadDone => exact .guard <| hotListRead_only.sound h
  | debugUnlock => exact .next <| debugUnlock_only.sound h

end

/-- Settles O53: with no command waiting the state stands; else the front command answers with a sound state, because
each operation that a command is made of keeps the state sound (`exec_sound`). -/
theorem stepsKeepTheStateSound : Obligations.StepsKeepTheStateSound := by
  intro s s' h hs
  cases hp : s.pending with
  | nil =>
    simp only [step, hp, Host.Outcome.next.injEq] at hs
    exact hs ▸ h
  | cons c cs =>
    simp only [step, hp] at hs
    exact (exec_sound c (s := { s with pending := cs }) h).of_next s' hs

end Sys2Proof.Machine

namespace Sys2Proof.Machine
-- In order, as in the tests: many proofs at once would each wait for the others in a thread of its own.
set_option Elab.async false

/-! ### Machine arithmetic as the words of a width (R206, R220)

The model computes on naturals and reduces the result; a statement computes on words. `toMod` is `BitVec.ofInt`, `signed`
is `BitVec.toInt`, and each operation on the values of words is the word operation's value. -/

section Words
variable {w : Nat}

theorem toMod_eq_ofInt (w : Nat) (v : Int) : toMod w v = (BitVec.ofInt w v).toNat := by
  rw [toMod, BitVec.toNat_ofInt]
  push_cast
  rfl

theorem signed_eq_toInt (hw : 0 < w) (v : Nat) : signed w v = (BitVec.ofNat w v).toInt := by
  have hp : 2 ^ w = 2 * 2 ^ (w - 1) := (mul_pow_sub_one hw.ne' 2).symm
  rw [signed, BitVec.toInt_eq_toNat_cond, BitVec.toNat_ofNat]
  exact if_congr (by omega) rfl rfl

theorem signed_toNat (hw : 0 < w) (a : BitVec w) : signed w a.toNat = a.toInt := by
  rw [signed_eq_toInt hw, BitVec.ofNat_toNat, BitVec.setWidth_eq]

/-- An immediate's sign extension. -/
theorem toMod_signed (n : Nat) (hw : 0 < w) (imm : Nat) :
    toMod n (signed w imm) = ((BitVec.ofNat w imm).signExtend n).toNat := by
  rw [toMod_eq_ofInt, signed_eq_toInt hw]
  rfl

theorem toMod_natCast (w v : Nat) : toMod w v = v % 2 ^ w := by
  rw [toMod_eq_ofInt, BitVec.ofInt_natCast, BitVec.toNat_ofNat]

theorem toMod_sub (a b : BitVec w) : toMod w ((a.toNat : Int) - b.toNat) = (a - b).toNat := by
  rw [toMod_eq_ofInt, Int.sub_eq_add_neg, BitVec.ofInt_add, BitVec.ofInt_neg, BitVec.ofInt_natCast, BitVec.ofInt_natCast,
    BitVec.ofNat_toNat, BitVec.ofNat_toNat, BitVec.setWidth_eq, BitVec.setWidth_eq, BitVec.sub_eq_add_neg]

theorem toMod_sshiftRight (hw : 0 < w) (a : BitVec w) (n : Nat) :
    toMod w (signed w a.toNat / 2 ^ n) = (a.sshiftRight n).toNat := by
  rw [toMod_eq_ofInt, signed_toNat hw, BitVec.sshiftRight, Int.shiftRight_eq_div_pow]
  push_cast
  rfl

theorem ofNat_shl (a : BitVec w) (n : Nat) : BitVec.ofNat w (a.toNat * 2 ^ n) = a <<< n := by
  apply BitVec.eq_of_toNat_eq
  simp [Nat.shiftLeft_eq]

theorem ofNat_shr (a : BitVec w) (n : Nat) : BitVec.ofNat w (a.toNat / 2 ^ n) = a >>> n := by
  rw [← Nat.shiftRight_eq_div_pow, ← BitVec.toNat_ushiftRight, BitVec.ofNat_toNat, BitVec.setWidth_eq]

theorem ofNat_and (a : BitVec w) (v : Nat) : BitVec.ofNat w (a.toNat &&& v) = a &&& BitVec.ofNat w v := by
  simp

theorem ofNat_or (a : BitVec w) (v : Nat) : BitVec.ofNat w (a.toNat ||| v) = a ||| BitVec.ofNat w v := by
  simp

theorem ofNat_xor (a : BitVec w) (v : Nat) : BitVec.ofNat w (a.toNat ^^^ v) = a ^^^ BitVec.ofNat w v := by
  simp

theorem signed_lt (hw : 0 < w) (a b : BitVec w) : decide (signed w a.toNat < signed w b.toNat) = a.slt b := by
  rw [signed_toNat hw, signed_toNat hw]
  rfl

theorem signed_le (hw : 0 < w) (a b : BitVec w) : decide (signed w a.toNat ≤ signed w b.toNat) = a.sle b := by
  rw [signed_toNat hw, signed_toNat hw]
  rfl

theorem toNat_beq (a b : BitVec w) : (a.toNat == b.toNat) = (a == b) := by
  rw [Bool.beq_eq_decide_eq, Bool.beq_eq_decide_eq]
  exact decide_eq_decide.2 BitVec.toNat_inj

theorem ofNat_toMod {v : Int} {a : BitVec w} (h : toMod w v = a.toNat) : BitVec.ofNat w (toMod w v) = a := by
  rw [h, BitVec.ofNat_toNat, BitVec.setWidth_eq]

end Words

end Sys2Proof.Machine

namespace Sys2Proof.Machine
-- In order, as in the tests: many proofs at once would each wait for the others in a thread of its own.
set_option Elab.async false

/-! ### What a run's end and its fault leave alone (R223, R224)

The actions of a place never touch a sequencer: each one's frame leaves the sequencers out. -/

/-- A frame of every part but the sequencers. -/
def State.besideSeqrs (s t : State) : State := { t with sequencers := s.sequencers }

section Places
variable {s : State} {sd die chan n : Nat}

theorem State.tierPolicy_only {asks : List (Nat × Nat × Option Nat)} {fault : Bool} :
    Only State.besideSeqrs s (s.tierPolicy sd asks fault) := by
  unfold State.tierPolicy
  extract_lets d u v w
  have hv : Only State.besideSeqrs s v := (show Only State.besideSeqrs s u from rfl).then flagIf_only
  have hw : v.Asks w := .ite (.defaultPolicy sd) (.foldl (fun _ _ => .ite .requestCage (.dropRequest _)) _ _)
  exact (hv.then hw.only).set rfl

theorem State.policyEnd_only {asks : List (Nat × Nat × Option Nat)} {fault : Bool} :
    Only State.besideSeqrs s (s.policyEnd sd asks fault) := by
  unfold State.policyEnd
  extract_lets waiting u
  exact (show Only State.besideSeqrs s u from tierPolicy_only).set rfl

theorem State.schedule_only : Only State.besideSeqrs s (s.schedule die) := by
  unfold State.schedule
  split
  · exact .refl
  next k _ =>
    extract_lets n urgent
    refine .foldl (fun u c => ?_) _
    extract_lets ch v
    have hv : Only State.besideSeqrs u v := .ite addRegFld_only.mono .refl
    exact .ite .refl (.ite rfl (hv.set rfl))

theorem State.unpinPage_only {page : Nat} : Only State.besideSeqrs s (s.unpinPage page) := by
  unfold State.unpinPage
  split
  · exact .refl
  next l _ =>
    have hu : Only State.besideSeqrs s (s.putLeaf page { l with pins := l.pins - 1 }) := rfl
    exact .ite (hu.then freePage_only) hu

theorem State.poisonPage_only {page : Nat} : Only State.besideSeqrs s (s.poisonPage page) := by
  unfold State.poisonPage
  split
  · exact .refl
  next l _ =>
    extract_lets n u
    have hu : Only State.besideSeqrs s u := rfl
    exact .ite .refl ((hu.then setFlag_only).then logError_only)

theorem State.hoistEnd_only {status addr : Nat} : Only State.besideSeqrs s (s.hoistEnd die chan status addr) := by
  unfold State.hoistEnd
  extract_lets c u v w hit x
  split
  · exact .refl
  · have hv : Only State.besideSeqrs s v :=
      (show Only State.besideSeqrs s u from rfl).set (.foldl (fun _ _ => unpinPage_only) _)
    have hwindow (u : State) (k : Nat × Nat) : Only State.besideSeqrs u (u.unpinWindow k) := rfl
    have hw : Only State.besideSeqrs s w := hv.set (.foldl hwindow _)
    have hx : Only State.besideSeqrs s x := hw.set rfl
    exact .set (.ite ((hx.set (.foldl (fun _ _ => poisonPage_only) _)).then setFlag_only) (hx.then flagIf_only))
      schedule_only

theorem State.hoistProgram_only {segs : List (Nat × Nat)} {fault : Bool} :
    Only State.besideSeqrs s (s.hoistProgram die chan segs fault) := by
  unfold State.hoistProgram
  extract_lets c
  split
  · exact .refl
  next d _ =>
    have hu : Only State.besideSeqrs s (s.putChan die chan { c with order := segs.take (d.segments - c.nextSeg) }) := rfl
    exact .ite .refl (.ite hoistEnd_only (hu.set schedule_only))

theorem State.loopFaulted_only : Only State.besideSeqrs s (s.loopFaulted n) :=
  .ite currentLoopFault_only.mono (.ite voltageLoopFault_only.mono thermalLoopFault_only.mono)

theorem State.loopEnd_only {q : Sequencer} {words : List (Nat × Nat)} :
    Only State.besideSeqrs s (s.loopEnd n q words) := by
  refine .ite (.ite rfl .refl) (.ite (.ite .refl ?_) (.ite .refl rfl))
  exact (voltagePort_only.mono.then voltagePort_only).set rfl

end Places

end Sys2Proof.Machine

namespace Sys2Proof.Machine
-- In order, as in the tests: many proofs at once would each wait for the others in a thread of its own.
set_option Elab.async false

/-! ### A word of a running sequencer (R220 to R223) -/

/-- The sequencer `q` with one more instruction counted, as its instruction finds it. -/
def Sequencer.counted (q : Sequencer) : Sequencer := { q with count := q.count + 1 }

/-- The sequencer `q` as the fault of its run leaves it (R223, R224). -/
def Sequencer.faulted (q : Sequencer) (i code trap : Nat) : Sequencer := { q with
  running := false, pushes := [], results := [], queue := []
  words := if seqrPlace i = ZmPlace.wakeFilter then [(0, 1)] else []
  faultCode := code, trapCode := if code = 7 then trap % 256 else q.trapCode, faultPc := q.pc % 4096, faultRun := q.runs }

/-- The sequencer `q` as the end of its run leaves it (R223). -/
def Sequencer.ended (q : Sequencer) : Sequencer :=
  { q with running := false, queue := q.pushes, words := q.results, pushes := [], results := [] }

section Registers
variable {q : Sequencer} {rd v w : Nat}

theorem Sequencer.reg_setReg (q : Sequencer) (rd v r : Nat) :
    (q.setReg rd v).reg r = if r = rd ∧ r ≠ 0 then v % 2 ^ 32 else q.reg r := by
  unfold Sequencer.setReg Sequencer.reg
  by_cases hrd : rd = 0
  · simp only [hrd, if_true, ne_eq, and_not_self, if_false]
  · by_cases hr : r = 0
    · simp only [hr, if_true, ne_eq, not_true, and_false, if_false]
    · rw [if_neg hr, if_neg hrd, if_neg hr]
      exact (agetD_putReg q.regs rd (v % 2 ^ 32) r).trans (if_congr (by simp [hr]) rfl rfl)

/-- A register takes the low 32 bits. -/
theorem Sequencer.setReg_congr (h : v % 2 ^ 32 = w % 2 ^ 32) : q.setReg rd v = q.setReg rd w := by
  unfold Sequencer.setReg
  rw [h]

theorem Sequencer.setReg_counted : q.counted.setReg rd v = (q.setReg rd v).counted := by
  unfold Sequencer.setReg
  split <;> rfl

/-- A register write leaves the rest of its sequencer. -/
theorem Sequencer.setReg_frame : q.setReg rd v = { q with regs := (q.setReg rd v).regs } := by
  unfold Sequencer.setReg
  split <;> rfl

theorem Sequencer.setReg_pc : (q.setReg rd v).pc = q.pc := by rw [Sequencer.setReg_frame]

theorem Sequencer.setReg_count : (q.setReg rd v).count = q.count := by rw [Sequencer.setReg_frame]

theorem Sequencer.wrote_none : q.wrote 0 0 = { q with pc := (q.pc + 1) % 2 ^ 32 } := rfl

theorem w32_natCast (v : Nat) : w32 v = v % 2 ^ 32 := toMod_natCast 32 v

theorem Sequencer.go_counted : q.counted.go = .next (q.wrote 0 0).counted := by
  rw [Sequencer.go, ← Nat.cast_one, ← Nat.cast_add, w32_natCast]
  rfl

theorem Sequencer.put_eq : q.put rd v = .next { q.setReg rd v with pc := w32 (q.pc + 1) } := by
  rw [Sequencer.put, Sequencer.go, Sequencer.setReg_pc]

theorem Sequencer.put_counted : q.counted.put rd v = .next (q.wrote rd v).counted := by
  rw [Sequencer.put, Sequencer.setReg_counted, Sequencer.go_counted, Sequencer.wrote_none, Sequencer.setReg_pc]
  rfl

end Registers

section Run
variable {s u : State} {i w op t code trap : Nat} {fs : List (Nat × Nat × Nat)} {f : Sequencer → ZmOut}
  {q q' : Sequencer} {x : Instr}

theorem State.seqr_zmFault (s : State) (i code trap : Nat) :
    (s.zmFault i code trap).seqr i = (s.seqr i).faulted i code trap := by
  unfold State.zmFault
  extract_lets r woken u v
  have hv : v.seqr i = r.faulted i code trap := (setFlag_only.keeps (State.seqr · i)).trans (State.seqr_putSeqr ..)
  rw [← hv]
  split
  · exact policyEnd_only.keeps (State.seqr · i)
  · exact hoistProgram_only.keeps (State.seqr · i)
  · rfl
  · rfl
  · exact loopFaulted_only.keeps (State.seqr · i)

theorem State.seqr_zmEnd (s : State) (i : Nat) (q : Sequencer) : (s.zmEnd i q).seqr i = q.ended := by
  unfold State.zmEnd
  extract_lets u
  have hu : u.seqr i = q.ended := State.seqr_putSeqr ..
  rw [← hu]
  split
  · exact policyEnd_only.keeps (State.seqr · i)
  · exact hoistProgram_only.keeps (State.seqr · i)
  · rfl
  · rfl
  · exact loopEnd_only.keeps (State.seqr · i)

theorem ZmFaults.of_next (hx : exec x s = .next (u.zmFault i code trap)) (hq : u.seqr i = q) : ZmFaults x s i code q := by
  have hs : (u.zmFault i code trap).seqr i = q.faulted i code trap := hq ▸ u.seqr_zmFault i code trap
  refine ⟨_, hx, ?_⟩
  dsimp only
  rw [hs]
  exact ⟨rfl, rfl, rfl, rfl, rfl⟩

/-- A word that leaves its run going changes its sequencer alone. -/
theorem ZmRuns.of_run (h : ZmAt s i w q) (hw : wordIs w op fs = true) (hx : exec x s = s.zmRun ⟨i, none⟩ t op fs f)
    (hf : f q.counted = .next q'.counted) : ZmRuns x s i q' :=
  ⟨_, hx.trans (State.zmRun_put h hw t hf), State.seqr_putSeqr .., fun _ hj => State.seqr_putSeqr_other _ _ hj, rfl⟩

theorem ZmFaults.of_run (h : ZmAt s i w q) (hw : wordIs w op fs = true) (hx : exec x s = s.zmRun ⟨i, none⟩ t op fs f)
    (hf : f q.counted = .fault code trap) : ZmFaults x s i code q := by
  have hrun := State.zmRun_at h hw t f
  rw [show f { q with count := q.count + 1 } = _ from hf] at hrun
  obtain ⟨-, hq, -⟩ := h
  exact .of_next (hx.trans hrun) hq

end Run

/-! ### Arithmetic (R222) -/

section Arithmetic
variable {s : State} {i w op rd ra rb imm t : Nat} {q : Sequencer} {a b v : BitVec 32} {x : Instr}

theorem ZmAt.reg_toNat (h : ZmAt s i w q) (ha : a = .ofNat 32 (q.reg ra)) : q.reg ra = a.toNat := by
  obtain ⟨_, _, _, hlt, _⟩ := h
  rw [ha, BitVec.toNat_ofNat, Nat.mod_eq_of_lt (hlt ra)]

theorem Sequencer.put_word {n : Nat} (hv : BitVec.ofNat 32 n = v) :
    q.counted.put rd n = .next (q.wrote rd v.toNat).counted := by
  rw [Sequencer.put_counted, Sequencer.wrote, Sequencer.wrote,
    Sequencer.setReg_congr (show n % 2 ^ 32 = v.toNat % 2 ^ 32 by rw [← hv, BitVec.toNat_ofNat, Nat.mod_mod])]

/-- An instruction of format R. -/
theorem zmAlu_runs {f : Nat → Nat → Nat} (h : ZmAt s i w q) (ha : q.reg ra = a.toNat) (hb : q.reg rb = b.toNat)
    (hw : wordIs w op (fieldsR rd ra rb) = true) (hx : exec x s = s.zmAlu ⟨i, none⟩ t op rd ra rb f)
    (hv : BitVec.ofNat 32 (f a.toNat b.toNat) = v) : ZmRuns x s i (q.wrote rd v.toNat) :=
  .of_run h hw hx <| Sequencer.put_word <| by
    rw [show q.counted.reg ra = _ from ha, show q.counted.reg rb = _ from hb, hv]

/-- An instruction of format I. -/
theorem zmImm_runs {f : Nat → Nat} (h : ZmAt s i w q) (ha : q.reg ra = a.toNat)
    (hw : wordIs w op (fieldsI rd ra imm) = true) (hx : exec x s = s.zmImm ⟨i, none⟩ t op rd ra imm f)
    (hv : BitVec.ofNat 32 (f a.toNat) = v) : ZmRuns x s i (q.wrote rd v.toNat) :=
  .of_run h hw hx <| Sequencer.put_word <| by rw [show q.counted.reg ra = _ from ha, hv]

theorem sra32_toNat (a : BitVec 32) (n : Nat) : BitVec.ofNat 32 (sra32 a.toNat n) = a.sshiftRight n :=
  ofNat_toMod (toMod_sshiftRight (by decide) a n)

/-- A word's immediate has the width of its field. -/
theorem imm_lt (hw : wordIs w op (fieldsI rd ra imm) = true) : imm < 2 ^ 18 := by
  simp only [wordIs, fieldsI, Bool.and_eq_true, List.all_cons, beq_iff_eq] at hw
  obtain ⟨-, -, -, hi, -⟩ := hw
  rw [← hi]
  exact Nat.mod_lt _ (by decide)

theorem sx18_eq (imm : Nat) : sx18 imm = ((BitVec.ofNat 18 imm).signExtend 32).toNat := toMod_signed 32 (by decide) imm

theorem zmArithmetic_runs (h : ZmAt s i w q) (ha : a = .ofNat 32 (q.reg ra)) (hb : b = .ofNat 32 (q.reg rb)) :
    ∀ (op : ZmIssue → Nat → Nat → Nat → Nat → Instr) (code : Nat) (v : BitVec 32),
      (op, code, v) ∈ [(Instr.zmAdd, 0x01, a + b), (Instr.zmSub, 0x02, a - b), (Instr.zmAnd, 0x03, a &&& b),
        (Instr.zmOr, 0x04, a ||| b), (Instr.zmXor, 0x05, a ^^^ b), (Instr.zmSll, 0x06, a <<< (b.toNat % 32)),
        (Instr.zmSrl, 0x07, a >>> (b.toNat % 32)), (Instr.zmSra, 0x08, a.sshiftRight (b.toNat % 32)),
        (Instr.zmMul, 0x09, a * b), (Instr.zmMulhu, 0x0a, .ofNat 32 (a.toNat * b.toNat / 2 ^ 32)),
        (Instr.zmSltu, 0x0b, if a.ult b then 1 else 0), (Instr.zmSlt, 0x0c, if a.slt b then 1 else 0),
        (Instr.zmMinu, 0x0d, if a.ule b then a else b), (Instr.zmMaxu, 0x0e, if a.ule b then b else a),
        (Instr.zmDivu, 0x0f, if b = 0 then 0xffffffff else a.udiv b)] →
      wordIs w code (fieldsR rd ra rb) = true → ZmRuns (op ⟨i, none⟩ rd ra rb t) s i (q.wrote rd v.toNat) := by
  intro op code v hop hw
  have run {x : Instr} {f : Nat → Nat → Nat} :=
    zmAlu_runs (x := x) (f := f) (t := t) (v := v) h (h.reg_toNat ha) (h.reg_toNat hb) hw
  clear ha hb h
  simp only [List.mem_cons, Prod.mk.injEq, List.not_mem_nil, or_false] at hop
  rcases hop with ⟨rfl, rfl, rfl⟩ | ⟨rfl, rfl, rfl⟩ | ⟨rfl, rfl, rfl⟩ | ⟨rfl, rfl, rfl⟩ | ⟨rfl, rfl, rfl⟩ | ⟨rfl, rfl, rfl⟩ |
    ⟨rfl, rfl, rfl⟩ | ⟨rfl, rfl, rfl⟩ | ⟨rfl, rfl, rfl⟩ | ⟨rfl, rfl, rfl⟩ | ⟨rfl, rfl, rfl⟩ | ⟨rfl, rfl, rfl⟩ |
    ⟨rfl, rfl, rfl⟩ | ⟨rfl, rfl, rfl⟩ | ⟨rfl, rfl, rfl⟩
  · exact run (show execZmAdd .. = _ from rfl) (by simp [BitVec.ofNat_add])
  · exact run (show execZmSub .. = _ from rfl) (ofNat_toMod (toMod_sub a b))
  · exact run (show execZmAnd .. = _ from rfl) (by simp)
  · exact run (show execZmOr .. = _ from rfl) (by simp)
  · exact run (show execZmXor .. = _ from rfl) (by simp)
  · exact run (show execZmSll .. = _ from rfl) (ofNat_shl ..)
  · exact run (show execZmSrl .. = _ from rfl) (ofNat_shr ..)
  · exact run (show execZmSra .. = _ from rfl) (sra32_toNat ..)
  · exact run (show execZmMul .. = _ from rfl) (by simp [BitVec.ofNat_mul])
  · exact run (show execZmMulhu .. = _ from rfl) rfl
  · exact run (show execZmSltu .. = _ from rfl) (apply_ite ..)
  · exact run (show execZmSlt .. = _ from rfl) (by rw [signed_lt (by decide)]; exact apply_ite ..)
  · exact run (show execZmMinu .. = _ from rfl) (by simp [min_def, BitVec.ule, apply_ite (BitVec.ofNat 32)])
  · exact run (show execZmMaxu .. = _ from rfl) (by simp [max_def, BitVec.ule, apply_ite (BitVec.ofNat 32)])
  · exact run (show execZmDivu .. = _ from rfl) (by
    rw [apply_ite (BitVec.ofNat 32)]
    refine if_congr (by rw [← BitVec.toNat_inj]; rfl) rfl ?_
    rw [← BitVec.toNat_udiv, BitVec.ofNat_toNat, BitVec.setWidth_eq]
    rfl)

theorem zmImmediate_runs (h : ZmAt s i w q) (ha : a = .ofNat 32 (q.reg ra)) {x : BitVec 32}
    (hx : x = (BitVec.ofNat 18 imm).signExtend 32) :
    ∀ (op : ZmIssue → Nat → Nat → Nat → Nat → Instr) (code : Nat) (v : BitVec 32),
      (op, code, v) ∈ [(Instr.zmAddi, 0x10, a + x), (Instr.zmAndi, 0x11, a &&& .ofNat 32 imm),
        (Instr.zmOri, 0x12, a ||| .ofNat 32 imm), (Instr.zmXori, 0x13, a ^^^ .ofNat 32 imm),
        (Instr.zmSlli, 0x14, a <<< (imm % 32)), (Instr.zmSrli, 0x15, a >>> (imm % 32)),
        (Instr.zmSrai, 0x16, a.sshiftRight (imm % 32)), (Instr.zmSltiu, 0x18, if a.ult (.ofNat 32 imm) then 1 else 0)] →
      wordIs w code (fieldsI rd ra imm) = true → ZmRuns (op ⟨i, none⟩ rd ra imm t) s i (q.wrote rd v.toNat) := by
  intro op code v hop hw
  have run {x : Instr} {f : Nat → Nat} := zmImm_runs (x := x) (f := f) (t := t) (v := v) h (h.reg_toNat ha) hw
  have himm : imm < 2 ^ 32 := (imm_lt hw).trans (by decide)
  simp only [List.mem_cons, Prod.mk.injEq, List.not_mem_nil, or_false] at hop
  rcases hop with ⟨rfl, rfl, rfl⟩ | ⟨rfl, rfl, rfl⟩ | ⟨rfl, rfl, rfl⟩ | ⟨rfl, rfl, rfl⟩ | ⟨rfl, rfl, rfl⟩ | ⟨rfl, rfl, rfl⟩ |
    ⟨rfl, rfl, rfl⟩ | ⟨rfl, rfl, rfl⟩
  · exact run (show execZmAddi .. = _ from rfl) (by simp [BitVec.ofNat_add, sx18_eq, hx])
  · exact run (show execZmAndi .. = _ from rfl) (ofNat_and ..)
  · exact run (show execZmOri .. = _ from rfl) (ofNat_or ..)
  · exact run (show execZmXori .. = _ from rfl) (ofNat_xor ..)
  · exact run (show execZmSlli .. = _ from rfl) (ofNat_shl ..)
  · exact run (show execZmSrli .. = _ from rfl) (ofNat_shr ..)
  · exact run (show execZmSrai .. = _ from rfl) (sra32_toNat ..)
  · refine run (show execZmSltiu .. = _ from rfl) ((apply_ite ..).trans ?_)
    rw [BitVec.ult, BitVec.toNat_ofNat, Nat.mod_eq_of_lt himm]
    rfl

end Arithmetic

/-! ### Scratch, views and queues (R220, R222, R223) -/

section Data
variable {s : State} {i w rd ra imm n t v : Nat} {q : Sequencer} {rest : List Nat}

/-- The address of a load or a store. -/
theorem zmAddress {r : Nat} (hn : n = (BitVec.ofNat 32 r + (BitVec.ofNat 18 imm).signExtend 32).toNat) :
    (r + sx18 imm) % 2 ^ 32 = n := by
  rw [hn, sx18_eq, BitVec.toNat_add, BitVec.toNat_ofNat, Nat.mod_add_mod]

theorem zmLd_cases (h : ZmAt s i w q)
    (hn : n = (BitVec.ofNat 32 (q.reg ra) + (BitVec.ofNat 18 imm).signExtend 32).toNat)
    (hw : wordIs w 0x20 (fieldsI rd ra imm) = true) :
    (n < 1024 → ZmRuns (.zmLd ⟨i, none⟩ rd ra imm t) s i (q.wrote rd (q.word n))) ∧
    (1024 ≤ n → ZmFaults (.zmLd ⟨i, none⟩ rd ra imm t) s i 2 q) := by
  have ha : (q.counted.reg ra + sx18 imm) % 2 ^ 32 = n := zmAddress hn
  refine ⟨fun hin => .of_run h hw (show execZmLd .. = _ from rfl) ?_,
    fun hout => .of_run h hw (show execZmLd .. = _ from rfl) (trap := 0) ?_⟩
  · dsimp only
    rw [ha, if_pos hin]
    exact Sequencer.put_counted
  · dsimp only
    rw [ha, if_neg (Nat.not_lt.2 hout)]

theorem zmSt_cases (h : ZmAt s i w q)
    (hn : n = (BitVec.ofNat 32 (q.reg ra) + (BitVec.ofNat 18 imm).signExtend 32).toNat)
    (hw : wordIs w 0x21 (fieldsI rd ra imm) = true) :
    (n < 1024 → ZmRuns (.zmSt ⟨i, none⟩ rd ra imm t) s i ((q.setWord n (q.reg rd)).wrote 0 0)) ∧
    (1024 ≤ n → ZmFaults (.zmSt ⟨i, none⟩ rd ra imm t) s i 2 q) := by
  have ha : (q.counted.reg ra + sx18 imm) % 2 ^ 32 = n := zmAddress hn
  refine ⟨fun hin => .of_run h hw (show execZmSt .. = _ from rfl) ?_,
    fun hout => .of_run h hw (show execZmSt .. = _ from rfl) (trap := 0) ?_⟩
  · dsimp only
    rw [ha, if_pos hin]
    exact Sequencer.go_counted (q := q.setWord n (q.reg rd))
  · dsimp only
    rw [ha, if_neg (Nat.not_lt.2 hout)]

theorem zmLdb_loads (h : ZmAt s i w q)
    (hn : n = (BitVec.ofNat 32 (q.reg ra) + (BitVec.ofNat 18 imm).signExtend 32).toNat)
    (hw : wordIs w 0x22 (fieldsI rd ra imm) = true) (hin : n < 4096) :
    ZmRuns (.zmLdb ⟨i, none⟩ rd ra imm t) s i (q.wrote rd (q.word (n / 4) / 256 ^ (n % 4) % 256)) := by
  have ha : (q.counted.reg ra + sx18 imm) % 2 ^ 32 = n := zmAddress hn
  have hb : fld (q.word (n / 4)) (8 * (n % 4) + 7) (8 * (n % 4)) = q.word (n / 4) / 256 ^ (n % 4) % 256 := by
    rw [fld, Nat.add_sub_cancel_left, pow_mul]
    rfl
  refine .of_run h hw (show execZmLdb .. = _ from rfl) ?_
  dsimp only
  rw [ha, if_pos hin, ← hb]
  exact Sequencer.put_counted

theorem zmStb_stores (h : ZmAt s i w q)
    (hn : n = (BitVec.ofNat 32 (q.reg ra) + (BitVec.ofNat 18 imm).signExtend 32).toNat)
    (hw : wordIs w 0x23 (fieldsI rd ra imm) = true) (hin : n < 4096) :
    ZmRuns (.zmStb ⟨i, none⟩ rd ra imm t) s i
      ((q.setWord (n / 4) (setFld (q.word (n / 4)) (8 * (n % 4) + 7) (8 * (n % 4)) (q.reg rd))).wrote 0 0) := by
  have ha : (q.counted.reg ra + sx18 imm) % 2 ^ 32 = n := zmAddress hn
  refine .of_run h hw (show execZmStb .. = _ from rfl) ?_
  dsimp only
  rw [ha, if_pos hin]
  exact Sequencer.go_counted (q := q.setWord (n / 4) _)

theorem zmTld_cases (h : ZmAt s i w q) (hw : wordIs w 0x24 (fieldsI rd ra imm) = true) :
    ((agetD q.views (imm / 2 ^ 14) [])[(q.reg ra + imm % 2 ^ 14) % 2 ^ 32]? = some v →
      ZmRuns (.zmTld ⟨i, none⟩ rd ra imm t) s i (q.wrote rd v)) ∧
    ((agetD q.views (imm / 2 ^ 14) [])[(q.reg ra + imm % 2 ^ 14) % 2 ^ 32]? = none →
      ZmFaults (.zmTld ⟨i, none⟩ rd ra imm t) s i 3 q) := by
  have himm : fld imm 17 14 = imm / 2 ^ 14 := Nat.mod_eq_of_lt (Nat.div_lt_of_lt_mul (imm_lt hw))
  rw [← himm]
  refine ⟨fun hv => .of_run h hw (show execZmTld .. = _ from rfl) ?_,
    fun hv => .of_run h hw (show execZmTld .. = _ from rfl) (trap := 0) ?_⟩
  · rw [show (agetD q.counted.views _ [])[(q.counted.reg ra + _) % _]? = _ from hv]
    exact Sequencer.put_counted
  · rw [show (agetD q.counted.views _ [])[(q.counted.reg ra + _) % _]? = _ from hv]

theorem zmQput_cases (h : ZmAt s i w q) (hw : wordIs w 0x28 (fieldsI rd ra imm) = true) :
    (countBy (fun p => p.1 == imm % 16) q.pushes < zmRoom (seqrPlace i) (imm % 16) →
      ZmRuns (.zmQput ⟨i, none⟩ rd ra imm t) s i
        (({ q with pushes := q.pushes ++ [(imm % 16, q.reg ra)] } : Sequencer).wrote rd 1)) ∧
    (zmRoom (seqrPlace i) (imm % 16) ≤ countBy (fun p => p.1 == imm % 16) q.pushes →
      Completes (.zmQput ⟨i, none⟩ rd ra imm t) s fun s' =>
        s'.seqr i = { q.wrote rd 0 with count := q.count + 1 } ∧ s'.mem = s.mem) := by
  refine ⟨fun hroom => .of_run h hw (show execZmQput .. = _ from rfl) ?_, fun hfull => ?_⟩
  · dsimp only
    rw [if_pos (show countBy _ q.counted.pushes < _ from hroom)]
    exact Sequencer.put_counted (q := { q with pushes := q.pushes ++ [(imm % 16, q.reg ra)] })
  · refine ⟨_, (show execZmQput .. = _ from rfl).trans (State.zmRun_at h hw t _), ?_⟩
    dsimp only
    rw [if_neg (Nat.not_lt.2 hfull)]
    refine ⟨(State.setFlag_only.keeps (State.seqr · i)).trans ((State.seqr_putSeqr ..).trans ?_),
      State.setFlag_only.keeps State.mem⟩
    exact (ZmOut.next.inj (Sequencer.put_eq.symm.trans Sequencer.put_counted)).trans (by
      rw [Sequencer.counted, Sequencer.wrote, Sequencer.setReg_count])

theorem zmQget_cases (h : ZmAt s i w q) (hw : wordIs w 0x29 [(25, 22, rd), (17, 0, imm)] = true) :
    (agetD q.inputs (imm % 16) [] = v :: rest →
      ZmRuns (.zmQget ⟨i, none⟩ rd imm t) s i
        (({ q with inputs := aset q.inputs (imm % 16) rest } : Sequencer).wrote rd v)) ∧
    (agetD q.inputs (imm % 16) [] = [] → ZmFaults (.zmQget ⟨i, none⟩ rd imm t) s i 4 q) := by
  refine ⟨fun hv => .of_run h hw (show execZmQget .. = _ from rfl) ?_,
    fun hv => .of_run h hw (show execZmQget .. = _ from rfl) (trap := 0) ?_⟩
  · rw [show agetD q.counted.inputs _ _ = _ from hv]
    exact Sequencer.put_counted (q := { q with inputs := aset q.inputs (imm % 16) rest })
  · rw [show agetD q.counted.inputs _ _ = _ from hv]

theorem zmTnow_reads (h : ZmAt s i w q) (hw : wordIs w 0x2c [(25, 22, rd), (17, 0, imm)] = true) :
    (imm = 0 → ZmRuns (.zmTnow ⟨i, none⟩ rd imm t) s i (q.wrote rd (max s.pt t))) ∧
    (imm = 1 → ZmRuns (.zmTnow ⟨i, none⟩ rd imm t) s i (q.wrote rd (max s.pt t / 2 ^ 32))) := by
  constructor <;> rintro rfl
  · exact .of_run h hw (show execZmTnow .. = _ from rfl) Sequencer.put_counted
  · exact .of_run h hw (show execZmTnow .. = _ from rfl) Sequencer.put_counted

theorem zmTset_sets (h : ZmAt s i w q)
    (hn : n = (BitVec.ofNat 32 (q.reg ra) + (BitVec.ofNat 18 imm).signExtend 32).toNat)
    (hw : wordIs w 0x2d [(21, 18, ra), (17, 0, imm)] = true) :
    ZmRuns (.zmTset ⟨i, none⟩ ra imm t) s i
      (({ q with nextBy := some (max s.pt t + n * 1000) } : Sequencer).wrote 0 0) := by
  have ha : (q.counted.reg ra + sx18 imm) % 2 ^ 32 = n := zmAddress hn
  refine .of_run h hw (show execZmTset .. = _ from rfl) ?_
  rw [ha]
  exact Sequencer.go_counted (q := { q with nextBy := some (max s.pt t + n * 1000) })

theorem zmOut_writes (h : ZmAt s i w q) (hw : wordIs w 0x38 [(21, 18, ra), (17, 0, imm)] = true) :
    ZmRuns (.zmOut ⟨i, none⟩ ra imm t) s i (({ q with
      results := aset q.results ((BitVec.ofNat 18 imm).signExtend 32).toNat (q.reg ra) } : Sequencer).wrote 0 0) := by
  rw [← sx18_eq]
  exact .of_run h hw (show execZmOut .. = _ from rfl)
    (Sequencer.go_counted (q := { q with results := aset q.results (sx18 imm) (q.reg ra) }))

end Data

/-- Settles O48: a lemma for each format of arithmetic and for each word that moves data; an equation of `BitVec` says what
each operation on naturals is on words. -/
theorem zmComputesAndMovesData : Obligations.ZmComputesAndMovesData := by
  unfold Obligations.ZmComputesAndMovesData
  refine ⟨⟨Sequencer.reg_setReg, fun s i w rd ra rb imm t q a b x h ha hb hx => ?_⟩,
    fun s i w rd ra imm n t v q rest h hn => ?_⟩
  · exact ⟨zmArithmetic_runs h ha hb, zmImmediate_runs h ha hx,
      fun hw => .of_run h hw (show execZmLui .. = _ from rfl) Sequencer.put_counted⟩
  · exact ⟨zmLd_cases h hn, zmSt_cases h hn, zmLdb_loads h hn, zmStb_stores h hn, zmTld_cases h, zmQput_cases h,
      zmQget_cases h, fun hw => .of_run h hw (show execZmQcnt .. = _ from rfl) Sequencer.put_counted, zmTnow_reads h,
      zmTset_sets h hn, zmOut_writes h⟩

end Sys2Proof.Machine

namespace Sys2Proof.Machine
-- In order, as in the tests: many proofs at once would each wait for the others in a thread of its own.
set_option Elab.async false

/-! ### Branches and jumps (R221, R222) -/

section Control
variable {s u : State} {i w op ra rb off imm t : Nat} {q : Sequencer} {a b : BitVec 32} {x : Instr} {z : ZmImage}
  {r : ZmStart}

/-- The word `off` words from the current one. -/
theorem w32_jump {n : Nat} (hn : 0 < n) (pc off : Nat) :
    w32 (pc + signed n off) = (((pc : Int) + (BitVec.ofNat n off).toInt) % 2 ^ 32).toNat := by
  rw [signed_eq_toInt hn]
  rfl

/-- A branch of format B. -/
theorem zmBranch_runs {c : Nat → Nat → Bool} {taken : Bool} (h : ZmAt s i w q) (ha : q.reg ra = a.toNat)
    (hb : q.reg rb = b.toNat) (hw : wordIs w op (fieldsB ra rb off) = true)
    (hx : exec x s = s.zmBranch ⟨i, none⟩ t op ra rb off c) (hc : c a.toNat b.toNat = taken) :
    ZmRuns x s i { q with
      pc := if taken then (((q.pc : Int) + (BitVec.ofNat 18 off).toInt) % 2 ^ 32).toNat else (q.pc + 1) % 2 ^ 32 } := by
  refine .of_run h hw hx ?_
  rw [show q.counted.reg ra = _ from ha, show q.counted.reg rb = _ from hb, hc, Sequencer.branch,
    ← w32_jump (by decide)]
  cases taken with
  | true => rfl
  | false => exact Sequencer.go_counted

theorem zmBranches_run (h : ZmAt s i w q) (ha : a = .ofNat 32 (q.reg ra)) (hb : b = .ofNat 32 (q.reg rb)) :
    ∀ (op : ZmIssue → Nat → Nat → Nat → Nat → Instr) (code : Nat) (taken : Bool),
      (op, code, taken) ∈ [(Instr.zmBeq, 0x30, a == b), (Instr.zmBne, 0x31, a != b), (Instr.zmBltu, 0x32, a.ult b),
        (Instr.zmBgeu, 0x33, b.ule a), (Instr.zmBlt, 0x34, a.slt b), (Instr.zmBge, 0x35, b.sle a)] →
      wordIs w code (fieldsB ra rb off) = true →
      ZmRuns (op ⟨i, none⟩ ra rb off t) s i { q with
        pc := if taken then (((q.pc : Int) + (BitVec.ofNat 18 off).toInt) % 2 ^ 32).toNat else (q.pc + 1) % 2 ^ 32 } := by
  intro op code taken hop hw
  have run {x : Instr} {c : Nat → Nat → Bool} :=
    zmBranch_runs (x := x) (c := c) (t := t) (taken := taken) h (h.reg_toNat ha) (h.reg_toNat hb) hw
  simp only [List.mem_cons, Prod.mk.injEq, List.not_mem_nil, or_false] at hop
  rcases hop with ⟨rfl, rfl, rfl⟩ | ⟨rfl, rfl, rfl⟩ | ⟨rfl, rfl, rfl⟩ | ⟨rfl, rfl, rfl⟩ | ⟨rfl, rfl, rfl⟩ | ⟨rfl, rfl, rfl⟩
  · exact run (show execZmBeq .. = _ from rfl) (toNat_beq a b)
  · exact run (show execZmBne .. = _ from rfl) (congrArg (!·) (toNat_beq a b))
  · exact run (show execZmBltu .. = _ from rfl) rfl
  · exact run (show execZmBgeu .. = _ from rfl) rfl
  · exact run (show execZmBlt .. = _ from rfl) (signed_lt (by decide) a b)
  · exact run (show execZmBge .. = _ from rfl) (signed_le (by decide) b a)

theorem zmJal_runs (h : ZmAt s i w q) (hw : wordIs w 0x36 [(25, 0, off)] = true) :
    ZmRuns (.zmJal ⟨i, none⟩ off t) s i
      { q.setReg 15 (q.pc + 1) with pc := (((q.pc : Int) + (BitVec.ofNat 26 off).toInt) % 2 ^ 32).toNat } := by
  rw [← w32_jump (by decide)]
  refine .of_run h hw (show execZmJal .. = _ from rfl) ?_
  dsimp only
  rw [Sequencer.setReg_counted]
  rfl

theorem zmJr_runs (h : ZmAt s i w q) (hw : wordIs w 0x37 [(21, 18, ra)] = true) :
    ZmRuns (.zmJr ⟨i, none⟩ ra t) s i { q with pc := q.reg ra } :=
  .of_run h hw (show execZmJr .. = _ from rfl) rfl

/-! ### The end of a run and its faults (R223) -/

theorem zmEnd_ends (h : ZmAt s i w q) (hw : wordIs w 0x3e [] = true) :
    Completes (.zmEnd ⟨i, none⟩ t) s fun s' =>
      (s'.seqr i).running = false ∧ (s'.seqr i).queue = q.pushes ∧ (s'.seqr i).words = q.results ∧
      (s'.seqr i).faultCode = q.faultCode := by
  refine ⟨_, (show execZmEnd .. = _ from rfl).trans (State.zmRun_at h hw t _), ?_⟩
  dsimp only
  rw [State.seqr_zmEnd]
  exact ⟨rfl, rfl, rfl, rfl⟩

theorem zmTrap_faults (h : ZmAt s i w q) (hw : wordIs w 0x3f [(17, 0, imm)] = true) :
    ZmFaults (.zmTrap ⟨i, none⟩ imm t) s i 7 q ∧
      Completes (.zmTrap ⟨i, none⟩ imm t) s fun s' => (s'.seqr i).trapCode = imm % 256 := by
  have hx : exec (.zmTrap ⟨i, none⟩ imm t) s = .next ((s.stamp t).zmFault i 7 imm) :=
    (show execZmTrap .. = _ from rfl).trans (State.zmRun_at h hw t _)
  obtain ⟨-, hq, -⟩ := h
  exact ⟨.of_next hx hq, _, hx, congrArg Sequencer.trapCode (State.seqr_zmFault ..)⟩

/-- A run whose word cannot execute faults, whichever instruction arrives. -/
theorem zmEnd_faults {code : Nat} (hx : seqrExists s.cds i = true) (hq : s.seqr i = q) (hr : q.running = true)
    (hf : ∀ op fs f, (s.stamp t).zmStep i op fs f = (s.stamp t).zmFault i code 0) :
    ZmFaults (.zmEnd ⟨i, none⟩ t) s i code q := by
  have hrun : ((s.stamp t).seqr i).running = true := hq ▸ hr
  refine .of_next (u := s.stamp t) (trap := 0) ?_ hq
  refine (show execZmEnd .. = _ from rfl).trans ((if_neg (by simp [hx])).trans ?_)
  dsimp only
  rw [if_pos hrun, hf]

theorem State.zmStep_outside (hq : u.seqr i = q) (hz : q.image = some z) (hc : z.code[q.pc]? = none) (op : Nat)
    (fs : List (Nat × Nat × Nat)) (f : Sequencer → ZmOut) : u.zmStep i op fs f = u.zmFault i 6 0 := by
  simp only [State.zmStep, hq, hz, hc]

theorem State.zmStep_overrun (hq : u.seqr i = q) (hz : q.image = some z) (hc : z.code[q.pc]? = some w)
    (hl : z.limit ≤ q.count) (op : Nat) (fs : List (Nat × Nat × Nat)) (f : Sequencer → ZmOut) :
    u.zmStep i op fs f = u.zmFault i 5 0 := by
  simp only [State.zmStep, hq, hz, hc, hl, if_true]

theorem State.zmStep_illegal (hq : u.seqr i = q) (hz : q.image = some z) (hc : z.code[q.pc]? = some w)
    (hl : q.count < z.limit) (hi : zmIllegal z.place w = true) (op : Nat) (fs : List (Nat × Nat × Nat))
    (f : Sequencer → ZmOut) : u.zmStep i op fs f = u.zmFault i 1 0 := by
  simp only [State.zmStep, hq, hz, hc, Nat.not_le.2 hl, hi, if_false, if_true]

theorem State.zmStep_next {fs : List (Nat × Nat × Nat)} {f : Sequencer → ZmOut} {q' : Sequencer} (hq : u.seqr i = q)
    (hz : q.image = some z) (hc : z.code[q.pc]? = some w) (hl : q.count < z.limit) (hi : zmIllegal z.place w = false)
    (hw : wordIs w op fs = true) (hf : f q.counted = .next q') : u.zmStep i op fs f = u.putSeqr i q' := by
  simp only [Sequencer.counted, hz] at hf
  simp only [State.zmStep, hq, hz, hc, Nat.not_le.2 hl, hi, hw, hf, if_false, Bool.not_true, Bool.false_eq_true]

/-! ### The start of a run (R226) -/

/-- The sequencer `q` as a run of the image `z` starts on it, with what its place leaves in registers and scratch. -/
def Sequencer.started (q : Sequencer) (z : ZmImage) (r : ZmStart) (regs scratch : List (Nat × Nat)) : Sequencer := { q with
  prog := r.prog, running := true, image := some z, chan := r.chan, pc := z.entry, count := 0, regs := regs
  scratch := scratch, views := r.views, inputs := r.inputs, pushes := [], results := [], runs := (q.runs + 1) % 2 ^ 32 }

/-- A run that may start takes the image now in force, and stands at its entry. -/
theorem State.zmStart_starts (hq : u.seqr i = q) (hr : q.running = false) (hp : seqrPlace i = z.place)
    (hl : z.place ≠ .powerLoop) (hz : aget u.programs r.prog = some z) (hs : u.seqrServes i r = true) :
    ∃ regs scratch, (u.zmStart i r).seqr i = q.started z r regs scratch := by
  have himg : (if seqrPlace i = .powerLoop then r.loop else aget u.programs r.prog) = some z := by
    rw [if_neg (hp ▸ hl), hz]
  have hown : (z.place != seqrPlace i || !u.seqrServes i r) = false := by simp [hs, hp]
  suffices hv : ∀ v : State, (∃ regs scratch, v.seqr i = q.started z r regs scratch) → ∀ d : StateDie,
      ∃ regs scratch, (if seqrPlace i = .tierPolicy then v.putSd (i / 16) d else v).seqr i = q.started z r regs scratch by
    unfold State.zmStart
    dsimp only
    rw [himg, hq]
    dsimp only
    rw [hr, hown]
    exact hv _ ⟨_, _, State.seqr_putSeqr ..⟩ _
  rintro v ⟨regs, scratch, hv⟩ d
  refine ⟨regs, scratch, ?_⟩
  split
  · exact hv
  · exact hv

theorem zmStart_runs (hx : seqrExists s.cds i = true) (hq : s.seqr i = q) (hr : q.running = false)
    (hp : seqrPlace i = z.place) (hpl : z.place ≠ .powerLoop) (hz : aget s.programs r.prog = some z)
    (hs : s.seqrServes i r = true) (hc : z.code[z.entry]? = some w) (hl : 0 < z.limit)
    (hi : zmIllegal z.place w = false) (hw : wordIs w 0x10 (fieldsI 1 0 imm) = true) :
    Completes (.zmAddi ⟨i, some r⟩ 1 0 imm t) s fun s' =>
      (s'.seqr i).running = true ∧ (s'.seqr i).image = some z ∧ (s'.seqr i).prog = r.prog ∧
      (s'.seqr i).views = r.views ∧ (s'.seqr i).pc = (z.entry + 1) % 2 ^ 32 ∧ (s'.seqr i).count = 1 ∧
      (s'.seqr i).runs = (q.runs + 1) % 2 ^ 32 ∧
      (s'.seqr i).reg 1 = ((BitVec.ofNat 18 imm).signExtend 32).toNat := by
  obtain ⟨regs, scratch, hv⟩ := State.zmStart_starts (u := s.stamp t) hq hr hp hpl hz hs
  have hstep := State.zmStep_next (op := 0x10) (f := fun q => q.put 1 (q.reg 0 + sx18 imm)) hv rfl hc hl hi hw
    Sequencer.put_counted
  have he : exec (.zmAddi ⟨i, some r⟩ 1 0 imm t) s = .next _ :=
    (show execZmAddi .. = _ from rfl).trans <| (if_neg (by simp [hx])).trans <|
      congrArg Host.Outcome.next <| (if_pos (hv ▸ rfl)).trans hstep
  refine ⟨_, he, ?_⟩
  dsimp only
  rw [State.seqr_putSeqr, Sequencer.wrote, Sequencer.setReg_frame]
  refine ⟨rfl, rfl, rfl, rfl, rfl, rfl, rfl, ?_⟩
  refine (Sequencer.reg_setReg (q.started z r regs scratch) 1 _ 1).trans ?_
  rw [if_pos ⟨rfl, one_ne_zero⟩, show Sequencer.reg _ 0 = 0 from rfl, Nat.zero_add, sx18_eq,
    Nat.mod_eq_of_lt (BitVec.isLt _)]

end Control

/-- Settles O49: each word's lemma, the three ways in which a run's word cannot execute (`zmEnd_faults`), and the image
that a start takes (`State.zmStart_starts`). -/
theorem zmControlAndRuns : Obligations.ZmControlAndRuns := by
  unfold Obligations.ZmControlAndRuns
  intro s i w ra rb off imm t q a b
  refine ⟨fun h ha hb => ⟨zmBranches_run h ha hb, zmJal_runs h, zmJr_runs h, zmEnd_ends h, zmTrap_faults h⟩,
    fun z hx hq hr hz => ⟨fun hc => ?_, fun hc hl => ?_, fun hc hl hi => ?_⟩,
    fun z r hx hq hr hp hpl hz hs hc hl hi hw => zmStart_runs hx hq hr hp hpl hz hs hc hl hi hw⟩
  · exact zmEnd_faults hx hq hr (State.zmStep_outside (u := s.stamp t) hq hz hc)
  · exact zmEnd_faults hx hq hr (State.zmStep_overrun (u := s.stamp t) hq hz hc hl)
  · exact zmEnd_faults hx hq hr (State.zmStep_illegal (u := s.stamp t) hq hz hc hl hi)

end Sys2Proof.Machine

namespace Sys2Proof.Machine
-- In order, as in the tests: many proofs at once would each wait for the others in a thread of its own.
set_option Elab.async false

/-! ### Scalar slots (R206, R207, R212) -/

theorem WRegs.s_write_scalar (w : WRegs) (rd v r : Nat) (hrd : rd < 32) :
    (w.write (rd, v)).s r = if r = rd ∧ r ≠ 0 then v % 2 ^ 64 else w.s r := by
  unfold WRegs.write WRegs.s
  rw [if_pos hrd]
  by_cases h0 : rd = 0
  · simp only [h0, if_true, ne_eq, and_not_self, if_false]
  · by_cases hr : r = 0
    · simp only [hr, if_true, ne_eq, not_true, and_false, if_false]
    · rw [if_neg hr, if_neg h0, if_neg hr]
      exact (agetD_putReg w.scalar rd (v % 2 ^ 64) r).trans (if_congr (by simp [hr]) rfl rfl)

section Scalar
variable {s : State} {i rd ra rb imm addr t n : Nat} {c : Core} {a b v : BitVec 64} {x : Instr}

theorem ZwReady.reg_toNat (h : ZwReady s i c) (ha : a = .ofNat 64 (c.regs.s ra)) : c.regs.s ra = a.toNat := by
  obtain ⟨_, _, _, _, _, _, _, hlt⟩ := h
  rw [ha, BitVec.toNat_ofNat, Nat.mod_eq_of_lt (hlt ra)]

/-- A slot that writes one register. -/
theorem ZwRuns.of_write {slot r : Nat} (h : ZwReady s i c) (hx : ZwExecutes x s i slot c (.ok [(r, n)] [] 0)) :
    ZwRuns x s i { c with regs := c.regs.write (r, n), pc := c.after } :=
  .of_slot (q := { c with regs := c.regs.write (r, n) }) h hx (by simp) h.loops fun _ hv => hv

theorem zwAlu_runs {f : Nat → Nat → Nat} (h : ZwReady s i c) (ha : c.regs.s ra = a.toNat) (hb : c.regs.s rb = b.toNat)
    (hx : exec x s = s.zwAlu (zwOne i) t rd ra rb f) (hv : BitVec.ofNat 64 (f a.toNat b.toNat) = v) :
    ZwRuns x s i { c with regs := c.regs.write (rd, v.toNat), pc := c.after } := by
  rw [← hv, BitVec.toNat_ofNat, ← ha, ← hb]
  exact .of_write h ⟨t, _, hx, fun _ _ => rfl⟩

theorem zwCmp_runs {f : Nat → Nat → Bool} {y : Bool} (h : ZwReady s i c) (ha : c.regs.s ra = a.toNat)
    (hb : c.regs.s rb = b.toNat) (hx : exec x s = s.zwCmp (zwOne i) t rd ra rb f) (hy : f a.toNat b.toNat = y) :
    ZwRuns x s i { c with regs := c.regs.write (64 + rd % 8, if y then 2 ^ 128 - 1 else 0), pc := c.after } := by
  rw [← hy, ← ha, ← hb]
  exact .of_write h ⟨t, _, hx, fun _ _ => rfl⟩

theorem zwArithmetic_runs (h : ZwReady s i c) (ha : a = .ofNat 64 (c.regs.s ra)) (hb : b = .ofNat 64 (c.regs.s rb)) :
    ∀ (op : ZwIssue → Nat → Nat → Nat → Nat → Instr) (y : BitVec 64),
      (op, y) ∈ [(Instr.zwAdd, a + b), (Instr.zwSub, a - b), (Instr.zwAnd, a &&& b), (Instr.zwOr, a ||| b),
        (Instr.zwXor, a ^^^ b), (Instr.zwShl, a <<< (b.toNat % 64)), (Instr.zwShr, a >>> (b.toNat % 64)),
        (Instr.zwSar, a.sshiftRight (b.toNat % 64)), (Instr.zwMul, a * b),
        (Instr.zwMin, if a.sle b then a else b), (Instr.zwMax, if a.sle b then b else a)] →
      ZwRuns (op (zwOne i) rd ra rb t) s i { c with regs := c.regs.write (rd, y.toNat), pc := c.after } := by
  intro op y hop
  have run {x : Instr} {f : Nat → Nat → Nat} :=
    zwAlu_runs (x := x) (f := f) (t := t) (rd := rd) (v := y) h (h.reg_toNat ha) (h.reg_toNat hb)
  have hle : signed 64 a.toNat ≤ signed 64 b.toNat ↔ a.sle b = true := by
    rw [← signed_le (by decide), decide_eq_true_eq]
  simp only [List.mem_cons, Prod.mk.injEq, List.not_mem_nil, or_false] at hop
  rcases hop with ⟨rfl, rfl⟩ | ⟨rfl, rfl⟩ | ⟨rfl, rfl⟩ | ⟨rfl, rfl⟩ | ⟨rfl, rfl⟩ | ⟨rfl, rfl⟩ | ⟨rfl, rfl⟩ | ⟨rfl, rfl⟩ |
    ⟨rfl, rfl⟩ | ⟨rfl, rfl⟩ | ⟨rfl, rfl⟩
  · exact run (show execZwAdd .. = _ from rfl) (by simp [BitVec.ofNat_add])
  · exact run (show execZwSub .. = _ from rfl) (ofNat_toMod (toMod_sub a b))
  · exact run (show execZwAnd .. = _ from rfl) (by simp)
  · exact run (show execZwOr .. = _ from rfl) (by simp)
  · exact run (show execZwXor .. = _ from rfl) (by simp)
  · exact run (show execZwShl .. = _ from rfl) (ofNat_shl ..)
  · exact run (show execZwShr .. = _ from rfl) (ofNat_shr ..)
  · exact run (show execZwSar .. = _ from rfl) (ofNat_toMod (toMod_sshiftRight (by decide) a _))
  · exact run (show execZwMul .. = _ from rfl) (by simp [BitVec.ofNat_mul])
  · exact run (show execZwMin .. = _ from rfl) (by simp [hle, apply_ite (BitVec.ofNat 64)])
  · exact run (show execZwMax .. = _ from rfl) (by simp [hle, apply_ite (BitVec.ofNat 64)])

theorem zwComparisons_run (h : ZwReady s i c) (ha : a = .ofNat 64 (c.regs.s ra)) (hb : b = .ofNat 64 (c.regs.s rb)) :
    ∀ (op : ZwIssue → Nat → Nat → Nat → Nat → Instr) (v : Bool),
      (op, v) ∈ [(Instr.zwCmpeq, a == b), (Instr.zwCmplt, a.slt b), (Instr.zwCmpltu, a.ult b)] →
      ZwRuns (op (zwOne i) rd ra rb t) s i
        { c with regs := c.regs.write (64 + rd % 8, if v then 2 ^ 128 - 1 else 0), pc := c.after } := by
  intro op v hop
  have run {x : Instr} {f : Nat → Nat → Bool} :=
    zwCmp_runs (x := x) (f := f) (t := t) (rd := rd) (y := v) h (h.reg_toNat ha) (h.reg_toNat hb)
  simp only [List.mem_cons, Prod.mk.injEq, List.not_mem_nil, or_false] at hop
  rcases hop with ⟨rfl, rfl⟩ | ⟨rfl, rfl⟩ | ⟨rfl, rfl⟩
  · exact run (show execZwCmpeq .. = _ from rfl) (toNat_beq a b)
  · exact run (show execZwCmplt .. = _ from rfl) (signed_lt (by decide) a b)
  · exact run (show execZwCmpltu .. = _ from rfl) rfl

theorem sx41_eq (imm : Nat) : sx41 imm = ((BitVec.ofNat 41 imm).signExtend 64).toNat := toMod_signed 64 (by decide) imm

/-- The address of a load or a store. -/
theorem ZwReady.addr_eq (h : ZwReady s i c) (ha : a = .ofNat 64 (c.regs.s ra)) :
    c.regs.addr ra imm = (a + (BitVec.ofNat 41 imm).signExtend 64).toNat := by
  rw [WRegs.addr, sx41_eq, h.reg_toNat ha, BitVec.toNat_add]

/-! ### Loads and stores (R207, R212) -/

theorem zwLd_loads (h : ZwReady s i c) (ha : c.regs.addr ra imm = addr) (h8 : addr % 8 = 0)
    (hin : zwRange i addr 8 = true) :
    ZwRuns (.zwLd (zwOne i) rd ra imm t) s i
      { c with regs := c.regs.write (rd, leNat (s.zwRead i addr 8)), pc := c.after } := by
  refine .of_write h ⟨t, _, show execZwLd .. = _ from rfl, fun u hu => ?_⟩
  dsimp only
  rw [ha, show (zwOne i).core = i from rfl, hin, h8, hu.zwRead (by rw [h.core]; rfl)]
  rfl

theorem ZwExecutes.zwSt (ha : c.regs.addr ra imm = addr) (hb : c.regs.s rb = n) (h8 : addr % 8 = 0)
    (hin : zwRange i addr 8 = true) :
    ZwExecutes (.zwSt (zwOne i) ra rb imm t) s i slotScalar c (.ok [] [.store addr (leBytes 8 n)] 0) := by
  refine ⟨t, _, show execZwSt .. = _ from rfl, fun u _ => ?_⟩
  dsimp only
  rw [ha, hb, show (zwOne i).core = i from rfl, hin, h8]
  rfl

theorem zwSt_stores (h : ZwReady s i c) (ha : c.regs.addr ra imm = addr) (hb : c.regs.s rb = n) (h8 : addr % 8 = 0)
    (hin : addr + 8 ≤ 0x400000) :
    ZwRuns (.zwSt (zwOne i) ra rb imm t) s i { c with sram := memWrite c.sram addr (leBytes 8 n), pc := c.after } :=
  .of_slot (q := { c with sram := memWrite c.sram addr (leBytes 8 n) }) h
    (.zwSt ha hb h8 (zwRange_core i hin)) (List.forall_mem_singleton.2 rfl) h.loops
    fun _ hv => hv.store (lt_clusterBase hin) _

/-- A store into cluster SRAM. -/
theorem zwSt_stores_cluster (h : ZwReady s i c) (ha : c.regs.addr ra imm = addr) (hb : c.regs.s rb = n)
    (h8 : addr % 8 = 0) (hin : zwRange i addr 8 = true) (hbase : clusterBase ≤ addr) :
    Completes (.zwSt (zwOne i) ra rb imm t) s fun s' =>
      s'.clusterSram = aset s.clusterSram (i / 8)
        (memWrite (agetD s.clusterSram (i / 8) []) addr (leBytes 8 n)) ∧
      s'.core i = { c with pc := c.after } ∧ s'.mem = s.mem := by
  refine .of_slot (n := 0) h (.zwSt ha hb h8 hin) (List.forall_mem_singleton.2 rfl) fun v hv w hw => ?_
  have hw : w = { v with
      clusterSram := aset v.clusterSram (i / 8)
        (memWrite (agetD v.clusterSram (i / 8) []) addr (leBytes 8 n)) } :=
    hw.trans (if_neg (Nat.not_lt.2 hbase))
  have hc : w.core i = c := hw ▸ hv.core
  rw [hc]
  refine ⟨h.loops, ?_, State.core_putCore .., ?_⟩
  · rw [hw, show s.clusterSram = v.clusterSram from (hv.frame.keeps State.clusterSram).symm]
    rfl
  · rw [hw]
    exact hv.frame.keeps State.mem

theorem zwLd_zwSt_stop (h : ZwReady s i c) (ha : c.regs.addr ra imm = addr)
    (hbad : addr % 8 ≠ 0 ∨ zwRange i addr 8 = false) (h0 : s.s0.run = none) (h1 : s.s1.run = none) :
    ZwStops (.zwLd (zwOne i) rd ra imm t) s i 2 1 ∧ ZwStops (.zwSt (zwOne i) ra rb imm t) s i 2 1 := by
  have hb : (decide (addr % 8 ≠ 0) || !zwRange i addr 8) = true := by
    rcases hbad with hbad | hbad
    · rw [decide_eq_true hbad, Bool.true_or]
    · rw [hbad, Bool.not_false, Bool.or_true]
  have hld : ZwExecutes (.zwLd (zwOne i) rd ra imm t) s i slotScalar c (.fault 2) :=
    ⟨t, _, show execZwLd .. = _ from rfl, fun _ _ => by subst ha; exact if_pos hb⟩
  have hst : ZwExecutes (.zwSt (zwOne i) ra rb imm t) s i slotScalar c (.fault 2) :=
    ⟨t, _, show execZwSt .. = _ from rfl, fun _ _ => by subst ha; exact if_pos hb⟩
  exact ⟨.of_slot h h0 h1 hld, .of_slot h h0 h1 hst⟩

end Scalar

end Sys2Proof.Machine

namespace Sys2Proof.Machine
-- In order, as in the tests: many proofs at once would each wait for the others in a thread of its own.
set_option Elab.async false

/-! ### The pc after a bundle of one act (R213) -/

/-- What a slot does that only moves the pc, or holds it at a barrier. -/
def ZwAct.moves : ZwAct → Bool
  | .branch _ | .loop _ _ | .call _ | .ret _ | .bar _ => true
  | _ => false

/-- The core `c` with its bundle whole: what the bundle writes, and its one act. -/
def Core.holding (c : Core) (writes : List (Nat × Nat)) (a : ZwAct) : Core :=
  { c with bundle := some ⟨false, writes, [a]⟩ }

section Moves
variable {s v : State} {i k t n pc last : Nat} {c q : Core} {x : Instr} {a : ZwAct} {writes : List (Nat × Nat)}

theorem State.zwAdvance_branch : v.zwAdvance i [.branch pc] = v.putCore i { v.core i with pc := pc } := rfl

theorem State.zwAdvance_call :
    v.zwAdvance i [.call pc] = v.putCore i { v.core i with pc := pc, depth := (v.core i).depth + 1 } := rfl

theorem State.zwAdvance_ret :
    v.zwAdvance i [.ret pc] = v.putCore i { v.core i with pc := pc, depth := (v.core i).depth - 1 } := rfl

theorem State.zwAdvance_loop (hl : (v.core i).pc < last) (hn : 0 < n) :
    v.zwAdvance i [.loop last n] = v.putCore i { v.core i with
      pc := (v.core i).after, loops := ⟨(v.core i).after, last, n - 1⟩ :: (v.core i).loops } := by
  simp only [State.zwAdvance, List.findSome?_cons, Nat.not_le.2 hl, hn.ne', if_false]
  rfl

theorem State.zwAdvance_loop_none (hl : (v.core i).pc < last) :
    v.zwAdvance i [.loop last 0] = v.putCore i { v.core i with pc := (last + 64) % 2 ^ 64 } := by
  simp only [State.zwAdvance, List.findSome?_cons, Nat.not_le.2 hl, if_false, if_true]
  rfl

theorem State.zwAdvance_bar (hl : (v.core i).loops = []) :
    v.zwAdvance i [.bar k] = v.putCore i { v.core i with pc := (v.core i).after } := by
  simp only [State.zwAdvance, List.findSome?_cons, List.findSome?_nil, hl, loopNext]
  rw [← hl]
  rfl

/-- A whole bundle that only moves the pc: its writes, then the pc. -/
theorem State.zwFinish_moves (hb : (v.core i).bundle = some ⟨false, writes, [a]⟩) (ha : a.moves = true) :
    v.zwFinish i = (v.putCore i { v.core i with
      regs := writes.foldl WRegs.write (v.core i).regs, bundle := none, barrier := none }).zwAdvance i [a] := by
  have hh : [a].contains .halt = false := by
    cases a with
    | halt => cases ha
    | _ => rfl
  have hact (u : State) : [a].foldl (State.zwAct i) u = u := by
    cases a with
    | branch | loop | call | ret | bar => rfl
    | _ => cases ha
  simp only [State.zwFinish, hb, hh, Bool.false_eq_true, if_false, hact]

/-- A slot with one act makes its bundle whole. -/
theorem State.zwSlot_commits {slot : Nat} {f : State → WRegs → ZwOut} (h : ZwReady s i c)
    (hf : ∀ u, s.CoreIs i c.opened u → f u c.regs = .ok writes [a] 0) :
    ∃ v, s.CoreIs i (c.holding writes a) v ∧ v.now = t ∧ s.zwSlot (zwOne i) t slot f = .next (v.zwCommit i) := by
  obtain ⟨u, hc, ho, hu, hs⟩ := State.zwSlot_issue h t slot f
  have hu' : s.CoreIs i c.opened u := ⟨.of_cores hu, hc, ho⟩
  refine ⟨_, hu'.putCore (c.holding writes a), by rw [State.putCore_now, hu], ?_⟩
  have hw : ¬ (writes.any fun w => ([] : List (Nat × Nat)).any fun v => v.1 == w.1) = true := by simp
  rw [hs, hf u hu']
  refine congrArg Host.Outcome.next ((if_neg Bool.false_ne_true).trans ((if_neg hw).trans ((if_pos rfl).trans ?_)))
  rw [hc]
  rfl

theorem ZwRuns.of_coreIs (he : exec x s = .next v) (hv : s.CoreIs i q v) : ZwRuns x s i q :=
  ⟨v, he, hv.core, hv.other, hv.frame⟩

/-- A slot that moves the pc, and waits for no other core. -/
theorem ZwRuns.of_move {slot : Nat} (h : ZwReady s i c) (hx : ZwExecutes x s i slot c (.ok writes [a] 0))
    (ha : a.moves = true)
    (hbar : ∀ v : State, (v.core i).bundle = some ⟨false, writes, [a]⟩ → v.zwCommit i = v.zwFinish i)
    (hq : ∀ v : State, v.core i = c.wrote writes → v.zwAdvance i [a] = v.putCore i q) : ZwRuns x s i q := by
  obtain ⟨t, f, he, hf⟩ := hx
  obtain ⟨v, hv, -, hs⟩ := State.zwSlot_commits (t := t) (slot := slot) h hf
  have hb : (v.core i).bundle = some ⟨false, writes, [a]⟩ := by rw [hv.core]; rfl
  obtain ⟨_, _, _, _, hbar0, hbun0, _, _⟩ := h
  have hw : ({ v.core i with regs := writes.foldl WRegs.write (v.core i).regs, bundle := none, barrier := none } : Core) =
      c.wrote writes := by
    rw [hv.core, Core.wrote]
    simp only [Core.holding, hbar0, hbun0]
  rw [hbar v hb, State.zwFinish_moves hb ha, hw, hq _ (State.core_putCore ..)] at hs
  exact .of_coreIs (he.trans hs) ((hv.putCore _).putCore q)

end Moves

/-! ### Branches, loops and calls (R213) -/

section Branch
variable {s : State} {i off p sr k t n : Nat} {c : Core} {x : Instr} {target : Nat}

/-- The address `off` bundles from the current one. -/
theorem bundleAt_eq (pc off : Nat) :
    bundleAt pc off = (((pc : Int) + 64 * (BitVec.ofNat 20 off).toInt) % 2 ^ 64).toNat := by
  rw [bundleAt, signed_eq_toInt (by decide)]
  rfl

/-- A bundle without a BAR takes effect at once. -/
theorem State.zwCommit_of_bar {v : State} {b : Bundle} (hb : (v.core i).bundle = some b) (hbar : b.bar = none) :
    v.zwCommit i = v.zwFinish i := by
  simp only [State.zwCommit, hb, Option.bind_some, hbar]

theorem State.CoreIs.bundleAt_opened {u : State} (hu : s.CoreIs i c.opened u) (ht : bundleAt c.pc off = target) :
    bundleAt (u.core (zwOne i).core).pc off = target := by
  rw [show (zwOne i).core = i from rfl, hu.core, ← ht]
  rfl

/-- A slot that has no act: a branch not taken. -/
theorem ZwRuns.of_nothing {slot : Nat} (h : ZwReady s i c) (hx : ZwExecutes x s i slot c (.ok [] [] 0)) :
    ZwRuns x s i { c with pc := c.after } := .of_slot (q := c) h hx (by simp) h.loops fun _ hv => hv

/-- A branch taken. -/
theorem ZwRuns.of_branch {slot : Nat} (h : ZwReady s i c) (hx : ZwExecutes x s i slot c (.ok [] [.branch target] 0)) :
    ZwRuns x s i { c with pc := target } :=
  .of_move h hx rfl (fun _ hb => State.zwCommit_of_bar hb rfl) fun v hv => by rw [State.zwAdvance_branch, hv]; rfl

theorem zwBr_runs (h : ZwReady s i c) (ht : bundleAt c.pc off = target) :
    ZwRuns (.zwBr (zwOne i) off t) s i { c with pc := target } :=
  .of_branch h ⟨t, _, show execZwBr .. = _ from rfl, fun _ hu => by rw [hu.bundleAt_opened ht]⟩

theorem zwBrp_runs (h : ZwReady s i c) (ht : bundleAt c.pc off = target) :
    ZwRuns (.zwBrp (zwOne i) p off t) s i { c with pc := if bitOf (c.regs.p p) 0 then target else c.after } := by
  by_cases hp : bitOf (c.regs.p p) 0 = true
  · rw [if_pos hp]
    exact .of_branch h ⟨t, _, show execZwBrp .. = _ from rfl, fun _ hu => by rw [if_pos hp, hu.bundleAt_opened ht]⟩
  · rw [if_neg hp]
    exact .of_nothing h ⟨t, _, show execZwBrp .. = _ from rfl, fun _ _ => by rw [if_neg hp]⟩

theorem zwBrnp_runs (h : ZwReady s i c) (ht : bundleAt c.pc off = target) :
    ZwRuns (.zwBrnp (zwOne i) p off t) s i { c with pc := if bitOf (c.regs.p p) 0 then c.after else target } := by
  by_cases hp : bitOf (c.regs.p p) 0 = true
  · rw [if_pos hp]
    exact .of_nothing h ⟨t, _, show execZwBrnp .. = _ from rfl, fun _ _ => by rw [if_pos hp]⟩
  · rw [if_neg hp]
    exact .of_branch h ⟨t, _, show execZwBrnp .. = _ from rfl, fun _ hu => by rw [if_neg hp, hu.bundleAt_opened ht]⟩

theorem ZwExecutes.zwLoop (h : ZwReady s i c) (ht : bundleAt c.pc off = target) :
    ZwExecutes (.zwLoop (zwOne i) sr off t) s i slotBranch c (.ok [] [.loop target (c.regs.s sr)] 0) := by
  refine ⟨t, _, show execZwLoop .. = _ from rfl, fun u hu => ?_⟩
  have hl : (u.core i).loops = [] := by rw [hu.core]; exact h.loops
  dsimp only
  rw [hu.bundleAt_opened ht, show (zwOne i).core = i from rfl, hl]
  rfl

theorem zwLoop_enters (h : ZwReady s i c) (ht : bundleAt c.pc off = target) (hpc : c.pc < target)
    (hn : 0 < c.regs.s sr) :
    ZwRuns (.zwLoop (zwOne i) sr off t) s i
      { c with pc := c.after, loops := [⟨c.after, target, c.regs.s sr - 1⟩] } := by
  refine .of_move h (.zwLoop h ht) rfl (fun _ hb => State.zwCommit_of_bar hb rfl) fun v hv => ?_
  rw [State.zwAdvance_loop (by rw [hv]; exact hpc) hn, hv, show (c.wrote []).loops = [] from h.loops]
  rfl

theorem zwLoop_skips (h : ZwReady s i c) (ht : bundleAt c.pc off = target) (hpc : c.pc < target)
    (hn : c.regs.s sr = 0) :
    ZwRuns (.zwLoop (zwOne i) sr off t) s i { c with pc := (target + 64) % 2 ^ 64 } := by
  refine .of_move h (.zwLoop h ht) rfl (fun _ hb => State.zwCommit_of_bar hb rfl) fun v hv => ?_
  rw [hn, State.zwAdvance_loop_none (by rw [hv]; exact hpc), hv]
  rfl

theorem zwCall_calls (h : ZwReady s i c) (ht : bundleAt c.pc off = target) (hd : c.depth < 16) :
    ZwRuns (.zwCall (zwOne i) off t) s i
      { c with regs := c.regs.write (31, c.after), pc := target, depth := c.depth + 1 } := by
  have hx : ZwExecutes (.zwCall (zwOne i) off t) s i slotBranch c (.ok [(31, c.after)] [.call target] 0) := by
    refine ⟨t, _, show execZwCall .. = _ from rfl, fun u hu => ?_⟩
    have hret : w64 (c.pc + 64) = c.after := toMod_natCast 64 (c.pc + 64)
    dsimp only
    rw [hu.bundleAt_opened ht, show (zwOne i).core = i from rfl, hu.core]
    rw [show c.opened.depth = c.depth from rfl, show c.opened.pc = c.pc from rfl, if_neg (Nat.not_le.2 hd), hret]
  exact .of_move h hx rfl (fun _ hb => State.zwCommit_of_bar hb rfl) fun v hv => by rw [State.zwAdvance_call, hv]; rfl

theorem zwCall_stops (h : ZwReady s i c) (h0 : s.s0.run = none) (h1 : s.s1.run = none) (hd : 16 ≤ c.depth) :
    ZwStops (.zwCall (zwOne i) off t) s i 1 2 := by
  refine .of_slot (slot := 1) h h0 h1 ⟨t, _, show execZwCall .. = _ from rfl, fun u hu => ?_⟩
  dsimp only
  rw [show (zwOne i).core = i from rfl, hu.core]
  exact if_pos hd

theorem zwRet_returns (h : ZwReady s i c) :
    ZwRuns (.zwRet (zwOne i) t) s i { c with pc := c.regs.s 31 / 64 * 64, depth := c.depth - 1 } := by
  have hx : ZwExecutes (.zwRet (zwOne i) t) s i slotBranch c (.ok [] [.ret (c.regs.s 31 / 64 * 64)] 0) :=
    ⟨t, _, show execZwRet .. = _ from rfl, fun _ _ => rfl⟩
  exact .of_move h hx rfl (fun _ hb => State.zwCommit_of_bar hb rfl) fun v hv => by rw [State.zwAdvance_ret, hv]; rfl

end Branch

/-! ### Barriers (R213) -/

section Barrier
variable {s v : State} {i k off t : Nat} {c : Core}

/-- The bundle of a core that waits at a barrier. -/
def barBundle (k : Nat) : Bundle := ⟨false, [], [.bar k]⟩

/-- A core that goes on after a barrier. -/
def Core.released (c : Core) : Core := { c with barrier := none, bundle := none, pc := c.after }

/-- A core of no cluster does not wait. -/
theorem zwBar_control (h : ZwReady s i c) (hi : 512 ≤ i) :
    ZwRuns (.zwBar (zwOne i) off t) s i { c with pc := c.after } := by
  have hx : ZwExecutes (.zwBar (zwOne i) off t) s i slotBranch c (.ok [] [.bar (off % 16)] 0) :=
    ⟨t, _, show execZwBar .. = _ from rfl, fun _ _ => rfl⟩
  refine .of_move h hx rfl (fun v hb => ?_) fun v hv => ?_
  · have hk : Bundle.bar ⟨false, [], [.bar (off % 16)]⟩ = some (off % 16) := rfl
    simp only [State.zwCommit, hb, Option.bind_some, hk, if_pos hi]
  · rw [State.zwAdvance_bar (by rw [hv]; exact h.loops), hv]
    rfl

theorem State.zwFinish_bar (hb : (v.core i).bundle = some (barBundle k)) (hl : (v.core i).loops = []) (j : Nat) :
    (v.zwFinish i).core j = if j = i then (v.core i).released else v.core j := by
  rw [State.zwFinish_moves hb rfl, State.zwAdvance_bar (by rw [State.core_putCore]; exact hl)]
  by_cases hj : j = i
  · rw [if_pos hj, hj, State.core_putCore, State.core_putCore]
    rfl
  · rw [if_neg hj, State.core_putCore_other _ _ hj, State.core_putCore_other _ _ hj]

/-- Cores that wait at a barrier go on, one after the other. -/
theorem State.foldl_zwFinish_bar : ∀ (l : List Nat) (v : State), l.Nodup →
    (∀ j ∈ l, (v.core j).bundle = some (barBundle k) ∧ (v.core j).loops = []) → ∀ j,
    (l.foldl State.zwFinish v).core j = if j ∈ l then (v.core j).released else v.core j
  | [], v, _, _, j => by simp
  | i :: l, v, hl, hv, j => by
    obtain ⟨hi, hl⟩ := List.nodup_cons.1 hl
    obtain ⟨⟨hb, hloops⟩, hv⟩ := List.forall_mem_cons.1 hv
    have hcore := State.zwFinish_bar hb hloops
    have hne : ∀ j ∈ l, (v.zwFinish i).core j = v.core j := fun j hj => by
      rw [hcore, if_neg (ne_of_mem_of_not_mem hj hi)]
    rw [List.foldl_cons, State.foldl_zwFinish_bar l _ hl (fun j hj => by rw [hne j hj]; exact hv j hj)]
    by_cases hj : j ∈ l
    · rw [if_pos hj, if_pos (List.mem_cons_of_mem _ hj), hne j hj]
    · rw [if_neg hj, hcore]
      by_cases hji : j = i
      · rw [if_pos hji, if_pos (hji ▸ List.mem_cons_self), hji]
      · rw [if_neg hji, if_neg (List.not_mem_cons_of_ne_of_not_mem hji hj)]

/-- The logical cores of a core's cluster. -/
theorem mem_cluster {j : Nat} : j ∈ (List.range 8).map (8 * (i / 8) + ·) ↔ j / 8 = i / 8 := by
  simp only [List.mem_map, List.mem_range]
  constructor
  · rintro ⟨n, hn, rfl⟩
    omega
  · intro h
    exact ⟨j % 8, by omega, by omega⟩

theorem ZwReady.zwBar (h : ZwReady s i c) :
    ∃ v, s.CoreIs i (c.holding [] (.bar (off % 16))) v ∧ v.now = t ∧
      exec (.zwBar (zwOne i) off t) s = .next (v.zwCommit i) :=
  State.zwSlot_commits (slot := slotBranch) (f := fun _ _ => .ok [] [.bar (off % 16)] 0) h fun _ _ => rfl

/-- A core stands at a barrier. -/
def Core.atBar (c : Core) (k : Nat) : Bool := c.barrier.any fun b => b.1 == k

/-- A core reaches a barrier: its whole cluster goes on where each core of it is there. -/
theorem State.zwCommit_bar (hi : i < 512) (hv : v.core i = c.holding [] (.bar k)) :
    v.zwCommit i = if ((List.range 8).map (8 * (i / 8) + ·)).all fun j =>
        ((v.putCore i { c.holding [] (.bar k) with barrier := some (k, v.now) }).core j).atBar k
      then ((List.range 8).map (8 * (i / 8) + ·)).foldl State.zwFinish
        (v.putCore i { c.holding [] (.bar k) with barrier := some (k, v.now) })
      else v.putCore i { c.holding [] (.bar k) with barrier := some (k, v.now) } := by
  have hb : Bundle.bar ⟨false, [], [.bar k]⟩ = some k := rfl
  simp only [State.zwCommit, hv, Core.holding, Option.bind_some, hb, Nat.not_le.2 hi, if_false]
  rfl

theorem zwBar_waits (h : ZwReady s i c) (hi : i < 512) (hj : ∃ j, j / 8 = i / 8 ∧ j ≠ i ∧ (s.core j).barrier = none) :
    ZwRuns (.zwBar (zwOne i) off t) s i
      { c with barrier := some (off % 16, t), bundle := some ⟨false, [], [.bar (off % 16)]⟩ } := by
  obtain ⟨v, hv, hn, he⟩ := h.zwBar (off := off) (t := t)
  obtain ⟨j, hcl, hji, hbar⟩ := hj
  rw [State.zwCommit_bar hi hv.core, if_neg, hn] at he
  · exact .of_coreIs he (hv.putCore _)
  · intro hall
    have hat := List.all_eq_true.1 hall j (mem_cluster.2 hcl)
    rw [State.core_putCore_other _ _ hji, hv.other j hji, Core.atBar, hbar] at hat
    cases hat

theorem zwBar_releases (h : ZwReady s i c) (hi : i < 512)
    (hj : ∀ j, j / 8 = i / 8 → j ≠ i → (s.core j).loops = [] ∧
      (s.core j).bundle = some ⟨false, [], [.bar (off % 16)]⟩ ∧ ∃ u, (s.core j).barrier = some (off % 16, u)) :
    Completes (.zwBar (zwOne i) off t) s fun s' => ∀ j, j / 8 = i / 8 →
      (s'.core j).barrier = none ∧ (s'.core j).bundle = none ∧ (s'.core j).pc = (s.core j).after := by
  obtain ⟨v, hv, hn, he⟩ := h.zwBar (off := off) (t := t)
  have hw := hv.putCore { c.holding [] (.bar (off % 16)) with barrier := some (off % 16, v.now) }
  rw [State.zwCommit_bar hi hv.core] at he
  generalize v.putCore i { c.holding [] (.bar (off % 16)) with barrier := some (off % 16, v.now) } = w at he hw
  have hall : ((List.range 8).map (8 * (i / 8) + ·)).all (fun j => (w.core j).atBar (off % 16)) = true := by
    refine List.all_eq_true.2 fun j hjm => ?_
    by_cases hji : j = i
    · rw [hji, hw.core]
      exact beq_self_eq_true _
    · obtain ⟨-, -, u, hb⟩ := hj j (mem_cluster.1 hjm) hji
      rw [hw.other j hji, Core.atBar, hb]
      exact beq_self_eq_true _
  have hready : ∀ j ∈ (List.range 8).map (8 * (i / 8) + ·),
      (w.core j).bundle = some (barBundle (off % 16)) ∧ (w.core j).loops = [] := fun j hjm => by
    by_cases hji : j = i
    · rw [hji, hw.core]
      exact ⟨rfl, h.loops⟩
    · obtain ⟨hl, hb, -⟩ := hj j (mem_cluster.1 hjm) hji
      rw [hw.other j hji]
      exact ⟨hb, hl⟩
  have hnodup : ((List.range 8).map (8 * (i / 8) + ·)).Nodup :=
    (List.nodup_range).map fun _ _ => Nat.add_left_cancel
  rw [if_pos hall] at he
  refine ⟨_, he, fun j hjc => ?_⟩
  have hafter : (w.core j).after = (s.core j).after := by
    by_cases hji : j = i
    · rw [hji, hw.core, h.core]
      rfl
    · rw [hw.other j hji]
  rw [State.foldl_zwFinish_bar _ w hnodup hready, if_pos (mem_cluster.2 hjc)]
  exact ⟨rfl, rfl, hafter⟩

end Barrier

/-! ### Halt and the events of a core (R213, R217) -/

section Halt
variable {s v : State} {i code since t : Nat} {c q : Core}

/-- With no command issued a wait for engines changes nothing. -/
theorem State.matWait_empty (engines : List Nat) (hm : (v.core i).matrix = []) :
    v.matWait i engines = v.putCore i (v.core i) := by
  simp only [State.matWait, State.matComplete, hm, List.length_nil, List.take_nil, List.drop_nil, List.reverse_nil, needed,
    List.foldl_nil, List.append_nil]
  rw [← hm]

theorem State.CoreIs.matWait (h : s.CoreIs i q v) (hm : q.matrix = []) (engines : List Nat) :
    s.CoreIs i q (v.matWait i engines) := by
  rw [State.matWait_empty engines (by rw [h.core, hm]), h.core]
  exact h.putCore q

theorem State.CoreIs.zwFinish_halt (h : s.CoreIs i (c.holding [] .halt) v) (hm : c.matrix = []) (hd : c.deferred = []) :
    s.CoreIs i { c with bundle := none, barrier := none, state := .idle, loops := [], depth := 0 } (v.zwFinish i) := by
  have hu : s.CoreIs i (c.holding [] .halt) (v.matWait i [0, 1, 2, 3]) := h.matWait hm _
  have hw := (hu.putCore { c with bundle := none, barrier := none }).matWait hm [0, 1, 2, 3]
  have hx := hw.putCore { c with bundle := none, barrier := none, state := .idle, loops := [], depth := 0 }
  have hb : (v.core i).bundle = some ⟨false, [], [.halt]⟩ := by rw [h.core]; rfl
  have hh : [ZwAct.halt].contains .halt = true := rfl
  have hnone : c.deferred.head? = none := by rw [hd]; rfl
  have hact (u : State) : u.zwAct i .halt = u := rfl
  suffices he : v.zwFinish i = _ from he ▸ hx
  simp only [State.zwFinish, hb, hh, if_true, hu.core, Core.holding, hnone, List.foldl_cons, List.foldl_nil, hact, hw.core]

theorem zwHalt_halts (h : ZwReady s i c) (hm : c.matrix = []) (hd : c.deferred = []) :
    ZwRuns (.zwHalt (zwOne i) t) s i { c with state := .idle, depth := 0 } := by
  obtain ⟨v, hv, -, he⟩ := State.zwSlot_commits (slot := slotBranch) (t := t) (f := fun _ _ => .ok [] [.halt] 0) h
    fun _ _ => rfl
  have hb : (v.core i).bundle = some ⟨false, [], [.halt]⟩ := by rw [hv.core]; rfl
  rw [State.zwCommit_of_bar hb rfl] at he
  have hq : ({ c with bundle := none, barrier := none, state := .idle, loops := [], depth := 0 } : Core) =
      { c with state := .idle, depth := 0 } := by
    obtain ⟨_, _, _, _, hbar, hbun, hl, _⟩ := h
    simp only [hbar, hbun, hl]
  exact .of_coreIs he (hq ▸ hv.zwFinish_halt hm hd)

/-- An event that stops its core. -/
theorem ZwStops.of_event {x : Instr} {f : State → State} {slots : Nat} (hi : i < 516) (hin : s.coreIn i = true)
    (h0 : s.s0.run = none) (h1 : s.s1.run = none) (hx : exec x s = s.zwEvent i t f)
    (hf : f (s.stamp t) = (s.stamp t).zwException i code slots) : ZwStops x s i code slots := by
  have hin' : (s.stamp t).coreIn i = true := hin
  have hs := (s.stamp t).zwException_idle h0 h1 i code slots
  have he : s.zwEvent i t f = .next ((s.stamp t).zwException i code slots) := by
    rw [State.zwEvent, if_neg (Nat.not_le.2 hi), if_pos hin', hf]
  refine ⟨_, hx.trans he, ?_⟩
  dsimp only
  rw [hs]
  exact ⟨rfl, rfl, rfl, rfl, rfl, rfl⟩

theorem zwBarrierTimeout_stops (hi : i < 516) (hin : s.coreIn i = true) (h0 : s.s0.run = none) (h1 : s.s1.run = none)
    (hb : (s.core i).barrier = some (code, since)) (ht : since + 1000000 < t) :
    ZwStops (.zwBarrierTimeout i t) s i 7 2 := by
  refine .of_event hi hin h0 h1 (show execZwBarrierTimeout .. = _ from rfl) ?_
  rw [show ((s.stamp t).core i).barrier = _ from hb]
  exact if_pos ht

theorem zwWatchdog_stops (hi : i < 516) (hin : s.coreIn i = true) (h0 : s.s0.run = none) (h1 : s.s1.run = none)
    (hr : (s.core i).state = .running) (ht : (s.core i).layerStart + 1000 * s.regFld 0x0a 0 0x20 23 0 < t) :
    ZwStops (.zwWatchdog i t) s i 8 0 := by
  refine .of_event hi hin h0 h1 (show execZwWatchdog .. = _ from rfl) (if_pos ?_)
  rw [show ((s.stamp t).core i).state = _ from hr]
  exact decide_eq_true ht

end Halt

/-- Settles O45: a lemma for each operation; a slot that branches, calls or waits fills its bundle (`State.zwSlot_commits`),
whose end moves the pc (`State.zwFinish_moves`). -/
theorem zwScalarAndBranchSlots : Obligations.ZwScalarAndBranchSlots := by
  unfold Obligations.ZwScalarAndBranchSlots
  refine ⟨⟨fun w rd v r hrd _ => w.s_write_scalar rd v r hrd, fun s i rd ra rb imm addr t c a b x h hrd ha hb hx => ?_⟩,
    fun s i p off sr t since c code => ⟨fun h target ht => ?_, fun hi hin h0 h1 => ?_⟩⟩
  · subst hx
    have haddr : addr = _ → c.regs.addr ra imm = addr := fun he => (h.addr_eq ha).trans he.symm
    have hbn := h.reg_toNat hb
    exact ⟨zwArithmetic_runs h ha hb, zwComparisons_run h ha hb,
      h.addr_eq ha ▸ .of_write h ⟨t, _, show execZwAddi .. = _ from rfl, fun _ _ => rfl⟩,
      sx41_eq imm ▸ .of_write h ⟨t, _, show execZwLi .. = _ from rfl, fun _ _ => rfl⟩,
      fun he h8 hin => ⟨zwLd_loads h (haddr he) h8 hin, zwSt_stores h (haddr he) hbn h8,
        zwSt_stores_cluster h (haddr he) hbn h8 hin⟩,
      fun he hbad h0 h1 => zwLd_zwSt_stop h (haddr he) hbad h0 h1⟩
  · have hb : bundleAt c.pc off = target.toNat := ht ▸ bundleAt_eq c.pc off
    exact ⟨zwBr_runs h hb, zwBrp_runs h hb, zwBrnp_runs h hb, zwLoop_enters h hb, zwLoop_skips h hb, zwCall_calls h hb,
      fun h0 h1 hd => zwCall_stops h h0 h1 hd, zwRet_returns h, zwBar_control h, zwBar_waits h, zwBar_releases h,
      zwHalt_halts h⟩
  · exact ⟨zwBarrierTimeout_stops hi hin h0 h1, zwWatchdog_stops hi hin h0 h1⟩

end Sys2Proof.Machine
